-- ==== Sys2Proof/Word.lean ====
section
/-! DEFINITION. The word types of the device and their plainest arithmetic (R4-R6, R151). -/

namespace Sys2Proof

/-- A doubleword: a scalar register, an address, a doubleword of a record. -/
abbrev Word := BitVec 64

/-- An instruction word (R151). -/
abbrev IWord := BitVec 32

/-- A byte of memory or scratch. -/
abbrev Byte := BitVec 8

/-- A tile image of 4 KiB, byte `n` at bits `8n+7 : 8n` (R46). -/
abbrev Tile := BitVec 32768

/-- A tile predicate, bit `256i + b` for byte `b` of row `i` (R47). -/
abbrev Pred := BitVec 4096

/-- Lane flags: lane `l` at bits `5l+4 : 5l`, in the order NV DZ OF UF NX (R57, R62). -/
abbrev Lanes := BitVec 5120

/-- Bits `lo + n - 1` down to `lo` of an instruction word. -/
abbrev fld (w : IWord) (lo n : Nat) : BitVec n := w.extractLsb' lo n

/-- Bits `lo + n - 1` down to `lo` of a doubleword, as a number. -/
def bits (w : Word) (lo n : Nat) : Nat := (w.extractLsb' lo n).toNat

/-- One bit of a doubleword. -/
def bit (w : Word) (n : Nat) : Bool := w.getLsbD n

end Sys2Proof
end

