-- ==== Sys2Proof/Events.lean ====
section
/-! DEFINITION. The data that the table's event rows carry: which unit an event happens to, and what the
outside world supplies with it (log 1). -/

namespace Sys2Proof

/-- A bench index, 0 to 63 (R15). -/
abbrev BenchId := BitVec 6
/-- A core index within a bench (R15). -/
abbrev CoreId := BitVec 2
/-- A stream number: SC 0, LD 1, CP 2, ST 3 (R15). -/
abbrev StreamId := BitVec 2
/-- A partition number, 0 to 63. -/
abbrev PartId := BitVec 6
/-- A virtual function number; 0 to 95 exist. -/
abbrev VfId := BitVec 7
/-- A quadrant number (R15). -/
abbrev QuadId := BitVec 2

/-- A BAR of the host port (R328). -/
inductive Bar where
  /-- PF BAR0 -/
  | pf0
  /-- VF BAR0 of one virtual function -/
  | vf0 (v : VfId)
  deriving DecidableEq, Repr, Inhabited

/-- One unit of a put or a get as it reaches the target package (R293, R297). -/
structure UnitMsg where
  /-- a put carries data, a get asks for it -/
  isPut : Bool
  /-- source package -/
  peer : BitVec 8
  tenant : BitVec 16
  /-- target partition and window -/
  part : PartId
  win : BitVec 6
  /-- offsets in the window, with the byte a put writes there -/
  cells : List (Nat × Byte)
  /-- transfer tag and number of units in the transfer -/
  xfer : Nat
  total : Nat
  deriving DecidableEq, Repr, Inhabited

/-- A peer as a link names it: path (true: Ethernet), and package id or index in the neighbour table (R294, R296). -/
structure Peer where
  eth : Bool
  id : BitVec 8
  deriving DecidableEq, Repr, Inhabited

/-- A unit that its target did not perform: its tag, and the conflicting entry where the reason is a race (R110, R297). -/
structure UnitRefusal where
  tag : Nat
  race : Option Word
  deriving DecidableEq, Repr, Inhabited

/-- An item of a stopped bench that the context window shows (R135). -/
inductive CtxItem where
  /-- the scratchpad byte at the address -/
  | scratch (v : Byte)
  | sReg (t : StreamId) (i : BitVec 5) (v : Word)
  | fReg (t : StreamId) (i : BitVec 3) (v : Bool)
  | bReg (t : StreamId) (i : BitVec 3) (v : Word)
  | pc (t : StreamId) (v : Word)
  | frm (t : StreamId) (v : BitVec 3)
  | vFace (i : BitVec 5) (hidden : Bool) (v : Tile)
  | cFace (i : BitVec 3) (hidden : Bool) (v : Word)
  | pFace (i : BitVec 3) (hidden : Bool) (v : Pred)
  | vWritten (i : BitVec 5) (w : Bool)
  | cWritten (i : BitVec 3) (w : Bool)
  | pWritten (i : BitVec 3) (w : Bool)
  | wTile (i : BitVec 3) (v : Tile)
  | xf (v : Lanes)
  | token (src : CoreId) (v : BitVec 8)
  /-- stage predicates and KDESC of a stream -/
  | stages (t : StreamId) (v : BitVec 8)
  | kdesc (t : StreamId) (v : Word)
  /-- a range of the declared sets of the current or the next phase: slot s of class c at 4c + s -/
  | declared (t : StreamId) (next : Bool) (i : BitVec 4) (base len : BitVec 32)
  /-- trip count and iteration of a loop, the innermost at depth 0 -/
  | loopCount (t : StreamId) (depth n iter : Nat)
  /-- S of a loop, less 1, and the addresses of its word, of its body and just past its body -/
  | loopBody (t : StreamId) (depth : Nat) (stages : BitVec 3) (word first last : Word)
  /-- a stream IDLE 0, RUNNING 1 or ENDED 2 -/
  | status (t : StreamId) (v : BitVec 2)
  /-- writer tags: stream, asynchronous or not, address -/
  | vTag (i : BitVec 5) (t : StreamId) (async : Bool) (pc : Word)
  | cTag (i : BitVec 3) (t : StreamId) (async : Bool) (pc : Word)
  | pTag (i : BitVec 3) (t : StreamId) (async : Bool) (pc : Word)
  /-- entries of the operand rings, depth 1 at 0 -/
  | ringA (depth : BitVec 2) (v : Option Tile)
  | ringB (depth : BitVec 2) (v : Option Tile)
  | ringF (depth : BitVec 2) (v : Option Tile)
  /-- the state of an accumulator, IDLE 0, OPEN 1, EXACT 2 or ORDERED 3, with INT; and an element of its chain -/
  | chain (i : BitVec 3) (state : BitVec 2) (int : Bool)
  | exactElem (i : BitVec 3) (n : Nat) (v : BitVec 112) (sat nvs : Bool)
  | orderedElem (i : BitVec 3) (n : Nat) (v : BitVec 32) (flags : BitVec 5)
  /-- a queue entry, the oldest at 0 -/
  | qEntry (q : BitVec 2) (n : Nat) (v : Tile)
  /-- QCFG of a queue, which only reads -/
  | qcfg (q : BitVec 2)
  /-- PHASE: NUMBER and RB -/
  | phase (v : BitVec 32) (rb : BitVec 3)
  | barrier (barbs mreds : Nat)
  /-- the open batch and the closed batches of a stream, by the numbers of their copies (R244) -/
  | batches (t : StreamId) (openBatch : List Nat) (closed : List (List Nat))
  /-- the bundle at the program counter of CP has issued except for its SX word (R335) -/
  | issued (v : Bool)
  /-- elements that an abandoned copy still has to perform, as ranges (first, count); its stream and number only read -/
  | abandoned (n : Nat) (todo : List (Nat × Nat))
  deriving DecidableEq, Repr, Inhabited

/-- The target of a debug access (R320, R322, R328). -/
inductive DbgTarget where
  /-- device memory at a physical address -/
  | mem (pa : BitVec 40)
  /-- pool of a core, at an offset in its scratchpad -/
  | pool (b : BenchId) (c : CoreId) (off : Nat)
  /-- a register, by its offset in PF BAR0, with the value that a write gives it -/
  | reg (off : Nat) (x : Word := 0)
  deriving DecidableEq, Repr, Inhabited

/-- The unit that meets an uncorrectable memory error (R131). -/
inductive EccUnit where
  | stream (b : BenchId) (c : CoreId) (t : StreamId)
  | copy (b : BenchId) (c : CoreId) (k : Nat)
  | context (i : BitVec 2)
  | scx (i : BitVec 2)
  deriving DecidableEq, Repr, Inhabited

end Sys2Proof
end

