-- ==== Sys2Proof/Syntax.lean ====
section
/-! DEFINITION. The instructions: one constructor for each row of spec/opcode_table.json, with the table's fields as
operands (R151-R168, R303), and the table's event rows with the data an event carries. -/

namespace Sys2Proof

/-- The steps of the device (spec/opcode_table.json): instruction words of the five formats, and events. -/
inductive Instr where
  /-- ALU.ADD (R173). -/
  | aluAdd (l : BitVec 1) (d : BitVec 5) (a : BitVec 5) (b : BitVec 5) (w : BitVec 2) (q : BitVec 4)
  /-- ALU.SUB (R173). -/
  | aluSub (l : BitVec 1) (d : BitVec 5) (a : BitVec 5) (b : BitVec 5) (w : BitVec 2) (q : BitVec 4)
  /-- ALU.MUL (R173). -/
  | aluMul (l : BitVec 1) (d : BitVec 5) (a : BitVec 5) (b : BitVec 5) (w : BitVec 2) (q : BitVec 4)
  /-- ALU.MULH (R173). -/
  | aluMulh (l : BitVec 1) (d : BitVec 5) (a : BitVec 5) (b : BitVec 5) (w : BitVec 2) (q : BitVec 4)
  /-- ALU.MULHU (R173). -/
  | aluMulhu (l : BitVec 1) (d : BitVec 5) (a : BitVec 5) (b : BitVec 5) (w : BitVec 2) (q : BitVec 4)
  /-- ALU.DIV (R173). -/
  | aluDiv (l : BitVec 1) (d : BitVec 5) (a : BitVec 5) (b : BitVec 5) (w : BitVec 2) (q : BitVec 4)
  /-- ALU.DIVU (R173). -/
  | aluDivu (l : BitVec 1) (d : BitVec 5) (a : BitVec 5) (b : BitVec 5) (w : BitVec 2) (q : BitVec 4)
  /-- ALU.REM (R173). -/
  | aluRem (l : BitVec 1) (d : BitVec 5) (a : BitVec 5) (b : BitVec 5) (w : BitVec 2) (q : BitVec 4)
  /-- ALU.REMU (R173). -/
  | aluRemu (l : BitVec 1) (d : BitVec 5) (a : BitVec 5) (b : BitVec 5) (w : BitVec 2) (q : BitVec 4)
  /-- ALU.AND (R173). -/
  | aluAnd (l : BitVec 1) (d : BitVec 5) (a : BitVec 5) (b : BitVec 5) (w : BitVec 2) (q : BitVec 4)
  /-- ALU.OR (R173). -/
  | aluOr (l : BitVec 1) (d : BitVec 5) (a : BitVec 5) (b : BitVec 5) (w : BitVec 2) (q : BitVec 4)
  /-- ALU.XOR (R173). -/
  | aluXor (l : BitVec 1) (d : BitVec 5) (a : BitVec 5) (b : BitVec 5) (w : BitVec 2) (q : BitVec 4)
  /-- ALU.ANDN (R173). -/
  | aluAndn (l : BitVec 1) (d : BitVec 5) (a : BitVec 5) (b : BitVec 5) (w : BitVec 2) (q : BitVec 4)
  /-- ALU.SHL (R173). -/
  | aluShl (l : BitVec 1) (d : BitVec 5) (a : BitVec 5) (b : BitVec 5) (w : BitVec 2) (q : BitVec 4)
  /-- ALU.SHR (R173). -/
  | aluShr (l : BitVec 1) (d : BitVec 5) (a : BitVec 5) (b : BitVec 5) (w : BitVec 2) (q : BitVec 4)
  /-- ALU.SAR (R173). -/
  | aluSar (l : BitVec 1) (d : BitVec 5) (a : BitVec 5) (b : BitVec 5) (w : BitVec 2) (q : BitVec 4)
  /-- ALU2.MIN (R174). -/
  | alu2Min (l : BitVec 1) (d : BitVec 5) (a : BitVec 5) (b : BitVec 5) (w : BitVec 2) (q : BitVec 4)
  /-- ALU2.MAX (R174). -/
  | alu2Max (l : BitVec 1) (d : BitVec 5) (a : BitVec 5) (b : BitVec 5) (w : BitVec 2) (q : BitVec 4)
  /-- ALU2.MINU (R174). -/
  | alu2Minu (l : BitVec 1) (d : BitVec 5) (a : BitVec 5) (b : BitVec 5) (w : BitVec 2) (q : BitVec 4)
  /-- ALU2.MAXU (R174). -/
  | alu2Maxu (l : BitVec 1) (d : BitVec 5) (a : BitVec 5) (b : BitVec 5) (w : BitVec 2) (q : BitVec 4)
  /-- ALU2.CLZ (R174). -/
  | alu2Clz (l : BitVec 1) (d : BitVec 5) (a : BitVec 5) (w : BitVec 2) (q : BitVec 4)
  /-- ALU2.CTZ (R174). -/
  | alu2Ctz (l : BitVec 1) (d : BitVec 5) (a : BitVec 5) (w : BitVec 2) (q : BitVec 4)
  /-- ALU2.POPC (R174). -/
  | alu2Popc (l : BitVec 1) (d : BitVec 5) (a : BitVec 5) (w : BitVec 2) (q : BitVec 4)
  /-- ALU2.BREV (R174). -/
  | alu2Brev (l : BitVec 1) (d : BitVec 5) (a : BitVec 5) (w : BitVec 2) (q : BitVec 4)
  /-- ALU2.BSWAP (R174). -/
  | alu2Bswap (l : BitVec 1) (d : BitVec 5) (a : BitVec 5) (w : BitVec 2) (q : BitVec 4)
  /-- ALU2.SEL (R174). -/
  | alu2Sel (l : BitVec 1) (d : BitVec 5) (a : BitVec 5) (b : BitVec 5) (w : BitVec 2) (q : BitVec 4)
  /-- ALU2.ROL (R174). -/
  | alu2Rol (l : BitVec 1) (d : BitVec 5) (a : BitVec 5) (b : BitVec 5) (w : BitVec 2) (q : BitVec 4)
  /-- ALU2.ROR (R174). -/
  | alu2Ror (l : BitVec 1) (d : BitVec 5) (a : BitVec 5) (b : BitVec 5) (w : BitVec 2) (q : BitVec 4)
  /-- ADDI (R175). -/
  | addi (l : BitVec 1) (d : BitVec 5) (a : BitVec 5) (i : BitVec 15)
  /-- LOGI.ANDI (R175). -/
  | logiAndi (l : BitVec 1) (d : BitVec 5) (a : BitVec 5) (i : BitVec 13)
  /-- LOGI.ORI (R175). -/
  | logiOri (l : BitVec 1) (d : BitVec 5) (a : BitVec 5) (i : BitVec 13)
  /-- LOGI.XORI (R175). -/
  | logiXori (l : BitVec 1) (d : BitVec 5) (a : BitVec 5) (i : BitVec 13)
  /-- SHI.SHL (R175). -/
  | shiShl (l : BitVec 1) (d : BitVec 5) (a : BitVec 5) (n : BitVec 6)
  /-- SHI.SHR (R175). -/
  | shiShr (l : BitVec 1) (d : BitVec 5) (a : BitVec 5) (n : BitVec 6)
  /-- SHI.SAR (R175). -/
  | shiSar (l : BitVec 1) (d : BitVec 5) (a : BitVec 5) (n : BitVec 6)
  /-- SHI.ROR (R175). -/
  | shiRor (l : BitVec 1) (d : BitVec 5) (a : BitVec 5) (n : BitVec 6)
  /-- LI (R176). -/
  | li (l : BitVec 1) (d : BitVec 5) (i : BitVec 20)
  /-- LIH (R176). -/
  | lih (l : BitVec 1) (d : BitVec 5) (i : BitVec 20)
  /-- CMP.LT (R177). -/
  | cmp (l : BitVec 1) (f : BitVec 3) (c : BitVec 4) (a : BitVec 5) (b : BitVec 5) (q : BitVec 4)
  /-- CMPI.NE (R177). -/
  | cmpi (l : BitVec 1) (f : BitVec 3) (c : BitVec 4) (a : BitVec 5) (i : BitVec 13)
  /-- FOP.AND (R178). -/
  | fopAnd (l : BitVec 1) (d : BitVec 3) (a : BitVec 3) (b : BitVec 3)
  /-- FOP.OR (R178). -/
  | fopOr (l : BitVec 1) (d : BitVec 3) (a : BitVec 3) (b : BitVec 3)
  /-- FOP.XOR (R178). -/
  | fopXor (l : BitVec 1) (d : BitVec 3) (a : BitVec 3) (b : BitVec 3)
  /-- FOP.ANDN (R178). -/
  | fopAndn (l : BitVec 1) (d : BitVec 3) (a : BitVec 3) (b : BitVec 3)
  /-- FOP.NOT (R178). -/
  | fopNot (l : BitVec 1) (d : BitVec 3) (a : BitVec 3)
  /-- FOP.SET (R178). -/
  | fopSet (l : BitVec 1) (d : BitVec 3)
  /-- FOP.CLR (R178). -/
  | fopClr (l : BitVec 1) (d : BitVec 3)
  /-- BF.BFX (R179). -/
  | bfBfx (l : BitVec 1) (d : BitVec 5) (a : BitVec 5) (p : BitVec 6) (n : BitVec 6)
  /-- BF.BFXU (R179). -/
  | bfBfxu (l : BitVec 1) (d : BitVec 5) (a : BitVec 5) (p : BitVec 6) (n : BitVec 6)
  /-- BF.BFI (R179). -/
  | bfBfi (l : BitVec 1) (d : BitVec 5) (a : BitVec 5) (p : BitVec 6) (n : BitVec 6)
  /-- PBR (R180). -/
  | pbr (l : BitVec 1) (b : BitVec 3) (i : BitVec 21)
  /-- PBR (R180). -/
  | pbrReg (l : BitVec 1) (b : BitVec 3) (s : BitVec 5)
  /-- BR (R181). -/
  | br (l : BitVec 1) (b : BitVec 3) (q : BitVec 4)
  /-- BRL (R181). -/
  | brl (l : BitVec 1) (b : BitVec 3) (q : BitVec 4)
  /-- LOOP (R183). -/
  | loop (l : BitVec 1) (s : BitVec 5) (n : BitVec 14)
  /-- KLOOP.F (R183). -/
  | kloop (l : BitVec 1) (f : BitVec 1) (p : BitVec 1) (t : BitVec 3) (s : BitVec 5) (n : BitVec 14)
  /-- LDS.D (R186). -/
  | lds (l : BitVec 1) (d : BitVec 5) (b : BitVec 5) (z : BitVec 2) (u : BitVec 1) (p : BitVec 1) (o : BitVec 11)
  /-- STS.D (R186). -/
  | sts (l : BitVec 1) (d : BitVec 5) (b : BitVec 5) (z : BitVec 2) (p : BitVec 1) (o : BitVec 11)
  /-- XMOV.MOVC (R187). -/
  | xmovMovc (l : BitVec 1) (x : BitVec 5) (y : BitVec 5)
  /-- XMOV.MOVTC (R187). -/
  | xmovMovtc (l : BitVec 1) (x : BitVec 5) (y : BitVec 5)
  /-- XMOV.RDSR (R187). -/
  | xmovRdsr (l : BitVec 1) (x : BitVec 5) (r : BitVec 12)
  /-- XMOV.WRSR (R187). -/
  | xmovWrsr (l : BitVec 1) (y : BitVec 5) (r : BitVec 12)
  /-- XMOV.MOVB (R187). -/
  | xmovMovb (l : BitVec 1) (x : BitVec 5) (y : BitVec 5)
  /-- SYNC.FLIP (R190). -/
  | flip (l : BitVec 1)
  /-- SYNC.END (R190). -/
  | endStream (l : BitVec 1)
  /-- SYNC.PDECL.W.S1 (R191). -/
  | pdecl (l : BitVec 1) (c : BitVec 2) (s : BitVec 2) (b : BitVec 5) (n : BitVec 5)
  /-- SYNC.TLWAIT (R192). -/
  | tlwait (l : BitVec 1) (i : BitVec 5) (n : BitVec 5)
  /-- SYNC.TLRD (R192). -/
  | tlrd (l : BitVec 1) (d : BitVec 5) (i : BitVec 5)
  /-- SYNC.TSIG (R193). -/
  | tsig (l : BitVec 1) (t : BitVec 2)
  /-- SYNC.TWAIT (R193). -/
  | twait (l : BitVec 1) (s : BitVec 2)
  /-- SYS.NOP (R194). -/
  | nop (l : BitVec 1)
  /-- SYS.TRAP (R194). -/
  | trap (l : BitVec 1) (c : BitVec 16)
  /-- SYS.BRK (R194). -/
  | brk (l : BitVec 1) (c : BitVec 16)
  /-- FORK (R31). -/
  | fork (m : BitVec 3)
  /-- JOIN (R32). -/
  | join
  /-- AMO.ADD.D.AR.PART (R197). -/
  | amo (f : BitVec 4) (w : BitVec 2) (o : BitVec 2) (c : BitVec 2) (d : BitVec 5) (b : BitVec 5) (t : BitVec 5)
  /-- CAS.Q.ACQ.SYS (R198). -/
  | cas (w : BitVec 1) (o : BitVec 2) (c : BitVec 2) (d : BitVec 5) (b : BitVec 5) (m : BitVec 5) (t : BitVec 5)
  /-- LDA.D.PART (R199). -/
  | lda (z : BitVec 2) (c : BitVec 2) (d : BitVec 5) (b : BitVec 5) (o : BitVec 10)
  /-- STRL.D.PART (R199). -/
  | strl (z : BitVec 2) (c : BitVec 2) (d : BitVec 5) (b : BitVec 5) (o : BitVec 10)
  /-- FENCE.AR.SYS (R200). -/
  | fence (k : BitVec 2) (c : BitVec 2)
  /-- BARB (R201). -/
  | barb
  /-- FUT.FUTINIT (R202). -/
  | futinit (f : BitVec 5)
  /-- FUT.FUTREG (R202). -/
  | futreg (f : BitVec 5) (n : BitVec 5)
  /-- FUT.FUTRES (R202). -/
  | futres (f : BitVec 5) (c : BitVec 5)
  /-- FUT.FUTFAIL (R202). -/
  | futfail (f : BitVec 5) (c : BitVec 5)
  /-- NODE.NSPAWN (R203). -/
  | nspawn (s : BitVec 5)
  /-- NODE.NEXIT (R33). -/
  | nexit (s : BitVec 5)
  /-- NODE.NYIELD (R203). -/
  | nyield (s : BitVec 5)
  /-- NODE.NSELF (R203). -/
  | nself (s : BitVec 5)
  /-- COLGO (R204). -/
  | colgo (c : BitVec 2) (p : BitVec 5) (a : BitVec 5) (d : BitVec 5)
  /-- COLQ (R313). -/
  | colq (c : BitVec 2) (d : BitVec 5)
  /-- SYS2.CAPQ (R205). -/
  | capq (s : BitVec 5)
  /-- SYS2.BOOST (R327). -/
  | boost (s : BitVec 5)
  /-- SYS2.PERMQ (R327). -/
  | permq (s : BitVec 5)
  /-- SYS2.SNAP (R327). -/
  | snap (s : BitVec 5)
  /-- VLD.F32.SL1 (R238). -/
  | vld (t : BitVec 6) (a : BitVec 5) (g : BitVec 5) (f : BitVec 4) (x : BitVec 1) (s : BitVec 4)
  /-- VLDS.BF16 (R238). -/
  | vlds (t : BitVec 6) (a : BitVec 5) (g : BitVec 5) (f : BitVec 4) (x : BitVec 1) (s : BitVec 4)
  /-- VST.BF16 (R238). -/
  | vst (t : BitVec 6) (a : BitVec 5) (g : BitVec 5) (f : BitVec 4) (s : BitVec 4)
  /-- VSTS.BF16 (R238). -/
  | vsts (t : BitVec 6) (a : BitVec 5) (g : BitVec 5) (f : BitVec 4) (s : BitVec 4)
  /-- QLD.BF16 (R239). -/
  | qld (t : BitVec 6) (a : BitVec 5) (g : BitVec 5) (f : BitVec 4) (x : BitVec 1) (s : BitVec 4)
  /-- QST.F32 (R239). -/
  | qst (t : BitVec 6) (a : BitVec 5) (g : BitVec 5) (f : BitVec 4) (x : BitVec 1) (s : BitVec 4)
  /-- SPLD.F32 (R238). -/
  | spld (t : BitVec 6) (a : BitVec 5) (g : BitVec 5) (f : BitVec 4) (x : BitVec 1) (s : BitVec 4)
  /-- SPST.F32 (R238). -/
  | spst (t : BitVec 6) (a : BitVec 5) (g : BitVec 5) (f : BitVec 4) (s : BitVec 4)
  /-- SPCP.INT8 (R240). -/
  | spcp (t : BitVec 6) (a : BitVec 5) (g : BitVec 5) (f : BitVec 4) (s : BitVec 4)
  /-- GATHER.F32 (R241). -/
  | gather (t : BitVec 6) (a : BitVec 5) (g : BitVec 5) (f : BitVec 4) (x : BitVec 1) (s : BitVec 4)
  /-- SCATTER.INT32 (R241). -/
  | scatter (t : BitVec 6) (a : BitVec 5) (g : BitVec 5) (f : BitVec 4) (s : BitVec 4)
  /-- SCATTER.ADD.INT32 (R241). -/
  | scatterAdd (t : BitVec 6) (a : BitVec 5) (g : BitVec 5) (f : BitVec 4) (s : BitVec 4)
  /-- PUT.F32 (R242). -/
  | put (t : BitVec 6) (a : BitVec 5) (g : BitVec 5) (f : BitVec 4) (x : BitVec 1) (s : BitVec 4)
  /-- GET.F32 (R242). -/
  | get (t : BitVec 6) (a : BitVec 5) (g : BitVec 5) (f : BitVec 4) (x : BitVec 1) (s : BitVec 4)
  /-- PREF.F32 (R243). -/
  | pref (a : BitVec 5) (g : BitVec 5) (f : BitVec 4) (s : BitVec 4)
  /-- CBATCH (R244). -/
  | cbatch
  /-- TLWAIT.OUT (R244). -/
  | tlwaitOut (n : BitVec 6)
  /-- VF32.ADD.RNE (R250). -/
  | vf32 (l : BitVec 1) (d : BitVec 6) (a : BitVec 6) (b : BitVec 6) (f : BitVec 4) (r : BitVec 3)
  /-- VF64.ADD.RNE (R250). -/
  | vf64 (l : BitVec 1) (d : BitVec 6) (a : BitVec 6) (b : BitVec 6) (f : BitVec 4) (r : BitVec 3)
  /-- VF16.FMA.DYN (R250). -/
  | vf16 (l : BitVec 1) (d : BitVec 6) (a : BitVec 6) (b : BitVec 6) (f : BitVec 4) (r : BitVec 3)
  /-- VBF16.MUL.RNE (R250). -/
  | vbf16 (l : BitVec 1) (d : BitVec 6) (a : BitVec 6) (b : BitVec 6) (f : BitVec 4) (r : BitVec 3)
  /-- VFCMP.LT.F32 (R252). -/
  | vfcmp (l : BitVec 1) (d : BitVec 6) (a : BitVec 6) (b : BitVec 6) (f : BitVec 4) (t : BitVec 3)
  /-- VI32.ADD (R254). -/
  | vi32 (l : BitVec 1) (d : BitVec 6) (a : BitVec 6) (b : BitVec 6) (f : BitVec 4) (u : BitVec 1) (s : BitVec 1)
  /-- VI16.ADD.SAT (R254). -/
  | vi16 (l : BitVec 1) (d : BitVec 6) (a : BitVec 6) (b : BitVec 6) (f : BitVec 4) (u : BitVec 1) (s : BitVec 1)
  /-- VI8.ADD.U.SAT (R254). -/
  | vi8 (l : BitVec 1) (d : BitVec 6) (a : BitVec 6) (b : BitVec 6) (f : BitVec 4) (u : BitVec 1) (s : BitVec 1)
  /-- VI64.MULH.U (R254). -/
  | vi64 (l : BitVec 1) (d : BitVec 6) (a : BitVec 6) (b : BitVec 6) (f : BitVec 4) (u : BitVec 1) (s : BitVec 1)
  /-- VLOGIC.ANDN (R255). -/
  | vlogic (l : BitVec 1) (d : BitVec 6) (a : BitVec 6) (b : BitVec 6) (f : BitVec 4)
  /-- VICMP.GE.UINT16 (R253). -/
  | vicmp (l : BitVec 1) (d : BitVec 6) (a : BitVec 6) (b : BitVec 6) (f : BitVec 4) (t : BitVec 3)
  /-- VCVT.BF16.F32.RNE (R256). -/
  | vcvt (l : BitVec 1) (d : BitVec 6) (a : BitVec 6) (s : BitVec 4) (f : BitVec 4) (r : BitVec 3)
  /-- VMOVE.MOV (R257). -/
  | vmoveMov (l : BitVec 1) (d : BitVec 6) (a : BitVec 6)
  /-- VMOVE.SEL (R257). -/
  | vmoveSel (l : BitVec 1) (d : BitVec 6) (a : BitVec 6) (b : BitVec 6) (p : BitVec 3)
  /-- VMOVE.IMM (R257). -/
  | vmoveImm (l : BitVec 1) (d : BitVec 6) (i : BitVec 12)
  /-- VMOVE.IOTA (R257). -/
  | vmoveIota (l : BitVec 1) (d : BitVec 6)
  /-- VMOVE.XTR (R257). -/
  | vmoveXtr (l : BitVec 1) (d : BitVec 6) (a : BitVec 6) (b : BitVec 6)
  /-- VMOVE.INS (R257). -/
  | vmoveIns (l : BitVec 1) (d : BitVec 6) (a : BitVec 6) (b : BitVec 6)
  /-- VROT.ROTR (R258). -/
  | vrot (l : BitVec 1) (d : BitVec 6) (a : BitVec 6) (b : BitVec 6) (f : BitVec 4)
  /-- VBC.BCR (R259). -/
  | vbc (l : BitVec 1) (d : BitVec 6) (a : BitVec 6) (b : BitVec 6) (f : BitVec 4)
  /-- VRED.SUMR.F32.RNE (R261). -/
  | vred (l : BitVec 1) (d : BitVec 6) (a : BitVec 6) (e : BitVec 4) (f : BitVec 4) (r : BitVec 3)
  /-- VTRG.T16 (R262). -/
  | vtrg (l : BitVec 1) (d : BitVec 6) (f : BitVec 4)
  /-- VPERM.ROWP (R260). -/
  | vperm (l : BitVec 1) (d : BitVec 6) (a : BitVec 6) (b : BitVec 6)
  /-- VSORT.ASC (R263). -/
  | vsort (l : BitVec 1) (d : BitVec 6) (a : BitVec 6) (b : BitVec 6) (f : BitVec 1)
  /-- PRED.PAND (R264). -/
  | pred (l : BitVec 1) (d : BitVec 6) (a : BitVec 6) (b : BitVec 6) (f : BitVec 4)
  /-- XF.RD (R265). -/
  | xfRd (l : BitVec 1) (d : BitVec 6)
  /-- XF.CLR (R265). -/
  | xfClr (l : BitVec 1) (a : BitVec 6)
  /-- XF.SET (R265). -/
  | xfSet (l : BitVec 1) (a : BitVec 6)
  /-- PSEL.Z (R247). -/
  | psel (p : BitVec 3) (u : BitVec 1) (k : BitVec 3) (v : BitVec 1) (z : BitVec 1)
  /-- SF32.EXP.RNE (R280). -/
  | sf32 (l : BitVec 1) (d : BitVec 6) (a : BitVec 6) (f : BitVec 4) (r : BitVec 3)
  /-- SF64.LOG.RUP (R283). -/
  | sf64 (l : BitVec 1) (d : BitVec 6) (a : BitVec 6) (f : BitVec 4) (r : BitVec 3)
  /-- CK.ENC.D3 (R288). -/
  | ckEnc (l : BitVec 1) (d : BitVec 6) (a : BitVec 6) (x : BitVec 3)
  /-- CK.DEC.D3 (R288). -/
  | ckDec (l : BitVec 1) (d : BitVec 6) (a : BitVec 6) (x : BitVec 3)
  /-- CK.ADD.D3 (R288). -/
  | ckAdd (l : BitVec 1) (d : BitVec 6) (a : BitVec 6) (b : BitVec 6) (x : BitVec 3)
  /-- CK.SUB.D3 (R288). -/
  | ckSub (l : BitVec 1) (d : BitVec 6) (a : BitVec 6) (b : BitVec 6) (x : BitVec 3)
  /-- CK.INBOX.D3 (R288). -/
  | ckInbox (l : BitVec 1) (d : BitVec 6) (a : BitVec 6) (b : BitVec 6) (x : BitVec 3)
  /-- CK.NEXT.D3 (R288). -/
  | ckNext (l : BitVec 1) (d : BitVec 6) (a : BitVec 6) (b : BitVec 6) (x : BitVec 3)
  /-- CKSPLIT.D3 (R290). -/
  | cksplit (l : BitVec 1) (d : BitVec 6) (a : BitVec 6) (b : BitVec 6) (x : BitVec 3)
  /-- MMA.BF16 (R271). -/
  | mma (l : BitVec 1) (c : BitVec 3) (a : BitVec 6) (s : BitVec 5) (f : BitVec 3) (k : BitVec 4) (t : BitVec 1) (m : BitVec 1)
  /-- MMAQ.E4M3.K64 (R273). -/
  | mmaq (l : BitVec 1) (c : BitVec 3) (a : BitVec 6) (q : BitVec 1) (f : BitVec 3) (k : BitVec 4)
  /-- MCHB (R268). -/
  | mchb (l : BitVec 1) (c : BitVec 3)
  /-- MCHE.BF16.RNE (R274). -/
  | mche (l : BitVec 1) (c : BitVec 3) (v : BitVec 6) (f : BitVec 4) (r : BitVec 3)
  /-- MZERO (R268). -/
  | mzero (l : BitVec 1) (c : BitVec 3)
  /-- MRED (R275). -/
  | mred (l : BitVec 1) (c : BitVec 3)
  /-- MLDA (R268). -/
  | mlda (l : BitVec 1) (c : BitVec 3) (v : BitVec 6)
  /-- CSEND.ADV (R304). -/
  | csend (g : BitVec 4) (o : BitVec 4) (w : BitVec 6) (l : BitVec 4) (v : BitVec 1)
  /-- CRED.SUM.F32.RNE (R305). -/
  | cred (d : BitVec 4) (s : BitVec 4) (l : BitVec 4) (t : BitVec 4) (o : BitVec 2) (v : BitVec 1) (r : BitVec 3)
  /-- CCOPY (R306). -/
  | ccopy (d : BitVec 4) (s : BitVec 4) (l : BitVec 4) (v : BitVec 1)
  /-- CWAIT (R307). -/
  | cwait (k : BitVec 1) (a : BitVec 4) (n : BitVec 4)
  /-- CSIG (R308). -/
  | csig (a : BitVec 4) (v : BitVec 4)
  /-- CLOOP (R309). -/
  | cloop (c : BitVec 4) (n : BitVec 13)
  /-- CEND (R310). -/
  | cend
  /-- CRV (R311). -/
  | crv (m : BitVec 4)
  /-- CBW.TILRAK (R312). -/
  | cbw (s : BitVec 8) (r : BitVec 2)
  /-- CNOP (R303). -/
  | cnop
  /-- Event COL_PROGRAM_START (R301). -/
  | colProgramStart (i : BitVec 2)
  /-- Event CP_RESULT_WRITE (R169). -/
  | cpResultWrite (b : BenchId) (c : CoreId)
  /-- Event LONG_OP_LAND (R171). -/
  | longOpLand (b : BenchId) (c : CoreId) (k : Nat)
  /-- Event COPY_UNIT (R236). -/
  | copyUnit (b : BenchId) (c : CoreId) (pick : Nat)
  /-- Event COPY_COMPLETE (R236). -/
  | copyComplete (b : BenchId) (c : CoreId) (k : Nat)
  /-- Event FLIP_COMPLETE (R35). -/
  | flipComplete (b : BenchId) (c : CoreId)
  /-- Event NODE_RETIRE (R33). -/
  | nodeRetire (b : BenchId)
  /-- Event LAUNCH_DOORBELL (R118). -/
  | launchDoorbell (v : VfId) (x : Word)
  /-- Event LAUNCH_RECORD_CONSUME (R119). -/
  | launchRecordConsume (v : VfId)
  /-- Event LAUNCH_REQUEST (R120). -/
  | launchRequest (port : BitVec 5) (tenant : BitVec 16) (win : BitVec 6) (node : Word)
  /-- Event DISPATCH (R125). -/
  | dispatch (p : PartId)
  /-- Event GANG_MIGRATE (R129). -/
  | gangMigrate (b : BenchId)
  /-- Event HALT_LINE (R132). -/
  | haltLine (p : PartId)
  /-- Event COPY_ABANDON (R132). -/
  | copyAbandon (b : BenchId) (c : CoreId) (k : Nat)
  /-- Event COL_CONTEXT_STOP (R315). -/
  | colContextStop (i : BitVec 2)
  /-- Event PCTL_RESUME (R137). -/
  | pctlResume (p : PartId) (x : Word)
  /-- Event PCTL_ABORT (R137). -/
  | pctlAbort (p : PartId) (x : Word)
  /-- Event PCTL_REPLAY (R139). -/
  | pctlReplay (p : PartId) (x : Word)
  /-- Event PCTL_BARRIER (R112). -/
  | pctlBarrier (p : PartId) (x : Word)
  /-- Event PCTL_STOP (R142). -/
  | pctlStop (p : PartId) (x : Word)
  /-- Event PARTITION_BARRIER (R112). -/
  | partitionBarrier (p : PartId)
  /-- Event VF_GRANT (R149). -/
  | vfGrant (p : PartId)
  /-- Event SLICE_END (R142). -/
  | sliceEnd (p : PartId)
  /-- Event FORCED_EPILOGUE (R142). -/
  | forcedEpilogue (b : BenchId)
  /-- Event EPILOGUE_SAVE (R144). -/
  | epilogueSave (b : BenchId)
  /-- Event FULL_STOP (R146). -/
  | fullStop (b : BenchId)
  /-- Event VFCTX_ROOT_WRITE (R150). -/
  | vfctxRootWrite (v : VfId) (hyp : Bool) (x : Word)
  /-- Event VFCTX_COMMIT (R150). -/
  | vfctxCommit (v : VfId) (x : Word)
  /-- Event TQHEAD_WRITE (R136). -/
  | tqheadWrite (p : PartId) (x : Word)
  /-- Event HTQHEAD_WRITE (R141). -/
  | htqheadWrite (x : Word)
  /-- Event FMTCFG_WRITE (R91). -/
  | fmtcfgWrite (q : QuadId) (n : BitVec 4) (x : Word)
  /-- Event PBENCH_WRITE (R148). -/
  | pbenchWrite (p : PartId) (x : Word)
  /-- Event WINCTL_WRITE (R296). -/
  | winctlWrite (p : PartId) (n : BitVec 6) (x : Word)
  /-- Event WINDOW_UNIT_ARRIVE (R297). -/
  | windowUnitArrive (u : UnitMsg)
  /-- Event RESIDENCY_REPORT (R311). -/
  | residencyReport (src : Peer) (part : PartId) (tenant : BitVec 16) (resident : Bool)
  /-- Event FLIT_RETRANSMIT (R293). -/
  | flitRetransmit (port : BitVec 4)
  /-- Event CREDIT_FLIT (R293). -/
  | creditFlit (port : BitVec 4) (n : Nat)
  /-- Event LINK_DOWN (R295). -/
  | linkDown (eth : Bool) (port : BitVec 4)
  /-- Event UDP_RETRANSMIT (R299). -/
  | udpRetransmit (tag : Nat)
  /-- Event UDP_UNIT_TIMEOUT (R299). -/
  | udpUnitTimeout (tag : Nat)
  /-- Event UNCORRECTABLE_ECC (R131). -/
  | uncorrectableEcc (u : EccUnit)
  /-- Event SCX_GO (R330). -/
  | scxGo (i : BitVec 2) (x : Word)
  /-- Event SCX_COMPLETE (R330). -/
  | scxComplete (i : BitVec 2)
  /-- Event LLCMNT_WRITEBACK (R329). -/
  | llcmntWriteback (q : QuadId) (x : Word)
  /-- Event LLCMNT_WB_INVALIDATE (R329). -/
  | llcmntWbInvalidate (q : QuadId) (x : Word)
  /-- Event LLCMNT_DONE (R329). -/
  | llcmntDone (q : QuadId)
  /-- Event COLD_START (R316). -/
  | coldStart
  /-- Event DEVCTL_WARM (R316). -/
  | devctlWarm (x : Word)
  /-- Event DEVCTL_READY (R316). -/
  | devctlReady (x : Word)
  /-- Event RECGO (R318). -/
  | recgo (x : Word) (image : List Byte)
  /-- Event LIFECYCLE_ADVANCE (R319). -/
  | lifecycleAdvance (lc : BitVec 2) (request : List Byte)
  /-- Event DBGCTL_REQ (R320). -/
  | dbgctlReq (x : Word)
  /-- Event DBGCTL_LOAD (R320). -/
  | dbgctlLoad (x : Word) (token : List Byte)
  /-- Event SNAPCTL_FIRE (R326). -/
  | snapctlFire (x : Word)
  /-- Event QPWR_REQ (R333). -/
  | qpwrReq (q : QuadId) (x : Word)
  /-- Event P2_ENTRY (R321). -/
  | p2Entry (q : QuadId)
  /-- Event P1_ENTRY (R321). -/
  | p1Entry (q : QuadId)
  /-- Event P1_WAKE (R321). -/
  | p1Wake (q : QuadId)
  /-- Event POWER_OFF (R321). -/
  | powerOff
  /-- Event POWER_WINDOW_END (R323). -/
  | powerWindowEnd (package : Nat) (parts : List (PartId × Nat))
  /-- Event PERMIT_CHARGE (R324). -/
  | permitCharge (q : QuadId)
  /-- Event PERMIT_REFILL (R324). -/
  | permitRefill (p : PartId)
  /-- Event BOOST_FALL_END (R324). -/
  | boostFallEnd (q : QuadId)
  /-- Event BOOST_STEP_CHANGE (R324). -/
  | boostStepChange (q : QuadId)
  /-- Event REGISTER_WRITE (R328). -/
  | registerWrite (bar : Bar) (off : Nat) (x : Word)
  /-- Event BUCKET_ACCRUAL (R149). -/
  | bucketAccrual (v : VfId)
  /-- Event LINK_RETRAIN (R295). -/
  | linkRetrain (eth : Bool) (port : BitVec 4) (done : Bool)
  /-- Event ARRIVAL_ACKNOWLEDGEMENT (R299). -/
  | arrivalAcknowledgement (peer : BitVec 8) (tag : Nat)
  /-- Event REFUSED_UNIT (R297). -/
  | refusedUnit (r : UnitRefusal)
  /-- Event GET_UNIT_RETURN (R298). -/
  | getUnitReturn (tag : Nat) (data : List Byte)
  /-- Event HOST_MEMORY_ACCESS (R114). -/
  | hostMemoryAccess (write : Bool) (pa : BitVec 40) (n : Nat) (data : List Byte)
  /-- Event DEBUG_WINDOW_ACCESS (R320). -/
  | debugWindowAccess (write : Bool) (target : DbgTarget) (data : Byte)
  /-- Event CONTEXT_WINDOW_ACCESS (R135). -/
  | contextWindowAccess (write : Bool) (addr : Word) (item : CtxItem)
  /-- Event TLB_INVALIDATE (R94). -/
  | tlbInvalidate
  deriving DecidableEq, Repr, Inhabited

end Sys2Proof
end

