-- ==== Sys2Proof/WellFormed.lean ====
section
/-! DEFINITION. The reserved values of coded fields: the part of Table 18.3, order 3, that is not a fixed bit of a
row (R157-R167). A word that breaks one of these checks raises illegal-instruction. -/

namespace Sys2Proof

/-- Why a word whose fixed bits fit is still not an instruction. -/
inductive IllFormed where
  /-- Q = 0b1000 (R158) -/
  | reservedQ
  /-- W of ALU and ALU2 is 2 or 3 (Table 18.5) -/
  | reservedW
  /-- a condition code of CMP or CMPI above 9 (Table 18.5) -/
  | reservedCond
  /-- BF with pos + len above 64 (R179) -/
  | fieldTooWide
  /-- LOOP or KLOOP with length 0, or P without F (Table 18.5) -/
  | loopShape
  /-- LDS with U = 1 and size 3 (Table 18.5) -/
  | unsignedDoubleword
  /-- FORK with mask 0 (R195) -/
  | forkMask
  /-- AMO with a reserved function or width (Table 18.6a) -/
  | amoShape
  /-- FENCE with kind 0 (R200) -/
  | fenceKind
  /-- format code 15, or another code the major reserves (R161, R261, R274, R305) -/
  | reservedFormat
  /-- RM 5 or 6, or a nonzero RM where RM must be 0 (R160) -/
  | reservedRM
  /-- an FN value that Table 18.6 does not list -/
  | reservedFN
  /-- a nonzero operand field that the FN does not use (R245) -/
  | unusedField
  /-- a (U, SAT) pair marked reserved in Table 26.5 -/
  | reservedUSat
  /-- an amount, index, type or view code outside its table -/
  | reservedCode
  /-- PSEL with UP = UK = 0 (R166); PI with UP = 0, and KI with UK = 0, may hold anything (log 96) -/
  | emptyPsel
  deriving DecidableEq, Repr

namespace IllFormed

/-- The first failed check of a list. -/
def first : List (Bool × IllFormed) → Option IllFormed
  | [] => none
  | (ok, r) :: rest => if ok then first rest else some r

/-- RM of a rounding word: codes 5 and 6 are reserved (R160). -/
def roundOk (r : BitVec 3) : Bool := r != 5 && r != 6

/-- Checks of VF32, VF64, VF16 and VBF16 (R160, R165). -/
def vfChecks (b : BitVec 6) (f : BitVec 4) (r : BitVec 3) : List (Bool × IllFormed) :=
  [(if f.toNat < 8 then roundOk r else r == 0, reservedRM),
   (!(f == 7 || f == 12 || f == 13 || f == 15) || b == 0, unusedField)]

/-- Table 26.5: the (U, SAT) pairs that an integer function accepts. -/
def uSatOk (f : BitVec 4) (u s : BitVec 1) : Bool :=
  match f.toNat with
  | 0 | 1 | 2 | 4 | 8 => !(u == 1 && s == 0)
  | 3 | 5 | 6 | 7 | 11 => s == 0
  | _ => u == 0 && s == 0

/-- Checks of VI32, VI16, VI8 and VI64 (R254). -/
def viChecks (b : BitVec 6) (f : BitVec 4) (u s : BitVec 1) : List (Bool × IllFormed) :=
  [(decide (f.toNat < 14), reservedFN),
   (!(f == 12 || f == 13) || b == 0, unusedField),
   (uSatOk f u s, reservedUSat)]

/-- Checks of ALU and ALU2 (Table 18.5). -/
def aluChecks (w : BitVec 2) (q : BitVec 4) : List (Bool × IllFormed) :=
  [(decide (w.toNat < 2), reservedW), (q != 8, reservedQ)]

/-- Is an immediate amount of VROT in range: ROTC and SHFC take -16 to 15 (R258). -/
def rotAmountOk (b : BitVec 6) (f : BitVec 4) : Bool :=
  !(f == 1 || f == 3) || (decide (-16 ≤ b.toInt) && decide (b.toInt ≤ 15))

/-- RM of VRED: a mode for SUM and SCAN of a floating format, else 0 (R261). -/
def vredRmOk (e f : BitVec 4) (r : BitVec 3) : Bool :=
  if (f == 0 || f == 1 || f == 6 || f == 7) && decide (e.toNat < 7) then roundOk r else r == 0

/-- Is a format code of CRED one of 0-3 and 11-14 (R305)? -/
def credFormatOk (t : BitVec 4) : Bool := decide (t.toNat < 4) || (decide (11 ≤ t.toNat) && decide (t.toNat ≤ 14))

end IllFormed

open IllFormed in
/-- The first reserved value of an instruction, if it has one (R157, order 3). -/
def illFormed : Instr → Option IllFormed
  | .aluAdd _ _ _ _ w q =>
    first (aluChecks w q)
  | .aluSub _ _ _ _ w q =>
    first (aluChecks w q)
  | .aluMul _ _ _ _ w q =>
    first (aluChecks w q)
  | .aluMulh _ _ _ _ w q =>
    first (aluChecks w q)
  | .aluMulhu _ _ _ _ w q =>
    first (aluChecks w q)
  | .aluDiv _ _ _ _ w q =>
    first (aluChecks w q)
  | .aluDivu _ _ _ _ w q =>
    first (aluChecks w q)
  | .aluRem _ _ _ _ w q =>
    first (aluChecks w q)
  | .aluRemu _ _ _ _ w q =>
    first (aluChecks w q)
  | .aluAnd _ _ _ _ w q =>
    first (aluChecks w q)
  | .aluOr _ _ _ _ w q =>
    first (aluChecks w q)
  | .aluXor _ _ _ _ w q =>
    first (aluChecks w q)
  | .aluAndn _ _ _ _ w q =>
    first (aluChecks w q)
  | .aluShl _ _ _ _ w q =>
    first (aluChecks w q)
  | .aluShr _ _ _ _ w q =>
    first (aluChecks w q)
  | .aluSar _ _ _ _ w q =>
    first (aluChecks w q)
  | .alu2Min _ _ _ _ w q =>
    first (aluChecks w q)
  | .alu2Max _ _ _ _ w q =>
    first (aluChecks w q)
  | .alu2Minu _ _ _ _ w q =>
    first (aluChecks w q)
  | .alu2Maxu _ _ _ _ w q =>
    first (aluChecks w q)
  | .alu2Clz _ _ _ w q =>
    first (aluChecks w q)
  | .alu2Ctz _ _ _ w q =>
    first (aluChecks w q)
  | .alu2Popc _ _ _ w q =>
    first (aluChecks w q)
  | .alu2Brev _ _ _ w q =>
    first (aluChecks w q)
  | .alu2Bswap _ _ _ w q =>
    first (aluChecks w q)
  | .alu2Sel _ _ _ _ w q =>
    first (aluChecks w q)
  | .alu2Rol _ _ _ _ w q =>
    first (aluChecks w q)
  | .alu2Ror _ _ _ _ w q =>
    first (aluChecks w q)
  | .addi _ _ _ _ => none
  | .logiAndi _ _ _ _ => none
  | .logiOri _ _ _ _ => none
  | .logiXori _ _ _ _ => none
  | .shiShl _ _ _ _ => none
  | .shiShr _ _ _ _ => none
  | .shiSar _ _ _ _ => none
  | .shiRor _ _ _ _ => none
  | .li _ _ _ => none
  | .lih _ _ _ => none
  | .cmp _ _ c _ _ q =>
    first ([(decide (c.toNat < 10), reservedCond), (q != 8, reservedQ)])
  | .cmpi _ _ c _ _ =>
    first ([(decide (c.toNat < 10), reservedCond)])
  | .fopAnd _ _ _ _ => none
  | .fopOr _ _ _ _ => none
  | .fopXor _ _ _ _ => none
  | .fopAndn _ _ _ _ => none
  | .fopNot _ _ _ => none
  | .fopSet _ _ => none
  | .fopClr _ _ => none
  | .bfBfx _ _ _ p n =>
    first ([(decide (p.toNat + n.toNat + 1 ≤ 64), fieldTooWide)])
  | .bfBfxu _ _ _ p n =>
    first ([(decide (p.toNat + n.toNat + 1 ≤ 64), fieldTooWide)])
  | .bfBfi _ _ _ p n =>
    first ([(decide (p.toNat + n.toNat + 1 ≤ 64), fieldTooWide)])
  | .pbr _ _ _ => none
  | .pbrReg _ _ _ => none
  | .br _ _ q =>
    first ([(q != 8, reservedQ)])
  | .brl _ _ q =>
    first ([(q != 8, reservedQ)])
  | .loop _ _ n =>
    first ([(n != 0, loopShape)])
  | .kloop _ f p _ _ n =>
    first ([(n != 0, loopShape), (p == 0 || f == 1, loopShape)])
  | .lds _ _ _ z u _ _ =>
    first ([(!(u == 1 && z == 3), unsignedDoubleword)])
  | .sts _ _ _ _ _ _ => none
  | .xmovMovc _ _ _ => none
  | .xmovMovtc _ _ _ => none
  | .xmovRdsr _ _ _ => none
  | .xmovWrsr _ _ _ => none
  | .xmovMovb _ _ _ => none
  | .flip _ => none
  | .endStream _ => none
  | .pdecl _ _ _ _ _ => none
  | .tlwait _ _ _ => none
  | .tlrd _ _ _ => none
  | .tsig _ _ => none
  | .twait _ _ => none
  | .nop _ => none
  | .trap _ _ => none
  | .brk _ _ => none
  | .fork m =>
    first ([(m != 0, forkMask)])
  | .join => none
  | .amo f w _ _ _ _ _ =>
    first ([(decide (f.toNat < 9), amoShape), (decide (2 ≤ w.toNat), amoShape)])
  | .cas _ _ _ _ _ _ _ => none
  | .lda _ _ _ _ _ => none
  | .strl _ _ _ _ _ => none
  | .fence k _ =>
    first ([(k != 0, fenceKind)])
  | .barb => none
  | .futinit _ => none
  | .futreg _ _ => none
  | .futres _ _ => none
  | .futfail _ _ => none
  | .nspawn _ => none
  | .nexit _ => none
  | .nyield _ => none
  | .nself _ => none
  | .colgo _ _ _ _ => none
  | .colq _ _ => none
  | .capq _ => none
  | .boost _ => none
  | .permq _ => none
  | .snap _ => none
  | .vld _ _ _ f _ _ =>
    first ([(f != 15, reservedFormat)])
  | .vlds _ _ _ f _ _ =>
    first ([(f != 15, reservedFormat)])
  | .vst _ _ _ f _ =>
    first ([(f != 15, reservedFormat)])
  | .vsts _ _ _ f _ =>
    first ([(f != 15, reservedFormat)])
  | .qld _ _ _ f _ _ =>
    first ([(f != 15, reservedFormat)])
  | .qst _ _ _ f _ _ =>
    first ([(f != 15, reservedFormat)])
  | .spld _ _ _ f _ _ =>
    first ([(f != 15, reservedFormat)])
  | .spst _ _ _ f _ =>
    first ([(f != 15, reservedFormat)])
  | .spcp _ _ _ f _ =>
    first ([(f != 15, reservedFormat)])
  | .gather _ _ _ f _ _ =>
    first ([(f != 15, reservedFormat)])
  | .scatter _ _ _ f _ =>
    first ([(f != 15, reservedFormat)])
  | .scatterAdd _ _ _ f _ =>
    first ([(f != 15, reservedFormat)])
  | .put _ _ _ f _ _ =>
    first ([(f != 15, reservedFormat)])
  | .get _ _ _ f _ _ =>
    first ([(f != 15, reservedFormat)])
  | .pref _ _ f _ =>
    first ([(f != 15, reservedFormat)])
  | .cbatch => none
  | .tlwaitOut _ => none
  | .vf32 _ _ _ b f r =>
    first (vfChecks b f r)
  | .vf64 _ _ _ b f r =>
    first (vfChecks b f r)
  | .vf16 _ _ _ b f r =>
    first (vfChecks b f r)
  | .vbf16 _ _ _ b f r =>
    first (vfChecks b f r)
  | .vfcmp _ _ _ _ f t =>
    first ([(decide (f.toNat < 8), reservedFN), (decide (t.toNat < 4), reservedCode)])
  | .vi32 _ _ _ b f u s =>
    first (viChecks b f u s)
  | .vi16 _ _ _ b f u s =>
    first (viChecks b f u s)
  | .vi8 _ _ _ b f u s =>
    first (viChecks b f u s)
  | .vi64 _ _ _ b f u s =>
    first (viChecks b f u s)
  | .vlogic _ _ _ b f =>
    first ([(decide (f.toNat < 7), reservedFN), (f != 6 || b == 0, unusedField)])
  | .vicmp _ _ _ _ f _ =>
    first ([(decide (f.toNat < 6), reservedFN)])
  | .vcvt _ _ _ s f r =>
    first ([(f != 15, reservedFormat), (s != 15, reservedFormat), (roundOk r, reservedRM)])
  | .vmoveMov _ _ _ => none
  | .vmoveSel _ _ _ _ _ => none
  | .vmoveImm _ _ _ => none
  | .vmoveIota _ _ => none
  | .vmoveXtr _ _ _ _ => none
  | .vmoveIns _ _ _ _ => none
  | .vrot _ _ _ b f =>
    first ([(decide (f.toNat < 8), reservedFN), (rotAmountOk b f, reservedCode)])
  | .vbc _ _ _ b f =>
    first ([(decide (f.toNat < 2), reservedFN), (f != 1 || decide (b.toNat < 16), reservedCode)])
  | .vred _ _ _ e f r =>
    first ([(decide (f.toNat < 8), reservedFN), (e != 1 && e != 15, reservedFormat), (vredRmOk e f r, reservedRM)])
  | .vtrg _ _ f =>
    first ([(decide (f.toNat < 3), reservedFN)])
  | .vperm _ _ _ _ => none
  | .vsort _ _ _ _ _ => none
  | .pred _ _ a b f =>
    first ([(decide (f.toNat < 10), reservedFN), (f != 3 || b == 0, unusedField),
      (!(f == 5 || f == 6) || (a == 0 && b == 0), unusedField),
      (!(decide (7 ≤ f.toNat)) || decide (b.toNat < 4) || decide (8 ≤ b.toNat), reservedCode)])
  | .xfRd _ _ => none
  | .xfClr _ _ => none
  | .xfSet _ _ => none
  | .psel _ u _ v _ =>
    first ([(u == 1 || v == 1, emptyPsel)])
  | .sf32 _ _ _ f r =>
    first ([(decide (f.toNat < 10), reservedFN), (roundOk r, reservedRM)])
  | .sf64 _ _ _ f r =>
    first ([(decide (f.toNat < 10), reservedFN), (roundOk r, reservedRM)])
  | .ckEnc _ _ _ x =>
    first ([(x != 7, reservedCode)])
  | .ckDec _ _ _ x =>
    first ([(x != 7, reservedCode)])
  | .ckAdd _ _ _ _ x =>
    first ([(x != 7, reservedCode)])
  | .ckSub _ _ _ _ x =>
    first ([(x != 7, reservedCode)])
  | .ckInbox _ _ _ _ x =>
    first ([(x != 7, reservedCode)])
  | .ckNext _ _ _ _ x =>
    first ([(x != 7, reservedCode)])
  | .cksplit _ _ _ _ x =>
    first ([(x != 7, reservedCode)])
  | .mma _ _ _ _ f _ _ _ =>
    first ([(f != 7, reservedFormat)])
  | .mmaq _ _ _ _ f _ =>
    first ([(f != 7, reservedFormat)])
  | .mchb _ _ => none
  | .mche _ _ _ f r =>
    first ([(f == 0 || f == 2 || f == 3 || f == 11, reservedFormat), (roundOk r, reservedRM)])
  | .mzero _ _ => none
  | .mred _ _ => none
  | .mlda _ _ _ => none
  | .csend _ _ _ _ _ => none
  | .cred _ _ _ t o _ r =>
    first ([(credFormatOk t, reservedFormat), (o != 3, reservedCode),
      (if decide (t.toNat < 4) then decide (r.toNat < 5) else r == 0, reservedRM)])
  | .ccopy _ _ _ _ => none
  | .cwait _ _ _ => none
  | .csig _ _ => none
  | .cloop _ n =>
    first ([(n != 0, loopShape)])
  | .cend => none
  | .crv _ => none
  | .cbw _ r =>
    first ([(r != 3, reservedCode)])
  | .cnop => none
  | .colProgramStart _ => none
  | .cpResultWrite _ _ => none
  | .longOpLand _ _ _ => none
  | .copyUnit _ _ _ => none
  | .copyComplete _ _ _ => none
  | .flipComplete _ _ => none
  | .nodeRetire _ => none
  | .launchDoorbell _ _ => none
  | .launchRecordConsume _ => none
  | .launchRequest _ _ _ _ => none
  | .dispatch _ => none
  | .gangMigrate _ => none
  | .haltLine _ => none
  | .copyAbandon _ _ _ => none
  | .colContextStop _ => none
  | .pctlResume _ _ => none
  | .pctlAbort _ _ => none
  | .pctlReplay _ _ => none
  | .pctlBarrier _ _ => none
  | .pctlStop _ _ => none
  | .partitionBarrier _ => none
  | .vfGrant _ => none
  | .sliceEnd _ => none
  | .forcedEpilogue _ => none
  | .epilogueSave _ => none
  | .fullStop _ => none
  | .vfctxRootWrite _ _ _ => none
  | .vfctxCommit _ _ => none
  | .tqheadWrite _ _ => none
  | .htqheadWrite _ => none
  | .fmtcfgWrite _ _ _ => none
  | .pbenchWrite _ _ => none
  | .winctlWrite _ _ _ => none
  | .windowUnitArrive _ => none
  | .residencyReport _ _ _ _ => none
  | .flitRetransmit _ => none
  | .creditFlit _ _ => none
  | .linkDown _ _ => none
  | .udpRetransmit _ => none
  | .udpUnitTimeout _ => none
  | .uncorrectableEcc _ => none
  | .scxGo _ _ => none
  | .scxComplete _ => none
  | .llcmntWriteback _ _ => none
  | .llcmntWbInvalidate _ _ => none
  | .llcmntDone _ => none
  | .coldStart => none
  | .devctlWarm _ => none
  | .devctlReady _ => none
  | .recgo _ _ => none
  | .lifecycleAdvance _ _ => none
  | .dbgctlReq _ => none
  | .dbgctlLoad _ _ => none
  | .snapctlFire _ => none
  | .qpwrReq _ _ => none
  | .p2Entry _ => none
  | .p1Entry _ => none
  | .p1Wake _ => none
  | .powerOff => none
  | .powerWindowEnd _ _ => none
  | .permitCharge _ => none
  | .permitRefill _ => none
  | .boostFallEnd _ => none
  | .boostStepChange _ => none
  | .registerWrite _ _ _ => none
  | .bucketAccrual _ => none
  | .linkRetrain _ _ _ => none
  | .arrivalAcknowledgement _ _ => none
  | .refusedUnit _ => none
  | .getUnitReturn _ _ => none
  | .hostMemoryAccess _ _ _ _ => none
  | .debugWindowAccess _ _ _ => none
  | .contextWindowAccess _ _ _ => none
  | .tlbInvalidate => none

/-- An instruction that holds no reserved value. -/
def WellFormed (i : Instr) : Prop := illFormed i = none

end Sys2Proof
end

