-- ==== Sys2Proof/Decode.lean ====
section
/-! DEFINITION. Decoding: total on any bits, by the stream's format (R151-R167, R303), rejecting by name; then the
encoder, written from the same tables. -/

namespace Sys2Proof

/-- The formats in which a word is read (Table 02.2, R303). -/
inductive Format where
  | sc | ld | cp | st | col
  deriving DecidableEq, Repr, Inhabited

/-- Why a word is not an instruction of its stream (R157). -/
inductive DecodeError where
  /-- OP 0x00 (R151) -/
  | opZero
  /-- a major that the format reserves, a reserved FN, or a nonzero bit in a reserved field -/
  | reserved
  /-- an M major in the other M stream (R153) -/
  | wrongStream
  /-- a reserved value of a coded field -/
  | illFormed (r : IllFormed)
  deriving DecidableEq, Repr

/-- The common scalar group, majors 0x01 to 0x13 (R162, Table 18.5). -/
def decodeCommon (w : IWord) : Option Instr :=
  match (fld w 26 6).toNat with
  | 0x01 =>
    match (fld w 6 4).toNat with
    | 0 => some (.aluAdd (fld w 25 1) (fld w 20 5) (fld w 15 5) (fld w 10 5) (fld w 4 2) (fld w 0 4))
    | 1 => some (.aluSub (fld w 25 1) (fld w 20 5) (fld w 15 5) (fld w 10 5) (fld w 4 2) (fld w 0 4))
    | 2 => some (.aluMul (fld w 25 1) (fld w 20 5) (fld w 15 5) (fld w 10 5) (fld w 4 2) (fld w 0 4))
    | 3 => some (.aluMulh (fld w 25 1) (fld w 20 5) (fld w 15 5) (fld w 10 5) (fld w 4 2) (fld w 0 4))
    | 4 => some (.aluMulhu (fld w 25 1) (fld w 20 5) (fld w 15 5) (fld w 10 5) (fld w 4 2) (fld w 0 4))
    | 5 => some (.aluDiv (fld w 25 1) (fld w 20 5) (fld w 15 5) (fld w 10 5) (fld w 4 2) (fld w 0 4))
    | 6 => some (.aluDivu (fld w 25 1) (fld w 20 5) (fld w 15 5) (fld w 10 5) (fld w 4 2) (fld w 0 4))
    | 7 => some (.aluRem (fld w 25 1) (fld w 20 5) (fld w 15 5) (fld w 10 5) (fld w 4 2) (fld w 0 4))
    | 8 => some (.aluRemu (fld w 25 1) (fld w 20 5) (fld w 15 5) (fld w 10 5) (fld w 4 2) (fld w 0 4))
    | 9 => some (.aluAnd (fld w 25 1) (fld w 20 5) (fld w 15 5) (fld w 10 5) (fld w 4 2) (fld w 0 4))
    | 10 => some (.aluOr (fld w 25 1) (fld w 20 5) (fld w 15 5) (fld w 10 5) (fld w 4 2) (fld w 0 4))
    | 11 => some (.aluXor (fld w 25 1) (fld w 20 5) (fld w 15 5) (fld w 10 5) (fld w 4 2) (fld w 0 4))
    | 12 => some (.aluAndn (fld w 25 1) (fld w 20 5) (fld w 15 5) (fld w 10 5) (fld w 4 2) (fld w 0 4))
    | 13 => some (.aluShl (fld w 25 1) (fld w 20 5) (fld w 15 5) (fld w 10 5) (fld w 4 2) (fld w 0 4))
    | 14 => some (.aluShr (fld w 25 1) (fld w 20 5) (fld w 15 5) (fld w 10 5) (fld w 4 2) (fld w 0 4))
    | 15 => some (.aluSar (fld w 25 1) (fld w 20 5) (fld w 15 5) (fld w 10 5) (fld w 4 2) (fld w 0 4))
    | _ => none
  | 0x02 =>
    match (fld w 6 4).toNat with
    | 0 => some (.alu2Min (fld w 25 1) (fld w 20 5) (fld w 15 5) (fld w 10 5) (fld w 4 2) (fld w 0 4))
    | 1 => some (.alu2Max (fld w 25 1) (fld w 20 5) (fld w 15 5) (fld w 10 5) (fld w 4 2) (fld w 0 4))
    | 2 => some (.alu2Minu (fld w 25 1) (fld w 20 5) (fld w 15 5) (fld w 10 5) (fld w 4 2) (fld w 0 4))
    | 3 => some (.alu2Maxu (fld w 25 1) (fld w 20 5) (fld w 15 5) (fld w 10 5) (fld w 4 2) (fld w 0 4))
    | 4 => if fld w 10 5 = 0 then some (.alu2Clz (fld w 25 1) (fld w 20 5) (fld w 15 5) (fld w 4 2) (fld w 0 4)) else none
    | 5 => if fld w 10 5 = 0 then some (.alu2Ctz (fld w 25 1) (fld w 20 5) (fld w 15 5) (fld w 4 2) (fld w 0 4)) else none
    | 6 => if fld w 10 5 = 0 then some (.alu2Popc (fld w 25 1) (fld w 20 5) (fld w 15 5) (fld w 4 2) (fld w 0 4)) else none
    | 7 => if fld w 10 5 = 0 then some (.alu2Brev (fld w 25 1) (fld w 20 5) (fld w 15 5) (fld w 4 2) (fld w 0 4)) else none
    | 8 => if fld w 10 5 = 0 then some (.alu2Bswap (fld w 25 1) (fld w 20 5) (fld w 15 5) (fld w 4 2) (fld w 0 4)) else none
    | 9 => some (.alu2Sel (fld w 25 1) (fld w 20 5) (fld w 15 5) (fld w 10 5) (fld w 4 2) (fld w 0 4))
    | 10 => some (.alu2Rol (fld w 25 1) (fld w 20 5) (fld w 15 5) (fld w 10 5) (fld w 4 2) (fld w 0 4))
    | 11 => some (.alu2Ror (fld w 25 1) (fld w 20 5) (fld w 15 5) (fld w 10 5) (fld w 4 2) (fld w 0 4))
    | _ => none
  | 0x03 => some (.addi (fld w 25 1) (fld w 20 5) (fld w 15 5) (fld w 0 15))
  | 0x04 =>
    match (fld w 13 2).toNat with
    | 0 => some (.logiAndi (fld w 25 1) (fld w 20 5) (fld w 15 5) (fld w 0 13))
    | 1 => some (.logiOri (fld w 25 1) (fld w 20 5) (fld w 15 5) (fld w 0 13))
    | 2 => some (.logiXori (fld w 25 1) (fld w 20 5) (fld w 15 5) (fld w 0 13))
    | _ => none
  | 0x05 =>
    match (fld w 13 2).toNat with
    | 0 => if fld w 6 7 = 0 then some (.shiShl (fld w 25 1) (fld w 20 5) (fld w 15 5) (fld w 0 6)) else none
    | 1 => if fld w 6 7 = 0 then some (.shiShr (fld w 25 1) (fld w 20 5) (fld w 15 5) (fld w 0 6)) else none
    | 2 => if fld w 6 7 = 0 then some (.shiSar (fld w 25 1) (fld w 20 5) (fld w 15 5) (fld w 0 6)) else none
    | 3 => if fld w 6 7 = 0 then some (.shiRor (fld w 25 1) (fld w 20 5) (fld w 15 5) (fld w 0 6)) else none
    | _ => none
  | 0x06 => some (.li (fld w 25 1) (fld w 20 5) (fld w 0 20))
  | 0x07 => some (.lih (fld w 25 1) (fld w 20 5) (fld w 0 20))
  | 0x08 => if fld w 4 4 = 0 then some (.cmp (fld w 25 1) (fld w 22 3) (fld w 18 4) (fld w 13 5) (fld w 8 5) (fld w 0 4)) else none
  | 0x09 => some (.cmpi (fld w 25 1) (fld w 22 3) (fld w 18 4) (fld w 13 5) (fld w 0 13))
  | 0x0A =>
    match (fld w 13 3).toNat with
    | 0 => if fld w 0 13 = 0 then some (.fopAnd (fld w 25 1) (fld w 22 3) (fld w 19 3) (fld w 16 3)) else none
    | 1 => if fld w 0 13 = 0 then some (.fopOr (fld w 25 1) (fld w 22 3) (fld w 19 3) (fld w 16 3)) else none
    | 2 => if fld w 0 13 = 0 then some (.fopXor (fld w 25 1) (fld w 22 3) (fld w 19 3) (fld w 16 3)) else none
    | 3 => if fld w 0 13 = 0 then some (.fopAndn (fld w 25 1) (fld w 22 3) (fld w 19 3) (fld w 16 3)) else none
    | 4 => if fld w 0 13 = 0 ∧ fld w 16 3 = 0 then some (.fopNot (fld w 25 1) (fld w 22 3) (fld w 19 3)) else none
    | 5 => if fld w 0 13 = 0 ∧ fld w 16 6 = 0 then some (.fopSet (fld w 25 1) (fld w 22 3)) else none
    | 6 => if fld w 0 13 = 0 ∧ fld w 16 6 = 0 then some (.fopClr (fld w 25 1) (fld w 22 3)) else none
    | _ => none
  | 0x0B =>
    match (fld w 13 2).toNat with
    | 0 => if fld w 0 1 = 0 then some (.bfBfx (fld w 25 1) (fld w 20 5) (fld w 15 5) (fld w 7 6) (fld w 1 6)) else none
    | 1 => if fld w 0 1 = 0 then some (.bfBfxu (fld w 25 1) (fld w 20 5) (fld w 15 5) (fld w 7 6) (fld w 1 6)) else none
    | 2 => if fld w 0 1 = 0 then some (.bfBfi (fld w 25 1) (fld w 20 5) (fld w 15 5) (fld w 7 6) (fld w 1 6)) else none
    | _ => none
  | 0x0C =>
    match (fld w 21 1).toNat with
    | 0 => some (.pbr (fld w 25 1) (fld w 22 3) (fld w 0 21))
    | 1 => if fld w 0 16 = 0 then some (.pbrReg (fld w 25 1) (fld w 22 3) (fld w 16 5)) else none
    | _ => none
  | 0x0D =>
    match (fld w 21 1).toNat with
    | 0 => if fld w 4 17 = 0 then some (.br (fld w 25 1) (fld w 22 3) (fld w 0 4)) else none
    | 1 => if fld w 4 17 = 0 then some (.brl (fld w 25 1) (fld w 22 3) (fld w 0 4)) else none
    | _ => none
  | 0x0E =>
    match (fld w 24 1).toNat with
    | 0 => if fld w 19 5 = 0 then some (.loop (fld w 25 1) (fld w 14 5) (fld w 0 14)) else none
    | 1 => some (.kloop (fld w 25 1) (fld w 23 1) (fld w 22 1) (fld w 19 3) (fld w 14 5) (fld w 0 14))
    | _ => none
  | 0x0F => some (.lds (fld w 25 1) (fld w 20 5) (fld w 15 5) (fld w 13 2) (fld w 12 1) (fld w 11 1) (fld w 0 11))
  | 0x10 => if fld w 12 1 = 0 then some (.sts (fld w 25 1) (fld w 20 5) (fld w 15 5) (fld w 13 2) (fld w 11 1) (fld w 0 11)) else none
  | 0x11 =>
    match (fld w 22 3).toNat with
    | 0 => if fld w 0 12 = 0 then some (.xmovMovc (fld w 25 1) (fld w 17 5) (fld w 12 5)) else none
    | 1 => if fld w 0 12 = 0 then some (.xmovMovtc (fld w 25 1) (fld w 17 5) (fld w 12 5)) else none
    | 2 => if fld w 12 5 = 0 then some (.xmovRdsr (fld w 25 1) (fld w 17 5) (fld w 0 12)) else none
    | 3 => if fld w 17 5 = 0 then some (.xmovWrsr (fld w 25 1) (fld w 12 5) (fld w 0 12)) else none
    | 4 => if fld w 0 12 = 0 then some (.xmovMovb (fld w 25 1) (fld w 17 5) (fld w 12 5)) else none
    | _ => none
  | 0x12 =>
    match (fld w 21 4).toNat with
    | 0 => if fld w 0 21 = 0 then some (.flip (fld w 25 1)) else none
    | 1 => if fld w 0 21 = 0 then some (.endStream (fld w 25 1)) else none
    | 2 => if fld w 0 7 = 0 then some (.pdecl (fld w 25 1) (fld w 19 2) (fld w 17 2) (fld w 12 5) (fld w 7 5)) else none
    | 3 => if fld w 0 11 = 0 then some (.tlwait (fld w 25 1) (fld w 16 5) (fld w 11 5)) else none
    | 4 => if fld w 0 11 = 0 then some (.tlrd (fld w 25 1) (fld w 16 5) (fld w 11 5)) else none
    | 5 => if fld w 0 19 = 0 then some (.tsig (fld w 25 1) (fld w 19 2)) else none
    | 6 => if fld w 0 19 = 0 then some (.twait (fld w 25 1) (fld w 19 2)) else none
    | _ => none
  | 0x13 =>
    match (fld w 23 2).toNat with
    | 0 => if fld w 0 23 = 0 then some (.nop (fld w 25 1)) else none
    | 1 => if fld w 16 7 = 0 then some (.trap (fld w 25 1) (fld w 0 16)) else none
    | 2 => if fld w 16 7 = 0 then some (.brk (fld w 25 1) (fld w 0 16)) else none
    | _ => none
  | _ => none

/-- The SC-only majors (R163, Table 18.6a; layouts of R195-R205). -/
def decodeScOnly (w : IWord) : Option Instr :=
  match (fld w 26 6).toNat with
  | 0x14 =>
    match (fld w 24 1).toNat with
    | 0 => if fld w 0 21 = 0 ∧ fld w 25 1 = 1 then some (.fork (fld w 21 3)) else none
    | 1 => if fld w 0 24 = 0 ∧ fld w 25 1 = 1 then some .join else none
    | _ => none
  | 0x15 => if fld w 25 1 = 1 then some (.amo (fld w 21 4) (fld w 19 2) (fld w 17 2) (fld w 15 2) (fld w 10 5) (fld w 5 5) (fld w 0 5)) else none
  | 0x16 => if fld w 25 1 = 1 then some (.cas (fld w 24 1) (fld w 22 2) (fld w 20 2) (fld w 15 5) (fld w 10 5) (fld w 5 5) (fld w 0 5)) else none
  | 0x17 =>
    match (fld w 24 1).toNat with
    | 0 => if fld w 25 1 = 1 then some (.lda (fld w 22 2) (fld w 20 2) (fld w 15 5) (fld w 10 5) (fld w 0 10)) else none
    | 1 => if fld w 25 1 = 1 then some (.strl (fld w 22 2) (fld w 20 2) (fld w 15 5) (fld w 10 5) (fld w 0 10)) else none
    | _ => none
  | 0x18 => if fld w 0 21 = 0 ∧ fld w 25 1 = 1 then some (.fence (fld w 23 2) (fld w 21 2)) else none
  | 0x19 => if fld w 0 26 = 33554432 then some .barb else none
  | 0x1A =>
    match (fld w 23 2).toNat with
    | 0 => if fld w 0 18 = 0 ∧ fld w 25 1 = 1 then some (.futinit (fld w 18 5)) else none
    | 1 => if fld w 0 13 = 0 ∧ fld w 25 1 = 1 then some (.futreg (fld w 18 5) (fld w 13 5)) else none
    | 2 => if fld w 0 13 = 0 ∧ fld w 25 1 = 1 then some (.futres (fld w 18 5) (fld w 13 5)) else none
    | 3 => if fld w 0 13 = 0 ∧ fld w 25 1 = 1 then some (.futfail (fld w 18 5) (fld w 13 5)) else none
    | _ => none
  | 0x1B =>
    match (fld w 23 2).toNat with
    | 0 => if fld w 0 18 = 0 ∧ fld w 25 1 = 1 then some (.nspawn (fld w 18 5)) else none
    | 1 => if fld w 0 18 = 0 ∧ fld w 25 1 = 1 then some (.nexit (fld w 18 5)) else none
    | 2 => if fld w 0 18 = 0 ∧ fld w 25 1 = 1 then some (.nyield (fld w 18 5)) else none
    | 3 => if fld w 0 18 = 0 ∧ fld w 25 1 = 1 then some (.nself (fld w 18 5)) else none
    | _ => none
  | 0x1C =>
    match (fld w 24 1).toNat with
    | 0 => if fld w 0 7 = 0 ∧ fld w 25 1 = 1 then some (.colgo (fld w 22 2) (fld w 17 5) (fld w 12 5) (fld w 7 5)) else none
    | 1 => if fld w 0 17 = 0 ∧ fld w 25 1 = 1 then some (.colq (fld w 22 2) (fld w 17 5)) else none
    | _ => none
  | 0x1D =>
    match (fld w 23 2).toNat with
    | 0 => if fld w 0 18 = 0 ∧ fld w 25 1 = 1 then some (.capq (fld w 18 5)) else none
    | 1 => if fld w 0 18 = 0 ∧ fld w 25 1 = 1 then some (.boost (fld w 18 5)) else none
    | 2 => if fld w 0 18 = 0 ∧ fld w 25 1 = 1 then some (.permq (fld w 18 5)) else none
    | 3 => if fld w 0 18 = 0 ∧ fld w 25 1 = 1 then some (.snap (fld w 18 5)) else none
    | _ => none
  | _ => none

/-- The M format of LD and ST (R164, Table 24.1). -/
def decodeM (w : IWord) : Option Instr :=
  match (fld w 26 6).toNat with
  | 0x14 => if fld w 25 1 = 1 then some (.vld (fld w 19 6) (fld w 14 5) (fld w 9 5) (fld w 5 4) (fld w 4 1) (fld w 0 4)) else none
  | 0x15 => if fld w 25 1 = 1 then some (.vlds (fld w 19 6) (fld w 14 5) (fld w 9 5) (fld w 5 4) (fld w 4 1) (fld w 0 4)) else none
  | 0x16 => if fld w 4 1 = 0 ∧ fld w 25 1 = 1 then some (.vst (fld w 19 6) (fld w 14 5) (fld w 9 5) (fld w 5 4) (fld w 0 4)) else none
  | 0x17 => if fld w 4 1 = 0 ∧ fld w 25 1 = 1 then some (.vsts (fld w 19 6) (fld w 14 5) (fld w 9 5) (fld w 5 4) (fld w 0 4)) else none
  | 0x18 => if fld w 25 1 = 1 then some (.qld (fld w 19 6) (fld w 14 5) (fld w 9 5) (fld w 5 4) (fld w 4 1) (fld w 0 4)) else none
  | 0x19 => if fld w 25 1 = 1 then some (.qst (fld w 19 6) (fld w 14 5) (fld w 9 5) (fld w 5 4) (fld w 4 1) (fld w 0 4)) else none
  | 0x1A => if fld w 25 1 = 1 then some (.spld (fld w 19 6) (fld w 14 5) (fld w 9 5) (fld w 5 4) (fld w 4 1) (fld w 0 4)) else none
  | 0x1B => if fld w 4 1 = 0 ∧ fld w 25 1 = 1 then some (.spst (fld w 19 6) (fld w 14 5) (fld w 9 5) (fld w 5 4) (fld w 0 4)) else none
  | 0x1C => if fld w 4 1 = 0 ∧ fld w 25 1 = 1 then some (.spcp (fld w 19 6) (fld w 14 5) (fld w 9 5) (fld w 5 4) (fld w 0 4)) else none
  | 0x1D => if fld w 25 1 = 1 then some (.gather (fld w 19 6) (fld w 14 5) (fld w 9 5) (fld w 5 4) (fld w 4 1) (fld w 0 4)) else none
  | 0x1E =>
    match (fld w 4 1).toNat with
    | 0 => if fld w 25 1 = 1 then some (.scatter (fld w 19 6) (fld w 14 5) (fld w 9 5) (fld w 5 4) (fld w 0 4)) else none
    | 1 => if fld w 25 1 = 1 then some (.scatterAdd (fld w 19 6) (fld w 14 5) (fld w 9 5) (fld w 5 4) (fld w 0 4)) else none
    | _ => none
  | 0x1F => if fld w 25 1 = 1 then some (.put (fld w 19 6) (fld w 14 5) (fld w 9 5) (fld w 5 4) (fld w 4 1) (fld w 0 4)) else none
  | 0x20 => if fld w 25 1 = 1 then some (.get (fld w 19 6) (fld w 14 5) (fld w 9 5) (fld w 5 4) (fld w 4 1) (fld w 0 4)) else none
  | 0x21 => if fld w 4 1 = 0 ∧ fld w 19 7 = 64 then some (.pref (fld w 14 5) (fld w 9 5) (fld w 5 4) (fld w 0 4)) else none
  | 0x22 =>
    match (fld w 4 1).toNat with
    | 0 => if fld w 0 4 = 0 ∧ fld w 5 21 = 1048576 then some .cbatch else none
    | 1 => if fld w 0 4 = 0 ∧ fld w 5 14 = 0 ∧ fld w 25 1 = 1 then some (.tlwaitOut (fld w 19 6)) else none
    | _ => none
  | _ => none

/-- The C format of CP (R165-R167, Table 18.6). -/
def decodeC (w : IWord) : Option Instr :=
  match (fld w 26 6).toNat with
  | 0x14 => some (.vf32 (fld w 25 1) (fld w 19 6) (fld w 13 6) (fld w 7 6) (fld w 3 4) (fld w 0 3))
  | 0x15 => some (.vf64 (fld w 25 1) (fld w 19 6) (fld w 13 6) (fld w 7 6) (fld w 3 4) (fld w 0 3))
  | 0x16 => some (.vf16 (fld w 25 1) (fld w 19 6) (fld w 13 6) (fld w 7 6) (fld w 3 4) (fld w 0 3))
  | 0x17 => some (.vbf16 (fld w 25 1) (fld w 19 6) (fld w 13 6) (fld w 7 6) (fld w 3 4) (fld w 0 3))
  | 0x18 => some (.vfcmp (fld w 25 1) (fld w 19 6) (fld w 13 6) (fld w 7 6) (fld w 3 4) (fld w 0 3))
  | 0x19 => if fld w 2 1 = 0 then some (.vi32 (fld w 25 1) (fld w 19 6) (fld w 13 6) (fld w 7 6) (fld w 3 4) (fld w 1 1) (fld w 0 1)) else none
  | 0x1A =>
    match (fld w 2 1).toNat with
    | 0 => some (.vi16 (fld w 25 1) (fld w 19 6) (fld w 13 6) (fld w 7 6) (fld w 3 4) (fld w 1 1) (fld w 0 1))
    | 1 => some (.vi8 (fld w 25 1) (fld w 19 6) (fld w 13 6) (fld w 7 6) (fld w 3 4) (fld w 1 1) (fld w 0 1))
    | _ => none
  | 0x1B => if fld w 2 1 = 0 then some (.vi64 (fld w 25 1) (fld w 19 6) (fld w 13 6) (fld w 7 6) (fld w 3 4) (fld w 1 1) (fld w 0 1)) else none
  | 0x1C => if fld w 0 3 = 0 then some (.vlogic (fld w 25 1) (fld w 19 6) (fld w 13 6) (fld w 7 6) (fld w 3 4)) else none
  | 0x1D => some (.vicmp (fld w 25 1) (fld w 19 6) (fld w 13 6) (fld w 7 6) (fld w 3 4) (fld w 0 3))
  | 0x1E => if fld w 11 2 = 0 then some (.vcvt (fld w 25 1) (fld w 19 6) (fld w 13 6) (fld w 7 4) (fld w 3 4) (fld w 0 3)) else none
  | 0x1F =>
    match (fld w 3 4).toNat with
    | 0 => if fld w 0 3 = 0 ∧ fld w 7 6 = 0 then some (.vmoveMov (fld w 25 1) (fld w 19 6) (fld w 13 6)) else none
    | 1 => some (.vmoveSel (fld w 25 1) (fld w 19 6) (fld w 13 6) (fld w 7 6) (fld w 0 3))
    | 2 => if fld w 0 3 = 0 then some (.vmoveImm (fld w 25 1) (fld w 19 6) (fld w 7 12)) else none
    | 3 => if fld w 0 3 = 0 ∧ fld w 7 12 = 0 then some (.vmoveIota (fld w 25 1) (fld w 19 6)) else none
    | 4 => if fld w 0 3 = 0 then some (.vmoveXtr (fld w 25 1) (fld w 19 6) (fld w 13 6) (fld w 7 6)) else none
    | 5 => if fld w 0 3 = 0 then some (.vmoveIns (fld w 25 1) (fld w 19 6) (fld w 13 6) (fld w 7 6)) else none
    | _ => none
  | 0x20 => if fld w 0 3 = 0 then some (.vrot (fld w 25 1) (fld w 19 6) (fld w 13 6) (fld w 7 6) (fld w 3 4)) else none
  | 0x21 => if fld w 0 3 = 0 then some (.vbc (fld w 25 1) (fld w 19 6) (fld w 13 6) (fld w 7 6) (fld w 3 4)) else none
  | 0x22 => if fld w 11 2 = 0 then some (.vred (fld w 25 1) (fld w 19 6) (fld w 13 6) (fld w 7 4) (fld w 3 4) (fld w 0 3)) else none
  | 0x23 => if fld w 0 3 = 0 ∧ fld w 7 12 = 0 then some (.vtrg (fld w 25 1) (fld w 19 6) (fld w 3 4)) else none
  | 0x24 => if fld w 0 7 = 0 then some (.vperm (fld w 25 1) (fld w 19 6) (fld w 13 6) (fld w 7 6)) else none
  | 0x25 => if fld w 0 3 = 0 ∧ fld w 4 3 = 0 then some (.vsort (fld w 25 1) (fld w 19 6) (fld w 13 6) (fld w 7 6) (fld w 3 1)) else none
  | 0x26 => if fld w 0 3 = 0 then some (.pred (fld w 25 1) (fld w 19 6) (fld w 13 6) (fld w 7 6) (fld w 3 4)) else none
  | 0x27 =>
    match (fld w 3 4).toNat with
    | 0 => if fld w 0 3 = 0 ∧ fld w 7 12 = 0 then some (.xfRd (fld w 25 1) (fld w 19 6)) else none
    | 1 => if fld w 0 3 = 0 ∧ fld w 7 6 = 0 ∧ fld w 19 6 = 0 then some (.xfClr (fld w 25 1) (fld w 13 6)) else none
    | 2 => if fld w 0 3 = 0 ∧ fld w 7 6 = 0 ∧ fld w 19 6 = 0 then some (.xfSet (fld w 25 1) (fld w 13 6)) else none
    | _ => none
  | 0x28 => if fld w 0 16 = 0 ∧ fld w 25 1 = 0 then some (.psel (fld w 22 3) (fld w 21 1) (fld w 18 3) (fld w 17 1) (fld w 16 1)) else none
  | 0x29 => if fld w 7 6 = 0 then some (.sf32 (fld w 25 1) (fld w 19 6) (fld w 13 6) (fld w 3 4) (fld w 0 3)) else none
  | 0x2A => if fld w 7 6 = 0 then some (.sf64 (fld w 25 1) (fld w 19 6) (fld w 13 6) (fld w 3 4) (fld w 0 3)) else none
  | 0x2B =>
    match (fld w 3 4).toNat with
    | 0 => if fld w 7 6 = 0 then some (.ckEnc (fld w 25 1) (fld w 19 6) (fld w 13 6) (fld w 0 3)) else none
    | 1 => if fld w 7 6 = 0 then some (.ckDec (fld w 25 1) (fld w 19 6) (fld w 13 6) (fld w 0 3)) else none
    | 2 => some (.ckAdd (fld w 25 1) (fld w 19 6) (fld w 13 6) (fld w 7 6) (fld w 0 3))
    | 3 => some (.ckSub (fld w 25 1) (fld w 19 6) (fld w 13 6) (fld w 7 6) (fld w 0 3))
    | 4 => some (.ckInbox (fld w 25 1) (fld w 19 6) (fld w 13 6) (fld w 7 6) (fld w 0 3))
    | 5 => some (.ckNext (fld w 25 1) (fld w 19 6) (fld w 13 6) (fld w 7 6) (fld w 0 3))
    | _ => none
  | 0x2C => if fld w 3 4 = 0 then some (.cksplit (fld w 25 1) (fld w 19 6) (fld w 13 6) (fld w 7 6) (fld w 0 3)) else none
  | 0x2D => if fld w 0 2 = 0 then some (.mma (fld w 25 1) (fld w 22 3) (fld w 16 6) (fld w 11 5) (fld w 8 3) (fld w 4 4) (fld w 3 1) (fld w 2 1)) else none
  | 0x2F => if fld w 0 4 = 0 ∧ fld w 11 4 = 0 then some (.mmaq (fld w 25 1) (fld w 22 3) (fld w 16 6) (fld w 15 1) (fld w 8 3) (fld w 4 4)) else none
  | 0x2E =>
    match (fld w 22 3).toNat with
    | 0 => if fld w 0 19 = 0 then some (.mchb (fld w 25 1) (fld w 19 3)) else none
    | 1 => if fld w 3 6 = 0 then some (.mche (fld w 25 1) (fld w 19 3) (fld w 13 6) (fld w 9 4) (fld w 0 3)) else none
    | 2 => if fld w 0 19 = 0 then some (.mzero (fld w 25 1) (fld w 19 3)) else none
    | 3 => if fld w 0 19 = 0 then some (.mred (fld w 25 1) (fld w 19 3)) else none
    | 4 => if fld w 0 13 = 0 then some (.mlda (fld w 25 1) (fld w 19 3) (fld w 13 6)) else none
    | _ => none
  | _ => none

/-- The N format of collective commands (R303, Table 34.3). -/
def decodeN (w : IWord) : Option Instr :=
  match (fld w 26 6).toNat with
  | 0x20 => if fld w 0 6 = 0 ∧ fld w 25 1 = 1 then some (.csend (fld w 21 4) (fld w 17 4) (fld w 11 6) (fld w 7 4) (fld w 6 1)) else none
  | 0x21 => if fld w 0 3 = 0 ∧ fld w 25 1 = 1 then some (.cred (fld w 21 4) (fld w 17 4) (fld w 13 4) (fld w 9 4) (fld w 7 2) (fld w 6 1) (fld w 3 3)) else none
  | 0x22 => if fld w 0 12 = 0 ∧ fld w 25 1 = 1 then some (.ccopy (fld w 21 4) (fld w 17 4) (fld w 13 4) (fld w 12 1)) else none
  | 0x23 => if fld w 0 16 = 0 ∧ fld w 25 1 = 1 then some (.cwait (fld w 24 1) (fld w 20 4) (fld w 16 4)) else none
  | 0x24 => if fld w 0 17 = 0 ∧ fld w 25 1 = 1 then some (.csig (fld w 21 4) (fld w 17 4)) else none
  | 0x25 => if fld w 0 8 = 0 ∧ fld w 25 1 = 1 then some (.cloop (fld w 21 4) (fld w 8 13)) else none
  | 0x26 => if fld w 0 26 = 33554432 then some .cend else none
  | 0x27 => if fld w 0 21 = 0 ∧ fld w 25 1 = 1 then some (.crv (fld w 21 4)) else none
  | 0x28 => if fld w 0 15 = 0 ∧ fld w 25 1 = 1 then some (.cbw (fld w 17 8) (fld w 15 2)) else none
  | 0x13 => if fld w 0 26 = 33554432 then some .cnop else none
  | _ => none

/-- Is an M word one of LD's majors (Table 24.1)? -/
def ldMajor (op : Nat) : Bool :=
  [0x14, 0x15, 0x18, 0x1A, 0x1C, 0x1D, 0x20, 0x21, 0x22].contains op

/-- Is an M word one of ST's majors (Table 24.1)? -/
def stMajor (op : Nat) : Bool :=
  [0x16, 0x17, 0x19, 0x1B, 0x1C, 0x1E, 0x1F, 0x22].contains op

/-- The row whose fixed bits a word has, in a format; no reserved value is checked yet. -/
def decodeRow (fmt : Format) (w : IWord) : Option Instr :=
  let op := (fld w 26 6).toNat
  match fmt with
  | .sc => if op < 0x14 then decodeCommon w else decodeScOnly w
  | .ld => if op < 0x14 then decodeCommon w else if ldMajor op then decodeM w else none
  | .st => if op < 0x14 then decodeCommon w else if stMajor op then decodeM w else none
  | .cp => if op < 0x14 then decodeCommon w else decodeC w
  | .col => decodeN w

/-- The instruction that a word is in a format, or the name of its rejection (R157, order 3). -/
def decode (fmt : Format) (w : IWord) : Except DecodeError Instr :=
  let op := (fld w 26 6).toNat
  if op = 0 then .error .opZero
  else
    match decodeRow fmt w with
    | none =>
      if (fmt = .ld ∧ stMajor op = true) ∨ (fmt = .st ∧ ldMajor op = true) then .error .wrongStream
      else .error .reserved
    | some i =>
      match illFormed i with
      | some r => .error (.illFormed r)
      | none => .ok i

/-- The formats in the order in which a bare table word is tried: a word with L = 0 can only be CP's (R154). -/
def tableFormats (w : IWord) : List Format :=
  if fld w 25 1 = 0 then [.cp] else [.sc, .ld, .st, .cp, .col]

/-- The first format of a list in which a word is an instruction, with that instruction. -/
def decodeFirst (w : IWord) : List Format → Option (Format × Instr)
  | [] => none
  | f :: rest =>
    match decode f w with
    | .ok i => some (f, i)
    | .error _ => decodeFirst w rest

/-- The instruction the decoder reads from the bits of one table row, its bytes laid out as the hardware stores
them and read little-endian (R5); the formats of the streams overlap, so they are tried in a fixed order (log 6). -/
def decodeTableWord (nbits w : Nat) : Option Instr :=
  if nbits = 32 then (decodeFirst (BitVec.ofNat 32 w) (tableFormats (BitVec.ofNat 32 w))).map (·.2) else none

/-- The word of an instruction, from the encoding tables; events have no word. -/
def encode : Instr → Option IWord
  | .aluAdd l d a b w q => some (1#6 ++ l ++ d ++ a ++ b ++ 0#4 ++ w ++ q)
  | .aluSub l d a b w q => some (1#6 ++ l ++ d ++ a ++ b ++ 1#4 ++ w ++ q)
  | .aluMul l d a b w q => some (1#6 ++ l ++ d ++ a ++ b ++ 2#4 ++ w ++ q)
  | .aluMulh l d a b w q => some (1#6 ++ l ++ d ++ a ++ b ++ 3#4 ++ w ++ q)
  | .aluMulhu l d a b w q => some (1#6 ++ l ++ d ++ a ++ b ++ 4#4 ++ w ++ q)
  | .aluDiv l d a b w q => some (1#6 ++ l ++ d ++ a ++ b ++ 5#4 ++ w ++ q)
  | .aluDivu l d a b w q => some (1#6 ++ l ++ d ++ a ++ b ++ 6#4 ++ w ++ q)
  | .aluRem l d a b w q => some (1#6 ++ l ++ d ++ a ++ b ++ 7#4 ++ w ++ q)
  | .aluRemu l d a b w q => some (1#6 ++ l ++ d ++ a ++ b ++ 8#4 ++ w ++ q)
  | .aluAnd l d a b w q => some (1#6 ++ l ++ d ++ a ++ b ++ 9#4 ++ w ++ q)
  | .aluOr l d a b w q => some (1#6 ++ l ++ d ++ a ++ b ++ 10#4 ++ w ++ q)
  | .aluXor l d a b w q => some (1#6 ++ l ++ d ++ a ++ b ++ 11#4 ++ w ++ q)
  | .aluAndn l d a b w q => some (1#6 ++ l ++ d ++ a ++ b ++ 12#4 ++ w ++ q)
  | .aluShl l d a b w q => some (1#6 ++ l ++ d ++ a ++ b ++ 13#4 ++ w ++ q)
  | .aluShr l d a b w q => some (1#6 ++ l ++ d ++ a ++ b ++ 14#4 ++ w ++ q)
  | .aluSar l d a b w q => some (1#6 ++ l ++ d ++ a ++ b ++ 15#4 ++ w ++ q)
  | .alu2Min l d a b w q => some (2#6 ++ l ++ d ++ a ++ b ++ 0#4 ++ w ++ q)
  | .alu2Max l d a b w q => some (2#6 ++ l ++ d ++ a ++ b ++ 1#4 ++ w ++ q)
  | .alu2Minu l d a b w q => some (2#6 ++ l ++ d ++ a ++ b ++ 2#4 ++ w ++ q)
  | .alu2Maxu l d a b w q => some (2#6 ++ l ++ d ++ a ++ b ++ 3#4 ++ w ++ q)
  | .alu2Clz l d a w q => some (2#6 ++ l ++ d ++ a ++ 4#9 ++ w ++ q)
  | .alu2Ctz l d a w q => some (2#6 ++ l ++ d ++ a ++ 5#9 ++ w ++ q)
  | .alu2Popc l d a w q => some (2#6 ++ l ++ d ++ a ++ 6#9 ++ w ++ q)
  | .alu2Brev l d a w q => some (2#6 ++ l ++ d ++ a ++ 7#9 ++ w ++ q)
  | .alu2Bswap l d a w q => some (2#6 ++ l ++ d ++ a ++ 8#9 ++ w ++ q)
  | .alu2Sel l d a b w q => some (2#6 ++ l ++ d ++ a ++ b ++ 9#4 ++ w ++ q)
  | .alu2Rol l d a b w q => some (2#6 ++ l ++ d ++ a ++ b ++ 10#4 ++ w ++ q)
  | .alu2Ror l d a b w q => some (2#6 ++ l ++ d ++ a ++ b ++ 11#4 ++ w ++ q)
  | .addi l d a i => some (3#6 ++ l ++ d ++ a ++ i)
  | .logiAndi l d a i => some (4#6 ++ l ++ d ++ a ++ 0#2 ++ i)
  | .logiOri l d a i => some (4#6 ++ l ++ d ++ a ++ 1#2 ++ i)
  | .logiXori l d a i => some (4#6 ++ l ++ d ++ a ++ 2#2 ++ i)
  | .shiShl l d a n => some (5#6 ++ l ++ d ++ a ++ 0#9 ++ n)
  | .shiShr l d a n => some (5#6 ++ l ++ d ++ a ++ 128#9 ++ n)
  | .shiSar l d a n => some (5#6 ++ l ++ d ++ a ++ 256#9 ++ n)
  | .shiRor l d a n => some (5#6 ++ l ++ d ++ a ++ 384#9 ++ n)
  | .li l d i => some (6#6 ++ l ++ d ++ i)
  | .lih l d i => some (7#6 ++ l ++ d ++ i)
  | .cmp l f c a b q => some (8#6 ++ l ++ f ++ c ++ a ++ b ++ 0#4 ++ q)
  | .cmpi l f c a i => some (9#6 ++ l ++ f ++ c ++ a ++ i)
  | .fopAnd l d a b => some (10#6 ++ l ++ d ++ a ++ b ++ 0#16)
  | .fopOr l d a b => some (10#6 ++ l ++ d ++ a ++ b ++ 8192#16)
  | .fopXor l d a b => some (10#6 ++ l ++ d ++ a ++ b ++ 16384#16)
  | .fopAndn l d a b => some (10#6 ++ l ++ d ++ a ++ b ++ 24576#16)
  | .fopNot l d a => some (10#6 ++ l ++ d ++ a ++ 32768#19)
  | .fopSet l d => some (10#6 ++ l ++ d ++ 40960#22)
  | .fopClr l d => some (10#6 ++ l ++ d ++ 49152#22)
  | .bfBfx l d a p n => some (11#6 ++ l ++ d ++ a ++ 0#2 ++ p ++ n ++ 0#1)
  | .bfBfxu l d a p n => some (11#6 ++ l ++ d ++ a ++ 1#2 ++ p ++ n ++ 0#1)
  | .bfBfi l d a p n => some (11#6 ++ l ++ d ++ a ++ 2#2 ++ p ++ n ++ 0#1)
  | .pbr l b i => some (12#6 ++ l ++ b ++ 0#1 ++ i)
  | .pbrReg l b s => some (12#6 ++ l ++ b ++ 1#1 ++ s ++ 0#16)
  | .br l b q => some (13#6 ++ l ++ b ++ 0#18 ++ q)
  | .brl l b q => some (13#6 ++ l ++ b ++ 131072#18 ++ q)
  | .loop l s n => some (14#6 ++ l ++ 0#6 ++ s ++ n)
  | .kloop l f p t s n => some (14#6 ++ l ++ 1#1 ++ f ++ p ++ t ++ s ++ n)
  | .lds l d b z u p o => some (15#6 ++ l ++ d ++ b ++ z ++ u ++ p ++ o)
  | .sts l d b z p o => some (16#6 ++ l ++ d ++ b ++ z ++ 0#1 ++ p ++ o)
  | .xmovMovc l x y => some (17#6 ++ l ++ 0#3 ++ x ++ y ++ 0#12)
  | .xmovMovtc l x y => some (17#6 ++ l ++ 1#3 ++ x ++ y ++ 0#12)
  | .xmovRdsr l x r => some (17#6 ++ l ++ 2#3 ++ x ++ 0#5 ++ r)
  | .xmovWrsr l y r => some (17#6 ++ l ++ 96#8 ++ y ++ r)
  | .xmovMovb l x y => some (17#6 ++ l ++ 4#3 ++ x ++ y ++ 0#12)
  | .flip l => some (18#6 ++ l ++ 0#25)
  | .endStream l => some (18#6 ++ l ++ 2097152#25)
  | .pdecl l c s b n => some (18#6 ++ l ++ 2#4 ++ c ++ s ++ b ++ n ++ 0#7)
  | .tlwait l i n => some (18#6 ++ l ++ 3#4 ++ i ++ n ++ 0#11)
  | .tlrd l d i => some (18#6 ++ l ++ 4#4 ++ d ++ i ++ 0#11)
  | .tsig l t => some (18#6 ++ l ++ 5#4 ++ t ++ 0#19)
  | .twait l s => some (18#6 ++ l ++ 6#4 ++ s ++ 0#19)
  | .nop l => some (19#6 ++ l ++ 0#25)
  | .trap l c => some (19#6 ++ l ++ 128#9 ++ c)
  | .brk l c => some (19#6 ++ l ++ 256#9 ++ c)
  | .fork m => some (82#8 ++ m ++ 0#21)
  | .join => some (1392508928#32)
  | .amo f w o c d b t => some (43#7 ++ f ++ w ++ o ++ c ++ d ++ b ++ t)
  | .cas w o c d b m t => some (45#7 ++ w ++ o ++ c ++ d ++ b ++ m ++ t)
  | .lda z c d b o => some (94#8 ++ z ++ c ++ d ++ b ++ o)
  | .strl z c d b o => some (95#8 ++ z ++ c ++ d ++ b ++ o)
  | .fence k c => some (49#7 ++ k ++ c ++ 0#21)
  | .barb => some (1711276032#32)
  | .futinit f => some (212#9 ++ f ++ 0#18)
  | .futreg f n => some (213#9 ++ f ++ n ++ 0#13)
  | .futres f c => some (214#9 ++ f ++ c ++ 0#13)
  | .futfail f c => some (215#9 ++ f ++ c ++ 0#13)
  | .nspawn s => some (220#9 ++ s ++ 0#18)
  | .nexit s => some (221#9 ++ s ++ 0#18)
  | .nyield s => some (222#9 ++ s ++ 0#18)
  | .nself s => some (223#9 ++ s ++ 0#18)
  | .colgo c p a d => some (114#8 ++ c ++ p ++ a ++ d ++ 0#7)
  | .colq c d => some (115#8 ++ c ++ d ++ 0#17)
  | .capq s => some (236#9 ++ s ++ 0#18)
  | .boost s => some (237#9 ++ s ++ 0#18)
  | .permq s => some (238#9 ++ s ++ 0#18)
  | .snap s => some (239#9 ++ s ++ 0#18)
  | .vld t a g f x s => some (41#7 ++ t ++ a ++ g ++ f ++ x ++ s)
  | .vlds t a g f x s => some (43#7 ++ t ++ a ++ g ++ f ++ x ++ s)
  | .vst t a g f s => some (45#7 ++ t ++ a ++ g ++ f ++ 0#1 ++ s)
  | .vsts t a g f s => some (47#7 ++ t ++ a ++ g ++ f ++ 0#1 ++ s)
  | .qld t a g f x s => some (49#7 ++ t ++ a ++ g ++ f ++ x ++ s)
  | .qst t a g f x s => some (51#7 ++ t ++ a ++ g ++ f ++ x ++ s)
  | .spld t a g f x s => some (53#7 ++ t ++ a ++ g ++ f ++ x ++ s)
  | .spst t a g f s => some (55#7 ++ t ++ a ++ g ++ f ++ 0#1 ++ s)
  | .spcp t a g f s => some (57#7 ++ t ++ a ++ g ++ f ++ 0#1 ++ s)
  | .gather t a g f x s => some (59#7 ++ t ++ a ++ g ++ f ++ x ++ s)
  | .scatter t a g f s => some (61#7 ++ t ++ a ++ g ++ f ++ 0#1 ++ s)
  | .scatterAdd t a g f s => some (61#7 ++ t ++ a ++ g ++ f ++ 1#1 ++ s)
  | .put t a g f x s => some (63#7 ++ t ++ a ++ g ++ f ++ x ++ s)
  | .get t a g f x s => some (65#7 ++ t ++ a ++ g ++ f ++ x ++ s)
  | .pref a g f s => some (4288#13 ++ a ++ g ++ f ++ 0#1 ++ s)
  | .cbatch => some (2315255808#32)
  | .tlwaitOut n => some (69#7 ++ n ++ 16#19)
  | .vf32 l d a b f r => some (20#6 ++ l ++ d ++ a ++ b ++ f ++ r)
  | .vf64 l d a b f r => some (21#6 ++ l ++ d ++ a ++ b ++ f ++ r)
  | .vf16 l d a b f r => some (22#6 ++ l ++ d ++ a ++ b ++ f ++ r)
  | .vbf16 l d a b f r => some (23#6 ++ l ++ d ++ a ++ b ++ f ++ r)
  | .vfcmp l d a b f t => some (24#6 ++ l ++ d ++ a ++ b ++ f ++ t)
  | .vi32 l d a b f u s => some (25#6 ++ l ++ d ++ a ++ b ++ f ++ 0#1 ++ u ++ s)
  | .vi16 l d a b f u s => some (26#6 ++ l ++ d ++ a ++ b ++ f ++ 0#1 ++ u ++ s)
  | .vi8 l d a b f u s => some (26#6 ++ l ++ d ++ a ++ b ++ f ++ 1#1 ++ u ++ s)
  | .vi64 l d a b f u s => some (27#6 ++ l ++ d ++ a ++ b ++ f ++ 0#1 ++ u ++ s)
  | .vlogic l d a b f => some (28#6 ++ l ++ d ++ a ++ b ++ f ++ 0#3)
  | .vicmp l d a b f t => some (29#6 ++ l ++ d ++ a ++ b ++ f ++ t)
  | .vcvt l d a s f r => some (30#6 ++ l ++ d ++ a ++ 0#2 ++ s ++ f ++ r)
  | .vmoveMov l d a => some (31#6 ++ l ++ d ++ a ++ 0#13)
  | .vmoveSel l d a b p => some (31#6 ++ l ++ d ++ a ++ b ++ 1#4 ++ p)
  | .vmoveImm l d i => some (31#6 ++ l ++ d ++ i ++ 16#7)
  | .vmoveIota l d => some (31#6 ++ l ++ d ++ 24#19)
  | .vmoveXtr l d a b => some (31#6 ++ l ++ d ++ a ++ b ++ 32#7)
  | .vmoveIns l d a b => some (31#6 ++ l ++ d ++ a ++ b ++ 40#7)
  | .vrot l d a b f => some (32#6 ++ l ++ d ++ a ++ b ++ f ++ 0#3)
  | .vbc l d a b f => some (33#6 ++ l ++ d ++ a ++ b ++ f ++ 0#3)
  | .vred l d a e f r => some (34#6 ++ l ++ d ++ a ++ 0#2 ++ e ++ f ++ r)
  | .vtrg l d f => some (35#6 ++ l ++ d ++ 0#12 ++ f ++ 0#3)
  | .vperm l d a b => some (36#6 ++ l ++ d ++ a ++ b ++ 0#7)
  | .vsort l d a b f => some (37#6 ++ l ++ d ++ a ++ b ++ 0#3 ++ f ++ 0#3)
  | .pred l d a b f => some (38#6 ++ l ++ d ++ a ++ b ++ f ++ 0#3)
  | .xfRd l d => some (39#6 ++ l ++ d ++ 0#19)
  | .xfClr l a => some (39#6 ++ l ++ 0#6 ++ a ++ 8#13)
  | .xfSet l a => some (39#6 ++ l ++ 0#6 ++ a ++ 16#13)
  | .psel p u k v z => some (80#7 ++ p ++ u ++ k ++ v ++ z ++ 0#16)
  | .sf32 l d a f r => some (41#6 ++ l ++ d ++ a ++ 0#6 ++ f ++ r)
  | .sf64 l d a f r => some (42#6 ++ l ++ d ++ a ++ 0#6 ++ f ++ r)
  | .ckEnc l d a x => some (43#6 ++ l ++ d ++ a ++ 0#10 ++ x)
  | .ckDec l d a x => some (43#6 ++ l ++ d ++ a ++ 1#10 ++ x)
  | .ckAdd l d a b x => some (43#6 ++ l ++ d ++ a ++ b ++ 2#4 ++ x)
  | .ckSub l d a b x => some (43#6 ++ l ++ d ++ a ++ b ++ 3#4 ++ x)
  | .ckInbox l d a b x => some (43#6 ++ l ++ d ++ a ++ b ++ 4#4 ++ x)
  | .ckNext l d a b x => some (43#6 ++ l ++ d ++ a ++ b ++ 5#4 ++ x)
  | .cksplit l d a b x => some (44#6 ++ l ++ d ++ a ++ b ++ 0#4 ++ x)
  | .mma l c a s f k t m => some (45#6 ++ l ++ c ++ a ++ s ++ f ++ k ++ t ++ m ++ 0#2)
  | .mmaq l c a q f k => some (47#6 ++ l ++ c ++ a ++ q ++ 0#4 ++ f ++ k ++ 0#4)
  | .mchb l c => some (46#6 ++ l ++ 0#3 ++ c ++ 0#19)
  | .mche l c v f r => some (46#6 ++ l ++ 1#3 ++ c ++ v ++ f ++ 0#6 ++ r)
  | .mzero l c => some (46#6 ++ l ++ 2#3 ++ c ++ 0#19)
  | .mred l c => some (46#6 ++ l ++ 3#3 ++ c ++ 0#19)
  | .mlda l c v => some (46#6 ++ l ++ 4#3 ++ c ++ v ++ 0#13)
  | .csend g o w l v => some (65#7 ++ g ++ o ++ w ++ l ++ v ++ 0#6)
  | .cred d s l t o v r => some (67#7 ++ d ++ s ++ l ++ t ++ o ++ v ++ r ++ 0#3)
  | .ccopy d s l v => some (69#7 ++ d ++ s ++ l ++ v ++ 0#12)
  | .cwait k a n => some (71#7 ++ k ++ a ++ n ++ 0#16)
  | .csig a v => some (73#7 ++ a ++ v ++ 0#17)
  | .cloop c n => some (75#7 ++ c ++ n ++ 0#8)
  | .cend => some (2583691264#32)
  | .crv m => some (79#7 ++ m ++ 0#21)
  | .cbw s r => some (81#7 ++ s ++ r ++ 0#15)
  | .cnop => some (1308622848#32)
  | .colProgramStart _ => none
  | .cpResultWrite _ _ => none
  | .longOpLand _ _ _ => none
  | .copyUnit _ _ _ => none
  | .copyComplete _ _ _ => none
  | .flipComplete _ _ => none
  | .nodeRetire _ => none
  | .launchDoorbell _ _ => none
  | .launchRecordConsume _ => none
  | .launchRequest _ _ _ _ => none
  | .dispatch _ => none
  | .gangMigrate _ => none
  | .haltLine _ => none
  | .copyAbandon _ _ _ => none
  | .colContextStop _ => none
  | .pctlResume _ _ => none
  | .pctlAbort _ _ => none
  | .pctlReplay _ _ => none
  | .pctlBarrier _ _ => none
  | .pctlStop _ _ => none
  | .partitionBarrier _ => none
  | .vfGrant _ => none
  | .sliceEnd _ => none
  | .forcedEpilogue _ => none
  | .epilogueSave _ => none
  | .fullStop _ => none
  | .vfctxRootWrite _ _ _ => none
  | .vfctxCommit _ _ => none
  | .tqheadWrite _ _ => none
  | .htqheadWrite _ => none
  | .fmtcfgWrite _ _ _ => none
  | .pbenchWrite _ _ => none
  | .winctlWrite _ _ _ => none
  | .windowUnitArrive _ => none
  | .residencyReport _ _ _ _ => none
  | .flitRetransmit _ => none
  | .creditFlit _ _ => none
  | .linkDown _ _ => none
  | .udpRetransmit _ => none
  | .udpUnitTimeout _ => none
  | .uncorrectableEcc _ => none
  | .scxGo _ _ => none
  | .scxComplete _ => none
  | .llcmntWriteback _ _ => none
  | .llcmntWbInvalidate _ _ => none
  | .llcmntDone _ => none
  | .coldStart => none
  | .devctlWarm _ => none
  | .devctlReady _ => none
  | .recgo _ _ => none
  | .lifecycleAdvance _ _ => none
  | .dbgctlReq _ => none
  | .dbgctlLoad _ _ => none
  | .snapctlFire _ => none
  | .qpwrReq _ _ => none
  | .p2Entry _ => none
  | .p1Entry _ => none
  | .p1Wake _ => none
  | .powerOff => none
  | .powerWindowEnd _ _ => none
  | .permitCharge _ => none
  | .permitRefill _ => none
  | .boostFallEnd _ => none
  | .boostStepChange _ => none
  | .registerWrite _ _ _ => none
  | .bucketAccrual _ => none
  | .linkRetrain _ _ _ => none
  | .arrivalAcknowledgement _ _ => none
  | .refusedUnit _ => none
  | .getUnitReturn _ _ => none
  | .hostMemoryAccess _ _ _ _ => none
  | .debugWindowAccess _ _ _ => none
  | .contextWindowAccess _ _ _ => none
  | .tlbInvalidate => none

end Sys2Proof
end

