-- ==== Sys2Proof/Machine/Flags.lean ====
section
/-! DEFINITION. Flag computations: the flag predicate Q, the conditions of CMP and CMPI, the flag functions of FOP
(R158, R177, R178), and the five IEEE flags of one operation (R62). -/

namespace Sys2Proof.Machine

/-- The five flags of one operation, NV bit 4, DZ bit 3, OF bit 2, UF bit 1, NX bit 0 (R62). -/
abbrev XFlags := BitVec 5

/-- Invalid. -/
def fNV : XFlags := 0b10000#5
/-- Divide-by-zero. -/
def fDZ : XFlags := 0b01000#5
/-- Overflow. -/
def fOF : XFlags := 0b00100#5
/-- Underflow. -/
def fUF : XFlags := 0b00010#5
/-- Inexact. -/
def fNX : XFlags := 0b00001#5

/-- A flag word if a condition holds. -/
def flagIf (b : Bool) (f : XFlags) : XFlags := if b then f else 0

/-- The flag predicate Q on the flags of a stream; f0 reads true (R45, R158). -/
def flagQ (f : Nat → Bool) (q : BitVec 4) : Bool :=
  let v := f (q.extractLsb' 0 3).toNat
  if q.getLsbD 3 then !v else v

/-- The conditions of CMP and CMPI, on 64 bits (Table 18.5, R177); codes above 9 are reserved and never reach here. -/
def cond (c : BitVec 4) (a b : Word) : Bool :=
  match c.toNat with
  | 0 => a == b
  | 1 => a != b
  | 2 => a.slt b
  | 3 => a.sle b
  | 4 => b.slt a
  | 5 => b.sle a
  | 6 => a.ult b
  | 7 => a.ule b
  | 8 => b.ult a
  | _ => b.ule a

end Sys2Proof.Machine
end

