-- ==== Sys2Proof/Machine/Numeric.lean ====
section
/-! DEFINITION. Number formats, rounding, exact arithmetic and conversion (R59-R72). Values are exact dyadic numbers;
a rounding occurs only in `roundTo` and its relatives (R10). -/

namespace Sys2Proof.Machine

/-- The formats of Table 18.5a. -/
inductive Fmt where
  | f32 | f64 | f16 | bf16 | e4m3 | e5m2 | lg8
  /-- an integer of 8·2^k bits -/
  | int (signed : Bool) (k : Nat)
  deriving DecidableEq, Repr, Inhabited

/-- The format of a code; code 15 is reserved (R161). -/
def Fmt.ofCode (c : BitVec 4) : Fmt :=
  match c.toNat with
  | 0 => .f32
  | 1 => .f64
  | 2 => .f16
  | 3 => .bf16
  | 4 => .e4m3
  | 5 => .e5m2
  | 6 => .lg8
  | 7 => .int true 0
  | 8 => .int false 0
  | 9 => .int true 1
  | 10 => .int false 1
  | 11 => .int true 2
  | 12 => .int false 2
  | 13 => .int true 3
  | _ => .int false 3

/-- Bytes of one element. -/
def Fmt.size : Fmt → Nat
  | .f32 => 4
  | .f64 => 8
  | .f16 | .bf16 => 2
  | .e4m3 | .e5m2 | .lg8 => 1
  | .int _ k => 2 ^ k

/-- Is the format a floating or logarithmic one? -/
def Fmt.isFloat : Fmt → Bool
  | .int _ _ => false
  | _ => true

/-- The shape of a binary floating format: exponent and fraction widths; E4M3 has no infinity (Table 06.1, R63, R64). -/
structure FShape where
  eb : Nat
  fb : Nat
  noInf : Bool := false
  deriving DecidableEq, Repr

/-- The shape of a format, where it is a binary floating format. -/
def Fmt.shape : Fmt → Option FShape
  | .f32 => some { eb := 8, fb := 23 }
  | .f64 => some { eb := 11, fb := 52 }
  | .f16 => some { eb := 5, fb := 10 }
  | .bf16 => some { eb := 8, fb := 7 }
  | .e4m3 => some { eb := 4, fb := 3, noInf := true }
  | .e5m2 => some { eb := 5, fb := 2 }
  | _ => none

/-- The exponent bias (Table 06.1). -/
def FShape.bias (s : FShape) : Int := 2 ^ (s.eb - 1) - 1
/-- Width in bits. -/
def FShape.width (s : FShape) : Nat := 1 + s.eb + s.fb
/-- The code of an all-ones exponent. -/
def FShape.expMax (s : FShape) : Nat := 2 ^ s.eb - 1
/-- The canonical quiet NaN (R60, R63, R64). -/
def FShape.qNaN (s : FShape) : Nat :=
  if s.noInf then 0x7F else s.expMax * 2 ^ s.fb + 2 ^ (s.fb - 1)
/-- The sign bit as a number. -/
def FShape.signBit (s : FShape) (neg : Bool) : Nat := if neg then 2 ^ (s.eb + s.fb) else 0
/-- The code of an infinity. -/
def FShape.inf (s : FShape) (neg : Bool) : Nat := s.signBit neg + s.expMax * 2 ^ s.fb
/-- The code of the largest finite value. -/
def FShape.maxFinite (s : FShape) (neg : Bool) : Nat :=
  s.signBit neg + (if s.noInf then 0x7E else s.expMax * 2 ^ s.fb - 1)

/-- What a code stands for: a NaN, an infinity, or `(-1)^neg · m · 2^e` exactly. -/
inductive Num where
  | nan (signalling : Bool)
  | inf (neg : Bool)
  | fin (neg : Bool) (m : Nat) (e : Int)
  deriving DecidableEq, Repr, Inhabited

/-- Read a code of a binary floating format (R59, R63, R64). -/
def FShape.read (s : FShape) (x : Nat) : Num :=
  let f := x % 2 ^ s.fb
  let e := x / 2 ^ s.fb % 2 ^ s.eb
  let neg := x / 2 ^ (s.eb + s.fb) % 2 == 1
  if s.noInf && e == s.expMax && f == 2 ^ s.fb - 1 then .nan false
  else if !s.noInf && e == s.expMax then
    if f == 0 then .inf neg else .nan (f < 2 ^ (s.fb - 1))
  else if e == 0 then .fin neg f (1 - s.bias - s.fb)
  else .fin neg (2 ^ s.fb + f) (e - s.bias - s.fb)

/-- The LG8 table: 2^(L/4) to 15 significant bits (R66). -/
def lgt (i : Nat) : Nat :=
  match i with
  | 0 => 16384
  | 1 => 19484
  | 2 => 23170
  | _ => 27554

/-- The value of log `l` as `lgt · 2^e` (R66, R73). -/
def lgValue (neg : Bool) (l : Int) : Num := .fin neg (lgt (l % 4).toNat) (l / 4 - 14)

/-- The log of an LG8 code: bits 6:0 as a two's-complement integer (R66). -/
def lgLog (x : Nat) : Int := (BitVec.ofNat 7 x).toInt

/-- The exact value of an element of a format; `x` is its code (R70 step 1). -/
def Fmt.read (f : Fmt) (x : Nat) : Num :=
  match f.shape with
  | some s => s.read x
  | none =>
    match f with
    | .int sg k =>
      let w := 8 * 2 ^ k
      let v : Int := if sg && decide (2 ^ (w - 1) ≤ x % 2 ^ w) then (x % 2 ^ w : Nat) - 2 ^ w else (x % 2 ^ w : Nat)
      .fin (decide (v < 0)) v.natAbs 0
    | _ => if x % 256 == 0xC0 then .fin false 0 0 else lgValue (x / 128 % 2 == 1) (lgLog x)

/-- Rounding modes of Table 06.2. -/
inductive RMode where
  | rne | rtz | rdn | rup | rmm
  deriving DecidableEq, Repr, Inhabited

/-- The mode of an RM code; 7 reads FRM.MODE (R61). -/
def RMode.ofCode (r : BitVec 3) (frm : BitVec 3) : RMode :=
  match (if r == 7 then frm else r).toNat with
  | 0 => .rne
  | 1 => .rtz
  | 2 => .rdn
  | 3 => .rup
  | _ => .rmm

/-- Does a mode round a truncated magnitude up: `odd` its last digit, `cmp` the remainder against one half? -/
def RMode.up (rm : RMode) (neg odd : Bool) (inexact : Bool) (cmp : Ordering) : Bool :=
  match rm with
  | .rne => cmp == .gt || (cmp == .eq && odd)
  | .rtz => false
  | .rdn => neg && inexact
  | .rup => !neg && inexact
  | .rmm => cmp != .lt

/-- `m · 2^e` (its magnitude a little more when `sticky`) rounded to a whole multiple of `2^q`: the multiple and
whether it is inexact. With `sticky` the caller supplies enough digits that `e + 2 ≤ q`. -/
def roundQuantum (rm : RMode) (neg : Bool) (m : Nat) (e : Int) (sticky : Bool) (q : Int) : Nat × Bool :=
  let m' := if sticky then 4 * m + 1 else 4 * m
  let sh := q - (e - 2)
  if sh ≤ 0 then (m' * 2 ^ (-sh).toNat, false)
  else
    let d := 2 ^ sh.toNat
    let n := m' / d
    let r := m' % d
    let up := rm.up neg (n % 2 == 1) (r != 0) (if r == 0 then .lt else compare (2 * r) d)
    (if up then n + 1 else n, r != 0)

/-- The delivered overflow result of R62 and R63, with OF and NX. -/
def FShape.overflow (s : FShape) (rm : RMode) (neg : Bool) : Nat × XFlags :=
  let toMax := s.noInf || (match rm with
    | .rne | .rmm => false
    | .rtz => true
    | .rdn => !neg
    | .rup => neg)
  (if toMax then s.maxFinite neg else s.inf neg, fOF ||| fNX)

/-- Does `n · 2^q` exceed the largest finite value? -/
def FShape.exceeds (s : FShape) (n : Nat) (q : Int) : Bool :=
  if s.noInf then decide (448 * 2 ^ (max 0 (-q)).toNat < n * 2 ^ (max 0 q).toNat)
  else n != 0 && decide (s.bias < n.log2 + q)

/-- A nonzero exact magnitude rounded once to a binary floating format, with its flags (R62-R64, log 7). -/
def FShape.roundTo (s : FShape) (rm : RMode) (neg : Bool) (m : Nat) (e : Int) (sticky : Bool := false) :
    Nat × XFlags :=
  let ex : Int := m.log2 + e
  let emin : Int := 1 - s.bias
  let q := max ex emin - s.fb
  let (n, inexact) := roundQuantum rm neg m e sticky q
  if s.exceeds n q then s.overflow rm neg
  else
    let (n, q) := if 2 ^ (s.fb + 1) ≤ n then (n / 2, q + 1) else (n, q)
    let code := if n < 2 ^ s.fb then n else ((q + s.fb + s.bias).toNat - 1) * 2 ^ s.fb + n
    let u := roundQuantum rm neg m e sticky (ex - s.fb)
    let tiny := decide ((u.1.log2 : Int) + (ex - s.fb) < emin)
    (s.signBit neg + code, flagIf inexact fNX ||| flagIf (inexact && tiny) fUF)

/-- A value delivered to a binary floating format: the canonical NaN, an infinity, a zero with its sign, or the
rounded value. -/
def FShape.deliver (s : FShape) (rm : RMode) : Num → Nat × XFlags
  | .nan sg => (s.qNaN, flagIf sg fNV)
  | .inf neg => if s.noInf then (s.maxFinite neg, fOF ||| fNX) else (s.inf neg, 0)
  | .fin neg m e => if m == 0 then (s.signBit neg, 0) else s.roundTo rm neg m e

/-- LG8 values in units of 2^-30 (R66). -/
def lgUnits (l : Int) : Nat := lgt (l % 4).toNat * 2 ^ (l / 4 + 16).toNat

/-- The largest log from `lo` up, within `n` steps, whose value does not exceed `m · 2^e`; `lo - 1` if none. -/
def lgFloor (m : Nat) (e : Int) : Nat → Int → Int
  | 0, lo => lo - 1
  | n + 1, lo =>
    if lgUnits lo * 2 ^ (max 0 (-30 - e)).toNat ≤ m * 2 ^ (max 0 (e + 30)).toNat
    then lgFloor m e n (lo + 1) else lo - 1

/-- Conversion of a nonzero finite value to LG8 (R71). -/
def lgRound (rm : RMode) (neg : Bool) (m : Nat) (e : Int) : Nat × XFlags :=
  let base : Int := if neg then -63 else -64
  let l := lgFloor m e (if neg then 127 else 128) base
  let code (k : Int) : Nat := if k < base then 0xC0 else (if neg then 128 else 0) + (BitVec.ofInt 7 k).toNat
  let units (k : Int) : Nat := if k < base then 0 else lgUnits k
  -- common scale: value and candidates in units of 2^(min(e,-30)-1)
  let x := 2 * m * 2 ^ (max 0 (e + 30)).toNat
  let sc := 2 ^ (max 0 (-30 - e)).toNat
  if l == 63 then
    if x == 2 * units 63 * sc then (code 63, 0) else (code 63, fOF ||| fNX)
  else
    let lo := 2 * units l * sc
    let hi := 2 * units (l + 1) * sc
    if x == lo then (code l, 0)
    else
      let loEven := decide (l < base) || l % 2 == 0
      let up := rm.up neg (!loEven) true (compare (2 * x) (lo + hi))
      (code (if up then l + 1 else l), flagIf (decide (l < base)) fUF ||| fNX)

/-- Bounds of Table 06.5. -/
def intBounds (signed : Bool) (k : Nat) : Int × Int :=
  let w := 8 * 2 ^ k
  if signed then (-(2 ^ (w - 1)), 2 ^ (w - 1) - 1) else (0, 2 ^ w - 1)

/-- The two's-complement code of an integer in `w` bits. -/
def intCode (w : Nat) (v : Int) : Nat := (v % 2 ^ w).toNat

/-- An integer clamped to the bounds of a format; the flag says that it lay outside. -/
def intClamp (signed : Bool) (k : Nat) (v : Int) : Int × Bool :=
  let b := intBounds signed k
  if v < b.1 then (b.1, true) else if b.2 < v then (b.2, true) else (v, false)

/-- Conversion of a value to an integer format: rounded first, then checked (R72, Table 06.6). -/
def toInt (rm : RMode) (signed : Bool) (k : Nat) : Num → Nat × XFlags
  | .nan _ => (0, fNV)
  | .inf neg => (intCode (8 * 2 ^ k) (if neg then (intBounds signed k).1 else (intBounds signed k).2), fNV)
  | .fin neg m e =>
    let (n, inexact) := roundQuantum rm neg m e false 0
    let v : Int := if neg then -(n : Int) else n
    let (c, out) := intClamp signed k v
    (intCode (8 * 2 ^ k) c, if out then fNV else flagIf inexact fNX)

/-- A value delivered to a format (R70-R72). -/
def Fmt.deliver (f : Fmt) (rm : RMode) (v : Num) : Nat × XFlags :=
  match f.shape with
  | some s => s.deliver rm v
  | none =>
    match f with
    | .int sg k => toInt rm sg k v
    | _ =>
      match v with
      | .nan _ => (0xC0, fNV)
      | .inf neg => (if neg then 0xBF else 0x3F, fOF ||| fNX)
      | .fin neg m e => if m == 0 then (0xC0, 0) else lgRound rm neg m e

/-- Conversion of one element between two formats (R70). -/
def convert (src dst : Fmt) (rm : RMode) (x : Nat) : Nat × XFlags := dst.deliver rm (src.read x)

/-! ### Exact arithmetic on values -/

/-- A signed mantissa at exponent `e0 ≤ e`. -/
def align (neg : Bool) (m : Nat) (e e0 : Int) : Int :=
  let v : Int := m * 2 ^ (e - e0).toNat
  if neg then -v else v

/-- Is a value a signalling NaN? -/
def Num.isSNaN : Num → Bool
  | .nan b => b
  | _ => false

/-- Is a value a NaN? -/
def Num.isNaN : Num → Bool
  | .nan _ => true
  | _ => false

/-- Negation of a value. -/
def Num.neg : Num → Num
  | .nan b => .nan b
  | .inf n => .inf (!n)
  | .fin n m e => .fin (!n) m e

/-- The exact sum of two finite values with the sign of a zero sum by the mode (R62). -/
def finAdd (rm : RMode) (n1 : Bool) (m1 : Nat) (e1 : Int) (n2 : Bool) (m2 : Nat) (e2 : Int) : Num :=
  let e0 := min e1 e2
  let v := align n1 m1 e1 e0 + align n2 m2 e2 e0
  if v == 0 then
    if m1 == 0 && m2 == 0 && n1 == n2 then .fin n1 0 0 else .fin (rm == .rdn) 0 0
  else .fin (decide (v < 0)) v.natAbs e0

/-- The exact sum of two values and the NV it raises (R62, R250). -/
def numAdd (rm : RMode) : Num → Num → Num × XFlags
  | .nan a, b => (.nan false, flagIf (a || b.isSNaN) fNV)
  | a, .nan b => (.nan false, flagIf (b || a.isSNaN) fNV)
  | .inf a, .inf b => if a == b then (.inf a, 0) else (.nan false, fNV)
  | .inf a, .fin _ _ _ => (.inf a, 0)
  | .fin _ _ _, .inf b => (.inf b, 0)
  | .fin n1 m1 e1, .fin n2 m2 e2 => (finAdd rm n1 m1 e1 n2 m2 e2, 0)

/-- The exact product of two values and the NV it raises (R62, R250). -/
def numMul : Num → Num → Num × XFlags
  | .nan a, b => (.nan false, flagIf (a || b.isSNaN) fNV)
  | a, .nan b => (.nan false, flagIf (b || a.isSNaN) fNV)
  | .inf a, .inf b => (.inf (a != b), 0)
  | .inf a, .fin n m _ => if m == 0 then (.nan false, fNV) else (.inf (a != n), 0)
  | .fin n m _, .inf b => if m == 0 then (.nan false, fNV) else (.inf (n != b), 0)
  | .fin n1 m1 e1, .fin n2 m2 e2 => (.fin (n1 != n2) (m1 * m2) (e1 + e2), 0)

/-- `x · y + t` with no intermediate rounding; 0 × ∞ is invalid even with a quiet NaN `t` (R250). -/
def numFma (rm : RMode) (x y t : Num) : Num × XFlags :=
  let p := numMul x y
  let r := numAdd rm p.1 t
  (r.1, p.2 ||| r.2)

/-- The quotient in a format, rounded once (R250). -/
def FShape.div (s : FShape) (rm : RMode) : Num → Num → Nat × XFlags
  | .nan a, b => (s.qNaN, flagIf (a || b.isSNaN) fNV)
  | a, .nan b => (s.qNaN, flagIf (b || a.isSNaN) fNV)
  | .inf _, .inf _ => (s.qNaN, fNV)
  | .inf a, .fin n _ _ => (s.inf (a != n), 0)
  | .fin n _ _, .inf b => (s.signBit (n != b), 0)
  | .fin n1 m1 e1, .fin n2 m2 e2 =>
    if m2 == 0 then
      if m1 == 0 then (s.qNaN, fNV) else (s.inf (n1 != n2), fDZ)
    else if m1 == 0 then (s.signBit (n1 != n2), 0)
    else
      let k := s.fb + 4 + m2.log2
      let num := m1 * 2 ^ k
      s.roundTo rm (n1 != n2) (num / m2) (e1 - e2 - k) (num % m2 != 0)

/-- The square root in a format, rounded once (R250). -/
def FShape.sqrt (s : FShape) (rm : RMode) : Num → Nat × XFlags
  | .nan a => (s.qNaN, flagIf a fNV)
  | .inf neg => if neg then (s.qNaN, fNV) else (s.inf false, 0)
  | .fin neg m e =>
    if m == 0 then (s.signBit neg, 0)
    else if neg then (s.qNaN, fNV)
    else
      let k : Nat := 2 * (s.fb + 4) + (if (e % 2 == 0) then 0 else 1)
      let v := m * 2 ^ k
      let r := Nat.sqrt v
      s.roundTo rm false r ((e - k) / 2) (r * r != v)

/-- Order of two values that are not NaNs; -0 and +0 are equal. -/
def numCmp : Num → Num → Ordering
  | .inf a, .inf b => compare (if a then (-1 : Int) else 1) (if b then -1 else 1)
  | .inf a, _ => if a then .lt else .gt
  | _, .inf b => if b then .gt else .lt
  | .fin n1 m1 e1, .fin n2 m2 e2 => compare (align n1 m1 e1 (min e1 e2)) (align n2 m2 e2 (min e1 e2))
  | _, _ => .eq

/-- The sign of a value. -/
def Num.sign : Num → Bool
  | .fin n _ _ => n
  | .inf n => n
  | .nan _ => false

/-- Is `a` strictly below `b`, with -0 below +0 (R251)? -/
def numBelow (a b : Num) : Bool :=
  match numCmp a b with
  | .lt => true
  | .gt => false
  | .eq => a.sign && !b.sign

/-- IEEE minimum or maximum, or minimumNumber or maximumNumber (`num`), of two codes (R251). -/
def fmtMinMax (f : Fmt) (isMax num : Bool) (a b : Nat) : Nat × XFlags :=
  let x := f.read a
  let y := f.read b
  let nan := match f.shape with
    | some s => s.qNaN
    | none => 0
  let fl := flagIf (x.isSNaN || y.isSNaN) fNV
  if x.isNaN && y.isNaN then (nan, fl)
  else if x.isNaN then (if num then b else nan, fl)
  else if y.isNaN then (if num then a else nan, fl)
  else (if (if isMax then numBelow x y else numBelow y x) then b else a, fl)

/-- The IEEE class of a code, one bit of ten (Table 26.2). -/
def FShape.classOf (s : FShape) (x : Nat) : Nat :=
  match s.read x with
  | .nan true => 1
  | .nan false => 2
  | .inf true => 4
  | .inf false => 512
  | .fin neg m _ =>
    let normal := decide (2 ^ s.fb ≤ m)
    if m == 0 then (if neg then 32 else 64)
    else if neg then (if normal then 8 else 16)
    else if normal then 256 else 128

/-- The functions of VF32, VF64, VF16 and VBF16 on one element: `x` of A, `y` of B, `t` of D (R250, R251). -/
def vfElem (f : Fmt) (s : FShape) (fn : Nat) (rm : RMode) (x y t : Nat) : Nat × XFlags :=
  let a := f.read x
  let b := f.read y
  let d := f.read t
  let fin (r : Num × XFlags) : Nat × XFlags :=
    let o := s.deliver rm r.1
    (o.1, o.2 ||| r.2)
  let sb := s.signBit true
  match fn with
  | 0 => fin (numAdd rm a b)
  | 1 => fin (numAdd rm a b.neg)
  | 2 => fin (numMul a b)
  | 3 => fin (numFma rm a b d)
  | 4 => fin (numFma rm a b d.neg)
  | 5 => fin (numFma rm a.neg b d)
  | 6 => s.div rm a b
  | 7 => s.sqrt rm a
  | 8 => fmtMinMax f false false x y
  | 9 => fmtMinMax f true false x y
  | 10 => fmtMinMax f false true x y
  | 11 => fmtMinMax f true true x y
  | 12 => (x % sb, 0)
  | 13 => ((x + sb) % (2 * sb), 0)
  | 14 => (x % sb + (y / sb) * sb, 0)
  | _ => (s.classOf x, 0)

/-- VFCMP on one pair of elements: the condition and its flags (Table 26.4). -/
def vfCompare (f : Fmt) (fn : Nat) (x y : Nat) : Bool × XFlags :=
  let a := f.read x
  let b := f.read y
  let unord := a.isNaN || b.isNaN
  let o := numCmp a b
  let r := match fn with
    | 0 => !unord && o == .eq
    | 1 => unord || o != .eq
    | 2 => !unord && o == .lt
    | 3 => !unord && o != .gt
    | 4 => !unord && o == .gt
    | 5 => !unord && o != .lt
    | 6 => unord
    | _ => !unord
  let nv := if 2 ≤ fn ∧ fn ≤ 5 then unord else a.isSNaN || b.isSNaN
  (r, flagIf nv fNV)

/-- One addition of VRED: the exact sum rounded to the format, or the wrapped sum of integers (R80, R261). -/
def redAdd (f : Fmt) (rm : RMode) (x y : Nat) : Nat × XFlags :=
  match f with
  | .int _ k => ((x + y) % 2 ^ (8 * 2 ^ k), 0)
  | _ =>
    let r := numAdd rm (f.read x) (f.read y)
    let o := f.deliver rm r.1
    (o.1, o.2 ||| r.2)

/-- One minimum or maximum of VRED (R261). -/
def redMinMax (f : Fmt) (isMax : Bool) (x y : Nat) : Nat × XFlags :=
  match f with
  | .int sg k =>
    let v (z : Nat) : Int := if sg then (BitVec.ofNat (8 * 2 ^ k) z).toInt else z
    (if (if isMax then v x < v y else v y < v x) then y else x, 0)
  | _ => fmtMinMax f isMax false x y

end Sys2Proof.Machine
end

