-- ==== Sys2Proof/Config.lean ====
section
/-! DEFINITION. What the specification leaves to an implementation or leaves open, as constants with no value: nothing
can be proved about one of them but what holds for every value (log 2). -/

namespace Sys2Proof

/-- What takes the next step of the device. -/
inductive Turn where
  /-- a stream performs its next word -/
  | stream (b : BenchId) (c : CoreId) (t : StreamId)
  /-- a collective context performs its next command -/
  | context (i : BitVec 2)
  /-- an event of the table happens -/
  | event (e : Instr)
  deriving DecidableEq, Repr, Inhabited

/-- Which agent moves next when the agenda is empty; the argument counts the steps taken (R39, R42, R101; log 1). -/
opaque Config.turn : Nat → Turn

/-- The way that a line fill takes: steps taken, line (R90; log 2). -/
opaque Config.llcWay : Nat → Nat → BitVec 4

/-- Whether a fill of the first line displaces the second from its way: steps taken, new line, old line (R90; log 2). -/
opaque Config.llcDisplaces : Nat → Nat → Nat → Bool

/-- Which line a fill displaces from a way that is full: steps taken, new line (R14, R90; log 2). -/
opaque Config.llcVictim : Nat → Nat → Nat

/-- Which line a fill displaces from a first-level cache that is full: steps taken, core (R82, R89; log 2). -/
opaque Config.l1Victim : Nat → Nat → Nat

/-- Whether a first-level cache keeps a line: steps taken, core, line (R89; log 2). -/
opaque Config.l1Keeps : Nat → Nat → Nat → Bool

/-- The order in which the units of a system copy are performed: steps taken (R330; log 2). -/
opaque Config.scxOrder : Nat → Nat

/-- The nonce that the security engine issues (Table 36.6; log 5): steps taken. -/
opaque Config.nonce : Nat → BitVec 64

/-- The outcome of the firmware checks of R317 on an image: 0 accepted, 1 ECDSA, 2 LMS, 4 flash read (R318; log 5).
The rollback comparison is not part of it. -/
opaque Config.imageCheck : BitVec 2 → List Byte → BitVec 4

/-- The rollback version that an image carries (R317; log 5). -/
opaque Config.imageVersion : List Byte → BitVec 32

/-- The image that the security engine reads from module flash at a cold start; none: the read fails (R316; log 5). -/
opaque Config.flashImage : Nat → Option (List Byte)

/-- The hash of an image (R317; log 5). -/
opaque Config.imageHash : List Byte → BitVec 384

/-- The image that a warm start finds in HBM, at a place that the specification does not give: steps taken (R316;
log 5). -/
opaque Config.hbmImage : Nat → List Byte

/-- The bench mask of a debug token that verifies for this package and nonce; none where it does not (R320; log 5). -/
opaque Config.tokenMask : BitVec 64 → List Byte → Option (BitVec 64)

/-- Whether a lifecycle request is signed: state asked for, request (R319; log 5). -/
opaque Config.lifecycleSigned : BitVec 2 → List Byte → Bool

/-- A special function of a value that the refinement did not decide: format is F64, function, rounding mode, code
(R280; log 8). -/
opaque Config.undecided : Bool → Nat → Nat → Nat → Nat × BitVec 5

/-- Whether a trigger is raised within 200 ns of one that took its number at an earlier step: that step, this step
(R326; log 66). -/
opaque Config.snapMerges : Nat → Nat → Bool

/-- Which doubleword of a snapshot the snapshot registers show at an offset (R326, R328; log 66). -/
opaque Config.snapIndex : Nat → Option Nat

/-- A value that a record or a register reports and the specification does not state: steps taken, which one (log 10). -/
opaque Config.unstated : Nat → Nat → BitVec 64

end Sys2Proof
end

