-- ==== Sys2Proof/Machine/State.lean ====
section
/-! DEFINITION. The state of the device as plain data (INVENTORY.md, section State), the reasons to stop, and the state
after reset. -/

namespace Sys2Proof.Machine

/-! ### Streams -/

/-- The states of Table 02.3. -/
inductive Status where
  | idle | running | ended
  deriving DecidableEq, Repr, Inhabited

/-- A fault of a unit that its stop record will report: cause, slot, resumption address, ADDR and AUX (Table 16.2), and
whether it raised the halt (R133). -/
structure StopInfo where
  first : Bool := false
  cause : Nat
  slot : Nat
  pc : Word
  addr : Word
  aux0 : Word
  aux1 : Word
  deriving DecidableEq, Repr, Inhabited

/-- An active LOOP or KLOOP (R183). -/
structure LoopFrame where
  /-- KLOOP, `.F`, `.P` -/
  kloop : Bool
  flips : Bool
  pre : Bool
  /-- S, 1 to 8 -/
  stages : Nat
  /-- address of the loop word (in CP, of its bundle), of the body, and just past the body -/
  word : Word
  first : Word
  last : Word
  /-- the trip count in force, the count at issue, and the iteration from 0 -/
  n : Nat
  norig : Nat
  iter : Nat
  deriving DecidableEq, Repr, Inhabited

/-- What a RUNNING stream waits for at its program counter (R29). -/
inductive Wait where
  | none
  /-- arrived at the flip: at a FLIP word, or at the end of an iteration of the innermost KLOOP.F; the address that
  follows it -/
  | flip (loopEnd : Bool) (next : Word)
  /-- JOIN, or the JOIN part of NEXIT and NYIELD -/
  | join
  /-- at a BARB already counted -/
  | barrier
  /-- at an MRED of an accumulator, until those of the other cores reach issue (R275) -/
  | rendezvous (acc : BitVec 3)
  /-- at an MRED that has met the three others (R275) -/
  | reduced
  /-- at a TWAIT for a token of a core, with the step at which the TWAIT issued (R193) -/
  | token (src : CoreId) (ticket : Nat)
  /-- stopped by TRAP or BRK just past the body of a loop, whose end is still to be looked at (R132, R194; log 65) -/
  | bodyEnd
  /-- for the REPLAY of a page fault (R139) -/
  | pageFault
  /-- at a QLD that has reserved its queue entry, for a place among 32 copies (R235) -/
  | reserved (id : Nat)
  /-- at a QST that has popped its queue entry, here converted, for a place among 32 copies (R235) -/
  | popped (tile : Tile) (flags : Lanes)
  /-- for places for nodes already made ready by the word: record, virtual function, ready number (R123) -/
  | place (nodes : List (Nat × VfId × Nat))
  /-- stopped at its loop end under a forced epilogue with the remaining trip count (R144) -/
  | epilogue (word : Word) (rem : Nat)
  deriving DecidableEq, Repr, Inhabited

/-- A declared range: base scratch address and length (R84). -/
structure Range where
  base : BitVec 32
  len : BitVec 32
  deriving DecidableEq, Repr, Inhabited

/-- A word of the CP bundle being collected: its bits, and the instruction they decode to. -/
structure BundleWord where
  addr : Word
  raw : IWord
  instr : Option Instr
  deriving DecidableEq, Repr, Inhabited

/-- One instruction stream of a core (Table 04.1, Table 20.3). -/
structure Stream where
  status : Status := .idle
  pc : Word := 0
  s : Vector Word 32 := Vector.replicate 32 0
  /-- bit i is f_i; f0 reads true -/
  f : BitVec 8 := 0
  b : Vector Word 8 := Vector.replicate 8 0x8000000000000000#64
  k : BitVec 8 := 0
  frm : BitVec 3 := 0
  kdesc : Word := 0x8000000000000000#64
  /-- innermost first -/
  loops : List LoopFrame := []
  wait : Wait := .none
  /-- sets of the current phase and of the next: slot s of class c at 4c + s -/
  sets : Vector Range 16 := Vector.replicate 16 ⟨0, 0⟩
  next : Vector Range 16 := Vector.replicate 16 ⟨0, 0⟩
  /-- timeline numbers taken (R115) -/
  issued : Nat := 0
  /-- numbers in the open batch, and the closed batches outstanding or not yet observed (R244) -/
  openBatch : List Nat := []
  closed : List (List Nat) := []
  /-- CP only: words collected of the next bundle, and whether its words other than SX have issued (R335) -/
  bundle : List BundleWord := []
  sxOnly : Bool := false
  /-- the carried-set descriptor of the last KLOOP.P, and the trip count with which the KLOOP at the program counter
  starts again after a forced epilogue (R144, R145, R147) -/
  carry : Vector Word 6 := Vector.replicate 6 0
  rem : Option Nat := none
  /-- a fault of the stream not yet recorded -/
  fault : Option StopInfo := none
  deriving DecidableEq, Repr, Inhabited

/-! ### Cores -/

/-- The writer of a face (R48). -/
structure Tag where
  stream : StreamId
  async : Bool
  pc : Word
  deriving DecidableEq, Repr, Inhabited

/-- A two-faced register (R48). -/
structure Face (α : Type) where
  vis : α
  hid : α
  written : Bool := false
  pending : Bool := false
  tag : Tag := ⟨0, false, 0⟩
  deriving DecidableEq, Repr, Inhabited

/-- One element of an exact chain: the accumulator modulo 2^112, SAT and NVS (R74, R78). -/
structure ExactElem where
  val : BitVec 112
  sat : Bool
  nvs : Bool
  deriving DecidableEq, Repr, Inhabited

/-- An accumulator and its chain state (R267). -/
inductive Acc where
  | idle
  | opened
  | exact (int : Bool) (e : List ExactElem)
  | ordered (e : List (BitVec 32 × BitVec 5))
  deriving DecidableEq, Repr, Inhabited

/-- A queue entry: `id` names it to the copy that fills it. -/
structure QEntry where
  landed : Bool
  tile : Tile
  id : Nat
  deriving DecidableEq, Repr, Inhabited

/-- A queue: configuration bits 17:0 of Table 04.4, entries oldest first (R54, R55). -/
structure Queue where
  cfg : BitVec 18 := 0
  entries : List QEntry := []
  deriving DecidableEq, Repr, Inhabited

/-- A register that an operation writes, by physical number. -/
inductive Reg where
  | v (i : BitVec 5)
  | c (i : BitVec 3)
  | p (i : BitVec 3)
  deriving DecidableEq, Repr, Inhabited

/-- A write of a two-faced register not yet performed: the data in the low bits, and the bytes (or, for p, the bits)
that it writes (R49). -/
structure FaceWrite where
  reg : Reg
  data : Tile
  mask : Pred
  deriving DecidableEq, Repr, Inhabited

/-- A synchronous CP result not yet performed, with the queue entry that lands with it, queue and name (R55, R169), and
the slot and the depth of its word's ring entry, 0 where there is none (R52). -/
structure Result where
  writes : List FaceWrite
  flags : Lanes
  entry : Option (BitVec 2 × Nat) := none
  slot : Nat := 0
  depth : Nat := 0
  deriving DecidableEq, Repr, Inhabited

/-- The kinds of long operation (R170). -/
inductive LongKind where
  | vsort | cksplit | sf64 | mche | mred
  deriving DecidableEq, Repr, Inhabited

/-- A long operation not yet landed (R171): what it writes, the queue entry it fills, and, for MRED, the accumulator. -/
structure LongOp where
  kind : LongKind
  writes : List FaceWrite
  flags : Lanes
  acc : BitVec 3 := 0
  entry : Option (BitVec 2 × Nat × Tile) := none
  deriving DecidableEq, Repr, Inhabited

/-- What one end of a copy is. -/
inductive CopyEnd where
  /-- device virtual memory -/
  | device
  /-- scratch of the cores of the bench -/
  | scratch
  /-- a window of the issuing partition -/
  | window (w : BitVec 6)
  deriving DecidableEq, Repr, Inhabited

/-- What a copy does as its units are performed (R236-R243). -/
inductive CopyKind where
  /-- far end to the hidden face of a v register, converted from the first format to the second -/
  | toFace (v : BitVec 5) (src dst : BitVec 4)
  /-- far end to a queue entry -/
  | toQueue (q : BitVec 2) (id : Nat)
  /-- values captured at issue to the far end -/
  | toFar
  /-- SCATTER.ADD -/
  | addFar
  /-- far end to packed scratch at an address -/
  | toScratch (dst : BitVec 32)
  /-- PREF -/
  | prefetch
  deriving DecidableEq, Repr, Inhabited

/-- Where the elements of a copy lie at the far end. -/
inductive CopyShape where
  /-- a box (Table 24.3) -/
  | box (e0 e1 e2 e3 : Nat) (s1 s2 s3 : Word)
  /-- element k at base + idx[k] · z (R241) -/
  | indexed (idx : List (BitVec 32))
  deriving DecidableEq, Repr, Inhabited

/-- Is a copy in progress, paused on a page fault, abandoned, or replayed by a RESUME (R132, R137, R139)? -/
inductive CopyState where
  | active | paused | abandoned | replaying
  deriving DecidableEq, Repr, Inhabited

/-- An outstanding copy (R236). -/
structure Copy where
  stream : StreamId
  num : Nat
  pc : Word
  /-- current slack -/
  slack : Nat
  kind : CopyKind
  far : CopyEnd
  base : Word
  shape : CopyShape
  /-- bytes of one far-end element -/
  z : Nat
  /-- the FRM of the issuing stream at issue (R238) -/
  frm : BitVec 3
  /-- elements of the far end captured at issue, in box order -/
  data : List Nat
  /-- element indices not yet performed, as ranges (first, count) -/
  todo : List (Nat × Nat)
  /-- elements of a copy into packed scratch whose source is not yet read, or not yet asked for (R97) -/
  reads : List (Nat × Nat) := []
  /-- elements read since, with their values -/
  got : List (Nat × Nat) := []
  /-- GET elements asked for and not yet returned, as element indices with the request's tag -/
  asked : List (Nat × Nat) := []
  /-- the transfer tag of a PUT or GET -/
  xfer : Nat := 0
  state : CopyState := .active
  /-- a fault of the copy not yet recorded -/
  fault : Option StopInfo := none
  /-- the issuing core's flip waits for it (R35) -/
  inPhase : Bool
  deriving DecidableEq, Repr, Inhabited

/-- How SC retired a core (R33, R203). -/
structure Retire where
  yields : Bool
  operand : Word
  deriving DecidableEq, Repr, Inhabited

/-- A core of a gang (Table 02.4, Table 04.1). -/
structure Core where
  streams : Vector Stream 4
  phase : BitVec 32 := 0
  rb : BitVec 3 := 0
  c : Vector (Face Word) 8 := Vector.replicate 8 { vis := 0, hid := 0 }
  v : Vector (Face Tile) 32 := Vector.replicate 32 { vis := 0, hid := 0 }
  p : Vector (Face Pred) 8 := Vector.replicate 8 { vis := 0, hid := 0 }
  w : Vector Tile 8 := Vector.replicate 8 0
  acc : Vector Acc 8 := Vector.replicate 8 .idle
  /-- the rings, depth 1 first (R52) -/
  za : Vector (Option Tile) 4 := Vector.replicate 4 none
  zb : Vector (Option Tile) 4 := Vector.replicate 4 none
  zf : Vector (Option Tile) 4 := Vector.replicate 4 none
  q : Vector Queue 4 := Vector.replicate 4 {}
  xf : Lanes := 0
  /-- flags that accrue at the exchange step of the flip (R58) -/
  held : Lanes := 0
  /-- scratchpad bytes that are not zero, by offset -/
  scratch : List Host.Cell := []
  /-- TOK(own, source) -/
  tok : Vector (BitVec 8) 4 := Vector.replicate 4 0
  /-- BARBs of SC reached, and MREDs of CP that met the three others, since node start (R201, R275) -/
  barbs : Nat := 0
  mreds : Nat := 0
  results : List Result := []
  longs : List LongOp := []
  /-- in issue order -/
  copies : List Copy := []
  /-- names given to queue entries -/
  entries : Nat := 0
  /-- first-level cache lines, by line number -/
  l1 : List (Nat × BitVec 1024) := []
  /-- faults of the copy engine that name a copy no longer outstanding and are not yet recorded (R133, R297) -/
  engineFaults : List (StreamId × StopInfo) := []
  retired : Option Retire := none
  deriving DecidableEq, Repr, Inhabited

/-! ### Gangs -/

/-- Why a gang, and no other, is stopped (R128, R140). -/
inductive GangStop where
  | none
  /-- migrating: the core whose word asked, its slot, and whether a bench has been looked for -/
  | migrate (c : CoreId) (slot : Nat)
  /-- a masked feature: core, stop information, and whether its record has been written -/
  | masked (c : CoreId) (t : StreamId) (info : StopInfo) (recorded : Bool)
  deriving DecidableEq, Repr, Inhabited

/-- A gang on its bench (R27, R121). -/
structure Gang where
  record : Word
  vf : VfId
  part : PartId
  tenant : BitVec 16
  vcount : Nat
  pb1 : BitVec 7
  pb2 : BitVec 7
  pb3 : BitVec 7
  /-- stage-1 root in force when the node was dispatched (R150) -/
  root : Word
  cores : Vector Core 4
  stop : GangStop := .none
  /-- under a full stop: nothing issues, and the image is saved once every operation has completed (R146) -/
  leaving : Bool := false
  /-- stopped by the current halt -/
  halted : Bool := false
  /-- the earliest own context-stopping cause in the current halt (R137) -/
  haltCause : Option Nat := none
  /-- a forced epilogue was asked for (R144) -/
  epilogue : Bool := false
  /-- benches the gang stood on before, whose ids it still names (R129) -/
  former : List BenchId := []
  /-- ready number, kept across pre-emption (R147) -/
  ready : Nat := 0
  /-- PRE of the record, as it was dispatched (R121, R142) -/
  pre : Bool := false
  /-- the step at which the gang was dispatched, which tells it from every other gang, also of the same record; kept across
  pre-emption (R295, R297) -/
  run : Nat := 0
  deriving DecidableEq, Repr, Inhabited

/-- A vector clock: entry b at index b (R109). -/
abbrev Clock := Vector (BitVec 24) 64

/-- A gang saved by pre-emption (R144-R147); the layout of an image is not given, so it is kept as data. -/
structure SavedGang where
  slot : Nat
  /-- address of the image, as D15 of the record names it -/
  addr : Nat
  /-- full stop (true) or forced epilogue -/
  full : Bool
  bench : BenchId
  gang : Gang
  clock : Clock
  /-- the stop records of cause 0x31 that a full stop saves with the image (R146) -/
  records : List (BitVec 512) := []
  deriving DecidableEq, Repr, Inhabited

/-! ### Partitions, functions, quadrants -/

/-- An entry of a ready pool: what of the record's D2 the dispatcher compares, read when the node enters; `own` is the root
of a pre-empted node's gang, through which its record is found (R123, R125, R150; logs 85, 92). -/
structure PoolEntry where
  node : Nat
  vf : VfId
  ready : Nat
  prio : Nat
  passes : Nat
  /-- SUBD or MIG -/
  ext : Bool := false
  own : Option Word := none
  deriving DecidableEq, Repr, Inhabited

/-- Is the halt line of a partition down, raised, has it reached the units, or does a RESUME replay copies (R132,
R137)? -/
inductive HaltState where
  | none | raised | reached | resuming
  deriving DecidableEq, Repr, Inhabited

/-- A window (Table 34.2). -/
structure Window where
  base : Word := 0
  ctl : Word := 0
  peer : Word := 0
  arrivals : Nat := 0
  deriving DecidableEq, Repr, Inhabited

/-- A ring of records: BASE, LOG2N, indices (Tables 14.1, 16.4). -/
structure Ring where
  base : BitVec 36 := 0
  log2n : Nat
  head : BitVec 32 := 0
  tail : BitVec 32 := 0
  deriving DecidableEq, Repr, Inhabited

/-- A partition: its registers (Tables 36.8, 14.8, 16.4, 34.2), pool and clocks' generation. -/
structure Part where
  bench : Word := 0
  pwrlim : BitVec 16 := 0
  permits : Nat := 64
  step : BitVec 2 := 0
  hbmshr : Byte := 0
  shbase : BitVec 28 := 0
  shlo : BitVec 24 := 0
  shhi : BitVec 24 := 0
  spillBase : BitVec 28 := 0
  spillLog : Nat := 0
  spillLost : Word := 0
  ctxsel : BenchId := 0
  spoilBase : BitVec 28 := 0
  spoilCap : BitVec 16 := 0
  spoilCount : BitVec 16 := 0
  /-- ring index of the spoil queue's head -/
  spoilHead : Nat := 0
  defHead : Word := 0
  defTail : Word := 0
  llcway : Vector (BitVec 16) 4 := Vector.replicate 4 0
  llcfhit : Vector Word 4 := Vector.replicate 4 0
  tq : Ring := { log2n := 3 }
  lost : Bool := false
  perr : Bool := false
  halt : HaltState := .none
  /-- halt summary of PSTAT -/
  hcause : Byte := 0
  hbench : BenchId := 0
  hcore : CoreId := 0
  hstream : StreamId := 0
  hunit : BitVec 4 := 0
  hseq : BitVec 32 := 0
  /-- power-limit raised by the partition controller and not yet recorded (R323) -/
  powerFault : Bool := false
  windows : Vector Window 64 := Vector.replicate 64 {}
  pool : List PoolEntry := []
  readyCount : Nat := 0
  /-- ready numbers of the nodes in the spoil queue and on the deferred list (R123) -/
  numbers : List (Nat × VfId × Nat) := []
  /-- nodes submitted whose pending count has not reached 0 (R112) -/
  waiting : List (Nat × VfId) := []
  gen : BitVec 16 := 0
  barrier : Bool := false
  /-- the function whose slice runs, and the last one granted (R149) -/
  granted : Option VfId := none
  lastVf : Option VfId := none
  deriving DecidableEq, Repr, Inhabited

/-- A virtual function (Tables 14.1, 16.5, 36.11). -/
structure Vf where
  lq : Ring := { log2n := 4 }
  lqEn : Bool := false
  lqErr : Bool := false
  lqReason : Byte := 0
  lqSeq : BitVec 16 := 0
  bucket : BitVec 16 := 0
  slice : BitVec 16 := 1000
  feat : BitVec 3 := 0
  saveBase : BitVec 23 := 0
  saveCount : BitVec 7 := 0
  ctxPend : Bool := false
  ctxRoot : BitVec 36 := 0
  /-- the committed root -/
  root : BitVec 36 := 0
  s2root : BitVec 36 := 0
  s2en : Bool := false
  partEn : Bool := false
  part : PartId := 0
  /-- launch requests accepted from the network and not yet consumed, each with LQTAIL when it entered (R120) -/
  requests : List (BitVec 32 × Word) := []
  /-- a node of the record being consumed that waits for a place, with its ready number (R123) -/
  launching : List (Nat × VfId × Nat) := []
  saved : List SavedGang := []
  deriving DecidableEq, Repr, Inhabited

/-- A format region (Table 08.3). -/
structure FmtRegion where
  limit : BitVec 23 := 0
  base : BitVec 23 := 0
  en : Bool := false
  err : Bool := false
  store : BitVec 23 := 0
  sigma : BitVec 5 := 0
  sat : BitVec 32 := 0
  uf : BitVec 32 := 0
  deriving DecidableEq, Repr, Inhabited

/-- A quadrant (Table 36.10, R321, R324). -/
structure Quad where
  fmt : Vector FmtRegion 16 := Vector.replicate 16 {}
  mntLimit : BitVec 24 := 0
  mntBase : BitVec 24 := 0
  /-- the LLCMNT command in progress; 0 none -/
  mnt : BitVec 2 := 0
  req : BitVec 2 := 0
  pwr : BitVec 2 := 0
  /-- boost step, and whether a boost fall is under way -/
  step : BitVec 2 := 0
  fall : Bool := false
  deriving DecidableEq, Repr, Inhabited

/-! ### Collective contexts, system copies, links -/

/-- A collective program at COLGO (R301). -/
structure ColProg where
  num : Nat
  part : PartId
  vf : VfId
  tenant : BitVec 16
  /-- where the issuing gang stands, or last stood -/
  bench : BenchId
  /-- the gang that issued its COLGO (R297) -/
  run : Nat
  root : Word
  addr : Word
  args : Word
  /-- the gang has retired: the program keeps the bench on which it last stood (R297) -/
  gone : Bool := false
  deriving DecidableEq, Repr, Inhabited

/-- What a collective context waits for. -/
inductive ColWait where
  | none
  /-- CRV, or the residency check of a CSEND (R311) -/
  | residency
  /-- CWAIT -/
  | count
  | pageFault
  deriving DecidableEq, Repr, Inhabited

/-- A running, or a saved, collective program (R302). -/
structure ColRun where
  prog : ColProg
  g : Vector Word 16
  /-- word index of the current command -/
  pcw : BitVec 32
  /-- CLOOP in force: first word, length, iterations left -/
  loop : Option (Nat × Nat × Nat)
  share : Vector Byte 3
  /-- windows named by completed CRVs, and the last completed CRV's mask -/
  rv : Word
  lastRv : Option Word
  wait : ColWait
  /-- perform the last completed CRV again before the next command (R315) -/
  redo : Bool
  /-- stopped by a halt -/
  halted : Bool
  fault : Option StopInfo
  /-- g1 to g15 have been loaded -/
  loaded : Bool
  flg : BitVec 5
  /-- units or elements of the current command performed, and its transfer tag -/
  done : Nat
  xfer : Nat
  deriving DecidableEq, Repr, Inhabited

/-- A collective context (R301, Table 34.4). -/
structure ColCtx where
  run : Option ColRun := none
  pend : Option ColProg := none
  /-- programs stopped by a slice end (R315) -/
  saved : List ColRun := []
  /-- FLG of the last program -/
  flg : BitVec 5 := 0
  cause : Byte := 0
  issued : Nat := 0
  deriving DecidableEq, Repr, Inhabited

/-- A system copy context (Table 36.12). -/
structure Scx where
  src : Word := 0
  dst : Word := 0
  len : BitVec 32 := 0
  busy : Bool := false
  err : Bool := false
  cause : Byte := 0
  part : PartId := 0
  vf : VfId := 127
  num : Nat := 0
  /-- 8-byte units not yet performed, paused on a page fault -/
  todo : List (Nat × Nat) := []
  paused : Bool := false
  deriving DecidableEq, Repr, Inhabited

/-- Who sent a unit that left the package. -/
inductive Origin where
  /-- a copy: bench, core, stream, timeline number, its word, and the partition and the run of its gang -/
  | copy (b : BenchId) (c : CoreId) (t : StreamId) (num : Nat) (pc : Word) (p : PartId) (run : Nat)
  /-- a CSEND: context, partition, the program's number, and the command -/
  | context (i : BitVec 2) (p : PartId) (num : Nat) (pc : Word)
  deriving DecidableEq, Repr, Inhabited

/-- A unit that left the package and is not yet acknowledged (R293, R299). -/
structure OutUnit where
  tag : Nat
  origin : Origin
  eth : Bool
  /-- package, or neighbour, that it goes to -/
  dest : BitVec 8
  msg : UnitMsg
  /-- for a unit of a copy: its far-end address, and its index among the copy's units (Table 16.3) -/
  addr : Word := 0
  index : Nat := 0
  deriving DecidableEq, Repr, Inhabited

/-- A put that is arriving: source, transfer, window, units performed, and whether a unit was refused (R298). -/
structure Arriving where
  peer : BitVec 8
  xfer : Nat
  part : PartId
  win : BitVec 6
  got : Nat
  refused : Bool
  deriving DecidableEq, Repr, Inhabited

/-- What the package answered to the last unit that arrived: performed, refused, or a race with a shadow entry (R110,
R297). -/
inductive UnitReply where
  | performed | refused
  | race (entry : Word)
  deriving DecidableEq, Repr, Inhabited

/-- The links: ports up, units outstanding, puts arriving, residency reports, counters (R293-R300, R311). -/
structure Links where
  tilrak : BitVec 16 := 0xFFFF
  eth : BitVec 12 := 0xFFF
  /-- receive-buffer credits returned per Tilrak port -/
  credits : Vector Nat 16 := Vector.replicate 16 0
  tags : Nat := 0
  out : List OutUnit := []
  arriving : List Arriving := []
  reply : UnitReply := .performed
  /-- (path, port, peer): the port does not lead to that peer (R293, R295; log 29) -/
  apart : List (Bool × BitVec 4 × BitVec 8) := []
  /-- (path, peer, partition, tenant) reported resident -/
  resident : List (Bool × BitVec 8 × PartId × BitVec 16) := []
  /-- the package's own residency bits: tenants resident on its partitions (R311) -/
  own : List (PartId × BitVec 16) := []
  /-- reports of the last change of its own bits: path, peer, partition, tenant, resident or not (R311) -/
  reports : List (Bool × BitVec 8 × PartId × BitVec 16 × Bool) := []
  /-- refused launch requests per port: Tilrak 0-15, Ethernet 16-27 (R120) -/
  refusedLaunches : Vector Nat 28 := Vector.replicate 28 0
  deriving DecidableEq, Repr, Inhabited

/-! ### Device -/

/-- What a trigger latched in a core: phase number, entries of the queues, copies outstanding, token counters (R326). -/
structure CoreSnapshot where
  bench : BenchId
  core : CoreId
  phase : BitVec 32
  queues : List Nat
  copies : Nat
  tokens : List (BitVec 8)
  deriving DecidableEq, Repr, Inhabited

/-- What a trigger latched in a collective context: whether a program runs, its command, the timeline counter, whether a
program is pending (R326). -/
structure CtxSnapshot where
  runs : Bool
  command : BitVec 32
  counter : Nat
  pending : Bool
  deriving DecidableEq, Repr, Inhabited

/-- What one trigger latched in every block: counters, program counters or command indices, and occupancies (R326). -/
structure Snapshot where
  seq : BitVec 32
  /-- program counters and timeline counters of the streams -/
  pcs : List (BenchId × CoreId × StreamId × Word × Nat)
  cores : List CoreSnapshot
  commands : List CtxSnapshot
  fmtcnt : List (List (BitVec 32 × BitVec 32))
  llcfhit : List (List Word)
  spillLost : List Word
  /-- entries of the ready pools, the spoil queues and the trap queues, and permits, of the partitions -/
  pools : List (Nat × Nat × Nat × Nat)
  /-- arrival counters of the windows, by partition -/
  windows : List (List Nat)
  /-- of the virtual functions: entries of the launch queue (ring records and accepted requests), launches counted, bucket -/
  launches : List (Nat × BitVec 16 × BitVec 16)
  /-- timeline counters and units left of the system copy contexts -/
  scx : List (Nat × Nat)
  /-- credits, units outstanding, refused launch requests -/
  links : List Nat × Nat × List Nat
  /-- records in the hypervisor's trap queue -/
  htq : Nat
  deriving DecidableEq, Repr, Inhabited

/-- The parts of the family (R2, R25). -/
inductive PartKind where
  | zp480 | zm480 | zp448
  deriving DecidableEq, Repr, Inhabited

/-- The package limit that a part starts with, and, on the ZM480, the largest that it takes (Table 36.6). -/
def PartKind.limit : PartKind → BitVec 16
  | .zm480 => 3000
  | .zp480 | .zp448 => 0

/-- The benches that a part has disabled, given the bench fuse map: by compute die, the position of the disabled bench of a
ZP448; the other parts have none (Table 00.1, R2, R15). -/
def PartKind.disabled (k : PartKind) (fuses : Vector (BitVec 3) 8) : Word := match k with
  | .zp448 => (List.range 8).foldl (fun m die => m ||| (1#64 <<< (8 * die + (fuses[die]!).toNat))) 0
  | .zp480 | .zm480 => 0

/-- The device block (Tables 36.3, 36.6, R326). -/
structure Device where
  kind : PartKind
  lc : BitVec 2
  dbg : BitVec 2 := 0
  off : Bool := false
  stage : BitVec 4 := 1
  berr : BitVec 4 := 0
  rollback : BitVec 32
  req : BitVec 2 := 0
  ret : Bool := false
  tokv : Bool := false
  tokerr : Bool := false
  tokMask : Word := 0
  dbgtok : BitVec 52 := 0
  nonce : Word := 0
  snapLock : Bool := false
  snapEn : BitVec 4 := 0xF
  snapSeq : BitVec 32 := 0
  snap : Option Snapshot := none
  /-- the step of the last trigger that took a number (R326; log 66) -/
  snapAt : Option Nat := none
  pkgid : Byte := 0
  lvtBase : BitVec 39 := 0
  lvtEn : Bool := false
  pkgpwr : BitVec 16 := kind.limit
  /-- the bench fuse map: on each compute die, the bench that a ZP448 has disabled (R2) -/
  fuses : Vector (BitVec 3) 8 := Vector.replicate 8 0
  watchLo : Vector Word 4 := Vector.replicate 4 0
  watchHi : Vector (BitVec 40) 4 := Vector.replicate 4 0
  htq : Ring := { log2n := 3 }
  /-- masked-feature records whose gang no longer stands stopped, to be written as entries free (R141) -/
  held : List (BitVec 512) := []
  recBase : BitVec 52 := 0
  recLen : BitVec 27 := 0
  /-- step 7 of Table 36.1 is done -/
  ready : Bool := false
  /-- rollback version of the accepted image (R317) -/
  imageVersion : BitVec 32 := 0
  /-- hash of the accepted image, held in secure SRAM (R317) -/
  imageHash : BitVec 384 := 0
  deriving DecidableEq, Repr, Inhabited

/-- BENCHMAP: the benches that the bench fuse map leaves enabled, one clear bit on each compute die of a ZP448 and none on
another part. It is loaded at a cold start, and its reset value is the fused one (R2, Table 36.6; log 5). -/
def Device.benchmap (d : Device) : Word := ~~~d.kind.disabled d.fuses

/-- A line held in the LLC: owner, way, the vector that it carries for each partition, and, for a line of the format
aperture, its decoded bytes and whether they await write-back (R90, R92, R109). -/
structure LlcLine where
  line : Nat
  part : PartId
  way : BitVec 4
  carried : List (PartId × Clock)
  data : Option (BitVec 1024)
  dirty : Bool
  deriving DecidableEq, Repr, Inhabited

/-- A translation held by a unit's TLB: unit, roots, virtual page of 64 KiB, physical page, permissions (R94). -/
structure TlbEntry where
  unit : Nat
  root1 : Word
  root2 : Word
  vpage : Nat
  ppage : Nat
  rd : Bool
  wr : Bool
  ex : Bool
  chk : Bool
  deriving DecidableEq, Repr, Inhabited

/-- The agent whose word is performed. -/
inductive Agent where
  | stream (b : BenchId) (c : CoreId) (t : StreamId)
  | context (i : BitVec 2)
  deriving DecidableEq, Repr, Inhabited

/-- The whole device. -/
structure State where
  benches : Vector (Option Gang) 64
  clocks : Vector Clock 64
  /-- what stands in the scratchpads of a bench on which no gang stands: bytes that are not zero, by offset (R81, R321)
  -/
  pools : Vector (Vector (List Host.Cell) 4) 64
  /-- bytes of HBM that are not zero, by physical address -/
  mem : List Host.Cell
  llc : List LlcLine
  tlb : List TlbEntry
  /-- which entries of a granule's shadow were recorded by AMO, CAS, LDA or STRL, by shadow address: bit 5 the read
  overflow, bit 4 the writer, bits 3:0 the reader slots (R110; log 9) -/
  atomicMarks : List (Nat × BitVec 6)
  quads : Vector Quad 4
  parts : Vector Part 64
  vfs : Vector Vf 96
  ctxs : Vector ColCtx 4
  scx : Vector Scx 4
  links : Links
  dev : Device
  /-- turns to take next, before the free choice (log 1) -/
  agenda : List Turn
  /-- the agent whose word is being performed (log 1) -/
  cur : Option Agent
  /-- steps taken, the argument of every free value (log 2) -/
  ticks : Nat
  /-- bytes that the last access from outside returned (log 1) -/
  out : List Byte
  deriving DecidableEq, Repr, Inhabited

/-- Why the machine stops. -/
inductive Fault where
  /-- raised by a meaning of a word when no agent of its kind performs it; `step` always names the agent, so no run
  meets it. Safe: it only stops. -/
  | noRunningStream
  deriving DecidableEq, Repr, Inhabited

/-- Why an instruction is refused. -/
inductive Refusal where
  /-- raised by `exec` for an instruction that has no meaning yet. Safe: it only stops. -/
  | notModelled (mnemonic : String)
  deriving DecidableEq, Repr

/-- What a meaning answers. -/
abbrev Out := Host.Outcome State Fault Refusal

/-- A part right after power-on, with what its fuses hold: lifecycle, rollback counter, bench fuse map (R1, R2, R316,
Table 36.1). -/
def State.resetOf (kind : PartKind) (lc : BitVec 2) (rollback : BitVec 32) (fuses : Vector (BitVec 3) 8) : State :=
  { benches := Vector.replicate 64 none
    clocks := Vector.replicate 64 (Vector.replicate 64 0)
    pools := Vector.replicate 64 (Vector.replicate 4 [])
    mem := []
    llc := []
    tlb := []
    atomicMarks := []
    quads := Vector.replicate 4 {}
    parts := Vector.replicate 64 {}
    vfs := Vector.replicate 96 {}
    ctxs := Vector.replicate 4 {}
    scx := Vector.replicate 4 {}
    links := {}
    dev := { kind := kind, lc := lc, rollback := rollback, fuses := fuses }
    agenda := []
    cur := none
    ticks := 0
    out := [] }

/-- The device right after power-on: a ZP480 in lifecycle Secure (log 5); `State.resetOf` has the other parts. -/
def State.reset : State := State.resetOf .zp480 1 0 (Vector.replicate 8 0)

end Sys2Proof.Machine
end

