-- ==== Sys2Proof/Machine/Snapshot.lean ====
section
/-! DEFINITION. Snapshots, and the watches that an access to memory may match (R325, R326). -/

namespace Sys2Proof.Machine

/-- The gang on a bench. -/
def State.gang? (s : State) (b : BenchId) : Option Gang := s.benches[b.toFin]

/-- Entries in use in a ring. -/
def Ring.used (r : Ring) : Nat := (r.tail - r.head).toNat

/-! ### Timelines (R115) -/

/-- The counter of a stream's timeline: it passes n only when every operation numbered n or below has completed
(R115). -/
def streamCounter (k : Core) (t : StreamId) : Nat :=
  let own := k.copies.filter (fun y => y.stream == t)
  match own with
  | [] => (k.streams[t.toFin]).issued
  | y :: ys => ys.foldl (fun m z => min m z.num) y.num - 1

/-- The counter of a collective context's timeline (R115, R310). -/
def ColCtx.counter (c : ColCtx) : Nat :=
  let nums := (c.run.toList.map (·.prog.num)) ++ (c.pend.toList.map (·.num)) ++ (c.saved.map (·.prog.num))
  match nums with
  | [] => c.issued
  | n :: r => r.foldl min n - 1

/-- The counter of a system copy context's timeline (R330). -/
def Scx.counter (c : Scx) : Nat := if c.busy then c.num - 1 else c.num

/-! ### Snapshots (R326) -/

/-- What a trigger latches in every block. -/
def takeSnapshot (s : State) (seq : BitVec 32) : Snapshot :=
  let benches := (List.range 64).map (BitVec.ofNat 6)
  let quarters := (List.range 4).map (BitVec.ofNat 2)
  { seq := seq
    pcs := benches.flatMap fun b => match s.gang? b with
      | none => []
      | some g => quarters.flatMap fun c => quarters.map fun t =>
          let st := (g.cores[c.toFin]).streams[t.toFin]
          (b, c, t, st.pc, streamCounter g.cores[c.toFin] t)
    cores := benches.flatMap fun b => match s.gang? b with
      | none => []
      | some g => quarters.map fun c =>
          let k := g.cores[c.toFin]
          { bench := b, core := c, phase := k.phase, queues := k.q.toList.map fun q => q.entries.length
            copies := k.copies.length, tokens := k.tok.toList }
    commands := s.ctxs.toList.map fun x =>
      { runs := x.run.isSome, command := (x.run.map (·.pcw)).getD 0, counter := x.counter, pending := x.pend.isSome }
    fmtcnt := s.quads.toList.map fun q => q.fmt.toList.map fun r => (r.sat, r.uf)
    llcfhit := s.parts.toList.map fun p => p.llcfhit.toList
    spillLost := s.parts.toList.map fun p => p.spillLost
    pools := s.parts.toList.map fun p => (p.pool.length, p.spoilCount.toNat, p.tq.used, p.permits)
    windows := s.parts.toList.map fun p => p.windows.toList.map fun w => w.arrivals
    launches := s.vfs.toList.map fun v => (v.lq.used + v.requests.length, v.lqSeq, v.bucket)
    scx := s.scx.toList.map fun x => (x.counter, x.todo.length)
    links := (s.links.credits.toList, s.links.out.length, s.links.refusedLaunches.toList)
    htq := s.dev.htq.used }

/-- Is a trigger raised while another is in flight? It then takes that one's number (R326; log 66). -/
def State.snapInFlight (s : State) : Bool :=
  match s.dev.snapAt with
  | some t => Config.snapMerges t s.ticks
  | none => false

/-- A trigger of a source (0 SNAP, 1 debug port, 2 context-stopping fault, 3 watch match): where it is enabled and
merges with none in flight, SEQ advances, and unless LOCK holds every block latches (R326). -/
def fireTrigger (s : State) (src : Nat) : State :=
  let d := s.dev
  if d.snapEn.getLsbD src && !s.snapInFlight then
    let seq := d.snapSeq + 1
    { s with dev := { d with
        snapSeq := seq
        snapAt := some s.ticks
        snap := if d.snapLock then d.snap else some (takeSnapshot s seq) } }
  else s

/-! ### Watches (R325) -/

/-- What an access does; an update reads and writes its location in one step (R98). -/
inductive AccKind where
  | read | write | fetch | update
  deriving DecidableEq, Repr, Inhabited

/-- Does an access read its location? -/
def AccKind.reads : AccKind → Bool
  | .read | .update => true
  | .write | .fetch => false

/-- Does an access write its location? -/
def AccKind.writes : AccKind → Bool
  | .write | .update => true
  | .read | .fetch => false

/-- Does an access of `n` bytes match a watch, whose kinds are 1 read, 2 write and 3 fetch (R325)? -/
def watchMatches (d : Device) (k : AccKind) (pa n : Nat) : Bool :=
  (List.range 4).any fun i =>
    let lo := d.watchLo[i]!
    (match bits lo 62 2 with
      | 1 => k.reads
      | 2 => k.writes
      | 3 => k == .fetch
      | _ => false) &&
    decide (bits lo 0 40 < pa + n) && decide (pa ≤ (d.watchHi[i]!).toNat)

/-- The watch trigger of an access of `n` bytes (R325). -/
def watch (s : State) (k : AccKind) (pa n : Nat) : State :=
  if watchMatches s.dev k pa n then fireTrigger s 3 else s

end Sys2Proof.Machine
end

