-- ==== Sys2Proof/Machine/Memory.lean ====
section
/-! DEFINITION. Device memory: bytes in one canonical form, format regions, the LLC with its carried vectors, translation
and checked windows (08, 12). -/

namespace Sys2Proof.Machine

/-! ### Bytes in canonical form -/

/-- The byte at an address; an address not listed reads 0 (R316 step 5, R30). -/
def Memory.get : List Host.Cell → Nat → Byte
  | [], _ => 0
  | (k, x) :: r, a => if a = k then x else Memory.get r a

/-- Write a byte, keeping the addresses rising and no zero listed. -/
def Memory.set : List Host.Cell → Nat → Byte → List Host.Cell
  | [], a, v => if v = 0 then [] else [(a, v)]
  | (k, x) :: r, a, v =>
    if a < k then (if v = 0 then (k, x) :: r else (a, v) :: (k, x) :: r)
    else if a = k then (if v = 0 then r else (a, v) :: r)
    else (k, x) :: Memory.set r a v

/-- Is every listed address above a bound, the addresses rising, and no byte zero? -/
def Memory.above : Nat → List Host.Cell → Bool
  | _, [] => true
  | lo, (k, x) :: r => decide (lo ≤ k) && x != 0 && Memory.above (k + 1) r

/-- The canonical form. -/
def Memory.wf (m : List Host.Cell) : Bool := Memory.above 0 m

/-- `n` bytes from an address, little-endian (R5). -/
def Memory.read (m : List Host.Cell) (a : Nat) : Nat → Nat
  | 0 => 0
  | n + 1 => (Memory.get m a).toNat + 256 * Memory.read m (a + 1) n

/-- Write the low `n` bytes of a number, little-endian (R5). -/
def Memory.write (m : List Host.Cell) (a : Nat) : Nat → Nat → List Host.Cell
  | 0, _ => m
  | n + 1, v => Memory.write (Memory.set m a (BitVec.ofNat 8 v)) (a + 1) n (v / 256)

/-! ### HBM and format regions -/

/-- The end of HBM and the start of the format aperture (R90, R91). -/
def apertureBase : Nat := 2 ^ 39

/-- Home quadrant of a physical address (R90, R91). -/
def homeQuad (pa : Nat) : BitVec 2 := BitVec.ofNat 2 (pa / 2 ^ 37)

/-- Line number of a physical address (R90). -/
def lineOf (pa : Nat) : Nat := pa / 128

/-- Granule of an aperture address, counted within the aperture. -/
def granuleOf (pa : Nat) : Nat := (pa - apertureBase) / 2 ^ 16

/-- Does an enabled region cover the granule? -/
def FmtRegion.covers (r : FmtRegion) (g : Nat) : Bool :=
  r.en && decide (r.base.toNat ≤ g) && decide (g ≤ r.limit.toNat)

/-- The first enabled region of the home quadrant that covers an aperture address, with its number (R91). -/
def regionOf (s : State) (pa : Nat) : Option (Nat × FmtRegion) :=
  let q := s.quads[(homeQuad pa).toFin]
  ((List.range 16).zip q.fmt.toList).find? (fun e => e.2.covers (granuleOf pa))

/-- Physical byte address of a storage group of 3 bytes, and the code index in it, for an aperture address (R92). -/
def groupOf (r : FmtRegion) (pa : Nat) : Nat × Nat :=
  let off := pa - apertureBase - r.base.toNat * 2 ^ 16
  (r.store.toNat * 2 ^ 16 + 3 * (off / 4), off % 4)

/-- Decode an LG6 code to an LG8 code (R67). -/
def lg6Decode (sigma : BitVec 5) (c : BitVec 6) : Byte :=
  if c = 0x30 then 0xC0
  else c.extractLsb' 5 1 ++ BitVec.ofInt 7 ((c.extractLsb' 0 5).toInt + 4 * sigma.toInt)

/-- Encode an LG8 code: the LG6 code, and whether it saturated or became zero (R67). -/
def lg6Encode (sigma : BitVec 5) (x : Byte) : BitVec 6 × Bool × Bool :=
  if x = 0xC0 then (0x30, false, false)
  else
    let l := (x.extractLsb' 0 7).toInt - 4 * sigma.toInt
    let sign := x.getLsbD 7
    if 15 < l then (BitVec.ofBool sign ++ 15#5, true, false)
    else if l < -16 ∨ (l = -16 ∧ sign = true) then (0x30, false, true)
    else (BitVec.ofBool sign ++ BitVec.ofInt 5 l, false, false)

/-- The code stored for an aperture address. -/
def storedCode (s : State) (r : FmtRegion) (pa : Nat) : BitVec 6 :=
  let (g, k) := groupOf r pa
  BitVec.ofNat 6 (Memory.read s.mem g 3 / 2 ^ (6 * k))

/-- Store a code for an aperture address; the access to the storage may match a watch (R92, R325). -/
def storeCode (s : State) (r : FmtRegion) (pa : Nat) (c : BitVec 6) : State :=
  let (g, k) := groupOf r pa
  let v := BitVec.ofNat 24 (Memory.read s.mem g 3)
  let m := (0x3F#24) <<< (6 * k)
  let v' := (v &&& ~~~m) ||| ((c.setWidth 24) <<< (6 * k))
  { watch s .update g 3 with mem := Memory.write s.mem g 3 v'.toNat }

/-- The line of the LLC that holds a line number. -/
def llcFind (s : State) (line : Nat) : Option LlcLine := s.llc.find? (fun l => l.line == line)

/-- Replace a line of the LLC. -/
def llcUpdate (s : State) (l : LlcLine) : State :=
  { s with llc := s.llc.map (fun x => if x.line == l.line then l else x) }

/-- Is a physical address backed by HBM or by an enabled region (R91)? -/
def physExists (s : State) (pa : Nat) : Bool :=
  decide (pa < apertureBase) || (decide (pa < 2 ^ 40) && (regionOf s pa).isSome)

/-- The slice reads the LG6 storage of `n` aperture bytes from an address on, to fill a line or for an access that finds none
(R92, R325). -/
def storageLook (s : State) (pa n : Nat) : State :=
  if pa < apertureBase then s
  else
    match regionOf s pa with
    | some (_, r) => watch s .read (groupOf r pa).1 (3 * ((pa % 4 + n + 3) / 4))
    | none => s

/-- A lookup of a line by an access of a partition that fills no way: a hit on a line that another partition filled is
counted (R90). -/
def llcHit (s : State) (p : PartId) (line : Nat) : State :=
  match llcFind s line with
  | none => s
  | some l =>
    if l.part = p then s
    else
      let q := (homeQuad (128 * line)).toFin
      let pt := s.parts[p.toFin]
      { s with parts := s.parts.set p.toFin { pt with llcfhit := pt.llcfhit.set q (pt.llcfhit[q] + 1) } }

/-- One byte at a physical address, as its home slice gives it (R90, R92); 0 where nothing backs it. -/
def physByte (s : State) (pa : Nat) : Byte :=
  if pa < apertureBase then Memory.get s.mem pa
  else if pa < 2 ^ 40 then
    match regionOf s pa with
    | none => 0
    | some (_, r) =>
      match (llcFind s (lineOf pa)).bind (·.data) with
      | some d => d.extractLsb' (8 * (pa % 128)) 8
      | none => lg6Decode r.sigma (storedCode s r pa)
  else 0

/-- `n` bytes at a physical address, little-endian. -/
def physRead (s : State) (pa : Nat) : Nat → Nat
  | 0 => 0
  | n + 1 => (physByte s pa).toNat + 256 * physRead s (pa + 1) n

/-- Count an encode that saturated or became zero; the counters stop at their maximum (R92, Table 08.3). -/
def FmtRegion.count (r : FmtRegion) (sat uf : Bool) : FmtRegion :=
  { r with
    sat := if sat && r.sat != 0xFFFFFFFF then r.sat + 1 else r.sat
    uf := if uf && r.uf != 0xFFFFFFFF then r.uf + 1 else r.uf }

/-- Write one byte at a physical address at its home slice: an aperture byte is encoded and decoded as it is performed
(R92); a byte that nothing backs is discarded. -/
def physSet (s : State) (pa : Nat) (v : Byte) : State :=
  if pa < apertureBase then { s with mem := Memory.set s.mem pa v }
  else if pa < 2 ^ 40 then
    match regionOf s pa with
    | none => s
    | some (n, r) =>
      let (c, sat, uf) := lg6Encode r.sigma v
      let q := s.quads[(homeQuad pa).toFin]
      let q' := { q with fmt := q.fmt.setIfInBounds n (r.count sat uf) }
      let s := { s with quads := s.quads.set (homeQuad pa).toFin q' }
      match llcFind s (lineOf pa) with
      | some ({ data := some d, .. } : LlcLine) =>
        let sh := 8 * (pa % 128)
        let d' := (d &&& ~~~((0xFF#1024) <<< sh)) ||| (((lg6Decode r.sigma c).setWidth 1024) <<< sh)
        match llcFind s (lineOf pa) with
        | some l => llcUpdate s { l with data := some d', dirty := true }
        | none => s
      | _ => storeCode s r pa c
  else s

/-- Write the low `n` bytes of a number at a physical address. -/
def physWrite (s : State) (pa : Nat) : Nat → Nat → State
  | 0, _ => s
  | n + 1, v => physWrite (physSet s pa (BitVec.ofNat 8 v)) (pa + 1) n (v / 256)

/-- The 128 bytes of a line. -/
def physLine (s : State) (line : Nat) : BitVec 1024 := BitVec.ofNat 1024 (physRead s (128 * line) 128)

/-! ### The LLC: fills, evictions, carried vectors -/

/-- A clock as 192 bytes, entry b at byte 3b (R332). -/
def Clock.toNat (c : Clock) : Nat := c.toList.foldr (fun x n => x.toNat + 2 ^ 24 * n) 0

/-- The clock of 192 bytes. -/
def Clock.ofNat (n : Nat) : Clock := Vector.ofFn (fun i => BitVec.ofNat 24 (n / 2 ^ (24 * i.val)))

/-- The zero clock. -/
def Clock.zero : Clock := Vector.replicate 64 0

/-- Entry by entry, the larger (R109). -/
def Clock.join (a b : Clock) : Clock := Vector.ofFn (fun i => if a[i].toNat < b[i].toNat then b[i] else a[i])

/-- An entry grown by one, stopping at its maximum (R109). -/
def clockInc (x : BitVec 24) : BitVec 24 := if x = 0xFFFFFF then x else x + 1

/-- Physical address of the spill entry of a line (R332). -/
def spillEntry (p : Part) (line : Nat) : Nat := p.spillBase.toNat * 2 ^ 12 + 256 * (line % 2 ^ p.spillLog)

/-- The vector that the spill area of a partition holds for a line (R109, R332). -/
def spilled (s : State) (part : PartId) (line : Nat) : Option Clock :=
  let p := s.parts[part.toFin]
  if p.spillLog = 0 then none
  else
    let e := spillEntry p line
    let c := Memory.read s.mem (e + 8) 192
    if Memory.read s.mem e 8 = 128 * line ∧ c ≠ 0 then some (Clock.ofNat c) else none

/-- The vectors that the spill areas hold for a line, with their partitions; a refill takes them all (R109). -/
def spilledAll (s : State) (line : Nat) : List (PartId × Clock) :=
  ((List.range 64).map (BitVec.ofNat 6)).filterMap fun p => (spilled s p line).map fun c => (p, c)

/-- Count a lost vector (Table 36.8). -/
def countLost (s : State) (part : PartId) : State :=
  let p := s.parts[part.toFin]
  { s with parts := s.parts.set part.toFin { p with
      spillLost := if p.spillLost = 0xFFFFFFFFFFFFFFFF#64 then p.spillLost else p.spillLost + 1 } }

/-- The slice's access to the two lines of a line's spill entry: it looks them up for the partition of the area, fills no way,
and may match a watch (R90, R325; log 97). -/
def spillAccess (s : State) (part : PartId) (k : AccKind) (line : Nat) : State :=
  let e := spillEntry s.parts[part.toFin] line
  watch (llcHit (llcHit s part (lineOf e)) part (lineOf e + 1)) k e 256

/-- Put a vector into the spill area; a vector of another line found there is lost (R332). -/
def spill (s : State) (part : PartId) (line : Nat) (c : Clock) : State :=
  let p := s.parts[part.toFin]
  if p.spillLog = 0 then countLost s part
  else
    let e := spillEntry p line
    let taken := Memory.read s.mem (e + 8) 192 != 0 && Memory.read s.mem e 8 != 128 * line
    let s := spillAccess (if taken then countLost s part else s) part .update line
    { s with mem := Memory.write s.mem e 256 (128 * line + 2 ^ 64 * c.toNat) }

/-- Clear the spill entry of a line. -/
def unspill (s : State) (part : PartId) (line : Nat) : State :=
  let s := spillAccess s part .write line
  { s with mem := Memory.write s.mem (spillEntry s.parts[part.toFin] line) 256 0 }

/-- The slice looks for a line's vector in the spill area of a partition. -/
def spillLook (s : State) (line : Nat) (part : PartId) : State :=
  if s.parts[part.toFin].spillLog = 0 then s else spillAccess s part .read line

/-- Store the codes of a dirty aperture line (R92). -/
def writeBackLine (s : State) (l : LlcLine) : State :=
  match l.data with
  | some d =>
    if l.dirty then
      (List.range 128).foldl (fun s i =>
        match regionOf s (128 * l.line + i) with
        | some (_, r) => storeCode s r (128 * l.line + i) (lg6Encode r.sigma (d.extractLsb' (8 * i) 8)).1
        | none => s) s
    else s
  | none => s

/-- Remove a line: its codes are stored, and its vectors go to the spill areas of their partitions (R92, R109). -/
def llcEvict (s : State) (l : LlcLine) : State :=
  let s := writeBackLine s l
  let s := l.carried.foldl (fun s y => spill s y.1 l.line y.2) s
  { s with llc := s.llc.filter (fun x => x.line != l.line) }

/-- The lowest set bit of a way mask. -/
def lowestWay (m : BitVec 16) : BitVec 4 :=
  BitVec.ofNat 4 (((List.range 16).find? (fun i => m.getLsbD i)).getD 0)

/-- The way a fill takes: the free choice, where the mask has it (R90). -/
def fillWay (s : State) (m : BitVec 16) (line : Nat) : BitVec 4 :=
  let w := Config.llcWay s.ticks line
  if m.getLsbD w.toNat then w else lowestWay m

/-- Lines of 128 bytes in one of the 16 ways of a slice of 256 MiB (R14, R20, R90). -/
def linesPerWay : Nat := 2 ^ 28 / 128 / 16

/-- The lines that a fill of a way displaces: those of the free choice, and, where the way is still full, one more
(R14, R90). -/
def llcDisplaced (s : State) (w : BitVec 4) (line : Nat) : List LlcLine :=
  let held := s.llc.filter fun x => x.way = w ∧ homeQuad (128 * x.line) = homeQuad (128 * line)
  let gone := held.filter fun x => Config.llcDisplaces s.ticks line x.line
  let kept := held.filter fun x => !Config.llcDisplaces s.ticks line x.line
  if kept.length < linesPerWay then gone
  else gone ++ (kept.drop (Config.llcVictim s.ticks line % linesPerWay)).take (kept.length + 1 - linesPerWay)

/-- A lookup of a line by an access of a partition: a hit on a line that another partition filled is counted, a miss
fills a way of the partition's mask. A line stays with the partition that filled it, whatever the masks become
(R90; log 63). -/
def llcTouch (s : State) (part : Option PartId) (line : Nat) : State :=
  match part with
  | none => s
  | some p =>
    match llcFind s line with
    | some _ => llcHit s p line
    | none =>
      let m := s.parts[p.toFin].llcway[(homeQuad (128 * line)).toFin]
      if m = 0 then s
      else
        let w := fillWay s m line
        let s := (llcDisplaced s w line).foldl llcEvict s
        let c := spilledAll s line
        let s := ((List.range 64).map (BitVec.ofNat 6)).foldl (spillLook · line) s
        let s := storageLook (c.foldl (fun s y => unspill s y.1 line) s) (128 * line) 128
        let d := if 128 * line < apertureBase then none else some (physLine s line)
        { s with llc := { line := line, part := p, way := w, carried := c, data := d, dirty := false } :: s.llc }

/-- The vector that a line carries for a partition: clocks never cross a partition boundary, so an acquire joins only
what its own partition released (R109, R148). -/
def carried (s : State) (part : PartId) (line : Nat) : Option Clock :=
  match llcFind s line with
  | some l => (l.carried.find? fun y => y.1 == part).map (·.2)
  | none => spilled s part line

/-- A vector that an access takes from a line that the LLC does not hold is looked for in the spill area (R109, R325). -/
def carriedLook (s : State) (part : PartId) (line : Nat) : State :=
  match llcFind s line with
  | some _ => s
  | none => spillLook s line part

/-- Give a line a vector to carry for a partition (R109). -/
def setCarried (s : State) (part : PartId) (line : Nat) (c : Clock) : State :=
  match llcFind s line with
  | some l => llcUpdate s { l with carried := (part, c) :: l.carried.filter fun y => y.1 != part }
  | none => spill s part line c

/-- Take the vector of a line for a partition away. -/
def clearCarried (s : State) (part : PartId) (line : Nat) : State :=
  match llcFind s line with
  | some l => llcUpdate s { l with carried := l.carried.filter fun y => y.1 != part }
  | none => if (spilled s part line).isSome then unspill s part line else s

/-! ### Translation -/

/-- Why an access is not performed: page-fault with its stage and level, protection, or race with the conflicting
shadow entry. -/
inductive MemFault where
  | page (stage level : Nat)
  | prot
  | race (entry : Word)
  deriving DecidableEq, Repr, Inhabited

/-- Who accesses memory: TLB, partition, roots (none: physical addresses), bench whose clock orders the access, and
whether R110, which speaks of benches, passes the access by (log 18). -/
structure Who where
  unit : Nat
  part : Option PartId
  root1 : Option Word
  root2 : Word
  en2 : Bool
  bench : Option BenchId
  unraced : Bool := false
  deriving DecidableEq, Repr, Inhabited

/-- A leaf found by a walk: page address, permissions, CHK. -/
structure Leaf where
  pa : Nat
  rd : Bool
  wr : Bool
  ex : Bool
  chk : Bool
  deriving DecidableEq, Repr, Inhabited

/-- The levels of R93: number, lowest address bit, index bits. -/
def walkLevels : List (Nat × Nat × Nat) := [(0, 39, 9), (1, 30, 9), (2, 21, 9), (3, 16, 5)]

/-- Does a walk of a stage refuse a table entry, whatever its level (R94, Table 08.4)? CHK where it may not stand counts as a
reserved field (log 98). -/
def entryBad (stage : Nat) (e : Word) : Bool :=
  !bit e 0 || bits e 52 12 != 0 || bits e 6 2 != 0 || bits e 40 12 != 0 || (bit e 5 && (stage == 1 || !bit e 1))

/-- Is a leaf not permitted at a level whose pages have `lo` address bits, or misaligned (R93, R94)? -/
def leafBad (lv lo addr : Nat) : Bool := lv == 0 || addr % 2 ^ lo != 0

/-- What reading a table, or walking, comes to: a result or a fault, and the state with the reads of tables performed. -/
abbrev Walked (α : Type) := Except MemFault α × State

/-- Walk tables from a root: `rd` reads an entry of a table (R93, R94, Table 08.4). `stage` is 0 or 1. The
permissions are those of the leaf: RD, WR and EX of an entry that points to a table restrict nothing (log 99). -/
def walk (rd : State → Nat → Walked Word) (stage va : Nat) : State → Nat → List (Nat × Nat × Nat) → Walked Leaf
  | s, _, [] => (.error (.page stage 3), s)
  | s, table, (lv, lo, n) :: rest =>
    match rd s (table + 8 * (va / 2 ^ lo % 2 ^ n)) with
    | (.error f, s) => (.error f, s)
    | (.ok e, s) =>
      let addr := bits e 8 44 * 2 ^ 8
      if entryBad stage e then (.error (.page stage lv), s)
      else if bit e 1 then
        if leafBad lv lo addr then (.error (.page stage lv), s)
        else (.ok { pa := addr + va % 2 ^ lo, rd := bit e 2, wr := bit e 3, ex := bit e 4, chk := bit e 5 }, s)
      else if lv = 3 then (.error (.page stage lv), s)
      else walk rd stage va s addr rest

/-- The slice looks up the line of an access of `n` bytes from an address on; where the line is not held then, it reads the
storage behind the bytes (R90, R92). -/
def llcServe (s : State) (part : Option PartId) (pa n : Nat) : State :=
  let s := llcTouch s part (lineOf pa)
  if (llcFind s (lineOf pa)).isSome then s else storageLook s pa n

/-- An access of `n` bytes that may be performed passes its home slice, where it may match a watch (R90, R325). -/
def atHome (s : State) (part : Option PartId) (k : AccKind) (pa n : Nat) : State :=
  watch (if k = .write then llcTouch s part (lineOf pa) else llcServe s part pa n) k pa n

/-- Read a doubleword of a table at a physical address, at its home slice (R90). -/
def tableRead (part : Option PartId) (s : State) (pa : Nat) : Walked Word :=
  if physExists s pa then
    let s := atHome s part .read pa 8
    (.ok (BitVec.ofNat 64 (physRead s pa 8)), s)
  else (.error .prot, s)

/-- Stage 2 (R94). -/
def stage2 (s : State) (w : Who) (ipa : Nat) : Walked Leaf :=
  if w.en2 then walk (tableRead w.part) 1 ipa s w.root2.toNat walkLevels else (.error .prot, s)

/-- An entry of a stage-1 table, whose address stage 2 translates (R94). -/
def guestTableRead (w : Who) (s : State) (a : Nat) : Walked Word :=
  match stage2 s w a with
  | (.error f, s) => (.error f, s)
  | (.ok l, s) => if l.rd then tableRead w.part s l.pa else (.error .prot, s)

/-- The leaf of both stages: the address that stage 2 gives, with the permissions of both; CHK is stage 1's (R94). -/
def Leaf.both (l1 l2 : Leaf) : Leaf :=
  { pa := l2.pa, rd := l1.rd && l2.rd, wr := l1.wr && l2.wr, ex := l1.ex && l2.ex, chk := l1.chk }

/-- Both stages: the physical address with the permissions of both (R94). -/
def twoStage (s : State) (w : Who) (root1 : Word) (va : Nat) : Walked Leaf :=
  match walk (guestTableRead w) 0 va s root1.toNat walkLevels with
  | (.error f, s) => (.error f, s)
  | (.ok l1, s) =>
    match stage2 s w l1.pa with
    | (.error f, s) => (.error f, s)
    | (.ok l2, s) => (.ok (l1.both l2), s)

/-- Is a TLB entry the one for a page of a unit under its roots? -/
def TlbEntry.hits (t : TlbEntry) (w : Who) (root1 : Word) (vpage : Nat) : Bool :=
  t.unit == w.unit && t.root1 == root1 && t.root2 == w.root2 && t.vpage == vpage

/-- The TLB entry of a walk's result. -/
def tlbOf (w : Who) (root1 : Word) (va : Nat) (l : Leaf) : TlbEntry :=
  { unit := w.unit, root1 := root1, root2 := w.root2, vpage := va / 2 ^ 16, ppage := l.pa / 2 ^ 16,
    rd := l.rd, wr := l.wr, ex := l.ex, chk := l.chk }

/-- A device virtual address is translated, through the unit's TLB; a changed table entry takes effect only after the TLBs
are invalidated (R93, R94). The page fault of a nonzero VA[63:48], for which nothing is walked, reports stage 0 and level
0 (log 63). -/
def translation (s : State) (w : Who) (va : Word) : Walked Leaf :=
  match w.root1 with
  | none =>
    if va.toNat < 2 ^ 40 then (.ok { pa := va.toNat, rd := true, wr := true, ex := true, chk := false }, s)
    else (.error .prot, s)
  | some root1 =>
    if bits va 48 16 ≠ 0 then (.error (.page 0 0), s)
    else if !w.en2 then (.error .prot, s)
    else
      match s.tlb.find? (fun t => t.hits w root1 (va.toNat / 2 ^ 16)) with
      | some t =>
        (.ok { pa := t.ppage * 2 ^ 16 + va.toNat % 2 ^ 16, rd := t.rd, wr := t.wr, ex := t.ex, chk := t.chk }, s)
      | none =>
        match twoStage s w root1 va.toNat with
        | (.error f, s) => (.error f, s)
        | (.ok l, s) => (.ok l, { s with tlb := tlbOf w root1 va.toNat l :: s.tlb })

/-- The result of a translation that finds a leaf, or its fault. -/
def translate (s : State) (w : Who) (va : Word) : Except MemFault (Leaf × State) :=
  match translation s w va with
  | (.error f, _) => .error f
  | (.ok l, s) => .ok (l, s)

/-! ### Checked windows -/

/-- Physical address of the shadow of an address of a checked page (R95). -/
def shadowAddr (p : Part) (pa : Nat) : Nat :=
  p.shbase.toNat * 2 ^ 12 + (lineOf pa * 128 - p.shlo.toNat * 2 ^ 16) / 4

/-- Is the entry (bench, clock) ordered before an access by a bench (R110)? An access by an agent with no clock is
ordered after none. -/
def ordered (s : State) (b : Option BenchId) (e : BitVec 32) : Bool :=
  let eb := (e.extractLsb' 26 6).toNat
  let k := (e.extractLsb' 0 24).toNat
  match b with
  | none => false
  | some b => eb == b.toNat || (decide (k < 2 ^ 24 - 1) && decide (k ≤ (s.clocks[b.toFin])[eb]!.toNat))

/-- The writer word of a shadow entry with bench and clock in the reader layout. -/
def writerEntry (sh : BitVec 256) : BitVec 32 := sh.extractLsb' 24 6 ++ (0#2 ++ sh.extractLsb' 0 24)

/-- The reader slot that a read takes: the one of its bench, a free one, one whose entry is ordered; of several the
lowest-numbered (R110; log 83). -/
def readerSlot (s : State) (b : BenchId) (sh : BitVec 256) : Option Nat :=
  let slot (i : Nat) : BitVec 32 := sh.extractLsb' (32 + 32 * i) 32
  let valid (i : Nat) : Bool := sh.getLsbD (160 + i)
  let is := List.range 4
  (is.find? (fun i => valid i && (slot i).extractLsb' 26 6 == b)).or
    ((is.find? (fun i => !valid i)).or (is.find? (fun i => ordered s (some b) (slot i))))

/-- The check of R110 on one granule: the conflicting entry, or the state with the shadow read, and advanced where a bench
makes the access, at its home slice (R90, R325). `atomic`: the access is an AMO, CAS, LDA or STRL; such accesses are not
checked against one another, nor against an overflow that only they caused. Of several conflicting readers the fault names
that of the lowest slot (log 83). A shadow that SHBASE places in the format aperture is kept as plain bytes (log 101). -/
def raceCheck (s : State) (part : PartId) (b : Option BenchId) (pa : Nat) (write atomic : Bool) :
    Except Word State :=
  let p := s.parts[part.toFin]
  let sa := shadowAddr p pa
  let old := BitVec.ofNat 256 (Memory.read s.mem sa 32)
  let sh := if old.extractLsb' 165 16 = p.gen then old else 0
  let marks := ((s.atomicMarks.find? (fun m => m.1 == sa)).map (·.2)).getD 0
  let skip (i : Nat) : Bool := atomic && marks.getLsbD i
  let slot (i : Nat) : BitVec 32 := sh.extractLsb' (32 + 32 * i) 32
  let wbad := sh.getLsbD 30 && !skip 4 && !ordered s b (writerEntry sh)
  let rbad := (List.range 4).find? (fun i => sh.getLsbD (160 + i) && !skip i && !ordered s b (slot i))
  if wbad then .error ((sh.extractLsb' 0 32).setWidth 64)
  else if write && rbad.isSome then .error ((slot (rbad.getD 0)).setWidth 64)
  else if write && sh.getLsbD 164 && !skip 5 then .error (Config.unstated s.ticks 0)
  else
    match b with
    | none => .ok (atHome s (some part) .read sa 32)
    | some b =>
      let s := atHome s (some part) .update sa 32
      let clk := (s.clocks[b.toFin])[b.toFin]
      let gen : BitVec 256 := (p.gen.setWidth 256) <<< 165
      let put (sh : BitVec 256) (mk : BitVec 6) : State :=
        { s with
          mem := Memory.write s.mem sa 32 (sh ||| gen).toNat
          atomicMarks := (sa, mk) :: s.atomicMarks.filter (fun m => m.1 != sa) }
      let clear (sh : BitVec 256) (lo n : Nat) : BitVec 256 :=
        sh &&& ~~~((BitVec.ofNat 256 (2 ^ n - 1)) <<< lo)
      let keep := clear sh 165 91
      if write then
        let e : BitVec 32 := 0b01#2 ++ (b ++ clk)
        .ok (put ((clear (clear keep 160 5) 0 32) ||| e.setWidth 256) (if atomic then 0b010000 else 0))
      else
        match readerSlot s b sh with
        | some i =>
          let e : BitVec 32 := b ++ (0#2 ++ clk)
          .ok (put ((clear (clear keep (32 + 32 * i) 32) (160 + i) 1) |||
              ((e.setWidth 256) <<< (32 + 32 * i)) ||| ((1#256) <<< (160 + i)))
            ((marks &&& ~~~((1#6) <<< i)) ||| ((if atomic then 1#6 else 0) <<< i)))
        | none =>
          let first := !sh.getLsbD 164
          .ok (put (keep ||| ((1#256) <<< 164))
            (if atomic then (if first then marks ||| 0b100000 else marks) else marks &&& 0b011111))

/-! ### Accesses -/

/-- Check an access of one naturally aligned unit and find its physical address: translation, permission, region,
shadow bounds, race (R93-R95, R110). The state returned has the unit's TLB and the shadow advanced, and the table reads
of a walk performed; the lookup of the unit itself in the LLC is `llcTouch`. A fetch is checked against no shadow and
recorded in none (log 64). -/
def access (s : State) (w : Who) (va : Word) (k : AccKind) (atomic : Bool) : Except MemFault (Nat × State) :=
  match translate s w va with
  | .error f => .error f
  | .ok (l, s) =>
    let okPerm := match k with
      | .read => l.rd
      | .write => l.wr
      | .update => l.rd && l.wr
      | .fetch => l.ex
    if !okPerm || !physExists s l.pa then .error .prot
    else
      match w.part with
      | some part =>
        let p := s.parts[part.toFin]
        if l.chk && k != .fetch then
          if l.pa / 2 ^ 16 < p.shlo.toNat ∨ p.shhi.toNat < l.pa / 2 ^ 16 then .error .prot
          else if w.unraced then .ok (l.pa, s)
          else
            match raceCheck s part w.bench l.pa k.writes atomic with
            | .error e => .error (.race e)
            | .ok s => .ok (l.pa, s)
        else .ok (l.pa, s)
      | none => .ok (l.pa, s)

/-- Did an access meet a race? -/
def MemFault.raced : MemFault → Bool
  | .race _ => true
  | .page _ _ | .prot => false

/-- The state that an access leaves which is not performed: its table reads are, and, where it met a race, the read of the
shadow (R90, R94, R325). -/
def missed (s : State) (w : Who) (va : Word) (raced : Bool) : State :=
  match translation s w va, w.part with
  | (.ok l, s), some p => if raced then atHome s (some p) .read (shadowAddr s.parts[p.toFin] l.pa) 32 else s
  | (_, s), _ => s

end Sys2Proof.Machine
end

