-- ==== Sys2Proof/Machine/Ops.lean ====
section
/-! DEFINITION. The named operations over the state: registers of streams and cores, raising a fault and returning from
it, loops and control transfer, stop records (02, 04, 16, 18). -/

namespace Sys2Proof.Machine

/-! ### Gangs, cores, streams -/

/-- What a PSEL prefix selects for the words of its bundle: whether a false stage predicate keeps them from issuing, the
selecting predicate if any, and Z (R247). -/
structure Sel where
  blocked : Bool := false
  pred : Option Pred := none
  zero : Bool := false
  deriving DecidableEq, Repr, Inhabited

/-- Where a word is performed: bench, core, stream, address of the word (in CP, of its bundle), address that follows,
slot (R155), the word's own address, the selection, and the core before the bundle, whose rings its words read (R52). -/
structure Ctx where
  b : BenchId
  c : CoreId
  t : StreamId
  pc : Word
  next : Word
  slot : Nat
  word : Word
  sel : Sel := {}
  rings : Option Core := none
  deriving DecidableEq, Repr, Inhabited

/-- Put a gang on a bench, or free it. -/
def State.setGang (s : State) (b : BenchId) (g : Option Gang) : State := { s with benches := s.benches.set b.toFin g }

/-- The gang on a bench; an arbitrary one where there is none. -/
def State.gang (s : State) (b : BenchId) : Gang := (s.gang? b).getD default

/-- Change the gang on a bench. -/
def State.updGang (s : State) (b : BenchId) (f : Gang → Gang) : State :=
  match s.gang? b with
  | some g => s.setGang b (some (f g))
  | none => s

/-- Is there a gang on a bench that neither a halt nor a trap of its own has stopped? -/
def State.moving (s : State) (b : BenchId) : Bool :=
  match s.gang? b with
  | some g => !g.halted && g.stop == .none && !g.leaving
  | none => false

/-- A core of the gang on a bench. -/
def State.core (s : State) (b : BenchId) (c : CoreId) : Core := (s.gang b).cores[c.toFin]

/-- Change a core. -/
def State.updCore (s : State) (b : BenchId) (c : CoreId) (f : Core → Core) : State :=
  s.updGang b fun g => { g with cores := g.cores.set c.toFin (f g.cores[c.toFin]) }

/-- A stream of a core. -/
def State.stream (s : State) (b : BenchId) (c : CoreId) (t : StreamId) : Stream := (s.core b c).streams[t.toFin]

/-- Change a stream. -/
def State.updStream (s : State) (b : BenchId) (c : CoreId) (t : StreamId) (f : Stream → Stream) : State :=
  s.updCore b c fun k => { k with streams := k.streams.set t.toFin (f k.streams[t.toFin]) }

/-- The stream of a context. -/
abbrev Ctx.st (x : Ctx) (s : State) : Stream := s.stream x.b x.c x.t

/-- The core of a context. -/
abbrev Ctx.core (x : Ctx) (s : State) : Core := s.core x.b x.c

/-- The gang of a context. -/
abbrev Ctx.gang (x : Ctx) (s : State) : Gang := s.gang x.b

/-- Change the stream of a context. -/
abbrev Ctx.upd (x : Ctx) (s : State) (f : Stream → Stream) : State := s.updStream x.b x.c x.t f

/-- Change the core of a context. -/
abbrev Ctx.updCore (x : Ctx) (s : State) (f : Core → Core) : State := s.updCore x.b x.c f

/-- The partition of a number. -/
abbrev State.part (s : State) (p : PartId) : Part := s.parts[p.toFin]

/-- Change a partition. -/
def State.updPart (s : State) (p : PartId) (f : Part → Part) : State :=
  { s with parts := s.parts.set p.toFin (f s.parts[p.toFin]) }

/-- The virtual function of a number; 96 and above do not exist. -/
def State.vf (s : State) (v : VfId) : Vf := s.vfs[v.toNat]?.getD {}

/-- Change a virtual function. -/
def State.updVf (s : State) (v : VfId) (f : Vf → Vf) : State :=
  { s with vfs := s.vfs.setIfInBounds v.toNat (f (s.vf v)) }

/-! ### Scalar, flag and branch-target registers (R45) -/

/-- Read s_i; s0 reads zero. -/
def Stream.sreg (st : Stream) (i : BitVec 5) : Word := if i = 0 then 0 else st.s[i.toFin]

/-- Write s_i; a write of s0 is discarded. -/
def Stream.setS (st : Stream) (i : BitVec 5) (v : Word) : Stream :=
  if i = 0 then st else { st with s := st.s.set i.toFin v }

/-- Read f_i; f0 reads true. -/
def Stream.flag (st : Stream) (i : Nat) : Bool := i == 0 || st.f.getLsbD i

/-- Write f_i; a write of f0 is discarded. -/
def Stream.setF (st : Stream) (i : BitVec 3) (v : Bool) : Stream :=
  if i = 0 then st
  else
    let m : BitVec 8 := 1#8 <<< i.toNat
    { st with f := if v then st.f ||| m else st.f &&& ~~~m }

/-- Read b_i. -/
def Stream.breg (st : Stream) (i : BitVec 3) : Word := st.b[i.toFin]

/-- Write b_i. -/
def Stream.setB (st : Stream) (i : BitVec 3) (v : Word) : Stream := { st with b := st.b.set i.toFin v }

/-- The flag predicate of a stream (R158). -/
def Stream.pred (st : Stream) (q : BitVec 4) : Bool := flagQ st.flag q

/-! ### Results of a word's effect -/

/-- A fault as its word raises it: cause, ADDR, AUX0, AUX1 (Tables 16.1 to 16.3). -/
structure Trap where
  cause : Nat
  addr : Word := 0
  aux0 : Word := 0
  aux1 : Word := 0
  deriving DecidableEq, Repr, Inhabited

/-- What the effect of a word comes to. -/
inductive Res where
  /-- performed; the stream goes on at the next word -/
  | ok (s : State)
  /-- a vector or special-function word performed, with the entry it pushes into its slot's ring (R52) -/
  | ring (s : State) (entry : Option Tile)
  /-- performed; a taken branch, with LINK or without -/
  | jump (s : State) (target : Word) (link : Bool)
  /-- performed; a loop that runs no iteration goes on past its body -/
  | skip (s : State) (target : Word)
  /-- waits; the word is performed again -/
  | stay (s : State)
  /-- performed, and the stream does not go on by itself -/
  | halt (s : State)
  /-- a fault found at issue -/
  | trap (t : Trap)
  /-- a fault found at issue after accesses to device memory; the state has these, and no effect of the word (R11, R90) -/
  | fault (s : State) (t : Trap)
  /-- a fault of a device-memory access, found after issue (R335); the state has the word's accesses, as far as they came -/
  | late (s : State) (t : Trap)
  /-- a page fault at an address: stage and level (R139); the state has the word's accesses, as far as they came -/
  | page (s : State) (va : Word) (stage level : Nat)
  /-- performed, and then TRAP or BRK stops the stream (R132) -/
  | after (s : State) (t : Trap)
  /-- a word of a masked group: 0 D, 1 CK, 2 COL (R140) -/
  | masked (group : Nat)
  /-- a group-D word on a lean die (R128) -/
  | migrate

/-- illegal-operand, cause 0x03. -/
def illegalOperand : Res := .trap { cause := 0x03 }
/-- illegal-instruction, cause 0x01. -/
def illegalInstruction : Res := .trap { cause := 0x01 }

/-! ### Accesses at the home slice (R90, R325) -/

/-- An access of `n` bytes at its home slice: the physical address and the state with LLC, shadow and watch advanced. -/
def homeAccess (s : State) (w : Who) (va : Word) (n : Nat) (k : AccKind) (atomic : Bool) : Except MemFault (Nat × State) :=
  match access s w va k atomic with
  | .error f => .error f
  | .ok (pa, s) => .ok (pa, atHome s w.part k pa n)

/-! ### The halt line and stop records (R132-R136) -/

/-- A context-stopping fault raises the halt line of its partition: the first fills the halt summary and takes the next
sequence number (R132, R133); every one is a trigger (R326). The flag says that this fault raised the line. -/
def raiseHalt (s : State) (p : PartId) (cause unit : Nat) (b : BenchId) (c : CoreId) (t : StreamId) : State × Bool :=
  if (s.part p).halt = .none ∨ (s.part p).halt = .resuming then
    (fireTrigger (s.updPart p fun q => { q with
        halt := .raised, hcause := BitVec.ofNat 8 cause, hunit := BitVec.ofNat 4 unit, hbench := b, hcore := c
        hstream := t, hseq := if q.hseq = 0xFFFFFFFF then 1 else q.hseq + 1 }) 2, true)
  else (fireTrigger s 2, false)

/-- A unit of the gang on a bench has raised a context-stopping fault: the earliest in a halt gives an ABORT its code
(R137). -/
def State.blame (s : State) (b : BenchId) (cause : Nat) : State :=
  s.updGang b fun g => { g with haltCause := g.haltCause.or (some cause) }

/-- TAKING A CONTEXT-STOPPING FAULT in a stream: the stream stops at `pc` with the fault's record to be written, and
the halt line of its partition is raised (R11, R131, R132). -/
def takeFault (s : State) (b : BenchId) (c : CoreId) (t : StreamId) (slot : Nat) (pc : Word) (f : Trap) : State :=
  let (s, first) := raiseHalt s (s.gang b).part f.cause 0 b c t
  (s.blame b f.cause).updStream b c t fun st => { st with
    pc := pc
    bundle := []
    wait := .none
    fault := some { first := first, cause := f.cause, slot := slot, pc := pc, addr := f.addr, aux0 := f.aux0,
                    aux1 := f.aux1 } }

/-- Taking a fault in a copy: the copy is abandoned, and the halt line is raised (R132, R237). -/
def takeCopyFault (s : State) (b : BenchId) (c : CoreId) (k : Copy) (f : Trap) : State × Copy :=
  let (s, first) := raiseHalt s (s.gang b).part f.cause 1 b c k.stream
  (s.blame b f.cause, { k with
    state := .abandoned
    fault := some { first := first, cause := f.cause, slot := 0, pc := k.pc, addr := f.addr, aux0 := f.aux0,
                    aux1 := f.aux1 } })

/-- The fields of a stop record (Table 16.2). -/
structure StopRecord where
  cause : Nat
  unit : Nat
  stream : StreamId := 0
  core : CoreId := 0
  bench : BenchId := 0
  slot : Nat := 0
  replay : Bool := false
  first : Bool := false
  seq : BitVec 32 := 0
  pc : Word := 0
  addr : Word := 0
  kiter : BitVec 32 := 0
  phase : BitVec 32 := 0
  kn : Word := 0
  s5 : Word := 0
  aux0 : Word := 0
  aux1 : Word := 0
  deriving DecidableEq, Repr

/-- The 64 bytes of a stop record (Table 16.2). -/
def StopRecord.toBits (r : StopRecord) : BitVec 512 :=
  let s0 : BitVec 64 := BitVec.ofNat 8 r.cause ++ (BitVec.ofNat 4 r.unit ++ (r.stream ++ (r.core ++ (r.bench ++
    (BitVec.ofNat 3 r.slot ++ (BitVec.ofBool r.replay ++ (BitVec.ofBool r.first ++ (0#5 ++ r.seq))))))))
  r.aux1 ++ (r.aux0 ++ (r.s5 ++ (r.kn ++ ((r.kiter ++ r.phase) ++ (r.addr ++ (r.pc ++ s0))))))

/-- A write by the device itself at a physical address, for a partition or for none. -/
def devWrite (s : State) (p : Option PartId) (pa n v : Nat) : State := physWrite (atHome s p .write pa n) pa n v

/-- Write a record at the tail of a ring, for a partition or for the hypervisor (R136, R141). -/
def ringPut (s : State) (p : Option PartId) (r : Ring) (rec : BitVec 512) : State :=
  devWrite s p (r.base.toNat * 2 ^ 12 + 64 * (r.tail.toNat % 2 ^ r.log2n)) 64 rec.toNat

/-- Is the accelerator-trap interrupt of a partition asserted (R23, R136)? -/
def Part.trapPending (p : Part) : Bool := p.tq.head != p.tq.tail

/-- Is the hypervisor-trap interrupt asserted (R141)? -/
def Device.trapPending (d : Device) : Bool := d.htq.head != d.htq.tail

/-- Write a record of a partition: a replayable one uses only the first 2^LOG2N - 2 entries; another that finds no entry
is lost (R136). The flag says that the record was written. -/
def trapRecord (s : State) (p : PartId) (rec : StopRecord) : State × Bool :=
  let r := (s.part p).tq
  if r.used < 2 ^ r.log2n - (if rec.replay then 2 else 0) then
    ((ringPut s (some p) r rec.toBits).updPart p fun q => { q with tq := { q.tq with tail := q.tq.tail + 1 } }, true)
  else if rec.replay then (s, false)
  else (s.updPart p fun q => { q with lost := true }, false)

/-- The innermost active KLOOP. -/
def Stream.kloop? (st : Stream) : Option LoopFrame := st.loops.find? (·.kloop)

/-- P bits of a list of faces, bit i for face i. -/
def pendingBits {α : Type} (n : Nat) (l : List (Face α)) : BitVec n :=
  BitVec.ofNat n (l.foldr (fun f k => (if f.pending then 1 else 0) + 2 * k) 0)

/-- S5 of a stop record: P bits and the copies of the stream outstanding (Table 16.2). PV gives those of v24 to v31 by
physical register, as AUX1 of a double write does, whatever RB (log 102). -/
def Core.s5 (k : Core) (t : StreamId) : Word :=
  let n := (k.copies.filter (fun y => y.stream == t)).length
  pendingBits 32 k.v.toList ++ (pendingBits 8 k.p.toList ++ (pendingBits 8 k.c.toList ++ (BitVec.ofNat 6 n ++ 0#10)))

/-- SEQ of a record of a partition: the number of the halt, 0 outside one (R134, R336). -/
def haltSeq (s : State) (p : PartId) : BitVec 32 := if (s.part p).halt = .none then 0 else (s.part p).hseq

/-- A stop record of a stream, or of a copy that a stream issued (Table 16.2). -/
def streamRecord (k : Core) (b : BenchId) (c : CoreId) (t : StreamId) (unit : Nat) (i : StopInfo) : StopRecord :=
  let fr := (k.streams[t.toFin]).kloop?
  { cause := i.cause, unit := unit, stream := t, core := c, bench := b, slot := i.slot, first := i.first
    pc := i.pc, addr := i.addr, phase := k.phase
    kiter := (fr.map (fun f => BitVec.ofNat 32 f.iter)).getD 0
    kn := (fr.map (fun f => BitVec.ofNat 64 f.n)).getD 0
    s5 := k.s5 t, aux0 := i.aux0, aux1 := i.aux1 }

/-- A page fault of a stream: with room for its record the stream waits for REPLAY, else the access is tried again
(R136, R139). -/
def takePageFault (s : State) (x : Ctx) (va : Word) (stage level : Nat) : State :=
  let rec' := { streamRecord (x.core s) x.b x.c x.t 0
      { cause := 0x10, slot := 0, pc := x.pc, addr := va, aux0 := BitVec.ofNat 64 (stage * 2 ^ 63 + level), aux1 := 0 } with
    replay := true, seq := haltSeq s (x.gang s).part }
  let (s', ok) := trapRecord s (x.gang s).part rec'
  if ok then x.upd s' fun st => { st with wait := .pageFault } else s

/-- Write a record of the hypervisor's trap queue; the flag says that the queue had room (R141). -/
def hvRecord (s : State) (rec : BitVec 512) : State × Bool :=
  if s.dev.htq.used < 2 ^ s.dev.htq.log2n then
    let s := ringPut s none s.dev.htq rec
    ({ s with dev := { s.dev with htq := { s.dev.htq with tail := s.dev.htq.tail + 1 } } }, true)
  else (s, false)

/-- The record of a gang stopped by masked-feature on a bench, if it is not yet written (R140, R336). -/
def Gang.maskedRecord (g : Gang) (b : BenchId) : Option (BitVec 512) :=
  match g.stop with
  | .masked c t i false => some ({ streamRecord g.cores[c.toFin] b c t 0 i with first := false } : StopRecord).toBits
  | _ => none

/-- A masked-feature stop whose record is written, or is kept by the device. -/
def GangStop.recorded : GangStop → GangStop
  | .masked c t i _ => .masked c t i true
  | g => g

/-- Write the record of a gang stopped by masked-feature, where the hypervisor's queue has room (R140, R141, R336). -/
def recordMasked (s : State) (b : BenchId) : State :=
  match (s.gang b).maskedRecord b with
  | some rec =>
    let (s', ok) := hvRecord s rec
    if ok then s'.updGang b fun g => { g with stop := g.stop.recorded } else s
  | none => s

/-- Before a gang stopped by masked-feature goes on, retires or leaves its bench, the device takes over the record that
it holds: no record is lost (R141). -/
def keepRecord (s : State) (b : BenchId) : State :=
  match (s.gang b).maskedRecord b with
  | some rec =>
    { s with dev := { s.dev with held := s.dev.held ++ [rec] } }.updGang b fun g => { g with stop := g.stop.recorded }
  | none => s

/-- Write the records that the device has taken over, oldest first, while the hypervisor's queue has room (R141). -/
def writeHeld : List (BitVec 512) → State → State
  | [], s => s
  | rec :: r, s =>
    let (s', ok) := hvRecord s rec
    if ok then writeHeld r { s' with dev := { s'.dev with held := r } } else s

/-- The masked-feature trap: the gang stops at the word (R140). -/
def takeMasked (s : State) (x : Ctx) (slot group : Nat) : State :=
  let g := x.gang s
  let aux0 : Word := BitVec.ofNat 64 (g.part.toNat + 2 ^ 8 * g.vf.toNat)
  let i : StopInfo := { cause := 0x19, slot := slot, pc := x.pc, addr := 0, aux0 := aux0, aux1 := BitVec.ofNat 64 group }
  let s := x.upd s fun st => { st with pc := x.pc, bundle := [] }
  recordMasked (s.updGang x.b fun g => { g with stop := .masked x.c x.t i false }) x.b

/-- The migrate trap: the gang stops and holds its bench (R128). -/
def takeMigrate (s : State) (x : Ctx) (slot : Nat) : State :=
  let s := x.upd s fun st => { st with pc := x.pc, bundle := [] }
  s.updGang x.b fun g => { g with stop := .migrate x.c slot }

/-! ### Fetch, and accesses that fail -/

/-- Who a stream is to memory. -/
def whoStream (s : State) (b : BenchId) (c : CoreId) : Who :=
  let g := s.gang b
  let v := s.vf g.vf
  { unit := 4 * b.toNat + c.toNat, part := some g.part, root1 := some g.root
    root2 := (v.s2root.setWidth 64) <<< 12, en2 := v.s2en, bench := some b }

/-- Fetch the word at an address: its bits, where the checks of R152 hold. -/
def fetchWord (s : State) (w : Who) (a : Word) : Option (IWord × State) :=
  if bits a 48 16 ≠ 0 ∨ bits a 0 2 ≠ 0 then none
  else
    match homeAccess s w a 4 .fetch false with
    | .error _ => none
    | .ok (pa, s') => some (BitVec.ofNat 32 (physRead s' pa 4), s')

/-- The state that a fetch leaves which fails: the table reads of its walk are performed (R90, R152). -/
def fetchMissed (s : State) (w : Who) (a : Word) : State := if bits a 0 2 = 0 then missed s w a false else s

/-- The state that a look at a word of code leaves (R90). -/
def fetchLook (s : State) (w : Who) (a : Word) : State := match fetchWord s w a with
  | some (_, s) => s
  | none => fetchMissed s w a

/-- Is a target fetchable (R152)? Of the look at a target, and of a word refused at issue, the LLC shows nothing
(log 63). -/
def fetchable (s : State) (w : Who) (a : Word) : Bool := (fetchWord s w a).isSome

/-! ### Loops and control transfer (R183-R185) -/

/-- Iterations that a loop runs (R40, R183). -/
def LoopFrame.total (f : LoopFrame) : Nat :=
  if f.kloop then (if f.n = 0 then 0 else f.n + f.stages - 1) else f.n

/-- Stage predicates in an iteration: k_j true exactly when j < S and 0 ≤ i - j < N (R40). -/
def LoopFrame.preds (f : LoopFrame) : BitVec 8 :=
  BitVec.ofNat 8 (((List.range 8).filter
    (fun j => decide (j < f.stages) && decide (j ≤ f.iter) && decide (f.iter - j < f.n))).foldl (fun a j => a + 2 ^ j) 0)

/-- The start of an iteration: stage predicates and stage flags (R40, R184). -/
def Stream.startIter (st : Stream) (f : LoopFrame) : Stream :=
  if f.kloop then
    let k := f.preds
    let n := min f.stages 7
    let m : BitVec 8 := BitVec.ofNat 8 ((2 ^ n - 1) * 2)
    { st with k := k, f := (st.f &&& ~~~m) ||| ((k <<< 1) &&& m) }
  else st

/-- Leave a loop: outside a KLOOP every k is false (R40). -/
def Stream.leave (st : Stream) (f : LoopFrame) : Stream := if f.kloop then { st with k := 0 } else st

/-- The innermost loop's iteration is over and its flip, if any, is done: the next iteration starts, or the loop ends
and its end is looked at in the next enclosing loop. `atFlip`: the flip that ends the iteration has completed. -/
def Stream.endIter (st : Stream) (a : Word) (atFlip : Bool) : List LoopFrame → Stream
  | [] => { st with pc := a, loops := [] }
  | f :: r =>
    if f.last = a then
      if f.kloop && f.flips && !atFlip then
        { st with pc := if f.iter + 1 < f.total then f.first else a, loops := f :: r, wait := .flip true a }
      else if f.iter + 1 < f.total then
        let f' := { f with iter := f.iter + 1 }
        { st.startIter f' with pc := f.first, loops := f' :: r }
      else (st.leave f).endIter a false r
    else { st with pc := a, loops := f :: r }

/-- Is an address inside the body of a loop? -/
def LoopFrame.holds (f : LoopFrame) (a : Word) : Bool := f.first.ule a && a.ult f.last

/-- Does a branch to an address end the current iteration of the innermost loop (R185)? -/
def Stream.endsBody (st : Stream) (a : Word) : Bool := (st.loops.head?.map fun f => f.last == a).getD false

/-- A taken branch from one address to another; none where it would leave a KLOOP body. The address just past the
innermost body ends its iteration, from called code too; with LINK every loop stays active otherwise, and so it does for
a branch within called code (R185; log 65). -/
def Stream.transfer (st : Stream) (src a : Word) (link : Bool) : List LoopFrame → Option Stream
  | [] => some { st with pc := a, loops := [] }
  | f :: r =>
    if a = f.last then some (st.endIter a false (f :: r))
    else if link || !f.holds src || f.holds a then some { st with pc := a, loops := f :: r }
    else if f.kloop then none
    else st.transfer src a link r

/-- The stream goes on at the address after the word just performed; one that has arrived at a flip stays at its FLIP
word until the flip completes (R35, R183, Table 16.2). -/
def Stream.advance (st : Stream) (next : Word) : Stream :=
  match st.wait with
  | .flip false _ => st
  | _ => ({ st with wait := .none }).endIter next false st.loops

/-! ### Performing a word -/

/-- The address at which a stream goes on, after the flip where it waits at one (R183). -/
def Stream.onward (st : Stream) : Word := match st.wait with
  | .flip loopEnd next => (({ st with wait := .none }).endIter next loopEnd st.loops).pc
  | _ => st.pc

/-- A stream that a word at `x.pc` leaves for `next`, or for the body of a loop, to which it goes back: one not fetchable
is a fault of that word (R152). -/
def leads (x : Ctx) (s : State) (next : Word) (st : Stream) : Except Trap Stream :=
  let a := st.onward
  if a = next ∨ a = x.pc ∨ fetchable s (whoStream s x.b x.c) a then .ok st else .error { cause := 0x04, addr := a }

/-- A taken branch: its target is fetchable, and it leaves no KLOOP body (R152, R185). -/
def branches (x : Ctx) (s : State) (a : Word) (link : Bool) : Except Trap Stream :=
  if !fetchable s (whoStream s x.b x.c) a then .error { cause := 0x04, addr := a }
  else
    match ({ x.st s with wait := .none }).transfer x.pc a link (x.st s).loops with
    | some st => leads x s a st
    | none => .error { cause := 0x03 }

/-- The stream goes on, or the word faults and leaves the state before it (R11). -/
def proceed (x : Ctx) (s0 s : State) : Except Trap Stream → State
  | .ok st => x.upd s fun _ => st
  | .error t => takeFault s0 x.b x.c x.t x.slot x.pc t

/-- Go on at the next word, or where the end of a loop body sends the stream. -/
def goOn (x : Ctx) (s0 s : State) : State := proceed x s0 s (leads x s x.next ((x.st s).advance x.next))

/-- The state in which a bundle that has issued takes the fault of its SX word's access, which has read the tables, and the
shadow that tells of a race (R90, R94, R335). An uncorrectable error is met where the access is performed. -/
def faultedAccess (x : Ctx) (s : State) (t : Trap) : State :=
  if t.cause = 0x29 then s else missed s (whoStream s x.b x.c) t.addr (t.cause == 0x0B)

/-- Go on after the effect of a word or a bundle. `s0` is the state before it: a fault at issue leaves it as it was
(R11). -/
def settle (x : Ctx) (s0 : State) : Res → State
  | .ok s => goOn x s0 s
  | .ring s _ => goOn x s0 s
  | .jump s a link => proceed x s0 s (branches x s a link)
  | .skip s a => proceed x s0 s (leads x s a ((x.st s).advance a))
  | .stay s => s
  | .halt s => s
  | .trap t => takeFault s0 x.b x.c x.t x.slot x.pc t
  | .fault s t => takeFault s x.b x.c x.t x.slot x.pc t
  | .late s t => takeFault s x.b x.c x.t x.slot x.pc t
  | .page s va stage level => takePageFault s x va stage level
  | .after s t =>
    let s' := takeFault s x.b x.c x.t x.slot x.next t
    x.upd s' fun st => { st with wait := if st.endsBody x.next then .bodyEnd else .none }
  | .masked g => takeMasked s0 x x.slot g
  | .migrate => takeMigrate s0 x x.slot

end Sys2Proof.Machine
end

