-- ==== Sys2Proof/Machine/Access.lean ====
section
/-! DEFINITION. Scalar accesses to device memory and scratch, releases and acquires, writes of two-faced registers
(04, 08, 10, 12). -/

namespace Sys2Proof.Machine

/-! ### Scratch (R83-R86) -/

/-- Bytes of a core's scratchpad (R83). -/
def Gang.scratchSize (g : Gang) : Nat := (g.pb2.toNat - g.pb1.toNat) * 2 ^ 16

/-- The core that a scratch address names. -/
def scratchCore (a : Nat) : CoreId := BitVec.ofNat 2 (a / 2 ^ 24)

/-- The offset that a scratch address names. -/
def scratchOff (a : Nat) : Nat := a % 2 ^ 24

/-- Step 1 of R83 for `n` bytes: range, and the issuer's own core unless another is permitted. -/
def scratchRange (g : Gang) (c : CoreId) (a n : Nat) (other : Bool) : Bool :=
  decide (a < 2 ^ 26) && decide (scratchOff a + n ≤ g.scratchSize) && (other || scratchCore a == c)

/-- A scratch address with its core field set to a core. -/
def withCore (c : CoreId) (a : Nat) : Nat := c.toNat * 2 ^ 24 + scratchOff a

/-- Does a range hold `n` bytes at a scratch address (R86)? -/
def Range.holds (r : Range) (a n : Nat) : Bool := decide (r.base.toNat ≤ a) && decide (a + n ≤ r.base.toNat + r.len.toNat)

/-- Do the ranges of the classes from `lo` up, `n` of them, of a stream hold an access? Classes: R 0, W 1, I 2, X 3. -/
def Stream.inClasses (st : Stream) (lo cnt : Nat) (a n : Nat) : Bool :=
  (List.range (4 * cnt)).any fun i => (st.sets[4 * lo + i]!).holds a n

/-- May a stream read scratch of its own core (R86)? -/
def Stream.mayRead (st : Stream) (a n : Nat) : Bool := st.inClasses 0 4 a n

/-- May a stream write scratch of its own core (R86)? -/
def Stream.mayWrite (st : Stream) (a n : Nat) : Bool := st.inClasses 1 1 a n

/-- May another core write here: is the access in an I set of any stream of the core (R86)? -/
def Core.inbound (k : Core) (a n : Nat) : Bool := k.streams.toList.any fun st => st.inClasses 2 1 a n

/-- May another core read here: is the access in an X set of any stream of the core (R86)? -/
def Core.exported (k : Core) (a n : Nat) : Bool := k.streams.toList.any fun st => st.inClasses 3 1 a n

/-- Read scratch of the core that the address names. -/
def scratchRead (s : State) (b : BenchId) (a n : Nat) : Nat :=
  Memory.read (s.core b (scratchCore a)).scratch (scratchOff a) n

/-- Write scratch of the core that the address names. -/
def scratchWrite (s : State) (b : BenchId) (a n v : Nat) : State :=
  s.updCore b (scratchCore a) fun k => { k with scratch := Memory.write k.scratch (scratchOff a) n v }

/-! ### Device memory: scalar accesses (R89, R93-R97) -/

/-- What a memory fault of a stream's access at an address comes to, reported at `va`, in the state that the access leaves: CP
takes protection where another stream takes a page fault (R90, R94). -/
def memTrap (x : Ctx) (s : State) (at' va : Word) (f : MemFault) : Res :=
  let s := missed s (whoStream s x.b x.c) at' f.raced
  match f with
  | .page stage level =>
    if x.t = 2 then .late s { cause := 0x11, addr := va, aux0 := BitVec.ofNat 64 (stage * 2 ^ 63 + level) }
    else .page s va stage level
  | .prot => .late s { cause := 0x11, addr := va }
  | .race e => .late s { cause := 0x0B, addr := va, aux0 := e }

/-- Drop a line from a core's first-level cache. -/
def Core.dropLine (k : Core) (line : Nat) : Core := { k with l1 := k.l1.filter (fun e => e.1 != line) }

/-- Lines of 128 bytes that the first-level cache of a core of a gang holds: units PB3 to 95 of its pool (R82). -/
def Gang.l1Lines (g : Gang) : Nat := (96 - g.pb3.toNat) * 512

/-- Put a line into a first-level cache of `cap` lines; a full cache displaces the line of the free choice (R82, R89). -/
def Core.fillL1 (k : Core) (cap victim line : Nat) (d : BitVec 1024) : Core :=
  let old := (k.dropLine line).l1
  let kept := if old.length < cap then old else (old.eraseIdx (victim % cap)).take (cap - 1)
  { k with l1 := if cap = 0 then [] else (line, d) :: kept }

/-- Bytes of a line replaced by the low `n` bytes of a value, from an offset in the line on. -/
def linePut (d : BitVec 1024) (off n v : Nat) : BitVec 1024 :=
  let sh := 8 * off
  (d &&& ~~~(BitVec.ofNat 1024 (2 ^ (8 * n) - 1) <<< sh)) ||| (BitVec.ofNat 1024 (v % 2 ^ (8 * n)) <<< sh)

/-- A present line of a first-level cache takes `n` bytes as the home slice holds them; other lines are kept. -/
def Core.refreshL1 (k : Core) (pa n v : Nat) : Core :=
  { k with l1 := k.l1.map fun e => if e.1 = lineOf pa then (e.1, linePut e.2 (pa % 128) n v) else e }

/-- A scalar load of `n` bytes through the first-level cache (R89). -/
def loadDevice (s : State) (x : Ctx) (va : Word) (n : Nat) : Except Res (Nat × State) :=
  if va.toNat % n ≠ 0 then .error (.trap { cause := 0x05, addr := va })
  else
    match access s (whoStream s x.b x.c) va .read false with
    | .error f => .error (memTrap x s va va f)
    | .ok (pa, s) =>
      let s := watch s .read pa n
      let line := lineOf pa
      let get (d : BitVec 1024) : Nat := (d.toNat / 2 ^ (8 * (pa % 128))) % 2 ^ (8 * n)
      let unit := 4 * x.b.toNat + x.c.toNat
      match (x.core s).l1.find? (fun e => e.1 == line && Config.l1Keeps s.ticks unit line) with
      | some (_, d) => .ok (get d, s)
      | none =>
        let s := llcServe s (some (x.gang s).part) (128 * line) 128
        let d := physLine s line
        .ok (physRead s pa n,
          x.updCore s fun k => k.fillL1 (x.gang s).l1Lines (Config.l1Victim s.ticks unit) line d)

/-- A store's effect on the issuing core's first-level cache: a present line of HBM is updated, a line of the format
aperture is invalidated (R89). -/
def Core.storeL1 (k : Core) (pa n v : Nat) : Core :=
  if apertureBase ≤ pa then k.dropLine (lineOf pa) else k.refreshL1 pa n v

/-- A scalar store of the low `n` bytes of a value (R89, R97). -/
def storeDevice (s : State) (x : Ctx) (va : Word) (n v : Nat) : Except Res State :=
  if va.toNat % n ≠ 0 then .error (.trap { cause := 0x05, addr := va })
  else
    match homeAccess s (whoStream s x.b x.c) va n .write false with
    | .error f => .error (memTrap x s va va f)
    | .ok (pa, s) => .ok (x.updCore (physWrite s pa n v) fun k => k.storeL1 pa n v)

/-! ### Releases and acquires (R105-R109) -/

/-- A partition barrier is requested as soon as a bench's own clock entry reaches 2^24 − 2^16 (R112). -/
def askBarrier (s : State) (p : PartId) (own : BitVec 24) : State :=
  if 2 ^ 24 - 2 ^ 16 ≤ own.toNat then s.updPart p fun q => { q with barrier := true } else s

/-- Grow a bench's own clock entry (R109). -/
def tick (s : State) (b : BenchId) : State :=
  let vc := s.clocks[b.toFin]
  let v := clockInc vc[b.toFin]
  askBarrier { s with clocks := s.clocks.set b.toFin (vc.set b.toFin v) } (s.gang b).part v

/-- Join a clock into the vector carried with a line: an acquire synchronises with every release that it observes, the
earlier ones of the location too, and a line holds one vector (R105, R109; log 17). -/
def carryMore (s : State) (p : PartId) (line : Nat) (c : Clock) : State :=
  setCarried s p line (((carried s p line).getD Clock.zero).join c)

/-- A release by a stream of a bench at a scope, to a location (R109). -/
def releaseAt (s : State) (b : BenchId) (scope : Nat) (pa : Nat) : State :=
  if scope < 2 then s else tick (carryMore s (s.gang b).part (lineOf pa) s.clocks[b.toFin]) b

/-- A release with no location in memory. -/
def releaseOnly (s : State) (b : BenchId) (scope : Nat) : State := if scope < 2 then s else tick s b

/-- Join a clock into a bench's, which may request a partition barrier (R109, R112). -/
def joinClock (s : State) (b : BenchId) (c : Clock) : State :=
  let vc := (s.clocks[b.toFin]).join c
  askBarrier { s with clocks := s.clocks.set b.toFin vc } (s.gang b).part vc[b.toFin]

/-- The effect of an acquire on the first-level cache (R89). -/
def acquireL1 (s : State) (x : Ctx) (scope : Nat) : State :=
  if scope = 0 then s else x.updCore s fun k => { k with l1 := [] }

/-- An acquire by a stream at a scope, from a location (R89, R109). -/
def acquireAt (s : State) (x : Ctx) (scope : Nat) (pa : Nat) : State :=
  let s := acquireL1 s x scope
  if scope < 2 then s
  else
    let s := carriedLook s (x.gang s).part (lineOf pa)
    match carried s (x.gang s).part (lineOf pa) with
    | some c => joinClock s x.b c
    | none => s

/-! ### Two-faced registers (R48-R51) -/

/-- Rotation of v24 to v31: the physical number of a name (R41). -/
def Core.physV (k : Core) (i : BitVec 5) : BitVec 5 :=
  if 24 ≤ i.toNat then BitVec.ofNat 5 (24 + (i.toNat - 24 + 8 - k.rb.toNat) % 8) else i

/-- Number of a register in AUX1 of a double-write (Table 16.3). -/
def Reg.number : Reg → Nat
  | .v i => i.toNat
  | .p i => 32 + i.toNat
  | .c i => 40 + i.toNat

/-- The W bit of a register. -/
def Core.isWritten (k : Core) : Reg → Bool
  | .v i => (k.v[i.toFin]).written
  | .p i => (k.p[i.toFin]).written
  | .c i => (k.c[i.toFin]).written

/-- The writer tag of a register. -/
def Core.tagOf (k : Core) : Reg → Tag
  | .v i => (k.v[i.toFin]).tag
  | .p i => (k.p[i.toFin]).tag
  | .c i => (k.c[i.toFin]).tag

/-- Mark a face written: the first write of the phase seeds the hidden face (R48, R50). -/
def Face.mark {α : Type} (f : Face α) (tag : Tag) : Face α :=
  let f := if f.written then f else { f with hid := f.vis, written := true, tag := tag }
  { f with pending := f.pending || tag.async }

/-- The check of R50 on a write of a register: the state marked, or the double-write trap. -/
def Core.checkWrite (k : Core) (r : Reg) (tag : Tag) : Except Trap Core :=
  let old := k.tagOf r
  if k.isWritten r && (tag.async || old.async || old.stream != tag.stream) then
    .error { cause := 0x08, aux0 := old.pc
             aux1 := BitVec.ofNat 64 (r.number * 2 ^ 8 + (if old.async then 4 else 0) + old.stream.toNat) }
  else
    match r with
    | .v i => .ok { k with v := k.v.set i.toFin ((k.v[i.toFin]).mark tag) }
    | .p i => .ok { k with p := k.p.set i.toFin ((k.p[i.toFin]).mark tag) }
    | .c i => .ok { k with c := k.c.set i.toFin ((k.c[i.toFin]).mark tag) }

/-- Bit n of a tile predicate spread over the 8 bits of byte n: the mask of the bytes it selects. -/
def byteMaskFrom (p : Nat) : Nat → Nat → Nat
  | 0, _ => 0
  | n + 1, w => if w = 0 then (if p % 2 = 1 then 255 else 0)
    else byteMaskFrom (p % 2 ^ w) n (w / 2) + 2 ^ (8 * w) * byteMaskFrom (p / 2 ^ w) n (w / 2)

/-- The mask of the bytes that a predicate selects, 8 bits a byte (R47). -/
def byteMask (p : Pred) : Tile :=
  if p = 0 then 0
  else if p = BitVec.allOnes 4096 then BitVec.allOnes 32768
  else BitVec.ofNat 32768 (byteMaskFrom p.toNat 13 2048)

/-- Bytes of one tile over another where a predicate selects them. -/
def blend (mask : Pred) (new old : Tile) : Tile :=
  let m := byteMask mask
  (new &&& m) ||| (old &&& ~~~m)

/-- Perform a write of a face into its hidden side. -/
def Core.land (k : Core) (w : FaceWrite) : Core :=
  match w.reg with
  | .v i =>
    let f := k.v[i.toFin]
    { k with v := k.v.set i.toFin { f with hid := blend w.mask w.data f.hid } }
  | .c i =>
    let f := k.c[i.toFin]
    { k with c := k.c.set i.toFin { f with hid := w.data.setWidth 64 } }
  | .p i =>
    let f := k.p[i.toFin]
    { k with p := k.p.set i.toFin { f with hid := (w.data.setWidth 4096 &&& w.mask) ||| (f.hid &&& ~~~w.mask) } }

/-- Clear P of a register: its last element has landed (R51). -/
def Core.clearPending (k : Core) : Reg → Core
  | .v i => { k with v := k.v.set i.toFin { k.v[i.toFin] with pending := false } }
  | .p i => { k with p := k.p.set i.toFin { k.p[i.toFin] with pending := false } }
  | .c i => { k with c := k.c.set i.toFin { k.c[i.toFin] with pending := false } }

/-- The queue entry of a name has landed (R55). -/
def Core.landEntry (k : Core) (q : BitVec 2) (id : Nat) : Core :=
  let old := k.q[q.toFin]
  { k with q := k.q.set q.toFin { old with
      entries := old.entries.map fun n => if n.id = id then { n with landed := true } else n } }

/-- A synchronous CP result is performed: its writes, its flags, and the queue entry that it pushed lands (R55, R58,
R169). -/
def Core.perform (k : Core) (r : Result) : Core :=
  let k := { r.writes.foldl Core.land k with xf := k.xf ||| r.flags }
  match r.entry with
  | some (q, id) => k.landEntry q id
  | none => k

/-- Perform the oldest synchronous CP result. -/
def Core.performResult (k : Core) : Core :=
  match k.results with
  | [] => k
  | r :: rest => { k.perform r with results := rest }

/-- Perform every synchronous CP result issued: what any later read waits for (R169). -/
def Core.performAll (k : Core) : Core := { k.results.foldl Core.perform k with results := [] }

end Sys2Proof.Machine
end

