-- ==== Sys2Proof/Machine/Scalar.lean ====
section
/-! DEFINITION. The common scalar group: arithmetic, compares, flags, bit fields, branches, loops, scalar loads and stores,
moves, status registers, SYNC and SYS (R172-R194). -/

namespace Sys2Proof.Machine

/-- The effect of a word where it is performed. -/
abbrev Effect := Ctx → State → Res

/-! ### Arithmetic (R173-R176) -/

/-- The functions of Table 20.1 on one width. -/
def aluFn {w : Nat} (fn : Nat) (a b : BitVec w) : BitVec w :=
  let n := b.toNat % w
  match fn with
  | 0 => a + b
  | 1 => a - b
  | 2 => a * b
  | 3 => BitVec.ofInt w (a.toInt * b.toInt / 2 ^ w)
  | 4 => BitVec.ofNat w (a.toNat * b.toNat / 2 ^ w)
  | 5 => if b = 0 then BitVec.allOnes w else a.sdiv b
  | 6 => if b = 0 then BitVec.allOnes w else a.udiv b
  | 7 => if b = 0 then a else a.srem b
  | 8 => if b = 0 then a else a.umod b
  | 9 => a &&& b
  | 10 => a ||| b
  | 11 => a ^^^ b
  | 12 => a &&& ~~~b
  | 13 => a <<< n
  | 14 => a >>> n
  | _ => a.sshiftRight n

/-- Leading zero bits below bit `n`. -/
def leadingZeros {w : Nat} (a : BitVec w) : Nat → Nat
  | 0 => 0
  | n + 1 => if a.getLsbD n then 0 else 1 + leadingZeros a n

/-- Trailing zero bits, of `n` bits looked at from bit `w - n`. -/
def trailingZeros {w : Nat} (a : BitVec w) : Nat → Nat
  | 0 => 0
  | n + 1 => if a.getLsbD (w - (n + 1)) then 0 else 1 + trailingZeros a n

/-- Number of one bits below bit `n`. -/
def onesBelow {w : Nat} (a : BitVec w) : Nat → Nat
  | 0 => 0
  | n + 1 => onesBelow a n + (if a.getLsbD n then 1 else 0)

/-- The bits below bit `n` in the opposite order. -/
def reverseBits {w : Nat} (a : BitVec w) : Nat → Nat
  | 0 => 0
  | n + 1 => (if a.getLsbD n then 2 ^ (w - 1 - n) else 0) + reverseBits a n

/-- The bytes below byte `n` in the opposite order. -/
def reverseBytes {w : Nat} (a : BitVec w) : Nat → Nat
  | 0 => 0
  | n + 1 => (a.extractLsb' (8 * n) 8).toNat * 2 ^ (w - 8 * (n + 1)) + reverseBytes a n

/-- The functions of Table 20.2 on one width; `p` is the flag predicate, for SEL. -/
def alu2Fn {w : Nat} (fn : Nat) (p : Bool) (a b : BitVec w) : BitVec w :=
  match fn with
  | 0 => if a.slt b then a else b
  | 1 => if a.slt b then b else a
  | 2 => if a.ult b then a else b
  | 3 => if a.ult b then b else a
  | 4 => BitVec.ofNat w (leadingZeros a w)
  | 5 => BitVec.ofNat w (trailingZeros a w)
  | 6 => BitVec.ofNat w (onesBelow a w)
  | 7 => BitVec.ofNat w (reverseBits a w)
  | 8 => BitVec.ofNat w (reverseBytes a (w / 8))
  | 9 => if p then a else b
  | 10 => a.rotateLeft (b.toNat % w)
  | _ => a.rotateRight (b.toNat % w)

/-- Width 64, or 32 with the result sign-extended (R173). -/
def onWidth (w : BitVec 2) (f : (n : Nat) → BitVec n → BitVec n → BitVec n) (a b : Word) : Word :=
  if w = 1 then (f 32 (a.setWidth 32) (b.setWidth 32)).signExtend 64 else f 64 a b

/-- Write one s register and go on. -/
def writeS (d : BitVec 5) (v : Word) : Effect := fun x s => .ok (x.upd s fun st => st.setS d v)

/-- ALU (R173). -/
def effAlu (fn : Nat) (d a b : BitVec 5) (w : BitVec 2) (q : BitVec 4) : Effect := fun x s =>
  let st := x.st s
  if st.pred q then writeS d (onWidth w (fun _ p r => aluFn fn p r) (st.sreg a) (st.sreg b)) x s else .ok s

/-- ALU2; SEL always issues (R174). -/
def effAlu2 (fn : Nat) (d a b : BitVec 5) (w : BitVec 2) (q : BitVec 4) : Effect := fun x s =>
  let st := x.st s
  if st.pred q || fn == 9 then
    writeS d (onWidth w (fun _ p r => alu2Fn fn (st.pred q) p r) (st.sreg a) (st.sreg b)) x s
  else .ok s

/-- ADDI (R175). -/
def effAddi (d a : BitVec 5) (i : BitVec 15) : Effect := fun x s =>
  writeS d ((x.st s).sreg a + i.signExtend 64) x s

/-- LOGI: AND, OR, XOR (R175). -/
def effLogi (fn : Nat) (d a : BitVec 5) (i : BitVec 13) : Effect := fun x s =>
  let v := (x.st s).sreg a
  let k := i.signExtend 64
  writeS d (match fn with
    | 0 => v &&& k
    | 1 => v ||| k
    | _ => v ^^^ k) x s

/-- SHI: SHL, SHR, SAR, ROR (R175). -/
def effShi (fn : Nat) (d a : BitVec 5) (n : BitVec 6) : Effect := fun x s =>
  let v := (x.st s).sreg a
  writeS d (match fn with
    | 0 => v <<< n.toNat
    | 1 => v >>> n.toNat
    | 2 => v.sshiftRight n.toNat
    | _ => v.rotateRight n.toNat) x s

/-- LI (R176). -/
def effLi (d : BitVec 5) (i : BitVec 20) : Effect := writeS d (i.signExtend 64)

/-- LIH (R176). -/
def effLih (d : BitVec 5) (i : BitVec 20) : Effect := fun x s =>
  writeS d (((i.signExtend 44) ++ ((x.st s).sreg d).setWidth 20 : BitVec 64)) x s

/-! ### Compares, flags, bit fields (R177-R179) -/

/-- CMP (R177). -/
def effCmp (f : BitVec 3) (c : BitVec 4) (a b : BitVec 5) (q : BitVec 4) : Effect := fun x s =>
  let st := x.st s
  if st.pred q then .ok (x.upd s fun st' => st'.setF f (cond c (st.sreg a) (st.sreg b))) else .ok s

/-- CMPI (R177). -/
def effCmpi (f : BitVec 3) (c : BitVec 4) (a : BitVec 5) (i : BitVec 13) : Effect := fun x s =>
  .ok (x.upd s fun st => st.setF f (cond c (st.sreg a) (i.signExtend 64)))

/-- FOP (R178). -/
def effFop (fn : Nat) (d a b : BitVec 3) : Effect := fun x s =>
  let st := x.st s
  let u := st.flag a.toNat
  let v := st.flag b.toNat
  let r := match fn with
    | 0 => u && v
    | 1 => u || v
    | 2 => u != v
    | 3 => u && !v
    | 4 => !u
    | 5 => true
    | _ => false
  .ok (x.upd s fun st => st.setF d r)

/-- BF: BFX, BFXU, BFI; `n` is the length less 1 (R179). -/
def effBf (fn : Nat) (d a : BitVec 5) (p n : BitVec 6) : Effect := fun x s =>
  let st := x.st s
  let v := st.sreg a
  let len := n.toNat + 1
  let m : Word := BitVec.ofNat 64 (2 ^ len - 1)
  writeS d (match fn with
    | 0 => (v.extractLsb' p.toNat len).signExtend 64
    | 1 => (v.extractLsb' p.toNat len).setWidth 64
    | _ => (st.sreg d &&& ~~~(m <<< p.toNat)) ||| ((v &&& m) <<< p.toNat)) x s

/-! ### Branches and loops (R180-R185) -/

/-- PBR with a displacement from the word itself (R180). -/
def effPbr (b : BitVec 3) (i : BitVec 21) : Effect := fun x s =>
  .ok (x.upd s fun st => st.setB b (x.word + 4 * i.signExtend 64))

/-- PBR from a register (R180). -/
def effPbrReg (b : BitVec 3) (a : BitVec 5) : Effect := fun x s =>
  .ok (x.upd s fun st => st.setB b (st.sreg a))

/-- BR and BRL (R181). -/
def effBr (link : Bool) (b : BitVec 3) (q : BitVec 4) : Effect := fun x s =>
  let st := x.st s
  if st.pred q then
    .jump (if link then x.upd s fun st => st.setS 31 x.next else s) (st.breg b) link
  else .ok s

/-- Start a loop, or skip its body where it runs no iteration (R40, R183, R184). -/
def startLoop (f : LoopFrame) : Effect := fun x s =>
  if f.total = 0 then .skip s f.last
  else .ok (x.upd s fun st => { st.startIter f with loops := f :: st.loops })

/-- The checks of a loop word: depth, and the end of an enclosing body (R183). -/
def loopOk (st : Stream) (f : LoopFrame) : Bool :=
  (if f.kloop then (st.loops.filter (·.kloop)).length == 0
    else decide ((st.loops.filter (fun y => !y.kloop)).length < 2)) &&
  st.loops.all fun g => !g.holds f.word || f.last.ule g.last

/-- The state that the look at the last word of a body leaves, which CP makes alone (R90, R162). -/
def closedLook (x : Ctx) (s : State) (f : LoopFrame) : State :=
  if x.t = 2 then fetchLook s (whoStream s x.b x.c) (f.last - 4) else s

/-- In CP, the body's last word must have L = 1 (R162); one that cannot be fetched passes, and its own fetch faults (log 103).
-/
def bodyClosed (x : Ctx) (s : State) (f : LoopFrame) : Bool :=
  x.t != 2 || (match fetchWord s (whoStream s x.b x.c) (f.last - 4) with
    | some (w, _) => w.getLsbD 25
    | none => true)

/-- The doublewords of a carried-set descriptor, `n` of them from an address, at their home slice: a line that the
first-level cache holds stays as it is (R145; log 82). -/
def readDoublewords (s : State) (x : Ctx) (a : Word) : Nat → Except Res (List Word × State)
  | 0 => .ok ([], s)
  | n + 1 =>
    match homeAccess s (whoStream s x.b x.c) a 8 .read false with
    | .error f => .error (match memTrap x s a a f with
      | .late s t => .fault s t
      | r => r)
    | .ok (pa, s) =>
      match readDoublewords s x (a + 8) n with
      | .error e => .error e
      | .ok (l, s') => .ok (BitVec.ofNat 64 (physRead s pa 8) :: l, s')

/-- Are the bits of a carried-set descriptor that have no meaning zero (R145)? -/
def descriptorOk (d : List Word) : Bool :=
  bits (d[1]!) 32 32 == 0 && d[6]! == 0 && d[7]! == 0

/-- LOOP (R183). The malformed-bundle of a CP body whose last word has L = 0 is a fault of the loop word, in its slot (R162; log
22). -/
def effLoop (c : BitVec 5) (n : BitVec 14) : Effect := fun x s =>
  let cnt := ((x.st s).sreg c).toNat
  let f : LoopFrame := { kloop := false, flips := false, pre := false, stages := 0, word := x.pc, first := x.next
                         last := x.next + 4 * n.setWidth 64, n := cnt, norig := cnt, iter := 0 }
  if !loopOk (x.st s) f then illegalOperand
  else if !bodyClosed x s f then .fault (closedLook x s f) { cause := 0x02 }
  else startLoop f x (closedLook x s f)

/-- KLOOP; `t` is S less 1 (R40, R145, R183). -/
def effKloop (fl p : BitVec 1) (t : BitVec 3) (c : BitVec 5) (n : BitVec 14) : Effect := fun x s =>
  let st := x.st s
  let cnt := st.rem.getD (st.sreg c).toNat
  let f : LoopFrame := { kloop := true, flips := fl == 1, pre := p == 1, stages := t.toNat + 1, word := x.pc
                         first := x.next, last := x.next + 4 * n.setWidth 64, n := cnt, norig := cnt, iter := 0 }
  if !loopOk st f then illegalOperand
  else if !bodyClosed x s f then .fault (closedLook x s f) { cause := 0x02 }
  else if p = 1 then
    if bit st.kdesc 63 then .fault (closedLook x s f) { cause := 0x03 }
    else
      match readDoublewords (closedLook x s f) x st.kdesc 8 with
      | .error e => e
      | .ok (d, s) =>
        if descriptorOk d then
          startLoop f x (x.upd s fun st => { st with rem := none, carry := Vector.ofFn fun i => d[i.val]! })
        else .fault s { cause := 0x03 }
  else startLoop f x (closedLook x s f)

/-! ### Scalar loads and stores (R186) -/

/-- The bytes loaded, extended to 64 bits. -/
def extendLoad (n : Nat) (unsigned : Bool) (v : Nat) : Word :=
  if unsigned then BitVec.ofNat 64 v else (BitVec.ofNat (8 * n) v).signExtend 64

/-- The checks of R83 and R86 on a scalar access to scratch at an effective address. -/
def scratchCheck (x : Ctx) (s : State) (ea : Word) (n : Nat) (write : Bool) : Option Trap :=
  let a := ea.toNat
  let st := x.st s
  let w := withCore x.c a
  if !scratchRange (x.gang s) x.c a n false then some { cause := 0x06, addr := ea }
  else if a % n ≠ 0 then some { cause := 0x05, addr := ea }
  else if !(if write then st.mayWrite w n else st.mayRead w n) then some { cause := 0x06, addr := ea }
  else none

/-- LDS (R186). -/
def effLds (d b : BitVec 5) (z : BitVec 2) (u p : BitVec 1) (o : BitVec 11) : Effect := fun x s =>
  let n := 2 ^ z.toNat
  let ea := (x.st s).sreg b + (o.setWidth 64) * BitVec.ofNat 64 n
  if p = 1 then
    match scratchCheck x s ea n false with
    | some t => .trap t
    | none => writeS d (extendLoad n (u == 1) (scratchRead s x.b ea.toNat n)) x s
  else
    match loadDevice s x ea n with
    | .error r => r
    | .ok (v, s) => writeS d (extendLoad n (u == 1) v) x s

/-- STS (R186). -/
def effSts (d b : BitVec 5) (z : BitVec 2) (p : BitVec 1) (o : BitVec 11) : Effect := fun x s =>
  let n := 2 ^ z.toNat
  let ea := (x.st s).sreg b + (o.setWidth 64) * BitVec.ofNat 64 n
  let v := ((x.st s).sreg d).toNat
  if p = 1 then
    match scratchCheck x s ea n true with
    | some t => .trap t
    | none => .ok (scratchWrite s x.b ea.toNat n v)
  else
    match storeDevice s x ea n v with
    | .error r => r
    | .ok s => .ok s

/-! ### XMOV and status registers (R187, R188) -/

/-- MOVC: the visible face of c (R187). -/
def effMovc (d y : BitVec 5) : Effect := fun x s =>
  if 8 ≤ y.toNat then illegalOperand
  else writeS d ((x.core s).c[(y.setWidth 3).toFin]).vis x s

/-- MOVTC: a synchronous write of the hidden face of c (R187). -/
def effMovtc (y a : BitVec 5) : Effect := fun x s =>
  if 8 ≤ y.toNat then illegalOperand
  else
    let r := y.setWidth 3
    match (x.core s).checkWrite (.c r) { stream := x.t, async := false, pc := x.word } with
    | .error t => .trap t
    | .ok k =>
      .ok (x.updCore s fun _ => k.land { reg := .c r, data := ((x.st s).sreg a).setWidth 32768, mask := 0 })

/-- MOVB (R187). -/
def effMovb (y a : BitVec 5) : Effect := fun x s =>
  if 8 ≤ y.toNat then illegalOperand
  else .ok (x.upd s fun st => st.setB (y.setWidth 3) (st.sreg a))

/-- QCFGn as it reads (Table 04.4). -/
def Queue.config (q : Queue) : Word :=
  (BitVec.ofNat 5 (q.entries.filter (·.landed)).length).setWidth 64 <<< 32 ||| q.cfg.setWidth 64

/-- The device stamp (R225). -/
def stamp : Word := 0x5A01000000000001#64

/-- The value of a status register; none where the number is not assigned (Table 20.3). -/
def readSR (x : Ctx) (s : State) (r : BitVec 12) : Option Word :=
  let k := x.core s
  let st := x.st s
  let g := x.gang s
  match r.toNat with
  | 0x000 => some (BitVec.setWidth 64 (BitVec.ofBool (x.b.getLsbD 3) ++ (x.b ++ x.c)))
  | 0x001 => some ((k.rb ++ k.phase).setWidth 64)
  | 0x002 => some (st.frm.setWidth 64)
  | 0x003 => some st.kdesc
  | 0x004 => some ((st.kloop?.map (fun f => BitVec.ofNat 64 f.iter)).getD 0)
  | 0x008 => some stamp
  | 0x010 => some (k.q[0]).config
  | 0x011 => some (k.q[1]).config
  | 0x012 => some (k.q[2]).config
  | 0x013 => some (k.q[3]).config
  | 0x018 => some (g.pb1.setWidth 64)
  | 0x019 => some (g.pb2.setWidth 64)
  | 0x01A => some (g.pb3.setWidth 64)
  | _ => none

/-- Is a status register number assigned (Table 20.3)? -/
def assignedSR (r : BitVec 12) : Bool :=
  [0x000, 0x001, 0x002, 0x003, 0x004, 0x008, 0x010, 0x011, 0x012, 0x013, 0x018, 0x019, 0x01A].contains r.toNat

/-- RDSR (R187). -/
def effRdsr (d : BitVec 5) (r : BitVec 12) : Effect := fun x s =>
  match readSR x s r with
  | some v => writeS d v x s
  | none => illegalOperand

/-- WRSR: FRM and KDESC; a value that the field map refuses raises illegal-operand (R61, R187, Table 20.4). -/
def effWrsr (a : BitVec 5) (r : BitVec 12) : Effect := fun x s =>
  let v := (x.st s).sreg a
  if r = 2 then
    if 5 ≤ v.toNat then illegalOperand else .ok (x.upd s fun st => { st with frm := v.setWidth 3 })
  else if r = 3 then
    if bits v 48 15 ≠ 0 ∨ bits v 0 6 ≠ 0 then illegalOperand else .ok (x.upd s fun st => { st with kdesc := v })
  else illegalOperand

/-! ### SYNC (R189-R193) -/

/-- FLIP: the stream arrives; not inside a KLOOP.F body (R40, R190), and so neither in code that a body calls, whose words
belong to its current iteration (R185; log 87). -/
def effFlip : Effect := fun x s =>
  if (x.st s).loops.any (·.flips) then illegalInstruction
  else .ok (x.upd s fun st => { st with wait := .flip false x.next })

/-- END (R190); illegal in SC (R33). -/
def effEnd : Effect := fun x s =>
  if x.t = 0 then illegalInstruction
  else .ok (x.upd s fun st => { st with status := .ended, loops := [], k := 0 })

/-- PDECL (R85, R191). -/
def effPdecl (cl sl : BitVec 2) (b n : BitVec 5) : Effect := fun x s =>
  let st := x.st s
  let base := st.sreg b
  let len := (st.sreg n).toNat
  let core : CoreId := base.extractLsb' 24 2
  if bits base 26 38 ≠ 0 ∨ (core ≠ 0 ∧ core ≠ x.c) ∨ (x.gang s).scratchSize < bits base 0 24 + len then illegalOperand
  else
    let r : Range := { base := BitVec.ofNat 32 (withCore x.c base.toNat), len := BitVec.ofNat 32 len }
    .ok (x.upd s fun st => { st with next := st.next.setIfInBounds (4 * cl.toNat + sl.toNat) r })

/-- A timeline's counter as a gang names it: none where the id raises a fault (R115, R129, R192). -/
def counterOf (x : Ctx) (s : State) (id : Word) : Except Trap Nat :=
  let n := id.toNat
  if n < 1024 then
    let b0 : BenchId := BitVec.ofNat 6 (n / 16)
    let b := if (x.gang s).former.contains b0 then x.b else b0
    if !(s.part (x.gang s).part).bench.getLsbD b.toNat then .error { cause := 0x11 }
    else
      match s.gang? b with
      | none => .ok 0
      | some g => .ok (streamCounter (g.cores[(BitVec.ofNat 2 (n / 4)).toFin]) (BitVec.ofNat 2 n))
  else if n < 1028 then .ok (s.ctxs[(BitVec.ofNat 2 n).toFin]).counter
  else if n < 1032 then .ok (s.scx[(BitVec.ofNat 2 n).toFin]).counter
  else if 1088 ≤ n ∧ n < 1152 then .ok ((s.part (x.gang s).part).windows[(BitVec.ofNat 6 (n - 1088)).toFin]).arrivals
  else .error { cause := 0x03 }

/-- TLWAIT: waits, and is then an acquire at scope SYS (R192). -/
def effTlwait (i n : BitVec 5) : Effect := fun x s =>
  let st := x.st s
  match counterOf x s (st.sreg i) with
  | .error t => .trap t
  | .ok v => if (st.sreg n).toNat ≤ v then .ok (acquireL1 s x 3) else .stay s

/-- TLRD (R192). -/
def effTlrd (d i : BitVec 5) : Effect := fun x s =>
  match counterOf x s ((x.st s).sreg i) with
  | .error t => .trap t
  | .ok v => writeS d (BitVec.ofNat 64 v) x s

/-- TSIG: adds a token at the target core; waits while the counter holds 255 (R193). -/
def effTsig (t : CoreId) : Effect := fun x s =>
  let n := (s.core x.b t).tok[x.c.toFin]
  if n = 255 then .stay s
  else .ok (s.updCore x.b t fun k => { k with tok := k.tok.set x.c.toFin (n + 1) })

/-- Does another stream of the core wait for the same token from an earlier step (R193)? -/
def earlierWaiter (k : Core) (t : StreamId) (src : CoreId) (ticket : Nat) : Bool :=
  (List.range 4).any fun u => u != t.toNat &&
    (match (k.streams[u]!).wait with
    | .token src' n => src' == src && (decide (n < ticket) || (n == ticket && decide (u < t.toNat)))
    | _ => false)

/-- TWAIT: takes a token of the source core, in the order in which the TWAITs issued; an acquire at scope BENCH
(R193). -/
def effTwait (src : CoreId) : Effect := fun x s =>
  let k := x.core s
  let ticket := match (x.st s).wait with
    | .token _ n => n
    | _ => s.ticks
  let n := k.tok[src.toFin]
  if n = 0 ∨ earlierWaiter k x.t src ticket then .stay (x.upd s fun st => { st with wait := .token src ticket })
  else .ok (acquireL1 (x.updCore s fun k => { k with tok := k.tok.set src.toFin (n - 1) }) x 1)

/-! ### SYS (R194) -/

/-- NOP (R194). -/
def effNop : Effect := fun _ s => .ok s

/-- TRAP: software-trap after the bundle (R132, R194). -/
def effTrap : Effect := fun _ s => .after s { cause := 0x20 }

/-- BRK: breakpoint after the bundle (R132, R194). -/
def effBrk : Effect := fun _ s => .after s { cause := 0x21 }

end Sys2Proof.Machine
end

