-- ==== Sys2Proof/Machine/Sched.lean ====
section
/-! DEFINITION. Node records, futures, the ready pool with its spoil queue and deferred list, node start, and migration
(14, R30, R33). -/

namespace Sys2Proof.Machine

/-! ### Node records (R121) -/

/-- An address space of a virtual function: the function, and the stage-1 root through which its addresses are taken
(R150). -/
structure Space where
  vf : VfId
  root : Word
  deriving DecidableEq, Repr, Inhabited

/-- The space of a function's committed root, in which the dispatcher finds its nodes. -/
def State.space (s : State) (v : VfId) : Space := { vf := v, root := ((s.vf v).root.setWidth 64) <<< 12 }

/-- The space of a gang: its root is the one in force when its node was dispatched (R150). -/
def Gang.space (g : Gang) : Space := { vf := g.vf, root := g.root }

/-- The device's own accesses to records and rings: by the partition that runs the function, and passed by by R110, which
checks the accesses of benches (log 18). -/
def whoVf (s : State) (sp : Space) : Who :=
  let f := s.vf sp.vf
  { unit := 320 + sp.vf.toNat, part := if f.partEn then some f.part else none, root1 := some sp.root
    root2 := (f.s2root.setWidth 64) <<< 12, en2 := f.s2en, bench := none, unraced := true }

/-- The space through which a node's record is found: the committed root's, or that of a pre-empted gang, which keeps the
root under which it was dispatched (R150; log 92). -/
def State.spaceOf (s : State) (v : VfId) (own : Option Word) : Space := match own with
  | some r => { vf := v, root := r }
  | none => s.space v

/-- The space of a pool entry's record. -/
def State.entrySpace (s : State) (e : PoolEntry) : Space := s.spaceOf e.vf e.own

/-- Physical address of an address of a space. -/
def vfAddr (s : State) (sp : Space) (a : Nat) (k : AccKind) : Option Nat :=
  match access s (whoVf s sp) (BitVec.ofNat 64 a) k false with
  | .ok (pa, _) => some pa
  | .error _ => none

/-- The value that a doubleword of a space holds. -/
def vfRead (s : State) (sp : Space) (a : Nat) : Option Word :=
  (vfAddr s sp a .read).map fun pa => BitVec.ofNat 64 (physRead s pa 8)

/-- The state that a translation of an address of a space leaves, or an access of the device that fails. -/
def vfMissed (s : State) (sp : Space) (a : Nat) : State := missed s (whoVf s sp) (BitVec.ofNat 64 a) false

/-- An access of the device to `n` bytes of a space passes its home slice (R90, R325). -/
def vfTouch (s : State) (sp : Space) (a n : Nat) (k : AccKind) : State :=
  match homeAccess s (whoVf s sp) (BitVec.ofNat 64 a) n k false with
  | .ok (_, s') => s'
  | .error _ => vfMissed s sp a

/-- Write a doubleword at an address of a space; nothing where it is not mapped. -/
def vfWrite (s : State) (sp : Space) (a : Nat) (x : Word) : State :=
  match homeAccess s (whoVf s sp) (BitVec.ofNat 64 a) 8 .write false with
  | .ok (pa, s') => physWrite s' pa 8 x.toNat
  | .error _ => vfMissed s sp a

/-- The sixteen doublewords of a node record. -/
def readRecord (s : State) (sp : Space) (node : Nat) : Option (List Word) :=
  (vfAddr s sp node .read).map fun pa => (List.range 16).map fun i => BitVec.ofNat 64 (physRead s (pa + 8 * i) 8)

/-- Change doubleword `i` of a node record; nothing where it is not mapped. -/
def updRecord (s : State) (sp : Space) (node i : Nat) (f : Word → Word) : State :=
  match homeAccess s (whoVf s sp) (BitVec.ofNat 64 (node + 8 * i)) 8 .update false with
  | .ok (pa, s') => physWrite s' pa 8 (f (BitVec.ofNat 64 (physRead s' pa 8))).toNat
  | .error _ => vfMissed s sp (node + 8 * i)

/-- Replace bits `lo + n - 1 : lo` of a doubleword. -/
def setBits (x : Word) (lo n : Nat) (v : Nat) : Word :=
  let m : Word := BitVec.ofNat 64 (2 ^ n - 1) <<< lo
  (x &&& ~~~m) ||| ((BitVec.ofNat 64 v <<< lo) &&& m)

/-- D14 with a new STATE: RESULT stays, bits 61:32 are kept zero (Table 14.3). -/
def stateWord (x : Word) (st : Nat) : Word := BitVec.ofNat 64 (st * 2 ^ 62 + bits x 0 32)

/-- STATE of a record (Table 14.3). -/
def setState (s : State) (sp : Space) (node st : Nat) : State := updRecord s sp node 14 fun x => stateWord x st

/-- Are the reserved fields of a record zero, and its ENTRY valid (Table 14.4, code 2)? -/
def reservedOk (d : List Word) : Bool :=
  let z (i lo n : Nat) : Bool := bits (d[i]!) lo n == 0
  z 0 48 16 && z 0 0 2 && z 2 40 24 && z 3 48 16 && z 3 0 3 && z 4 48 16 && z 5 30 34 && z 5 2 7 &&
  z 6 50 14 && z 6 18 14 && z 7 50 14 && z 7 18 14 && z 8 48 16 && z 8 0 9 && z 13 16 48

/-- QCFGn of a record. -/
def recordQueue (d : List Word) (n : Nat) : BitVec 18 := (d[6 + n / 2]!).extractLsb' (32 * (n % 2)) 18

/-- Do pool boundaries and queue configurations satisfy R82? -/
def poolOk (d : List Word) : Bool :=
  let pb1 := bits (d[5]!) 9 7
  let pb2 := bits (d[5]!) 16 7
  let pb3 := bits (d[5]!) 23 7
  let vc := bits (d[5]!) 0 2
  let depth (n : Nat) : Nat := ((recordQueue d n).extractLsb' 13 5).toNat
  let rm (n : Nat) : Nat := ((recordQueue d n).extractLsb' 8 3).toNat
  let sum := depth 0 + depth 1 + depth 2 + depth 3
  decide (vc + 1 ≤ pb1) && decide (pb1 ≤ pb2) && decide (pb2 + (sum + 15) / 16 ≤ pb3) && decide (pb3 ≤ 84) &&
  decide (48 ≤ pb3) && pb3 % 4 == 0 &&
  (List.range 4).all fun n => decide (2 ≤ depth n) && decide (depth n ≤ 16) && (decide (rm n ≤ 4) || rm n == 7)

/-! ### Declared sets (R84-R87) -/

/-- Do two ranges overlap? An empty range overlaps none. -/
def Range.overlaps (r q : Range) : Bool :=
  r.len != 0 && q.len != 0 && decide (r.base.toNat < q.base.toNat + q.len.toNat) &&
    decide (q.base.toNat < r.base.toNat + r.len.toNat)

/-- The sets of a stream with their classes, in order of class and slot. -/
def classed (v : Vector Range 16) : List (Nat × Range) := ((List.range 16).map (· / 4)).zip v.toList

/-- Do two ranges of two streams conflict (R87)? -/
def crossConflict (a b : Nat × Range) : Bool :=
  (a.1 == 1 || a.1 == 2 || b.1 == 1 || b.1 == 2) && a.2.overlaps b.2

/-- Do two ranges of one stream conflict (R87)? -/
def selfConflict (a b : Nat × Range) : Bool := a.1 == 1 && (b.1 == 2 || b.1 == 3) && a.2.overlaps b.2

/-- The first pair of ranges, by the order of R87, that conflict. -/
def pairOf (f : Nat × Range → Nat × Range → Bool) (a b : List (Nat × Range)) :
    Option ((Nat × Range) × (Nat × Range)) :=
  match a.find? (fun x => b.any (f x)) with
  | some x => (b.find? (f x)).map fun y => (x, y)
  | none => none

/-- SetsConflict: the lowest pair of streams that conflicts, with the two ranges (R36, R87). -/
def setsConflict (sets : Vector (Vector Range 16) 4) :
    Option ((Nat × Nat × Range) × (Nat × Nat × Range)) :=
  let is := [(0, 0), (0, 1), (0, 2), (0, 3), (1, 1), (1, 2), (1, 3), (2, 2), (2, 3), (3, 3)]
  is.findSome? fun (i, j) =>
    (pairOf (if i = j then selfConflict else crossConflict) (classed sets[i]!) (classed sets[j]!)).map fun p =>
      ((i, p.1), (j, p.2))

/-- A range as AUX0 and AUX1 of a set-overlap report it (Table 16.3). -/
def rangeAux (r : Nat × Nat × Range) : Word :=
  BitVec.ofNat 64 (r.2.1 * 2 ^ 62 + r.1 * 2 ^ 60 + (r.2.2.len.toNat % 2 ^ 28) * 2 ^ 32 + r.2.2.base.toNat)

/-- The default sets of a record, as each stream of core `c` takes them: none where the block cannot be read
(R84, R121; log 11). -/
def defaultSets (s : State) (sp : Space) (d : List Word) (c : CoreId) : Option (Vector (Vector Range 16) 4) :=
  let a := bits (d[8]!) 0 48
  if a = 0 then some (Vector.replicate 4 (Vector.replicate 16 ⟨0, 0⟩))
  else
    (vfAddr s sp a .read).map fun pa =>
      Vector.ofFn fun t => Vector.ofFn fun i =>
        let w := BitVec.ofNat 64 (physRead s (pa + 128 * t.val + 8 * i.val) 8)
        { base := BitVec.ofNat 32 (c.toNat * 2 ^ 24 + bits w 0 32), len := w.extractLsb' 32 32 }

/-- The dispatcher's reads of a record's default-sets block, four lines, at their home slices (R90, R325). -/
def setsTouch (s : State) (sp : Space) (d : List Word) : State :=
  let a := bits (d[8]!) 0 48
  if a = 0 then s else [0, 1, 2, 3].foldl (fun s t => vfTouch s sp (a + 128 * t) 128 .read) s

/-- Are the default sets free of core fields and of conflicts (R85, R87, R121)? -/
def setsOk (s : State) (sp : Space) (d : List Word) : Bool :=
  match defaultSets s sp d 0 with
  | none => false
  | some sets => (sets.toList.all fun t => t.toList.all fun r => decide (r.base.toNat < 2 ^ 24)) &&
      (setsConflict sets).isNone

/-! ### Partitions and benches -/

/-- Is a bench on a lean die (R15)? -/
def isLean (b : BenchId) : Bool := b.getLsbD 3

/-- The enabled benches of a partition, in index order. -/
def partBenches (s : State) (p : PartId) : List BenchId :=
  ((List.range 64).map (BitVec.ofNat 6)).filter fun b =>
    (s.part p).bench.getLsbD b.toNat && s.dev.benchmap.getLsbD b.toNat

/-- Has a partition an enabled extended bench? -/
def hasExtended (s : State) (p : PartId) : Bool := (partBenches s p).any fun b => !isLean b

/-- Has a partition a running node? -/
def hasRunning (s : State) (p : PartId) : Bool :=
  s.benches.toList.any fun g => (g.map (fun g => decide (g.part = p))).getD false

/-! ### Placement (R123, R124) -/

/-- Free entries of a ready pool. -/
def Part.free (p : Part) : Nat := 4096 - p.pool.length

/-- No gang stands on a bench any more; what its scratchpads held stays there (R81, R321). -/
def State.leave (s : State) (b : BenchId) : State :=
  { s.setGang b none with pools := s.pools.set b.toFin ((s.gang b).cores.map fun k => k.scratch) }

/-- A gang leaves its bench; the boost claim of a partition with no running node returns to 0 (R27, R324). -/
def State.vacate (s : State) (b : BenchId) : State :=
  let p := (s.gang b).part
  let s := s.leave b
  if hasRunning s p then s else s.updPart p fun q => { q with step := 0 }

/-- Change every program of the contexts: running, pending and saved. -/
def State.mapProgs (s : State) (f : ColProg → ColProg) : State :=
  { s with ctxs := s.ctxs.map fun c => { c with
    run := c.run.map fun r => { r with prog := f r.prog }
    pend := c.pend.map f
    saved := c.saved.map fun r => { r with prog := f r.prog } } }

/-- A gang has retired: the programs that it started keep the bench on which it last stood (R297). -/
def State.forget (s : State) (run : Nat) : State :=
  s.mapProgs fun c => if c.run = run then { c with gone := true } else c

/-- A gang retires and frees its bench (R33, R137, R203). -/
def State.retire (s : State) (b : BenchId) : State :=
  (s.vacate b).forget (s.gang b).run

/-- Is the spoil queue full? -/
def Part.spoilFull (p : Part) : Bool := decide (p.spoilCap.toNat ≤ p.spoilCount.toNat)

/-- Put a node into the pool with a ready number: the entry takes PRIO, and SUBD or MIG, from D2 of the record. -/
def enterPool (s : State) (p : PartId) (v : VfId) (node num : Nat) (own : Option Word := none) : State :=
  let d := (vfRead s (s.spaceOf v own) (node + 16)).getD 0
  s.updPart p fun q => { q with pool := q.pool ++
    [{ node := node, vf := v, ready := num, prio := bits d 34 2, passes := 0, ext := bit d 32 || bit d 36, own := own }] }

/-- Address of entry `i` of the spoil ring. -/
def spoilSlot (p : Part) (i : Nat) : Nat := p.spoilBase.toNat * 2 ^ 12 + 8 * (i % p.spoilCap.toNat)

/-- Append a node to the spoil queue (R124). -/
def spoilAppend (s : State) (p : PartId) (v : VfId) (node : Nat) : State :=
  let q := s.part p
  let s := devWrite s (some p) (spoilSlot q (q.spoilHead + q.spoilCount.toNat)) 8 (node + v.toNat)
  s.updPart p fun q => { q with spoilCount := q.spoilCount + 1 }

/-- Append a node to the deferred list, threaded through D4 of the records (R124). -/
def deferAppend (s : State) (p : PartId) (v : VfId) (node : Nat) : State :=
  let name : Word := BitVec.ofNat 64 (node + v.toNat)
  let q := s.part p
  let s := vfWrite s (s.space v) (node + 32) 0
  if q.defHead = 0 then s.updPart p fun q => { q with defHead := name, defTail := name }
  else
    let tv : VfId := q.defTail.extractLsb' 0 7
    let s := vfWrite s (s.space tv) (bits q.defTail 7 41 * 2 ^ 7 + 32) name
    s.updPart p fun q => { q with defTail := name }

/-- The ready number kept for a node outside the pool. -/
def numberOf (p : Part) (v : VfId) (node : Nat) : Nat :=
  ((p.numbers.find? fun e => e.1 == node && e.2.1 == v).map (·.2.2)).getD p.readyCount

/-- Spoil-queue heads enter the pool, deferred nodes enter the spoil queue, while there is room (R123). -/
def drainSpoil (p : PartId) : Nat → State → State
  | 0, s => s
  | n + 1, s =>
    let q := s.part p
    if 256 < q.free ∧ q.spoilCount ≠ 0 then
      let e := BitVec.ofNat 64 (physRead s (spoilSlot q q.spoilHead) 8)
      let node := bits e 7 41 * 2 ^ 7
      let v : VfId := e.extractLsb' 0 7
      let s := vfTouch (atHome s (some p) .read (spoilSlot q q.spoilHead) 8) (s.space v) (node + 16) 8 .read
      let s := enterPool s p v node (numberOf q v node)
      drainSpoil p n (s.updPart p fun q => { q with
        spoilHead := (q.spoilHead + 1) % q.spoilCap.toNat, spoilCount := q.spoilCount - 1
        numbers := q.numbers.filter fun e => !(e.1 == node && e.2.1 == v) })
    else if !q.spoilFull ∧ q.defHead ≠ 0 then
      let node := bits q.defHead 7 41 * 2 ^ 7
      let v : VfId := q.defHead.extractLsb' 0 7
      let next := ((vfRead s (s.space v) (node + 32)).getD 0) &&& 0xFFFFFFFFFFFF#64
      let s := spoilAppend (vfTouch s (s.space v) (node + 32) 8 .read) p v node
      drainSpoil p n (s.updPart p fun q => { q with
        defHead := if q.defHead = q.defTail then 0 else next
        defTail := if q.defHead = q.defTail then 0 else q.defTail })
    else s

/-- More moves than a pool, a spoil queue and any list in memory can need: a list names each of the 2^41 record addresses
of each function at most once (R121, R124). -/
def drainFuel : Nat := 2 ^ 50

/-- Place a node already checked, with a ready number; the flag says that it was placed (R123). -/
def placeNode (s : State) (p : PartId) (v : VfId) (node num : Nat) (waits : Bool) : State × Bool :=
  let q := s.part p
  let crit := ((vfRead s (s.space v) (node + 16)).map fun d => bit d 37).getD false
  let remember (s : State) : State := s.updPart p fun q => { q with numbers := (node, v, num) :: q.numbers }
  if crit ∧ 1 ≤ q.free then (enterPool s p v node num, true)
  else if 256 < q.free ∧ q.spoilCount = 0 ∧ q.defHead = 0 then (enterPool s p v node num, true)
  else if !q.spoilFull ∧ q.defHead = 0 then (remember (spoilAppend s p v node), true)
  else if waits then (s, false)
  else (remember (deferAppend s p v node), true)

/-! ### Futures (R126, R127) -/

/-- Is a future state word well formed (R127)? -/
def futureOk (w : Word) : Bool := bits w 62 2 != 3 && bits w 56 6 == 0 && (bits w 62 2 != 0 || bits w 0 7 == 0)

/-- What a registration or a resolution does to a future's word: it changes one that is well formed and EMPTY, and reads any
other (R127). -/
def futureKind (w : Word) : AccKind := if futureOk w && bits w 62 2 == 0 then .update else .read

/-- The word of a future, where its address is translated. -/
def futureWord (s : State) (w : Who) (f : Word) : Option Word :=
  (translate s w f).toOption.map fun y => BitVec.ofNat 64 (physRead y.2 y.1.pa 8)

/-- An access to the word of a future, whose value decides its kind: the physical address, the word, and the state. It is
none of the four accesses that R110 exempts (R127). -/
def futureAccess (s : State) (w : Who) (f : Word) (kind : Word → AccKind) : Except MemFault (Nat × Word × State) :=
  match homeAccess s w f 8 (((futureWord s w f).map kind).getD .read) false with
  | .error e => .error e
  | .ok (pa, s) => .ok (pa, BitVec.ofNat 64 (physRead s pa 8), s)

/-- The records on a waiter list, in list order (R127). -/
def waiters (s : State) (sp : Space) : Nat → Nat → List Nat
  | 0, _ => []
  | n + 1, a =>
    if a = 0 then []
    else a :: waiters s sp n (((vfRead s sp (a + 32)).map fun d => bits d 7 41 * 2 ^ 7).getD 0)

/-- A record-only record of the dispatcher (R336). -/
def recordOnly (s : State) (p : PartId) (cause : Nat) (addr aux0 aux1 : Word) : State :=
  (trapRecord s p { cause := cause, unit := 3, addr := addr, aux0 := aux0, aux1 := aux1 }).1

/-- Physical line of a record, which holds its start vector (R109). -/
def recordLine (s : State) (sp : Space) (node : Nat) : Option Nat := (vfAddr s sp node .read).map lineOf

/-- Join a clock into a record's start vector (R109). -/
def joinStart (s : State) (p : PartId) (sp : Space) (node : Nat) (c : Clock) : State :=
  match recordLine s sp node with
  | some l => carryMore s p l c
  | none => s

/-- Decrement of R127; the flag says that the node's count reached 0. -/
def decrement (s : State) (p : PartId) (sp : Space) (node : Nat) (fut : Word) (c : Clock) : State × Bool :=
  match vfRead s sp (node + 16) with
  | none => (s, false)
  | some d =>
    let n := bits d 0 32
    if n = 0 then (recordOnly (vfTouch s sp (node + 16) 8 .read) p 0x0D fut (BitVec.ofNat 64 node) 0, false)
    else
      let s := updRecord s sp node 2 fun d => setBits d 0 32 (n - 1)
      (joinStart s p sp node c, n == 1)

/-- Give FI to a record (R127). -/
def setFI (s : State) (sp : Space) (node : Nat) : State := updRecord s sp node 2 fun d => setBits d 38 1 1

/-- Release the waiters of a resolved future: the state, and the nodes that became ready (R127). -/
def releaseWaiters (s : State) (p : PartId) (sp : Space) (fut : Word) (failed : Bool) (c : Clock) :
    List Nat → State × List Nat
  | [] => (s, [])
  | n :: r =>
    let s := vfTouch s sp (n + 32) 8 .read
    let s := if failed then setFI s sp n else s
    let (s, rdy) := decrement s p sp n fut c
    let (s, l) := releaseWaiters s p sp fut failed c r
    (s, if rdy then n :: l else l)

/-- The partition that runs a virtual function's nodes. Where VFPART.EN = 0 it is the one that VFPART still names, which keeps
the function's waiting nodes and takes the record-only records of a failed node (log 91). -/
def vfPart (s : State) (v : VfId) : PartId := (s.vf v).part

/-- The first check of R122 that a record fails: its code (Table 14.4). -/
def dispatchCheck (s : State) (v : VfId) (d : List Word) : Option Nat :=
  let flags := d[2]!
  if !(s.vf v).partEn then some 5
  else if !reservedOk d then some 2
  else if !poolOk d || !setsOk s (s.space v) d then some 3
  else if bit flags 38 && !bit flags 39 then some 4
  else if (bit flags 32 || bit flags 36) && !hasExtended s (vfPart s v) then some 0x1A
  else none

/-- Retire a record with a code (R122). -/
def failRecord (s : State) (sp : Space) (node code : Nat) : State :=
  updRecord s sp node 14 fun _ => BitVec.ofNat 64 (3 * 2 ^ 62 + code)

/-- The dispatcher's resolution of a failed node's future: record-only faults, and the nodes it makes ready (R122,
R127). It carries the all-zero vector, which adds nothing to the vector of the line (R109). A future that cannot be
accessed is left as it is, with no record (log 84). -/
def dispatcherResolve (s : State) (p : PartId) (sp : Space) (node : Nat) (fut : Word) (code : Nat) :
    State × List Nat :=
  if fut = 0 then (s, [])
  else
    match futureAccess s (whoVf s sp) fut futureKind with
    | .error _ => (vfMissed s sp fut.toNat, [])
    | .ok (pa, w, s) =>
      if !futureOk w then (recordOnly s p 0x0D fut (BitVec.ofNat 64 node) w, [])
      else if bits w 62 2 ≠ 0 then (recordOnly s p 0x0C fut (BitVec.ofNat 64 node) w, [])
      else
        let l := waiters s sp drainFuel (bits w 7 41 * 2 ^ 7)
        let s := physWrite s pa 8 (2 * 2 ^ 62 + code)
        releaseWaiters s p sp fut true Clock.zero l

/-- Make nodes ready: each gets its ready number, is checked, and is placed or failed (R122, R123). A node that cannot
be placed while its agent waits is returned. The first argument bounds the chain of failed nodes. -/
def makeReady : Nat → State → List (Nat × VfId × Bool) → State × List (Nat × VfId × Nat)
  | 0, s, _ => (s, [])
  | _, s, [] => (s, [])
  | n + 1, s, (node, v, waits) :: r =>
    match readRecord s (s.space v) node with
    | none => makeReady n (vfMissed s (s.space v) node) r
    | some d =>
      let p := vfPart s v
      let s := vfTouch s (s.space v) node 128 .read
      let s := if (s.vf v).partEn && reservedOk d && poolOk d then setsTouch s (s.space v) d else s
      let s := s.updPart p fun q => { q with waiting := q.waiting.filter fun e => !(e == (node, v)) }
      match dispatchCheck s v d with
      | some code =>
        let s := failRecord s (s.space v) node code
        let s := if code = 0x1A then recordOnly s p 0x1A (BitVec.ofNat 64 node) 0 0 else s
        let fut : Word := (d[3]!) &&& 0xFFFFFFFFFFF8#64
        let (s, more) := dispatcherResolve s p (s.space v) node fut code
        makeReady n s (more.map (fun m => (m, v, false)) ++ r)
      | none =>
        let num := (s.part p).readyCount
        let (s, ok) := placeNode s p v node num waits
        let s := setState (s.updPart p fun q => { q with readyCount := num + 1 }) (s.space v) node 1
        let (s, l) := makeReady n s r
        (s, if ok then l else (node, v, num) :: l)

/-- A node submitted with a pending count that is not 0 waits (R122). -/
def submitWaiting (s : State) (v : VfId) (node : Nat) : State :=
  s.updPart (vfPart s v) fun q => { q with waiting := (node, v) :: q.waiting.filter fun e => !(e == (node, v)) }

/-- More nodes than a chain of failures can make ready: each fails once (R122). -/
def readyFuel : Nat := 2 ^ 50

/-- After a word has made nodes ready: it goes on once every one of them is placed (R123). -/
def placeAll (x : Ctx) (s : State) (nodes : List (Nat × VfId × Bool)) : Res :=
  let (s, rest) := makeReady readyFuel s nodes
  if rest.isEmpty then .ok s else .stay (x.upd s fun st => { st with wait := .place rest })

/-- Nodes made ready whose agent is gone are placed as by one that never waits (R123; log 90). -/
def placeStranded (s : State) (l : List (Nat × VfId × Nat)) : State :=
  l.foldl (fun s y => (placeNode (vfTouch s (s.space y.2.1) (y.1 + 16) 8 .read) (vfPart s y.2.1) y.2.1 y.1 y.2.2 false).1) s

/-- The nodes that words of a gang have made ready and wait to place. -/
def Gang.stranded (g : Gang) : List (Nat × VfId × Nat) :=
  g.cores.toList.flatMap fun k => k.streams.toList.flatMap fun st => match st.wait with
    | .place l => l
    | _ => []

/-- Try again to place nodes made ready before (R123). -/
def placeRest (s : State) : List (Nat × VfId × Nat) → State × List (Nat × VfId × Nat)
  | [] => (s, [])
  | (node, v, num) :: r =>
    let (s, ok) := placeNode (vfTouch s (s.space v) (node + 16) 8 .read) (vfPart s v) v node num true
    let (s, l) := placeRest s r
    (s, if ok then l else (node, v, num) :: l)

/-- A word that waits for places goes on once every node is placed; any other is performed (R123). -/
def placing (x : Ctx) (s : State) (first : Res) : Res :=
  match (x.st s).wait with
  | .place nodes =>
    let (s, rest) := placeRest s nodes
    if rest.isEmpty then .ok s else .stay (x.upd s fun st => { st with wait := .place rest })
  | _ => first

/-- Resolve of R127 by a gang, as a release that carries its clock: the trap, or the state with the nodes made ready. -/
def resolveBy (s : State) (b : BenchId) (sp : Space) (fut : Word) (pa : Nat) (st code : Nat) :
    Except Trap (State × List Nat) :=
  let w := BitVec.ofNat 64 (physRead s pa 8)
  if !futureOk w then .error { cause := 0x0D, addr := fut }
  else if bits w 62 2 ≠ 0 then .error { cause := 0x0C, addr := fut }
  else
    let p := (s.gang b).part
    let c := s.clocks[b.toFin]
    let l := waiters s sp drainFuel (bits w 7 41 * 2 ^ 7)
    let s := physWrite s pa 8 (st * 2 ^ 62 + code)
    let s := releaseAt s b 3 pa
    .ok (releaseWaiters s p sp fut (st == 2) c l)

/-! ### Node start (R30, R109) -/

/-- A core at node start (Table 02.4). -/
def startCore (d : List Word) (sets : Vector (Vector Range 16) 4) (node : Nat) : Core :=
  let st (t : Fin 4) : Stream := { sets := sets[t], next := sets[t] }
  let sc : Stream := { st 0 with
    status := .running
    pc := d[0]!
    s := ((Vector.replicate 32 (0 : Word)).set 1 (d[1]!)).set 2 (BitVec.ofNat 64 node) }
  { streams := Vector.ofFn fun t => if t = 0 then sc else st t
    q := Vector.ofFn fun i => { cfg := recordQueue d i.val, entries := [] } }

/-- The gang of a node, its record and default sets found in a space (R30, R150). A default-sets block that can no longer
be read leaves every set empty (log 11). -/
def startGang (s : State) (p : PartId) (sp : Space) (node : Nat) (d : List Word) (num : Nat) : Gang :=
  { record := BitVec.ofNat 64 node, vf := sp.vf, part := p, tenant := (d[13]!).setWidth 16
    vcount := 8 * (bits (d[5]!) 0 2 + 1)
    pb1 := (d[5]!).extractLsb' 9 7, pb2 := (d[5]!).extractLsb' 16 7, pb3 := (d[5]!).extractLsb' 23 7
    root := sp.root, pre := bit (d[2]!) 33
    cores := Vector.ofFn fun c =>
      startCore d ((defaultSets s sp d (BitVec.ofNat 2 c.val)).getD
        (Vector.replicate 4 (Vector.replicate 16 ⟨0, 0⟩))) node
    ready := num }

/-- The clock of a bench at node start: its own entry grown by one, the others from the start vector (R109). -/
def startClock (s : State) (p : PartId) (b : BenchId) (sp : Space) (node : Nat) : State :=
  let line := recordLine s sp node
  let s := (line.map (carriedLook s p)).getD s
  let sv := (line.bind (carried s p)).getD Clock.zero
  let own := clockInc (s.clocks[b.toFin])[b.toFin]
  askBarrier { s with clocks := s.clocks.set b.toFin (sv.set b.toFin own) } p own

/-! ### Dispatch (R125) -/

/-- Physical address to which an address of a space translates, whatever its permissions. -/
def vfHome (s : State) (sp : Space) (a : Nat) : Option Nat :=
  match translate s (whoVf s sp) (BitVec.ofNat 64 a) with
  | .ok (l, _) => some l.pa
  | .error _ => none

/-- The parts of a node's declared operands, inputs and outputs, that lie in one page of 64 KiB each: address and bytes
(R121, R125). -/
def declaredParts (d : List Word) : List (Nat × Nat) :=
  [9, 10, 11, 12].flatMap fun i =>
    let a := bits (d[i]!) 0 48
    let n := bits (d[i]!) 48 16 * 2 ^ 12
    ((List.range ((n + 2 ^ 16 - 1) / 2 ^ 16 + 1)).map fun k =>
      let lo := max a ((a / 2 ^ 16 + k) * 2 ^ 16)
      (lo, min (a + n) ((a / 2 ^ 16 + k + 1) * 2 ^ 16) - lo)).filter fun y => y.2 != 0

/-- Bytes of a node's declared operands that a quadrant homes (R125). -/
def homedBytes (s : State) (sp : Space) (d : List Word) (q : QuadId) : Nat :=
  ((declaredParts d).map fun y => match vfHome s sp y.1 with
    | some pa => if homeQuad pa = q then y.2 else 0
    | none => 0).sum

/-- The walks by which the dispatcher finds where a node's declared operands are homed (R90, R125, R325). -/
def homedLook (s : State) (sp : Space) (d : List Word) : State :=
  (declaredParts d).foldl (fun s y => vfMissed s sp y.1) s

/-- The better of two pool entries: the higher effective priority, then the lower ready number (R125). -/
def betterEntry (a b : PoolEntry) : PoolEntry :=
  if b.prio < a.prio ∨ (a.prio = b.prio ∧ a.ready ≤ b.ready) then a else b

/-- Has every issued operation of a core completed? -/
def Core.drained (k : Core) : Bool := k.results.isEmpty && k.longs.isEmpty && k.copies.isEmpty

/-- Has a gang stopped for a move, every operation of it complete, and no halt discards the move (R128)? Only then has it
precedence over pool entries (R130; log 95). -/
def waitsToMove (s : State) (g : Gang) : Bool :=
  (match g.stop with
    | .migrate _ _ => true
    | _ => false) &&
  !g.halted && !g.leaving && (s.part g.part).halt == .none && g.cores.toList.all Core.drained

/-- The enabled benches of a partition with no gang, in no quadrant in retention (R125, R321). -/
def vacantBenches (s : State) (p : PartId) : List BenchId :=
  (partBenches s p).filter fun b => (s.gang? b).isNone && (s.quads[(b.extractLsb' 4 2 : QuadId).toFin]).pwr != 2

/-- The extended bench that a gang on a bench takes of the vacant ones: its own quadrant first, then the lowest index
(R130). -/
def migrateTarget (vacant : List BenchId) (b : BenchId) : Option BenchId :=
  let ext := vacant.filter fun n => !isLean n
  (ext.find? fun n => n.extractLsb' 4 2 == b.extractLsb' 4 2).or ext.head?

/-- The vacant benches left when each gang that waits to move has taken one (R130). -/
def leaveTargets : List BenchId → List BenchId → List BenchId
  | vacant, [] => vacant
  | vacant, b :: r => match migrateTarget vacant b with
    | some n => leaveTargets (vacant.filter (· != n)) r
    | none => leaveTargets vacant r

/-- The benches on which a gang of a partition waits to move. -/
def movers (s : State) (p : PartId) : List BenchId :=
  ((List.range 64).map (BitVec.ofNat 6)).filter fun b =>
    ((s.gang? b).map fun g => decide (g.part = p) && waitsToMove s g).getD false

/-- The free benches of a partition that dispatch may use: each gang that waits for an extended bench takes one before
any pool entry (R125, R130). -/
def freeBenches (s : State) (p : PartId) : List BenchId := leaveTargets (vacantBenches s p) (movers s p)

/-- Can the node of a pool entry run on a bench (R125)? -/
def PoolEntry.runsOn (e : PoolEntry) (b : BenchId) : Bool := !e.ext || !isLean b

/-- The bench that the node of an entry is placed on, among free benches that can run it (R125). -/
def chooseBench (s : State) (e : PoolEntry) (d : List Word) (free : List BenchId) : Option BenchId :=
  let able := free.filter e.runsOn
  let lean := able.filter isLean
  let able := if lean.isEmpty then able else lean
  let homed (b : BenchId) : Nat := homedBytes s (s.entrySpace e) d (b.extractLsb' 4 2)
  let best := (able.map homed).foldl max 0
  able.find? fun b => homed b == best

/-- Pass-over of an entry that could have used a bench, whichever function is granted (R125; log 85). -/
def passOver (b : BenchId) (e : PoolEntry) : PoolEntry :=
  if !e.runsOn b then e
  else if e.passes = 255 then { e with passes := 0, prio := min 3 (e.prio + 1) }
  else { e with passes := e.passes + 1 }

/-- The saved gang of a node whose image its record's RESUME names (R147). -/
def savedOf (s : State) (v : VfId) (node : Nat) (d : List Word) : Option SavedGang :=
  if bits (d[15]!) 62 2 = 0 then none
  else (s.vf v).saved.find? fun g => g.addr == bits (d[15]!) 7 41 * 2 ^ 7 && g.gang.record.toNat == node

/-- Rebind what names a gang by its bench: the registered windows owned by the bench it leaves, and its own collective
programs (Table 14.7, R297). -/
def rebindBench (s : State) (p : PartId) (run : Nat) (b n : BenchId) : State :=
  let rebind (w : Window) : Window :=
    if bit w.ctl 63 && bit w.ctl 58 && bits w.ctl 52 6 == b.toNat then { w with ctl := setBits w.ctl 52 6 n.toNat } else w
  (s.updPart p fun q => { q with windows := q.windows.map rebind }).mapProgs fun c =>
    if c.run = run ∧ !c.gone then { c with bench := n } else c

/-- The own entry of the bench that a gang moves to: above that bench's own, and above those of the new and of the old
bench in the clock that moves (Table 14.7). -/
def movedClock (own : BitVec 24) (old : Clock) (new from' : BenchId) : BitVec 24 :=
  let top (x y : BitVec 24) : BitVec 24 := if x.toNat < y.toNat then y else x
  clockInc (top (top own old[new.toFin]) old[from'.toFin])

/-- Put a resumed gang on a bench, its bench-scoped names translated (R129, R147). -/
def resumeGang (s : State) (b : BenchId) (g : SavedGang) : State :=
  let former := if g.bench = b then g.gang.former else g.bench :: g.gang.former
  let own := movedClock (s.clocks[b.toFin])[b.toFin] g.clock b g.bench
  let s := s.setGang b (some { g.gang with former := former })
  let s := if g.bench = b then s else rebindBench s g.gang.part g.gang.run g.bench b
  askBarrier { s with clocks := s.clocks.set b.toFin (g.clock.set b.toFin own) } g.gang.part own

/-- A dispatch returns a quadrant in P1 to P0 (R321). -/
def wakeQuad (s : State) (b : BenchId) : State :=
  let i : QuadId := b.extractLsb' 4 2
  let q := s.quads[i.toFin]
  { s with quads := s.quads.set i.toFin (if q.pwr = 1 then { q with pwr := 0 } else q) }

/-- Place an entry on a bench: node start, or resumption of a saved gang (R30, R147). -/
def dispatchTo (s : State) (p : PartId) (b : BenchId) (e : PoolEntry) (d : List Word) : State :=
  let sp := s.entrySpace e
  let s := wakeQuad (vfTouch s sp e.node 128 .read) b
  let s := s.updPart p fun q => { q with pool := (q.pool.filter fun y => !(y == e)).map (passOver b) }
  let s := match savedOf s e.vf e.node d with
    | some g =>
      let s := resumeGang s b g
      let s := s.updVf e.vf fun f => { f with saved := f.saved.filter fun y => y.addr != g.addr }
      vfWrite s sp (e.node + 120) 0
    | none =>
      let s := setsTouch s sp d
      startClock (s.setGang b (some { startGang s p sp e.node d e.ready with run := s.ticks })) p b sp e.node
  drainSpoil p drainFuel (setState s sp e.node 2)

/-- DISPATCH: when a bench of a partition is free the dispatcher places the best candidate of the granted function's
pool entries (R125); not while the partition is halted, or a barrier is asked for, or before start step 7. While the
record of the best candidate cannot be read nothing is dispatched (log 85). -/
def dispatchOne (s : State) (p : PartId) : State :=
  let q := s.part p
  if !s.dev.ready ∨ q.halt ≠ .none ∨ q.barrier then s
  else
    match q.granted with
    | none => s
    | some v =>
      let free := freeBenches s p
      let able := q.pool.filter fun e => e.vf == v && free.any e.runsOn
      match able with
      | [] => s
      | e :: r =>
        let e := r.foldl betterEntry e
        match readRecord s (s.entrySpace e) e.node with
        | none => vfMissed s (s.entrySpace e) e.node
        | some d =>
          let s := homedLook s (s.entrySpace e) d
          match chooseBench s e d free with
          | none => s
          | some b => dispatchTo s p b e d

/-! ### Migration (R128-R130) -/

/-- Move a gang to a bench, whose quadrant wakes as for a dispatch; the record's MIG bit is set through the gang's own
root (R129, R150, Table 14.7). -/
def moveGang (s : State) (b n : BenchId) (g : Gang) : State :=
  let s := wakeQuad s n
  let old := s.clocks[b.toFin]
  let own := movedClock (s.clocks[n.toFin])[n.toFin] old n b
  let s := { s with clocks := s.clocks.set n.toFin (old.set n.toFin own) }
  let g' := { g with
    stop := .none, former := b :: g.former
    cores := g.cores.map fun k => { k with l1 := [] } }
  let s := (s.leave b).setGang n (some g')
  let s := askBarrier (rebindBench s g.part g.run b n) g.part own
  updRecord s g.space g.record.toNat 2 fun d => setBits d 36 1 1

/-- GANG_MIGRATE: a migrating gang whose operations have completed moves to the extended bench it is granted; with no
enabled extended bench in its partition it takes no-capable-bench (R130). -/
def migrateGang (s : State) (b : BenchId) : State :=
  match s.gang? b with
  | none => s
  | some g =>
    match g.stop with
    | .migrate c slot =>
      if !waitsToMove s g then s
      else if !hasExtended s g.part then
        takeFault (s.updGang b fun g => { g with stop := .none }) b c 2 slot (s.stream b c 2).pc { cause := 0x1A }
      else
        match migrateTarget (vacantBenches s g.part) b with
        | some n => moveGang s b n g
        | none => s
    | _ => s

/-! ### Retirement (R33, R203) -/

/-- A fault of NEXIT's resolution: core 0's SC takes it at its NEXIT, and the node does not retire (R127). -/
def retireFault (s : State) (b : BenchId) (t : Trap) : State :=
  let s := s.updCore b 0 fun k => { k with retired := none }
  let s := s.updStream b 0 0 fun st => { st with status := .running }
  takeFault s b 0 0 0 (s.stream b 0 0).pc t

/-- A page fault of NEXIT's resolution: core 0's SC waits at its NEXIT (R139). -/
def retirePage (s : State) (b : BenchId) (fut : Word) (stage level : Nat) : State :=
  let s := s.updCore b 0 fun k => { k with retired := none }
  let s := s.updStream b 0 0 fun st => { st with status := .running }
  let pc := (s.stream b 0 0).pc
  takePageFault s { b := b, c := 0, t := 0, pc := pc, next := pc + 4, slot := 0, word := pc } fut stage level

/-- NODE_RETIRE: when all four cores of a gang have retired, core 0's word decides: the node retires and its future is
resolved, or it is placed again (R33, R203). Where its record can no longer be read no future is known, and the bench is
freed all the same (log 88). -/
def retireNode (s : State) (b : BenchId) : State :=
  match s.gang? b with
  | none => s
  | some g =>
    if !(g.cores.toList.all fun k => k.retired.isSome) ∨ (s.part g.part).halt ≠ .none then s
    else
      match (g.cores[0]).retired with
      | none => s
      | some r =>
        let node := g.record.toNat
        if r.yields then
          let s := joinStart s g.part g.space node s.clocks[b.toFin]
          let s := vfWrite s g.space node r.operand
          let s := s.retire b
          (makeReady readyFuel s [(node, g.vf, false)]).1
        else
          let code := bits r.operand 0 32
          let fut : Word := ((vfRead s g.space (node + 24)).getD 0) &&& 0xFFFFFFFFFFF8#64
          let s := vfTouch s g.space (node + 24) 8 .read
          let finish (s : State) : State := (failRecord s g.space node code).retire b
          if fut = 0 then finish (releaseOnly s b 3)
          else
            match futureAccess s (whoStream s b 0) fut futureKind with
            | .error f =>
              let s := missed s (whoStream s b 0) fut f.raced
              match f with
              | .page stage level => retirePage s b fut stage level
              | .prot => retireFault s b { cause := 0x11, addr := fut }
              | .race e => retireFault s b { cause := 0x0B, addr := fut, aux0 := e }
            | .ok (pa, _, s') =>
              match resolveBy s' b g.space fut pa 1 code with
              | .error t => retireFault s' b t
              | .ok (s', nodes) =>
                (makeReady readyFuel (finish s') (nodes.map fun n => (n, g.vf, false))).1

end Sys2Proof.Machine
end

