-- ==== Sys2Proof/Machine/Control.lean ====
section
/-! DEFINITION. The SC-only words: stream control, atomics and ordered accesses, futures, nodes, collectives, system queries
(R31-R33, R195-R205, R327). -/

namespace Sys2Proof.Machine

/-! ### FORK, JOIN (R31, R32, R195) -/

/-- A stream that FORK starts (R31). -/
def forked (sc old : Stream) (entry : Word) : Stream :=
  { old with
    status := .running
    pc := entry
    s := ((Vector.replicate 32 (0 : Word)).set 1 (sc.sreg 1)).set 2 (sc.sreg 2)
    f := 0, b := Vector.replicate 8 0x8000000000000000#64, k := 0, frm := 0, kdesc := 0x8000000000000000#64
    loops := [], wait := .none, bundle := [], sxOnly := false }

/-- FORK: mask bit 0 LD, 1 CP, 2 ST; entries in b1, b2, b3. Of several entries that are not fetchable, ADDR names the
one of the lowest-numbered stream: a DESIGN CHOICE (R31; log 79). -/
def effFork (m : BitVec 3) : Effect := fun x s =>
  let k := x.core s
  let sc := x.st s
  let named (t : Nat) : Bool := decide (1 ≤ t) && m.getLsbD (t - 1)
  let all := (List.range 4).filter named
  if all.any fun t => (k.streams[t]!).status != .idle then illegalOperand
  else
    match all.find? fun t => !fetchable s (whoStream s x.b x.c) (sc.b[t]!) with
    | some t => .trap { cause := 0x04, addr := sc.b[t]! }
    | none =>
      .ok (x.updCore s fun k => { k with
        streams := Vector.ofFn fun t =>
          if named t.val then forked sc (k.streams[t]) (sc.b[t.val]!) else k.streams[t] })

/-- Is a stream of the core other than SC RUNNING? -/
def othersRun (k : Core) : Bool := (List.range 4).any fun t => t != 0 && (k.streams[t]!).status == .running

/-- Every ENDED stream becomes IDLE (R32). -/
def Core.joined (k : Core) : Core :=
  { k with streams := k.streams.map fun st => if st.status = .ended then { st with status := .idle } else st }

/-- JOIN (R32). -/
def effJoin : Effect := fun x s =>
  if othersRun (x.core s) then .stay (x.upd s fun st => { st with wait := .join })
  else .ok (x.updCore s Core.joined)

/-! ### Atomics and ordered accesses (R196-R200) -/

/-- Translate the address of an atomic access: not in the format aperture, with the permissions it needs (R196). -/
def atomicAddr (x : Ctx) (s : State) (va : Word) (n : Nat) (rd wr : Bool) : Except Res Nat :=
  if va.toNat % n ≠ 0 then .error (.trap { cause := 0x05, addr := va })
  else
    match translate s (whoStream s x.b x.c) va with
    | .error f => .error (memTrap x s va va f)
    | .ok (l, _) =>
      if (rd && !l.rd) || (wr && !l.wr) || decide (apertureBase ≤ l.pa) then
        .error (memTrap x s va va .prot)
      else .ok l.pa

/-- Perform an atomic access at the home slice: a read (LDA, and a CAS that finds another value), a write (STRL), or an
update; `new` is the value written, if any; `acq` and `rel` say what it is, at a scope. A present line of the core's
first-level cache takes the bytes read or written: a later load of the stream reads none older (R89, R98, R105, R110). -/
def atomicDo (x : Ctx) (s : State) (va : Word) (n : Nat) (k : AccKind) (new : Option Nat) (acq rel : Bool)
    (scope : Nat) : Except Res State :=
  match homeAccess s (whoStream s x.b x.c) va n k true with
  | .error f => .error (memTrap x s va va f)
  | .ok (pa, s) =>
    let s := if acq then acquireAt s x scope pa else s
    let s := match new with
      | some v => x.updCore (physWrite s pa n v) fun k => k.storeL1 pa n v
      | none => x.updCore s fun k => k.refreshL1 pa n (physRead s pa n)
    .ok (if rel then releaseAt s x.b scope pa else s)

/-- The functions of AMO on a width (R197). -/
def amoFn {w : Nat} (fn : Nat) (old v : BitVec w) : BitVec w :=
  match fn with
  | 0 => old + v
  | 1 => old &&& v
  | 2 => old ||| v
  | 3 => old ^^^ v
  | 4 => if v.slt old then v else old
  | 5 => if old.slt v then v else old
  | 6 => if v.ult old then v else old
  | 7 => if old.ult v then v else old
  | _ => v

/-- AMO; WD 2 is four bytes, 3 is eight (R197). -/
def effAmo (f : BitVec 4) (w o c : BitVec 2) (d b t : BitVec 5) : Effect := fun x s =>
  let st := x.st s
  let n := if w = 2 then 4 else 8
  let va := st.sreg b
  match atomicAddr x s va n true true with
  | .error r => r
  | .ok pa =>
    let old := BitVec.ofNat (8 * n) (physRead s pa n)
    let new := amoFn f.toNat old ((st.sreg t).setWidth (8 * n))
    match atomicDo x s va n .update (some new.toNat) (o.getLsbD 0) (o.getLsbD 1) c.toNat with
    | .error r => r
    | .ok s =>
      writeS d (if n = 4 ∧ (f = 4 ∨ f = 5) then old.signExtend 64 else old.setWidth 64) x s

/-- CAS on eight bytes, or sixteen in register pairs (R198). -/
def effCas (w : BitVec 1) (o c : BitVec 2) (d b m t : BitVec 5) : Effect := fun x s =>
  let st := x.st s
  let wide := w = 1
  let n := if wide then 16 else 8
  if wide && (d.getLsbD 0 || m.getLsbD 0 || t.getLsbD 0) then illegalOperand
  else
    let va := st.sreg b
    let pair (r : BitVec 5) : Nat :=
      (st.sreg r).toNat + (if wide then 2 ^ 64 * (st.sreg (r + 1)).toNat else 0)
    match atomicAddr x s va n true true with
    | .error r => r
    | .ok pa =>
      let old := physRead s pa n
      let same := old == pair m
      match atomicDo x s va n (if same then .update else .read) (if same then some (pair t) else none) (o.getLsbD 0)
          (o.getLsbD 1 && same) c.toNat with
      | .error r => r
      | .ok s =>
        if d = 0 then .ok s
        else .ok (x.upd s fun st =>
          let st := st.setS d (BitVec.ofNat 64 old)
          if wide then st.setS (d + 1) (BitVec.ofNat 64 (old / 2 ^ 64)) else st)

/-- LDA: an acquire (R199). -/
def effLda (z c : BitVec 2) (d b : BitVec 5) (o : BitVec 10) : Effect := fun x s =>
  let n := 2 ^ z.toNat
  let va := (x.st s).sreg b + (o.setWidth 64) * BitVec.ofNat 64 n
  match atomicAddr x s va n true false with
  | .error r => r
  | .ok pa =>
    match atomicDo x s va n .read none true false c.toNat with
    | .error r => r
    | .ok s' => writeS d (BitVec.ofNat 64 (physRead s pa n)) x s'

/-- STRL: a release (R199). -/
def effStrl (z c : BitVec 2) (d b : BitVec 5) (o : BitVec 10) : Effect := fun x s =>
  let n := 2 ^ z.toNat
  let va := (x.st s).sreg b + (o.setWidth 64) * BitVec.ofNat 64 n
  match atomicAddr x s va n false true with
  | .error r => r
  | .ok _ =>
    match atomicDo x s va n .write (some (((x.st s).sreg d).toNat % 2 ^ (8 * n))) false true c.toNat with
    | .error r => r
    | .ok s => .ok s

/-- FENCE: kind bit 0 acquires, at its scope; it names no location (R106, R200). -/
def effFence (k c : BitVec 2) : Effect := fun x s =>
  .ok (if k.getLsbD 0 then acquireL1 s x c.toNat else s)

/-- BARB: the k-th of each core completes together (R201). -/
def effBarb : Effect := fun x s =>
  let s := if (x.st s).wait = .barrier then s else x.updCore s fun k => { k with barbs := k.barbs + 1 }
  let own := (x.core s).barbs
  if (x.gang s).cores.toList.all fun k => decide (own ≤ k.barbs) then .ok (acquireL1 s x 1)
  else .stay (x.upd s fun st => { st with wait := .barrier })

/-! ### Futures (R127, R202) -/

/-- The state word of a future at its home slice: address and value (R126). A present line of the core's first-level
cache is dropped, as a displacement may (R89; log 82). -/
def futureAt (x : Ctx) (s : State) (f : Word) (kind : Word → AccKind) : Except Res (Nat × Word × State) :=
  if f.toNat % 8 ≠ 0 then .error (.trap { cause := 0x05, addr := f })
  else
    match futureAccess s (whoStream s x.b x.c) f kind with
    | .error e => .error (memTrap x s f f e)
    | .ok (pa, w, s) => .ok (pa, w, x.updCore s fun k => k.dropLine (lineOf pa))

/-- Does FUTINIT refuse a word: of no state, or EMPTY with registrations (R202)? -/
def initBad (w : Word) : Bool := bits w 62 2 == 3 || (bits w 62 2 == 0 && bits w 48 8 != 0)

/-- FUTINIT (R202). -/
def effFutinit (f : BitVec 5) : Effect := fun x s =>
  let a := (x.st s).sreg f
  match futureAt x s a fun w => if initBad w then .read else .update with
  | .error r => r
  | .ok (pa, w, s) =>
    if initBad w then .fault s { cause := 0x0D, addr := a }
    else .ok (physWrite s pa 8 0)

/-- A word reads and writes a node record at its home slice: a present line of the core's first-level cache is dropped,
as a displacement may (R89, R95, R98; log 82). -/
def recordAt (x : Ctx) (s : State) (node : Word) (kind : AccKind) : Except MemFault (Nat × State) :=
  match homeAccess s (whoStream s x.b x.c) node 128 kind false with
  | .error e => .error e
  | .ok (pa, s) => .ok (pa, x.updCore s fun k => k.dropLine (lineOf pa))

/-- What FUTREG of a record on a future does to the record: it changes LINK, FI or PEND, and reads a record whose STATE is not
00, one that it would register on a word of no state, and one of PEND 0 at a resolved word (R127, R202). -/
def registerKind (s : State) (w : Who) (f node : Word) : AccKind :=
  match translate s w node, futureWord s w f with
  | .ok (l, s), some v =>
    if physRead s (l.pa + 112) 8 / 2 ^ 62 ≠ 0 ∨ futureOk v = false then .read
    else if bits v 62 2 = 1 ∧ physRead s (l.pa + 16) 4 = 0 then .read
    else .update
  | _, _ => .read

/-- FUTREG: FutReg of R127 on the future and the record, both in the space of the gang; a fault names F, but for a record
that is misaligned or whose STATE is not 00 (R150, R202). -/
def effFutreg (f n : BitVec 5) : Effect := fun x s =>
  let a := (x.st s).sreg f
  let node := (x.st s).sreg n
  placing x s <|
    if a.toNat % 8 ≠ 0 then .trap { cause := 0x05, addr := a }
    else if node.toNat % 128 ≠ 0 then .trap { cause := 0x05, addr := node }
    else
      match recordAt x s node (registerKind s (whoStream s x.b x.c) a node) with
      | .error e => memTrap x s node a e
      | .ok (npa, s) =>
        if physRead s (npa + 112) 8 / 2 ^ 62 ≠ 0 then .fault s { cause := 0x0D, addr := node }
        else
          match futureAt x s a futureKind with
          | .error r => r
          | .ok (pa, w, s) =>
            let v := (x.gang s).vf
            let sp := (x.gang s).space
            let p := (x.gang s).part
            if !futureOk w then .fault s { cause := 0x0D, addr := a }
            else if bits w 62 2 = 0 then
              let head := bits w 7 41
              let s := physWrite s (npa + 32) 8 (if head = 0 then 0 else head * 2 ^ 7 + v.toNat)
              .ok (physWrite s pa 8 (setBits (setBits w 7 41 (bits node 7 41)) 48 8 (min (bits w 48 8 + 1) 255)).toNat)
            else
              let s := if bits w 62 2 = 2 then setFI s sp node.toNat else s
              let c := (carried s p (lineOf pa)).getD Clock.zero
              let s := acquireAt s x 3 pa
              let (s, rdy) := decrement s p sp node.toNat a c
              if rdy then placeAll x s [(node.toNat, v, true)] else .ok s

/-- FUTRES and FUTFAIL: Resolve of R127, a release at scope SYS (R202). -/
def effResolve (st : Nat) (f c : BitVec 5) : Effect := fun x s =>
  let a := (x.st s).sreg f
  let code := bits ((x.st s).sreg c) 0 32
  placing x s <|
    match futureAt x s a futureKind with
    | .error r => r
    | .ok (pa, _, s) =>
      let v := (x.gang s).vf
      match resolveBy s x.b (x.gang s).space a pa st code with
      | .error t => .fault s t
      | .ok (s, nodes) => placeAll x s (nodes.map fun n => (n, v, true))

/-! ### Nodes (R33, R203) -/

/-- NSPAWN: submits a record, as a release at scope SYS (R109, R203). -/
def effNspawn (r : BitVec 5) : Effect := fun x s =>
  let node := (x.st s).sreg r
  placing x s <|
    if node.toNat % 128 ≠ 0 then .trap { cause := 0x05, addr := node }
    else
      match recordAt x s node .update with
      | .error e => memTrap x s node node e
      | .ok (pa, s) =>
        let v := (x.gang s).vf
        let pend := physRead s (pa + 16) 4
        let s := clearCarried s (x.gang s).part (lineOf pa)
        let s := releaseAt s x.b 3 pa
        let s := physWrite s (pa + 112) 8
          (stateWord (BitVec.ofNat 64 (physRead s (pa + 112) 8)) (if pend = 0 then 1 else 0)).toNat
        if pend = 0 then placeAll x s [(node.toNat, v, true)] else .ok (submitWaiting s v node.toNat)

/-- NEXIT and NYIELD: the wait of JOIN, the wait for every asynchronous operation of the core, and the core retires,
its token counts discarded (R33, R193, R203). -/
def effRetire (yields : Bool) (r : BitVec 5) : Effect := fun x s =>
  let k := x.core s
  if othersRun k then .stay (x.upd s fun st => { st with wait := .join })
  else
    let s := x.updCore s Core.joined
    if !k.drained then .stay (x.upd s fun st => { st with wait := .join })
    else
      let v := (x.st s).sreg r
      let s := x.upd s fun st => { st with status := .idle, wait := .none }
      .halt (x.updCore s fun k => { k with
        retired := some { yields := yields, operand := v }, tok := Vector.replicate 4 0 })

/-- NSELF (R203). -/
def effNself (r : BitVec 5) : Effect := fun x s => writeS r (x.gang s).record x s

/-! ### Collectives and system queries (R204, R205, R313, R327) -/

/-- Is a group masked for the gang's virtual function: 0 D, 1 CK, 2 COL (R140)? -/
def isMasked (x : Ctx) (s : State) (group : Nat) : Bool := (s.vf (x.gang s).vf).feat.getLsbD group

/-- A program as it starts (R302, R312). -/
def newRun (p : ColProg) : ColRun :=
  { prog := p, g := Vector.replicate 16 0, pcw := 0, loop := none, share := Vector.replicate 3 128, rv := 0, lastRv := none
    wait := .none, redo := false, halted := false, fault := none, loaded := false, flg := 0, done := 0, xfer := 0 }

/-- May a program saved by a slice end be taken up: has its function the grant again (R315)? -/
def State.regranted (s : State) (r : ColRun) : Bool :=
  (s.part r.prog.part).granted == some r.prog.vf && (s.part r.prog.part).halt == .none

/-- Must the pending program of a context wait for an earlier one, which runs, is to run on, or is saved for the same
function (R301, R315)? -/
def ColCtx.waits (c : ColCtx) (s : State) : Bool :=
  match c.pend with
  | none => false
  | some p => c.run.isSome || c.saved.any fun r => r.prog.vf == p.vf || s.regranted r

/-- Does a halt of a partition keep its programs stopped: has no RESUME let them go on (R137, R315)? -/
def Part.stopsPrograms (p : Part) : Bool := p.halt == .raised || p.halt == .reached

/-- A context takes up its pending program, its arguments not yet loaded; a halt of its partition stops it there
(R301, R315). -/
def ColCtx.takeUp (c : ColCtx) (s : State) : ColCtx :=
  match c.pend with
  | none => c
  | some p => { c with pend := none, flg := 0, run := some { newRun p with halted := (s.part p.part).stopsPrograms } }

/-- COLGO: enqueues a program on a context, as a release at scope SYS (R204, R301). -/
def effColgo (c : BitVec 2) (p a d : BitVec 5) : Effect := fun x s =>
  if isMasked x s 2 then .masked 2
  else
    let st := x.st s
    let g := x.gang s
    let k := s.ctxs[c.toFin]
    if k.waits s then .stay s
    else
      let k := k.takeUp s
      let n := k.issued + 1
      let prog : ColProg :=
        { num := n, part := g.part, vf := g.vf, tenant := g.tenant, bench := x.b, run := g.run, root := g.root
          addr := st.sreg p, args := st.sreg a }
      let s := { s with ctxs := s.ctxs.set c.toFin { k with pend := some prog, issued := n } }
      writeS d (BitVec.ofNat 64 n) x (releaseOnly s x.b 3)

/-- The status word of a context (Table 34.4). -/
def ColCtx.status (k : ColCtx) : Word :=
  let wrv := match k.run with
    | some r => r.wait == .residency
    | none => false
  let halt := match k.run with
    | some r => r.halted
    | none => !k.saved.isEmpty
  let part : Byte := match k.run with
    | some r => r.prog.part.setWidth 8
    | none => 0
  let pcw := match k.run with
    | some r => r.pcw
    | none => 0
  let flg := match k.run with
    | some r => r.flg
    | none => k.flg
  BitVec.ofBool k.run.isSome ++ (BitVec.ofBool k.pend.isSome ++ (BitVec.ofBool halt ++ (BitVec.ofBool wrv ++
    (0#4 ++ (k.cause ++ (0#3 ++ (flg ++ (part ++ pcw))))))))

/-- COLQ (R204, R313). -/
def effColq (c : BitVec 2) (d : BitVec 5) : Effect := fun x s =>
  if isMasked x s 2 then .masked 2 else writeS d (s.ctxs[c.toFin]).status x s

/-- CAPQ (R205). -/
def effCapq (r : BitVec 5) : Effect := fun x s =>
  let p := (x.gang s).part
  let l := partBenches s p
  let ext := (l.filter fun b => !isLean b).length
  let lean := (l.filter isLean).length
  let v := (if !isMasked x s 0 && decide (0 < ext) then 1 else 0) + (if isMasked x s 1 then 0 else 2) +
    (if isMasked x s 2 then 0 else 4)
  writeS r (BitVec.ofNat 64 (v + 2 ^ 8 * ext + 2 ^ 16 * lean)) x s

/-- BOOST (R327). -/
def effBoost (r : BitVec 5) : Effect := fun x s =>
  let v := (x.st s).sreg r
  if 2 < v.toNat then illegalOperand
  else .ok (s.updPart (x.gang s).part fun p => { p with step := v.setWidth 2 })

/-- PERMQ (R327). -/
def effPermq (r : BitVec 5) : Effect := fun x s =>
  writeS r (BitVec.ofNat 64 (s.part (x.gang s).part).permits) x s

/-- SNAP: fires the trigger if enabled, and reads the number (R327). -/
def effSnap (r : BitVec 5) : Effect := fun x s =>
  let s := fireTrigger s 0
  writeS r (s.dev.snapSeq.setWidth 64) x s

end Sys2Proof.Machine
end

