-- ==== Sys2Proof/Machine/Operands.lean ====
section
/-! DEFINITION. Tiles by element, operand specifiers, operand rings, queues, and the delivery of a vector result under the
PSEL prefix (R45-R58, R159, R245-R248). -/

namespace Sys2Proof.Machine

/-! ### Elements of a tile (R46) -/

/-- log2 of the number of elements of `z` bytes in a tile. -/
def elemLog (z : Nat) : Nat := 12 - z.log2

/-- Columns of the view of `z` bytes. -/
def cols (z : Nat) : Nat := 256 / z

/-- Element `e` of `z` bytes, row by row. -/
def tileElem (t : Tile) (z e : Nat) : Nat := t.toNat / 2 ^ (8 * z * e) % 2 ^ (8 * z)

/-- Values and lane flags of elements `i` to `i + 2^m - 1` of a view of `2^N` elements of `w` bits; an element's flags
go to its lane (Table 04.2). -/
def genElems (N w : Nat) (f : Nat → Nat × XFlags) : Nat → Nat → Nat × Nat
  | 0, i => let r := f i; (r.1 % 2 ^ w, r.2.toNat)
  | m + 1, i =>
    let a := genElems N w f m i
    let b := genElems N w f m (i + 2 ^ m)
    (a.1 + 2 ^ (w * 2 ^ m) * b.1,
      if N ≤ m + 10 then a.2 + 2 ^ (5 * 2 ^ (m + 10 - N)) * b.2 else a.2 ||| b.2)

/-- A tile and its lane flags, element by element in the view of `z` bytes. -/
def genTile (z : Nat) (f : Nat → Nat × XFlags) : Tile × Lanes :=
  let r := genElems (elemLog z) (8 * z) f (elemLog z) 0
  (BitVec.ofNat 32768 r.1, BitVec.ofNat 5120 r.2)

/-- A tile with no flags. -/
def mapTile (z : Nat) (f : Nat → Nat) : Tile := (genTile z fun e => (f e, 0)).1

/-- One value in every element of `z` bytes. -/
def splat (z v : Nat) : Tile := BitVec.ofNat 32768 ((2 ^ 32768 - 1) / (2 ^ (8 * z) - 1) * (v % 2 ^ (8 * z)))

/-- Every bit of each element of `z` bytes: the element's governing bit (R47). -/
def spread (z : Nat) (p : Pred) : Pred :=
  let low := BitVec.ofNat 4096 ((2 ^ 4096 - 1) / (2 ^ z - 1))
  BitVec.ofNat 4096 ((p &&& low).toNat * (2 ^ z - 1))

/-! ### Operand specifiers (R45, R159) -/

/-- Is a specifier permitted as A or B, with a VCOUNT? -/
def srcOk (vc : Nat) (a : BitVec 6) : Bool :=
  let n := a.toNat
  if n < 32 then decide (n < vc) else n != 54 && n != 55

/-- Is a specifier permitted as D? -/
def dstOk (vc : Nat) (d : BitVec 6) : Bool :=
  let n := d.toNat
  if n < 32 then decide (n < vc) else decide (n < 40) || n == 54 || n == 55 || n == 63

/-- Is a specifier permitted as a D that is also read? -/
def dstReadOk (vc : Nat) (d : BitVec 6) : Bool := decide (d.toNat < 40) && dstOk vc d

/-- Does a specifier name v_i below VCOUNT? -/
def vOk (vc : Nat) (d : BitVec 6) : Bool := decide (d.toNat < 32) && decide (d.toNat < vc)

/-- Does a specifier name a predicate? -/
def pOk (d : BitVec 6) : Bool := decide (d.toNat < 8)

/-- Does a specifier name a cross scalar? -/
def cOk (d : BitVec 6) : Bool := decide (56 ≤ d.toNat)

/-! ### Queues (R54-R56) -/

/-- SFMT, KFMT, RM, EPOL, FPOL and DEPTH of a configuration (Table 04.4). -/
def Queue.sfmt (q : Queue) : BitVec 4 := q.cfg.extractLsb' 0 4
/-- Sink format. -/
def Queue.kfmt (q : Queue) : BitVec 4 := q.cfg.extractLsb' 4 4
/-- Rounding of the conversion on pop. -/
def Queue.rm (q : Queue) : BitVec 3 := q.cfg.extractLsb' 8 3
/-- Empty policy: trap. -/
def Queue.epol (q : Queue) : Bool := q.cfg.getLsbD 11
/-- Full policy: trap. -/
def Queue.fpol (q : Queue) : Bool := q.cfg.getLsbD 12
/-- Entries that the queue holds. -/
def Queue.depth (q : Queue) : Nat := (q.cfg.extractLsb' 13 5).toNat

/-- Are the formats of a queue ones that R56 refuses? -/
def Queue.refused (q : Queue) : Bool :=
  q.sfmt == 15 || q.kfmt == 15 || (q.sfmt != q.kfmt && (q.sfmt == 1 || q.kfmt == 1))

/-- Has a stream arrived at the flip (R35, R144)? -/
def Stream.arrived (st : Stream) (sc : Bool) : Bool :=
  st.status == .ended || (match st.wait with
    | .flip _ _ => true
    | .join => sc
    | .epilogue _ _ => true
    | _ => false)

/-- Has every non-IDLE stream other than `t` arrived: a blocked queue could never be released (R38)? -/
def Core.othersArrived (k : Core) (t : StreamId) : Bool :=
  (List.range 4).all fun u => u == t.toNat ||
    (let st := k.streams[u]!
     st.status == .idle || st.arrived (u == 0))

/-- Conversion of a tile between two formats, element (i, j) with j below the column count of the view that has fewer
columns; flags in the lanes of that view (R56, R256). `sel` selects in the destination view. -/
def convertTile (src dst : Fmt) (rm : RMode) (sel : Option Pred) (t : Tile) : Tile × Lanes :=
  let zs := src.size
  let zd := dst.size
  let z := max zs zd
  let n := cols z
  let conv (i j : Nat) : Nat × XFlags := convert src dst rm (tileElem t zs (i * cols zs + j))
  let on (i j : Nat) : Bool := match sel with
    | none => true
    | some p => p.getLsbD (256 * i + zd * j)
  let v := mapTile zd fun e =>
    let i := e / cols zd
    let j := e % cols zd
    if j < n then (conv i j).1 else 0
  let f := (genTile z fun e => (0, if on (e / n) (e % n) then (conv (e / n) (e % n)).2 else 0)).2
  (v, f)

/-- What a pop from an empty queue, or a push to a full one, comes to (R38, R55). -/
def blocked (k : Core) (t : StreamId) (trapPolicy : Bool) (cause : Nat) (s : State) : Res :=
  if trapPolicy || k.othersArrived t then .trap { cause := cause } else .stay s

/-- Pop queue `n`: the converted tile, the flags of the conversion, and the core after it (R55, R56). -/
def popQueue (x : Ctx) (s : State) (n : Fin 4) : Except Res (Tile × Lanes × State) :=
  let k := x.core s
  let q := k.q[n]
  if q.refused then .error illegalOperand
  else
    match q.entries with
    | [] => .error (blocked k x.t q.epol 0x09 s)
    | e :: r =>
      if !e.landed then .error (.stay s)
      else
        let s := x.updCore s fun k => { k with q := k.q.set n { q with entries := r } }
        if q.sfmt = q.kfmt then .ok (e.tile, 0, s)
        else
          let c := convertTile (Fmt.ofCode q.sfmt) (Fmt.ofCode q.kfmt) (RMode.ofCode q.rm (x.st s).frm) none e.tile
          .ok (c.1, c.2, s)

/-- Push a tile: the youngest slot is reserved, and lands later (R55). -/
def pushQueue (x : Ctx) (s : State) (n : Fin 4) (t : Tile) : Except Res State :=
  let k := x.core s
  let q := k.q[n]
  if q.refused then .error illegalOperand
  else if q.depth ≤ q.entries.length then .error (blocked k x.t q.fpol 0x0A s)
  else
    .ok (x.updCore s fun k => { k with
      q := k.q.set n { q with entries := q.entries ++ [{ landed := false, tile := t, id := k.entries }] }
      entries := k.entries + 1 })

/-! ### Reading operands (R246) -/

/-- A c source in the view of `z` bytes; `wide`: all 8 bytes to every aligned 8-byte unit. -/
def broadcast (k : Core) (i : Nat) (z : Nat) (wide : Bool) : Tile :=
  let v := ((k.c[i]!).vis).toNat
  if wide then splat 8 v else splat z v

/-- Read a source that is not a queue; none: an invalid ring entry. -/
def readPlain (x : Ctx) (s : State) (a : BitVec 6) (z : Nat) (wide : Bool) : Option Tile :=
  let k := x.core s
  let r := x.rings.getD k
  let n := a.toNat
  if n < 32 then some (k.v[(k.physV (a.setWidth 5)).toFin]).vis
  else if n < 40 then some (k.w[n - 32]!)
  else if n < 44 then r.za[n - 40]!
  else if n < 48 then r.zb[n - 44]!
  else if n < 52 then r.zf[n - 48]!
  else some (broadcast k (n - 56) z wide)

/-- Is a specifier a ring entry whose word has not completed (R52, R169)? -/
def ringWaits (k : Core) (a : BitVec 6) : Bool :=
  let n := a.toNat
  let slot := if n < 44 then 2 else if n < 48 then 3 else 5
  decide (40 ≤ n ∧ n < 52) && k.results.any fun r => r.slot == slot && r.depth == n % 4 + 1

/-- Is a specifier a queue? -/
def isQueue (a : BitVec 6) : Bool := a == 52 || a == 53

/-- Read one source; a ring entry waits for its word (R52); a conversion on pop accrues its flags at the pop, those of
every element of the entry, whatever the prefix selects (R58; log 67). -/
def readSource (x : Ctx) (s : State) (a : BitVec 6) (z : Nat) (wide : Bool) : Except Res (Tile × State) :=
  if isQueue a then
    match popQueue x s (if a = 52 then 0 else 1) with
    | .error r => .error r
    | .ok (t, f, s) => .ok (t, x.updCore s fun k => { k with xf := k.xf ||| f })
  else
    match readPlain x s a z wide with
    | some t => if ringWaits (x.core s) a then .error (.stay s) else .ok (t, s)
    | none => .error illegalOperand

/-- Read A and B; a queue named twice is popped once (R55). -/
def readTwo (x : Ctx) (s : State) (a b : BitVec 6) (z : Nat) (wide : Bool) : Except Res (Tile × Tile × State) :=
  match readSource x s a z wide with
  | .error r => .error r
  | .ok (ta, s) =>
    if isQueue a && a == b then .ok (ta, ta, s)
    else
      match readSource x s b z wide with
      | .error r => .error r
      | .ok (tb, s) => .ok (ta, tb, s)

/-- The value of a destination that the word also reads: the visible face, or the w register (R159). -/
def readDest (x : Ctx) (s : State) (d : BitVec 6) : Tile :=
  let k := x.core s
  if d.toNat < 32 then (k.v[(k.physV (d.setWidth 5)).toFin]).vis else k.w[d.toNat - 32]!

/-! ### Delivering results (R247-R249) -/

/-- The bytes that a word writes in the view of `z` bytes. -/
def Sel.mask (l : Sel) (z : Nat) : Pred :=
  match l.pred with
  | none => BitVec.allOnes 4096
  | some p => spread z p

/-- Is element `e` of `z` bytes selected? -/
def Sel.on (l : Sel) (z e : Nat) : Bool :=
  match l.pred with
  | none => true
  | some p => p.getLsbD (z * e)

/-- Flags of the selected elements only (R57). -/
def Sel.flags (l : Sel) (z e : Nat) (r : Nat × XFlags) : Nat × XFlags := if l.on z e then r else (r.1, 0)

/-- A tag of the word of a context. -/
def Ctx.tag (x : Ctx) (async : Bool) : Tag := { stream := x.t, async := async, pc := x.word }

/-- Deliver a tile to destination D in the view of `z` bytes, with its flags; the ring receives what D does (R49, R52,
R55, R247). -/
def deliverTile (x : Ctx) (s : State) (d : BitVec 6) (z : Nat) (t : Tile) (f : Lanes) : Res :=
  let m := x.sel.mask z
  let merged (old : Tile) : Tile := if x.sel.zero then t &&& byteMask m else blend m t old
  let accrue (s : State) (w : List FaceWrite) : State :=
    x.updCore s fun k => { k with results := k.results ++ [{ writes := w, flags := f, slot := x.slot }] }
  let n := d.toNat
  if n < 32 then
    let k := x.core s
    let r := k.physV (d.setWidth 5)
    match k.checkWrite (.v r) (x.tag false) with
    | .error e => .trap e
    | .ok k =>
      let now := (k.performAll.v[r.toFin]).hid
      .ring (accrue (x.updCore s fun _ => k) [{ reg := .v r, data := merged now, mask := BitVec.allOnes 4096 }])
        (some (merged now))
  else if n < 40 then
    let old := (x.core s).w[n - 32]!
    .ring (accrue (x.updCore s fun k => { k with w := k.w.setIfInBounds (n - 32) (merged old) }) []) (some (merged old))
  else if n = 63 then .ring (accrue s []) (some (merged 0))
  else
    let id := (x.core s).entries
    match pushQueue x s (if n = 54 then 2 else 3) (merged 0) with
    | .error r => r
    | .ok s =>
      .ring (x.updCore s fun k => { k with
        results := k.results ++
          [{ writes := [], flags := f, entry := some (if n = 54 then 2 else 3, id), slot := x.slot }] })
        (some (merged 0))

/-- Deliver predicate bits to p_D, in elements of `z` bytes (R47, R247). -/
def deliverPred (x : Ctx) (s : State) (d : BitVec 6) (z : Nat) (p : Pred) (f : Lanes) (prefixed : Bool) : Res :=
  let m := if prefixed then x.sel.mask z else BitVec.allOnes 4096
  let zero := prefixed && x.sel.zero
  let w : FaceWrite := { reg := .p (d.setWidth 3), data := (if zero then p &&& m else p).setWidth 32768
                         mask := if zero then BitVec.allOnes 4096 else m }
  match (x.core s).checkWrite (.p (d.setWidth 3)) (x.tag false) with
  | .error e => .trap e
  | .ok k => .ring (x.updCore s fun _ => { k with results := k.results ++ [{ writes := [w], flags := f }] }) none

/-- A vector word under the prefix: a false stage predicate keeps it from issuing (R247). -/
def guarded (x : Ctx) (s : State) (r : Res) : Res := if x.sel.blocked then .ok s else r

end Sys2Proof.Machine
end

