-- ==== Sys2Proof/Machine/Copy.lean ====
section
/-! DEFINITION. The copies of LD and ST: issue, the units as the copy engine performs them, completion, batches
(R231-R244). -/

namespace Sys2Proof.Machine

/-! ### Shapes (R233, R234, R241) -/

/-- Number of elements. -/
def CopyShape.count : CopyShape → Nat
  | .box e0 e1 e2 e3 _ _ _ => e0 * e1 * e2 * e3
  | .indexed idx => idx.length

/-- Far-end address of element `i`, counted in box order (R233, R241). -/
def CopyShape.addr (base : Word) (z : Nat) (i : Nat) : CopyShape → Word
  | .box e0 e1 e2 _ s1 s2 s3 =>
    base + BitVec.ofNat 64 (i % e0 * z) + BitVec.ofNat 64 (i / e0 % e1) * s1 + BitVec.ofNat 64 (i / (e0 * e1) % e2) * s2 +
      BitVec.ofNat 64 (i / (e0 * e1 * e2)) * s3
  | .indexed idx => base + (idx[i]?.getD 0).signExtend 64 * BitVec.ofNat 64 z

/-- Elements of a row of the tile end: E0 of a box, C for indexed copies of `z` bytes. -/
def CopyShape.width (z : Nat) : CopyShape → Nat
  | .box e0 _ _ _ _ _ _ => e0
  | .indexed _ => cols z

/-- The tile element, in the view of `zt` bytes, that element `i` meets (R234, R241). -/
def CopyShape.tileIndex (z zt i : Nat) (h : CopyShape) : Nat := i / h.width z * cols zt + i % h.width z

/-- The box of a shape group: its shape and TFMT (Table 24.3). -/
def readBoxGroup (st : Stream) (g : BitVec 5) : CopyShape × BitVec 4 :=
  let d := st.sreg g
  (.box (bits d 0 16) (bits d 16 16) (bits d 32 16) (bits d 48 12) (st.sreg (g + 1)) (st.sreg (g + 2)) (st.sreg (g + 3)),
    d.extractLsb' 60 4)

/-- Does a box fit a tile of `zt`-byte elements (R234)? -/
def CopyShape.fits (zt : Nat) : CopyShape → Bool
  | .box e0 e1 e2 e3 _ _ _ => decide (e0 ≤ cols zt) && decide (e1 * e2 * e3 ≤ 16)
  | .indexed _ => true

/-- Are the base and every used stride multiples of `z` (R235 step 3)? -/
def CopyShape.aligned (z : Nat) (base : Word) : CopyShape → Bool
  | .box _ e1 e2 e3 s1 s2 s3 =>
    base.toNat % z == 0 && (decide (e1 ≤ 1) || s1.toNat % z == 0) && (decide (e2 ≤ 1) || s2.toNat % z == 0) &&
      (decide (e3 ≤ 1) || s3.toNat % z == 0)
  | .indexed _ => base.toNat % z == 0

/-- Does every element satisfy a condition on its address? -/
def CopyShape.allAddrs (h : CopyShape) (base : Word) (z : Nat) (p : Word → Bool) : Bool :=
  (List.range h.count).all fun i => p (h.addr base z i)

/-! ### Checks of scratch ends (R83, R86, R235 steps 3 and 4; log 12) -/

/-- Step 1 of R83 on a box in scratch, taken as one access. -/
def boxInScratch (g : Gang) (c : CoreId) (h : CopyShape) (base : Word) (z : Nat) (other : Bool) : Bool :=
  let core := scratchCore base.toNat
  (other || core == c) && h.allAddrs base z fun a => scratchRange g core a.toNat z false

/-- The set check of R86 on every element of a box that lies in the issuing core. -/
def boxInSets (x : Ctx) (s : State) (h : CopyShape) (base : Word) (z : Nat) (write : Bool) : Bool :=
  let st := x.st s
  h.allAddrs base z fun a => if write then st.mayWrite a.toNat z else st.mayRead a.toNat z

/-- A packed range as a box: `n` elements, one after another. -/
def packed (n : Nat) : CopyShape := .box n 1 1 1 0 0 0

/-- The scope trap of a scratch end. -/
def scopeTrap (a : Word) : Res := .trap { cause := 0x06, addr := a }

/-- The address of the first element, in box order, that fails a condition; the base where none does (log 12). -/
def CopyShape.firstBad (h : CopyShape) (base : Word) (z : Nat) (p : Word → Bool) : Word :=
  match (List.range h.count).find? fun i => !p (h.addr base z i) with
  | some i => h.addr base z i
  | none => base

/-- The scope trap of step 1 of R83 on a box: its ADDR is the first element that fails (log 12). -/
def boxTrap (g : Gang) (c : CoreId) (h : CopyShape) (base : Word) (z : Nat) (other : Bool) : Res :=
  scopeTrap (h.firstBad base z fun a => (other || scratchCore base.toNat == c) &&
    scratchRange g (scratchCore base.toNat) a.toNat z false)

/-- The scope trap of the set check on a box: its ADDR is the first element that fails (log 12). -/
def setTrap (x : Ctx) (s : State) (h : CopyShape) (base : Word) (z : Nat) (write : Bool) : Res :=
  scopeTrap (h.firstBad base z fun a => if write then (x.st s).mayWrite a.toNat z else (x.st s).mayRead a.toNat z)

/-- The misaligned trap of an end. -/
def misaligned (a : Word) : Res := .trap { cause := 0x05, addr := a }

/-! ### Taking a number (R115, R235 steps 8 and 10) -/

/-- Every copy joins the open batch as it takes its number (R244). -/
def Stream.takeNumber (st : Stream) : Stream :=
  { st with issued := st.issued + 1, openBatch := (st.issued + 1) :: st.openBatch }

/-- Is a copy of a stream being replayed? The stream issues no new copy until it is done (R137). -/
def Core.replays (k : Core) (t : StreamId) : Bool := k.copies.any fun y => y.stream == t && y.state == .replaying

/-- May a stream's next copy not issue yet: the core has 32 outstanding, or the stream's copies are replayed (R42,
R137)? -/
def Core.copyWaits (k : Core) (t : StreamId) : Bool := decide (32 ≤ k.copies.length) || k.replays t

/-- A zero-extent copy, its fields checked: it takes its number and is complete (R116, R233, R235 step 8). It writes no
register: a face that it names as destination keeps its W bit, tag and contents, also under X = 1 (log 27). -/
def zeroExtent (x : Ctx) (s : State) : Res :=
  if (x.core s).copyWaits x.t then .stay s else .ok (x.upd s Stream.takeNumber)

/-- The last steps: a place among 32 copies, and the next number. `s0` is the state in which the word waits for the
place: the one before it, with a queue's slot reserved or entry popped (R235 steps 7 to 10). -/
def issueCopy (x : Ctx) (s0 s : State) (mk : Nat → Copy) : Res :=
  if (x.core s).copyWaits x.t then .stay s0
  else
    let n := (x.st s).issued + 1
    .ok (x.updCore (x.upd s Stream.takeNumber) fun k => { k with copies := k.copies ++ [mk n] })

/-- A copy with the fields that every copy word fills alike. -/
def Ctx.newCopy (x : Ctx) (s : State) (kind : CopyKind) (far : CopyEnd) (base : Word) (h : CopyShape) (z slack : Nat)
    (data : List Nat) (inPhase : Bool) (num : Nat) : Copy :=
  { stream := x.t, num := num, pc := x.pc, slack := slack, kind := kind, far := far, base := base, shape := h, z := z
    frm := (x.st s).frm, data := data, todo := [(0, h.count)], inPhase := inPhase }

/-- Elements of a box read from scratch. -/
def readBoxScratch (s : State) (b : BenchId) (h : CopyShape) (base : Word) (z : Nat) : List Nat :=
  (List.range h.count).map fun i => scratchRead s b (h.addr base z i).toNat z

/-- Elements of a tile that a copy meets. -/
def readBoxTile (h : CopyShape) (z zt : Nat) (t : Tile) : List Nat :=
  (List.range h.count).map fun i => tileElem t zt (h.tileIndex z zt i)

/-- Lane of element `e` of a view of `z` bytes (Table 04.2). -/
def laneOf (z e : Nat) : Nat := e * z / 4

/-- A flag word in a lane. -/
def inLane (l : Nat) (f : XFlags) : Lanes := (f.setWidth 5120) <<< (5 * l)

/-- A copy that writes a face: the check of R50, the seed under `.Z`, then the last steps (R235 step 6, R238). -/
def loadFace (x : Ctx) (s : State) (v : BitVec 6) (zero : Bool) (mk : BitVec 5 → Nat → Copy) : Res :=
  let k := x.core s
  let r := k.physV (v.setWidth 5)
  match k.checkWrite (.v r) (x.tag true) with
  | .error t => .trap t
  | .ok k =>
    let k := if zero then { k with v := k.v.set r.toFin { k.v[r.toFin] with hid := 0 } } else k
    issueCopy x s (x.updCore s fun _ => k) (mk r)

/-- A copy word on a box: step 2 of R235, which is T, G and what `fields` says of the shape and TFMT; a box with no
element then is a zero-extent copy, which checks nothing else (R233; log 68). -/
def withBox (x : Ctx) (s : State) (g : BitVec 5) (tOk : Bool) (fields : CopyShape → BitVec 4 → Bool)
    (f : CopyShape → BitVec 4 → Res) : Res :=
  if 28 < g.toNat || !tOk then illegalOperand
  else
    let (h, tf) := readBoxGroup (x.st s) g
    if !fields h tf then illegalOperand
    else if h.count = 0 then zeroExtent x s
    else f h tf

/-- Is T a v register below VCOUNT? -/
def tileT (x : Ctx) (s : State) (t : BitVec 6) : Bool := vOk (x.gang s).vcount t

/-! ### Tile copies (R238) -/

/-- Do two formats have no conversion in a copy (R56, R235 step 2)? -/
def noConversion (a b : BitVec 4) : Bool := a == 15 || b == 15 || (a != b && (a == 1 || b == 1))

/-- The field rules of a tile copy: TFMT is zero but in VLDS and VSTS, the formats convert, the box fits the tile in the
view of the tile side (R233, R234, R235 step 2). -/
def tileFields (conv : Bool) (f : BitVec 4) (h : CopyShape) (tf : BitVec 4) : Bool :=
  let tile := if conv then tf else f
  (conv || tf == 0) && !noConversion f tile && h.fits (Fmt.ofCode tile).size

/-- VLD and VLDS. -/
def effLoadTile (conv : Bool) (t : BitVec 6) (a g : BitVec 5) (f : BitVec 4) (zf : BitVec 1) (sl : BitVec 4) : Effect :=
  fun x s =>
  withBox x s g (tileT x s t) (tileFields conv f) fun h tf =>
    let dst := if conv then tf else f
    let z := (Fmt.ofCode f).size
    let base := (x.st s).sreg a
    if !h.aligned z base then misaligned base
    else loadFace x s t (zf == 1) fun r => x.newCopy s (.toFace r f dst) .device base h z sl.toNat [] true

/-- VST and VSTS. -/
def effStoreTile (conv : Bool) (t : BitVec 6) (a g : BitVec 5) (f : BitVec 4) (sl : BitVec 4) : Effect := fun x s =>
  withBox x s g (tileT x s t) (tileFields conv f) fun h tf =>
    let src := if conv then tf else f
    let z := (Fmt.ofCode f).size
    let zt := (Fmt.ofCode src).size
    let base := (x.st s).sreg a
    if !h.aligned z base then misaligned base
    else
      let k := x.core s
      let vals := readBoxTile h z zt (k.v[(k.physV (t.setWidth 5)).toFin]).vis
      let rm := RMode.ofCode 7 (x.st s).frm
      let out := vals.map fun v => if src = f then (v, 0) else convert (Fmt.ofCode src) (Fmt.ofCode f) rm v
      let flags := ((List.range h.count).zip out).foldl
        (fun l (i, r) => l ||| inLane (laneOf zt (h.tileIndex z zt i)) r.2) (0 : Lanes)
      issueCopy x s (x.updCore s fun k => { k with held := k.held ||| flags })
        (x.newCopy s .toFar .device base h z sl.toNat (out.map (·.1)) false)

/-- The field rules of a copy that does not convert: TFMT is zero, and a box that meets a tile fits it in the view of
`zt`-byte elements (R233, R234). -/
def plainFields (zt : Option Nat) (h : CopyShape) (tf : BitVec 4) : Bool := tf == 0 && (zt.map h.fits).getD true

/-- SPLD: the source is read in full at issue. -/
def effSpld (t : BitVec 6) (a g : BitVec 5) (f : BitVec 4) (zf : BitVec 1) (sl : BitVec 4) : Effect := fun x s =>
  withBox x s g (tileT x s t) (plainFields (some (Fmt.ofCode f).size)) fun h _ =>
    let z := (Fmt.ofCode f).size
    let base := (x.st s).sreg a
    if !boxInScratch (x.gang s) x.c h base z false then boxTrap (x.gang s) x.c h base z false
    else if !h.aligned z base then misaligned base
    else if !boxInSets x s h base z false then setTrap x s h base z false
    else
      loadFace x s t (zf == 1) fun r =>
        x.newCopy s (.toFace r f f) .scratch base h z sl.toNat (readBoxScratch s x.b h base z) true

/-- SPST. -/
def effSpst (t : BitVec 6) (a g : BitVec 5) (f : BitVec 4) (sl : BitVec 4) : Effect := fun x s =>
  withBox x s g (tileT x s t) (plainFields (some (Fmt.ofCode f).size)) fun h _ =>
    let z := (Fmt.ofCode f).size
    let base := (x.st s).sreg a
    if !boxInScratch (x.gang s) x.c h base z false then boxTrap (x.gang s) x.c h base z false
    else if !h.aligned z base then misaligned base
    else if !boxInSets x s h base z true then setTrap x s h base z true
    else
      let k := x.core s
      issueCopy x s s (x.newCopy s .toFar .scratch base h z sl.toNat
        (readBoxTile h z z (k.v[(k.physV (t.setWidth 5)).toFin]).vis) true)

/-! ### Queue copies (R239) -/

/-- The checks of steps 3 and 4 on the far end of a queue copy. -/
def queueEnd (x : Ctx) (s : State) (h : CopyShape) (base : Word) (z : Nat) (sp write : Bool) : Option Res :=
  if sp && !boxInScratch (x.gang s) x.c h base z false then some (boxTrap (x.gang s) x.c h base z false)
  else if !h.aligned z base then some (misaligned base)
  else if sp && !boxInSets x s h base z write then some (setTrap x s h base z write)
  else none

/-- The field rules of a queue copy: TFMT is zero, FMT is the format of the queue's end at which the copy stands, and the
box fits an entry (R235 step 2). Formats that R56 refuses are refused at the push or the pop. -/
def queueFields (own f : BitVec 4) (h : CopyShape) (tf : BitVec 4) : Bool :=
  plainFields (some (Fmt.ofCode f).size) h tf && own == f

/-- Steps 8 to 10 of a QLD whose slot is reserved; while it waits for its place it keeps the slot (R235, R239). -/
def issueQld (x : Ctx) (s : State) (qi : BitVec 2) (id : Nat) (far : CopyEnd) (base : Word) (h : CopyShape)
    (z slack : Nat) : Res :=
  issueCopy x (x.upd s fun st => { st with wait := .reserved id }) s
    (x.newCopy s (.toQueue qi id) far base h z slack (if far = .scratch then readBoxScratch s x.b h base z else []) false)

/-- QLD: `sp` is X. -/
def effQld (t : BitVec 6) (a g : BitVec 5) (f : BitVec 4) (sp : BitVec 1) (sl : BitVec 4) : Effect := fun x s =>
  let qi : Fin 4 := if t = 52 then 0 else 1
  let q := (x.core s).q[qi]
  withBox x s g (t == 52 || t == 53) (queueFields q.sfmt f) fun h _ =>
    let z := (Fmt.ofCode f).size
    let base := (x.st s).sreg a
    let issue (s : State) (id : Nat) : Res :=
      issueQld x s (if t = 52 then 0 else 1) id (if sp = 1 then .scratch else .device) base h z sl.toNat
    match (x.st s).wait with
    | .reserved id => issue s id
    | _ =>
      match queueEnd x s h base z (sp == 1) false with
      | some r => r
      | none =>
        match pushQueue x s qi 0 with
        | .error r => r
        | .ok s' => issue s' (x.core s).entries

/-- Steps 8 to 10 of a QST whose entry is popped; while it waits for its place it keeps the entry (R235, R239). -/
def issueQst (x : Ctx) (s : State) (tile : Tile) (flags : Lanes) (far : CopyEnd) (base : Word) (h : CopyShape)
    (z slack : Nat) : Res :=
  issueCopy x (x.upd s fun st => { st with wait := .popped tile flags })
    (x.updCore s fun k => { k with held := k.held ||| flags })
    (x.newCopy s .toFar far base h z slack (readBoxTile h z z tile) (far == .scratch))

/-- QST: `sp` is X. A QST that has popped its entry is past its checks. -/
def effQst (t : BitVec 6) (a g : BitVec 5) (f : BitVec 4) (sp : BitVec 1) (sl : BitVec 4) : Effect := fun x s =>
  let qi : Fin 4 := if t = 54 then 2 else 3
  let q := (x.core s).q[qi]
  let z := (Fmt.ofCode f).size
  let base := (x.st s).sreg a
  let issue (s : State) (h : CopyShape) (tile : Tile) (flags : Lanes) : Res :=
    issueQst x s tile flags (if sp = 1 then .scratch else .device) base h z sl.toNat
  match (x.st s).wait with
  | .popped tile flags => issue s (readBoxGroup (x.st s) g).1 tile flags
  | _ =>
    withBox x s g (t == 54 || t == 55) (queueFields q.kfmt f) fun h _ =>
      match queueEnd x s h base z (sp == 1) true with
      | some r => r
      | none =>
        match popQueue x s qi with
        | .error r => r
        | .ok (tile, flags, s') => issue s' h tile flags

/-! ### Scratch to scratch (R240) -/

/-- Do the two ends of a scratch copy overlap in one core (R240)? -/
def endsOverlap (h : CopyShape) (src dst : Word) (z : Nat) : Bool :=
  !h.allAddrs src z fun a => decide (a.toNat + z ≤ dst.toNat) || decide (dst.toNat + h.count * z ≤ a.toNat)

/-- SPCP. The source is captured at issue where it lies in the issuing core, or overlaps the destination; a source in
another core is checked, and is otherwise read, as its units are performed (R235, R240). -/
def effSpcp (t : BitVec 6) (a g : BitVec 5) (f : BitVec 4) (sl : BitVec 4) : Effect := fun x s =>
  withBox x s g (decide (t.toNat < 32)) (plainFields none) fun h _ =>
    let z := (Fmt.ofCode f).size
    let src := (x.st s).sreg a
    let dst := (x.st s).sreg (t.setWidth 5)
    let p := packed h.count
    let own (e : Word) : Bool := scratchCore e.toNat == x.c
    if !boxInScratch (x.gang s) x.c h src z true then boxTrap (x.gang s) x.c h src z true
    else if !boxInScratch (x.gang s) x.c p dst z true then scopeTrap dst
    else if !h.aligned z src then misaligned src
    else if dst.toNat % z ≠ 0 then misaligned dst
    else if own src && !boxInSets x s h src z false then setTrap x s h src z false
    else if own dst && !boxInSets x s p dst z true then setTrap x s p dst z true
    else
      issueCopy x s s fun n =>
        { x.newCopy s (.toScratch (dst.setWidth 32)) .scratch src h z sl.toNat
            (if own src || endsOverlap h src dst z then readBoxScratch s x.b h src z else []) (own dst) n with
          reads := if own src then [] else [(0, h.count)] }

/-! ### Gather and scatter (R241) -/

/-- The index array of GATHER and SCATTER, after the checks of R241; the count 0 is a zero extent (R233). -/
def withIndices (x : Ctx) (s : State) (g : BitVec 5) (f : BitVec 4) (tOk add : Bool) (base : Word)
    (k : CopyShape → Res) : Res :=
  if 28 < g.toNat || !tOk then illegalOperand
  else
    let st := x.st s
    let n := (st.sreg (g + 1)).toNat
    let z := (Fmt.ofCode f).size
    let arr := st.sreg g
    if add && (f.toNat < 11 || 14 < f.toNat) then illegalOperand
    else if n = 0 then zeroExtent x s
    else if 16 * cols z < n || st.sreg (g + 2) != 0 || st.sreg (g + 3) != 0 then illegalOperand
    else if !scratchRange (x.gang s) x.c arr.toNat (4 * n) false then scopeTrap arr
    else if arr.toNat % 4 ≠ 0 then misaligned arr
    else
      let h := CopyShape.indexed ((List.range n).map fun i => BitVec.ofNat 32 (scratchRead s x.b (arr.toNat + 4 * i) 4))
      if base.toNat % z ≠ 0 then misaligned base
      else if !(packed n).allAddrs arr 4 (fun e => st.mayRead e.toNat 4) then setTrap x s (packed n) arr 4 false
      else k h

/-- GATHER. -/
def effGather (t : BitVec 6) (a g : BitVec 5) (f : BitVec 4) (zf : BitVec 1) (sl : BitVec 4) : Effect := fun x s =>
  let base := (x.st s).sreg a
  withIndices x s g f (tileT x s t) false base fun h =>
    loadFace x s t (zf == 1) fun r =>
      x.newCopy s (.toFace r f f) .device base h (Fmt.ofCode f).size sl.toNat [] true

/-- SCATTER and SCATTER.ADD. -/
def effScatter (add : Bool) (t : BitVec 6) (a g : BitVec 5) (f : BitVec 4) (sl : BitVec 4) : Effect := fun x s =>
  let base := (x.st s).sreg a
  withIndices x s g f (tileT x s t) add base fun h =>
    let z := (Fmt.ofCode f).size
    let k := x.core s
    issueCopy x s s (x.newCopy s (if add then .addFar else .toFar) .device base h z sl.toNat
      (readBoxTile h z z (k.v[(k.physV (t.setWidth 5)).toFin]).vis) false)

/-! ### Windows (R242, R296, R297) -/

/-- Bytes of a window's span. -/
def Window.size (w : Window) : Nat := bits w.ctl 0 32 * 2 ^ 16

/-- The source's checks on a window by an agent of a tenant standing on a bench: put or get permission (R242, R297). -/
def Window.permits (w : Window) (put : Bool) (tenant : BitVec 16) (b : BenchId) : Bool :=
  bit w.ctl 63 && bit w.ctl (if put then 61 else 60) && w.ctl.extractLsb' 32 16 == tenant &&
    (!bit w.ctl 58 || w.ctl.extractLsb' 52 6 == b)

/-- The checks of PUT and GET on their window end (R242). -/
def windowEnd (x : Ctx) (s : State) (put : Bool) (handle : Word) (h : CopyShape) (z : Nat) : Bool :=
  let g := x.gang s
  let w := (s.part g.part).windows[(handle.extractLsb' 48 6 : BitVec 6).toFin]
  let base := handle &&& 0xFFFFFFFFFFFF#64
  w.permits put g.tenant x.b && h.allAddrs base z fun a => decide (a.toNat + z ≤ w.size)

/-- PUT and GET share their checks: `mk` is given the shape and the window's base offset once they hold. -/
def withWindow (x : Ctx) (s : State) (put : Bool) (t : BitVec 6) (a g : BitVec 5) (f : BitVec 4) (sp : BitVec 1)
    (mk : CopyShape → Word → BitVec 6 → Res) : Res :=
  let z := (Fmt.ofCode f).size
  withBox x s g (if sp = 1 then decide (t.toNat < 32) else tileT x s t)
    (plainFields (if sp = 1 then none else some z)) fun h _ =>
    let handle := (x.st s).sreg a
    let base := handle &&& 0xFFFFFFFFFFFF#64
    let near := (x.st s).sreg (t.setWidth 5)
    let p := packed h.count
    if bits handle 54 10 != 0 then illegalOperand
    else if sp == 1 && !boxInScratch (x.gang s) x.c p near z false then scopeTrap near
    else if !h.aligned z base then misaligned handle
    else if sp == 1 && near.toNat % z != 0 then misaligned near
    else if sp == 1 && !boxInSets x s p near z (!put) then setTrap x s p near z (!put)
    else if !windowEnd x s put handle h z then .trap { cause := 0x12 }
    else mk h base (handle.extractLsb' 48 6)

/-- The next transfer tag. -/
def nextTag (s : State) : State := { s with links := { s.links with tags := s.links.tags + 1 } }

/-- PUT: `sp` is X. -/
def effPut (t : BitVec 6) (a g : BitVec 5) (f : BitVec 4) (sp : BitVec 1) (sl : BitVec 4) : Effect := fun x s =>
  withWindow x s true t a g f sp fun h base w =>
    let z := (Fmt.ofCode f).size
    let k := x.core s
    let near := (x.st s).sreg (t.setWidth 5)
    let data := if sp = 1 then readBoxScratch s x.b (packed h.count) near z
      else readBoxTile h z z (k.v[(k.physV (t.setWidth 5)).toFin]).vis
    issueCopy x s (nextTag s) fun n =>
      { x.newCopy s .toFar (.window w) base h z sl.toNat data false n with xfer := s.links.tags }

/-- GET: `sp` is X. -/
def effGet (t : BitVec 6) (a g : BitVec 5) (f : BitVec 4) (sp : BitVec 1) (sl : BitVec 4) : Effect := fun x s =>
  withWindow x s false t a g f sp fun h base w =>
    let z := (Fmt.ofCode f).size
    let near := (x.st s).sreg (t.setWidth 5)
    if sp = 1 then
      issueCopy x s (nextTag s) fun n =>
        { x.newCopy s (.toScratch (near.setWidth 32)) (.window w) base h z sl.toNat [] true n with
          xfer := s.links.tags, reads := [(0, h.count)] }
    else
      match loadFace x s t false fun r n =>
          { x.newCopy s (.toFace r f f) (.window w) base h z sl.toNat [] true n with xfer := s.links.tags } with
      | .ok s => .ok (nextTag s)
      | r => r

/-! ### Prefetch and batches (R243, R244) -/

/-- PREF. -/
def effPref (a g : BitVec 5) (f : BitVec 4) (sl : BitVec 4) : Effect := fun x s =>
  withBox x s g true (plainFields none) fun h _ =>
    let z := (Fmt.ofCode f).size
    let base := (x.st s).sreg a
    if !h.aligned z base then misaligned base
    else issueCopy x s s (x.newCopy s .prefetch .device base h z sl.toNat [] false)

/-- Is a closed batch outstanding: is a copy in it (R244)? -/
def batchOut (k : Core) (t : StreamId) (b : List Nat) : Bool :=
  k.copies.any fun y => y.stream == t && b.contains y.num

/-- Outstanding closed batches of a stream. -/
def Core.batchesOut (k : Core) (t : StreamId) : Nat := ((k.streams[t.toFin]).closed.filter (batchOut k t)).length

/-- Close the open batch; none where it would make 17 outstanding (R244). -/
def closeBatch (x : Ctx) (s : State) : Option State :=
  let st := x.st s
  if st.openBatch.isEmpty then some s
  else if 16 ≤ (x.core s).batchesOut x.t && batchOut (x.core s) x.t st.openBatch then none
  else some (x.upd s fun st => { st with openBatch := [], closed := st.closed ++ [st.openBatch] })

/-- CBATCH. -/
def effCbatch : Effect := fun x s =>
  match closeBatch x s with
  | some s => .ok s
  | none => .stay s

/-- TLWAIT.OUT: an acquire at scope SYS of the copies of the completed batches, which are then observed. -/
def effTlwaitOut (n : BitVec 6) : Effect := fun x s =>
  match closeBatch x s with
  | none => .stay s
  | some s =>
    if n.toNat < (x.core s).batchesOut x.t then .stay s
    else
      let k := x.core s
      .ok (acquireL1 (x.upd s fun st => { st with closed := st.closed.filter (batchOut k x.t) }) x 3)

/-! ### Landing (R236-R241) -/

/-- A tile with one element replaced. -/
def setElem (t : Tile) (z e v : Nat) : Tile :=
  let m : Tile := BitVec.ofNat 32768 (2 ^ (8 * z) - 1) <<< (8 * z * e)
  (t &&& ~~~m) ||| ((BitVec.ofNat 32768 (v % 2 ^ (8 * z)) <<< (8 * z * e)) &&& m)

/-- The value of element `i` arrives at the near end of a copy of a core. -/
def landElem (s : State) (b : BenchId) (c : CoreId) (k : Copy) (i v : Nat) : State :=
  match k.kind with
  | .toFace r src dst =>
    let zd := (Fmt.ofCode dst).size
    let e := k.shape.tileIndex k.z zd i
    let o := if src = dst then (v, 0) else convert (Fmt.ofCode src) (Fmt.ofCode dst) (RMode.ofCode 7 k.frm) v
    s.updCore b c fun y =>
      let f := y.v[r.toFin]
      { y with
        v := y.v.set r.toFin { f with hid := setElem f.hid zd e o.1 }
        held := y.held ||| inLane (laneOf zd e) o.2 }
  | .toQueue q id =>
    let e := k.shape.tileIndex k.z k.z i
    s.updCore b c fun y =>
      let qq := y.q[q.toFin]
      { y with q := y.q.set q.toFin { qq with entries := qq.entries.map fun n =>
          if n.id = id then { n with tile := setElem n.tile k.z e v } else n } }
  | .toScratch dst => scratchWrite s b (dst.toNat + i * k.z) k.z v
  | .toFar => s
  | .addFar => s
  | .prefetch => s

/-! ### Elements not yet performed -/

/-- Elements of a list of ranges. -/
def todoCount (l : List (Nat × Nat)) : Nat := (l.map (·.2)).sum

/-- Element at a position. -/
def todoNth : List (Nat × Nat) → Nat → Option Nat
  | [], _ => none
  | (a, n) :: r, p => if p < n then some (a + p) else todoNth r (p - n)

/-- Take an element out. -/
def todoDrop (i : Nat) : List (Nat × Nat) → List (Nat × Nat)
  | [] => []
  | (a, n) :: r =>
    if a ≤ i ∧ i < a + n then ([(a, i - a), (i + 1, a + n - i - 1)].filter fun y => y.2 != 0) ++ r
    else (a, n) :: todoDrop i r

/-- All elements. -/
def todoAll (l : List (Nat × Nat)) : List Nat := l.flatMap fun y => List.range' y.1 y.2

/-- Far-end address of an element of a copy. -/
def Copy.addr (k : Copy) (i : Nat) : Word := k.shape.addr k.base k.z i

/-- The aligned 8-byte unit at the far end that holds an element (R97). -/
def Copy.farUnit (k : Copy) (i : Nat) : Nat := (k.addr i).toNat / 8

/-- The aligned 8-byte unit in which an element is performed: at a packed scratch destination, else at the far end
(R97). -/
def Copy.unitOf (k : Copy) (i : Nat) : Nat :=
  match k.kind with
  | .toScratch dst => (dst.toNat + i * k.z) / 8
  | _ => k.farUnit i

/-- The elements of the unit of an element that are not yet performed, in box order. -/
def Copy.group (k : Copy) (i : Nat) : List Nat := (todoAll k.todo).filter fun j => k.unitOf j == k.unitOf i

/-- The elements in the source unit of an element that are not yet read, in box order. -/
def Copy.readGroup (k : Copy) (i : Nat) : List Nat := (todoAll k.reads).filter fun j => k.farUnit j == k.farUnit i

/-- Index of an element's unit among the copy's units, in box order (Table 16.3). -/
def Copy.unitIndex (k : Copy) (i : Nat) : Nat := ((List.range (i + 1)).map k.farUnit).eraseDups.length - 1

/-- Units of a copy at its far end. -/
def Copy.units (k : Copy) : Nat := ((List.range k.shape.count).map k.farUnit).eraseDups.length

/-! ### Performing a unit (R236, R237) -/

/-- A page fault of a copy: it pauses once its record is written; with no room the unit is tried again (R136, R139). -/
def pauseCopy (s : State) (b : BenchId) (c : CoreId) (k : Copy) (va : Word) (stage level : Nat) : State × Copy :=
  let p := (s.gang b).part
  let i : StopInfo := { cause := 0x10, slot := 0, pc := k.pc, addr := va
                        aux0 := BitVec.ofNat 64 (stage * 2 ^ 63 + level), aux1 := BitVec.ofNat 64 k.num }
  let (s', ok) := trapRecord s p { streamRecord (s.core b c) b c k.stream 1 i with
    replay := true, seq := haltSeq s p }
  if ok then (s', { k with state := .paused }) else (s, k)

/-- What a memory fault of a copy's unit comes to (R111, R237). -/
def copyMemFault (s : State) (b : BenchId) (c : CoreId) (k : Copy) (i : Nat) : MemFault → State × Copy
  | .page stage level => pauseCopy s b c k (k.addr i) stage level
  | .prot => takeCopyFault s b c k { cause := 0x11, addr := k.addr i }
  | .race e => takeCopyFault s b c k { cause := 0x0B, addr := k.addr i, aux0 := e, aux1 := BitVec.ofNat 64 (k.unitIndex i) }

/-- The elements of a group are performed. -/
def Copy.done (k : Copy) (g : List Nat) : Copy := { k with todo := g.foldl (fun l i => todoDrop i l) k.todo }

/-- The data of an element: captured at issue, or as its source unit was read. -/
def Copy.value (k : Copy) (i : Nat) : Nat :=
  k.data[i]?.getD (((k.got.find? fun y => y.1 == i).map (·.2)).getD 0)

/-- Would the unit of a prefetch not fault, and may its line be fetched: is it readable, backed, inside the shadow bounds
on a checked page, and has the partition's mask a way (R90, R95, R243)? -/
def prefetchable (s : State) (p : PartId) (l : Leaf) : Bool :=
  let q := s.part p
  l.rd && physExists s l.pa &&
    (!l.chk || decide (q.shlo.toNat ≤ l.pa / 2 ^ 16) && decide (l.pa / 2 ^ 16 ≤ q.shhi.toNat)) &&
    q.llcway[(homeQuad l.pa).toFin] != 0

/-- Physical address of an element in a unit. -/
def Copy.near (k : Copy) (pa j : Nat) : Nat := pa + (k.addr j).toNat % 8

/-- Store the elements `g` of a unit. SCATTER.ADD reads each distinct location once and writes it once, with the sum of
the elements that name it (R241). -/
def Copy.putAll (k : Copy) (pa : Nat) (g : List Nat) (s : State) : State :=
  let put (s : State) (a v : Nat) : State := physWrite s a k.z (v % 2 ^ (8 * k.z))
  match k.kind with
  | .addFar =>
    let sum (a : Nat) : Nat := ((g.filter fun j => k.near pa j == a).map k.value).sum
    (g.map (k.near pa)).eraseDups.foldl (fun s a => put s a (physRead s a k.z + sum a)) s
  | _ => g.foldl (fun s j => put s (k.near pa j) (k.value j)) s

/-- A unit of a copy that reads or writes device memory: an access to its whole aligned 8 bytes (R97). A line that the
first-level cache of the core holds takes the bytes that the copy read, so that no later load of the core returns older
ones (R98). -/
def unitDevice (s : State) (b : BenchId) (c : CoreId) (k : Copy) (i : Nat) (g : List Nat) : State × Copy :=
  let w := whoStream s b c
  let va : Word := BitVec.ofNat 64 (8 * k.farUnit i)
  match k.kind with
  | .prefetch =>
    let s := match translate s w va with
      | .ok (l, s) => if prefetchable s (s.gang b).part l then llcTouch s w.part (lineOf l.pa) else s
      | .error _ => missed s w va false
    (s, k.done g)
  | .toFar | .addFar =>
    match homeAccess s w va 8 (if k.kind = .addFar then .update else .write) false with
    | .error f => copyMemFault (missed s w va f.raced) b c k i f
    | .ok (pa, s) =>
      ((k.putAll pa g s).updCore b c fun y => y.dropLine (lineOf pa), k.done g)
  | _ =>
    match homeAccess s w va 8 .read false with
    | .error f => copyMemFault (missed s w va f.raced) b c k i f
    | .ok (pa, s) =>
      let s := s.updCore b c fun y => y.refreshL1 pa 8 (physRead s pa 8)
      (g.foldl (fun s j => landElem s b c k j (physRead s (k.near pa j) k.z)) s, k.done g)

/-- Scratch address at which element `j` of a copy lands. -/
def Copy.dstAddr (k : Copy) (j : Nat) : Nat := match k.kind with
  | .toScratch d => d.toNat + j * k.z
  | _ => 0

/-- The copy has read elements: their values are captured, unless they were at issue. -/
def Copy.readDone (k : Copy) (g : List Nat) (val : Nat → Nat) : Copy :=
  { k with
    reads := g.foldl (fun l i => todoDrop i l) k.reads
    got := k.got ++ if k.data.isEmpty then g.map fun j => (j, val j) else [] }

/-- A source unit of an SPCP in another core: the check of R86, and its bytes, read in one access (R97, R240). -/
def readScratch (s : State) (b : BenchId) (c : CoreId) (k : Copy) (g : List Nat) : State × Copy :=
  match g.find? fun j => !(s.core b (scratchCore (k.addr j).toNat)).exported (k.addr j).toNat k.z with
  | some j => takeCopyFault s b c k { cause := 0x06, addr := k.addr j }
  | none => (s, k.readDone g fun j => scratchRead s b (k.addr j).toNat k.z)

/-- A unit of a copy that writes scratch: a destination in another core is checked against its I sets (R86, R240). -/
def writeScratch (s : State) (b : BenchId) (c : CoreId) (k : Copy) (g : List Nat) : State × Copy :=
  match k.kind with
  | .toFar => (g.foldl (fun s j => scratchWrite s b (k.addr j).toNat k.z (k.value j)) s, k.done g)
  | .toScratch _ =>
    let bad (j : Nat) : Bool :=
      scratchCore (k.dstAddr j) != c && !(s.core b (scratchCore (k.dstAddr j))).inbound (k.dstAddr j) k.z
    match g.find? bad with
    | some j => takeCopyFault s b c k { cause := 0x06, addr := BitVec.ofNat 64 (k.dstAddr j) }
    | none => (g.foldl (fun s j => landElem s b c k j (k.value j)) s, k.done g)
  | _ => (g.foldl (fun s j => landElem s b c k j (k.value j)) s, k.done g)

/-- A unit of a copy whose far end is scratch: a source unit not yet read that holds an element of it comes first, so
that every destination unit is written in one access (R97). -/
def unitScratch (s : State) (b : BenchId) (c : CoreId) (k : Copy) (i : Nat) : State × Copy :=
  let g := k.group i
  match g.find? (todoAll k.reads).contains with
  | some j => readScratch s b c k (k.readGroup j)
  | none => writeScratch s b c k g

/-- Bytes of a value, low first. -/
def bytesOf (v : Nat) : Nat → List Byte
  | 0 => []
  | n + 1 => BitVec.ofNat 8 v :: bytesOf (v / 256) n

/-- Does a port of a path that is up reach a peer (R295; log 29)? -/
def Links.reaches (l : Links) (eth : Bool) (peer : BitVec 8) : Bool :=
  let up : BitVec 16 := if eth then l.eth.setWidth 16 else l.tilrak
  (List.range 16).any fun n => up.getLsbD n && !l.apart.contains (eth, BitVec.ofNat 4 n, peer)

/-- The unit of a window as it leaves the package (R293, R297). -/
def windowUnit (s : State) (w : Window) (isPut : Bool) (tenant : BitVec 16) (cells : List (Nat × Byte))
    (xfer total : Nat) : UnitMsg :=
  { isPut := isPut, peer := s.dev.pkgid, tenant := tenant, part := w.peer.extractLsb' 9 6, win := w.peer.extractLsb' 16 6
    cells := cells, xfer := xfer, total := total }

/-- Send a unit: it stays with the package until it is acknowledged. -/
def sendUnit (s : State) (o : Origin) (eth : Bool) (dest : BitVec 8) (m : UnitMsg) (addr : Word := 0) (index : Nat := 0) :
    State :=
  { s with links := { s.links with
    tags := s.links.tags + 1
    out := s.links.out ++ [{ tag := s.links.tags, origin := o, eth := eth, dest := dest, msg := m, addr := addr
                             index := index }] } }

/-- Has the peer of a window reported a tenant resident (R311)? -/
def State.resident (s : State) (w : Window) (tenant : BitVec 16) : Bool :=
  s.links.resident.contains (bit w.peer 8, w.peer.extractLsb' 0 8, w.peer.extractLsb' 9 6, tenant)

/-- May the next unit of a copy be sent: is the tenant resident on the peer of its window (R311)? -/
def sendable (s : State) (b : BenchId) (k : Copy) : Bool :=
  match k.far with
  | .window w => s.resident (s.part (s.gang b).part).windows[w.toFin] (s.gang b).tenant
  | _ => true

/-- A unit of a PUT leaves the package; one of a GET is asked for. The elements `g` lie in one aligned 8 bytes of the
window. -/
def unitWindow (s : State) (b : BenchId) (c : CoreId) (k : Copy) (wi : BitVec 6) (g : List Nat) : State × Copy :=
  let gg := s.gang b
  let w := (s.part gg.part).windows[wi.toFin]
  let eth := bit w.peer 8
  if !s.links.reaches eth (w.peer.extractLsb' 0 8) then takeCopyFault s b c k { cause := 0x2A }
  else
    let put := k.kind == .toFar
    let cells := g.flatMap fun j =>
      ((List.range k.z).map fun n => (k.addr j).toNat + n).zip (bytesOf (if put then k.value j else 0) k.z)
    let tag := s.links.tags
    let s := sendUnit s (.copy b c k.stream k.num k.pc gg.part gg.run) eth (w.peer.extractLsb' 0 8)
      (windowUnit s w put gg.tenant cells k.xfer k.units) (k.addr (g.headD 0)) (k.unitIndex (g.headD 0))
    let asked := if put then k.asked else k.asked ++ g.map fun j => (j, tag)
    match k.kind with
    | .toScratch _ => (s, { k with reads := g.foldl (fun l i => todoDrop i l) k.reads, asked := asked })
    | _ => (s, { k.done g with asked := asked })

/-- Elements that the engine may work on: source elements to read or ask for, then elements to perform. A GET into
scratch is performed as its units return. -/
def Copy.open (k : Copy) : List (Nat × Nat) :=
  match k.far, k.kind with
  | .window _, .toScratch _ => k.reads
  | _, _ => k.reads ++ k.todo

/-- Perform the unit that holds an element, or read the source unit that holds it: the access at `p` in `Copy.open`. -/
def performUnit (s : State) (b : BenchId) (c : CoreId) (k : Copy) (p i : Nat) : State × Copy :=
  match k.far with
  | .device => unitDevice s b c k ((k.group i).headD i) (k.group i)
  | .scratch => if p < todoCount k.reads then readScratch s b c k (k.readGroup i) else unitScratch s b c k i
  | .window w =>
    match k.kind with
    | .toScratch _ => unitWindow s b c k w (k.readGroup i)
    | _ => unitWindow s b c k w (k.group i)

/-- Elements of a copy are to be performed, or, into scratch, to be asked for again: a peer has not performed them. -/
def Copy.again (k : Copy) (els : List Nat) : Copy :=
  let l := els.map fun j => (j, 1)
  let k := { k with asked := k.asked.filter fun y => !els.contains y.1 }
  match k.kind with
  | .toScratch _ => { k with reads := k.reads ++ l }
  | _ => { k with todo := k.todo ++ l }

/-- Replace a copy of a core. -/
def setCopy (s : State) (b : BenchId) (c : CoreId) (k : Copy) : State :=
  s.updCore b c fun y => { y with copies := y.copies.map fun o => if o.stream = k.stream ∧ o.num = k.num then k else o }

/-- Does the engine work on a copy (R236)? -/
def Copy.live (k : Copy) : Bool := k.state == .active || k.state == .replaying

/-- Perform `n` units of a copy; digit by digit, `pick` says which unit is next (R97). -/
def performUnits (b : BenchId) (c : CoreId) : Nat → Nat → State × Copy → State × Copy
  | 0, _, y => y
  | n + 1, pick, (s, k) =>
    let m := todoCount k.open
    if !k.live || m = 0 then (s, k)
    else
      match todoNth k.open (pick % m) with
      | none => (s, k)
      | some i => performUnits b c n (pick / m) (performUnit s b c k (pick % m) i)

/-- The copy that the engine works on: least slack, then earliest issued (R236). -/
def engineChoice (s : State) (b : BenchId) (l : List Copy) : Option Copy :=
  match l.filter fun k => k.live && decide (todoCount k.open ≠ 0) && sendable s b k with
  | [] => none
  | k :: r => some (r.foldl (fun a b => if b.slack < a.slack then b else a) k)

/-- Write the record of a copy's own fault (R133). -/
def recordCopy (s : State) (b : BenchId) (c : CoreId) (k : Copy) : State × Copy :=
  match k.fault with
  | none => (s, k)
  | some i =>
    let p := (s.gang b).part
    let s := (trapRecord s p { streamRecord (s.core b c) b c k.stream 1 i with seq := (s.part p).hseq }).1
    (s, { k with fault := none })

/-- Have the units of a partition stopped, their records written (R132, R133)? -/
def State.stopped (s : State) (p : PartId) : Bool := (s.part p).halt == .reached

/-- A copy that takes a fault of its own after its copy engine has written its record writes one further record; while
the line has still to reach the engine, the engine's record is that of the copy (R132, R133). -/
def drainRecord (s : State) (b : BenchId) (c : CoreId) (k : Copy) : State × Copy :=
  if s.stopped (s.gang b).part then recordCopy s b c k else (s, k)

/-- A replayed copy is done once nothing of it is left. -/
def Copy.replayed (k : Copy) : Copy :=
  if k.state = .replaying ∧ todoCount k.todo = 0 ∧ k.asked.isEmpty then { k with state := .active } else k

/-- A stream as a RESUME releases it: one that TRAP or BRK stopped just past the body of a loop ends the iteration
(R132, R194; log 65). -/
def Stream.released (st : Stream) : Stream :=
  if st.wait = .bodyEnd then ({ st with wait := .none }).endIter st.pc false st.loops else st

/-- A gang as a RESUME releases it (R137). -/
def Gang.released (g : Gang) : Gang :=
  { g with
    halted := false
    cores := g.cores.map fun k => { k with streams := k.streams.map Stream.released } }

/-- A RESUME is over once no copy of the partition is replayed any more: HALT is cleared and the streams go on (R137). A
replayed copy that meets a page fault pauses, and the RESUME waits for it no more (R139; log 93). -/
def settleResume (s : State) (p : PartId) : State :=
  let own (g : Option Gang) : Bool := (g.map fun g => decide (g.part = p)).getD false
  let busy (g : Option Gang) : Bool :=
    own g && (g.map fun g => g.cores.toList.any fun k => k.copies.any fun y => y.state == .replaying).getD false
  if (s.part p).halt = .resuming ∧ !(s.benches.toList.any busy) then
    let s := s.updPart p fun q => { q with halt := .none }
    { s with benches := s.benches.map fun g => if own g then g.map Gang.released else g }
  else s

/-- Perform `n` units of a copy of a core, put it back, and look whether a RESUME is over. -/
def workOn (s : State) (b : BenchId) (c : CoreId) (n pick : Nat) (k : Copy) : State :=
  let (s, k) := performUnits b c n pick (s, k)
  let (s, k) := drainRecord s b c k
  settleResume (setCopy s b c k.replayed) (s.gang b).part

/-- COPY_UNIT: the next 128 bytes of the chosen copy of a core (R236). -/
def copyUnit (s : State) (b : BenchId) (c : CoreId) (pick : Nat) : State :=
  if (s.gang? b).isNone then s
  else
    match engineChoice s b (s.core b c).copies with
    | none => s
    | some k => workOn s b c 16 pick k

/-! ### Completion (R236, Table 24.4) -/

/-- Take a copy from its core: P is cleared, a queue entry has landed, its number passes (R51, R55, R115). -/
def finishCopy (s : State) (b : BenchId) (c : CoreId) (k : Copy) : State :=
  s.updCore b c fun y =>
    let y := { y with copies := y.copies.filter fun o => !(o.stream == k.stream && o.num == k.num) }
    match k.kind with
    | .toFace r _ _ => y.clearPending (.v r)
    | .toQueue q id => y.landEntry q id
    | _ => y

/-- Has a copy nothing left to do? -/
def Copy.complete (k : Copy) : Bool := todoCount k.todo == 0 && k.asked.isEmpty && k.live

/-- COPY_COMPLETE of the copy at a place of a core's list. -/
def copyComplete (s : State) (b : BenchId) (c : CoreId) (n : Nat) : State :=
  match (s.core b c).copies[n]? with
  | some k => if (s.gang? b).isSome && k.complete then finishCopy s b c k else s
  | none => s

end Sys2Proof.Machine
end

