-- ==== Sys2Proof/Machine/Collective.lean ====
section
/-! DEFINITION. The collective contexts and the commands of their programs (R301-R315). -/

namespace Sys2Proof.Machine

/-! ### Contexts -/

/-- Change a context. -/
def State.updCtx (s : State) (i : BitVec 2) (f : ColCtx → ColCtx) : State :=
  { s with ctxs := s.ctxs.set i.toFin (f s.ctxs[i.toFin]) }

/-- A context's program. -/
def State.colRun (s : State) (i : BitVec 2) : Option ColRun := (s.ctxs[i.toFin]).run

/-- Put a program into a context. -/
def State.setRun (s : State) (i : BitVec 2) (r : ColRun) : State := s.updCtx i fun c => { c with run := some r }

/-- Who a context is to memory: the issuing virtual function's translation, and no clock (R301). -/
def whoContext (s : State) (i : BitVec 2) (p : ColProg) : Who :=
  let v := s.vf p.vf
  { unit := 256 + i.toNat, part := some p.part, root1 := some p.root
    root2 := (v.s2root.setWidth 64) <<< 12, en2 := v.s2en, bench := none }

/-- Read g_n; g0 reads zero. -/
def ColRun.reg (r : ColRun) (n : BitVec 4) : Word := if n = 0 then 0 else r.g[n.toFin]

/-- Write g_n; a write of g0 is discarded. -/
def ColRun.setReg (r : ColRun) (n : BitVec 4) (v : Word) : ColRun :=
  if n = 0 then r else { r with g := r.g.set n.toFin v }

/-- Address of the current command. -/
def ColRun.pc (r : ColRun) : Word := r.prog.addr + 4 * r.pcw.setWidth 64

/-- What a command comes to. -/
inductive ColRes where
  /-- complete; the program goes on at the next command -/
  | done (s : State) (r : ColRun)
  /-- some of its units are performed, or it waits -/
  | more (s : State) (r : ColRun)
  /-- the program is over -/
  | ended (s : State)
  | fault (t : Trap)
  /-- a fault found after accesses to memory; the state has these, and no effect of the command -/
  | refused (s : State) (t : Trap)
  /-- an access of the command to memory failed; the state has the accesses before it -/
  | mem (s : State) (va : Word) (f : MemFault)

/-- A command of a program of a context. -/
abbrev ColEffect := BitVec 2 → ColRun → State → ColRes

/-- The command after the current one: the next word, or the first word of a CLOOP body that is repeated (R309). -/
def ColRun.advance (r : ColRun) (n : Nat) : ColRun :=
  let r := { r with wait := .none, done := 0 }
  let pcw := r.pcw.toNat + n
  match r.loop with
  | some (first, len, left) =>
    if pcw = first + len then
      if 1 < left then { r with pcw := BitVec.ofNat 32 first, loop := some (first, len, left - 1) }
      else { r with pcw := BitVec.ofNat 32 pcw, loop := none }
    else { r with pcw := BitVec.ofNat 32 pcw }
  | none => { r with pcw := BitVec.ofNat 32 pcw }

/-- A stop record of a context (R314). -/
def contextRecord (i : BitVec 2) (k : StopInfo) : StopRecord :=
  { cause := k.cause, unit := 2, bench := i.setWidth 6, first := k.first, pc := k.pc, addr := k.addr, aux0 := k.aux0
    aux1 := k.aux1 }

/-- A context with a fault not yet recorded writes its record and is stopped by the halt (R133). -/
def recordContext (s : State) (i : BitVec 2) : State :=
  match s.colRun i with
  | none => s
  | some r =>
    match r.fault with
    | none => s
    | some k =>
      let p := r.prog.part
      let s := (trapRecord s p { contextRecord i k with seq := (s.part p).hseq }).1
      s.setRun i { r with fault := none, halted := true }

/-- A fault of a command at `pc` stops its context, which waits for no peer any more, and the halt line of the program's
partition is raised (R132, R313, R314). -/
def contextFaultAt (s : State) (i : BitVec 2) (r : ColRun) (pc : Word) (t : Trap) : State :=
  let (s, first) := raiseHalt s r.prog.part t.cause 2 (i.setWidth 6) 0 0
  let k : StopInfo := { first := first, cause := t.cause, slot := 0, pc := pc, addr := t.addr, aux0 := t.aux0
                        aux1 := t.aux1 }
  let s := s.updCtx i fun c => { c with
    run := some { r with fault := some k, wait := if r.wait = .pageFault then .pageFault else .none }, cause := BitVec.ofNat 8 t.cause }
  if (s.part r.prog.part).halt = .reached then recordContext s i else s

/-- Taking a fault in a context: it stops at the command (R132, R314). -/
def takeContextFault (s : State) (i : BitVec 2) (r : ColRun) (t : Trap) : State := contextFaultAt s i r r.pc t

/-- A page fault of a context: it pauses at the command once its record is written (R139, R314). -/
def takeContextPage (s : State) (i : BitVec 2) (r : ColRun) (va : Word) (stage level : Nat) : State :=
  let k : StopInfo := { cause := 0x10, slot := 0, pc := r.pc, addr := va
                        aux0 := BitVec.ofNat 64 (stage * 2 ^ 63 + level), aux1 := 0 }
  let (s', ok) := trapRecord s r.prog.part { contextRecord i k with
    replay := true, seq := haltSeq s r.prog.part }
  if ok then (s'.setRun i { r with wait := .pageFault }).updCtx i fun c => { c with cause := 0x10 } else s

/-- A memory fault of a command (R314): it is taken in the state that the access leaves which fails. -/
def takeContextMem (s : State) (i : BitVec 2) (r : ColRun) (va : Word) (f : MemFault) : State :=
  let s := missed s (whoContext s i r.prog) va f.raced
  match f with
  | .page stage level => takeContextPage s i r va stage level
  | .prot => takeContextFault s i r { cause := 0x11, addr := va }
  | .race e => takeContextFault s i r { cause := 0x0B, addr := va, aux0 := e }

/-- Go on after a command. -/
def settleCol (i : BitVec 2) (r0 : ColRun) (s0 : State) : ColRes → State
  | .done s r => s.setRun i (r.advance 1)
  | .more s r => s.setRun i r
  | .ended s => s
  | .fault t => takeContextFault s0 i r0 t
  | .refused s t => takeContextFault s i r0 t
  | .mem s va f => takeContextMem s i r0 va f

/-! ### Start (R301, R302) -/

/-- The doublewords of an argument block from the `n`-th on. -/
def loadArgs (i : BitVec 2) (r : ColRun) (s : State) : Nat → Nat → Except ColRes (ColRun × State)
  | 0, _ => .ok (r, s)
  | k + 1, n =>
    let va := r.prog.args + BitVec.ofNat 64 (8 * n)
    match homeAccess s (whoContext s i r.prog) va 8 .read false with
    | .error f => .error (.mem s va f)
    | .ok (pa, s) =>
      loadArgs i (r.setReg (BitVec.ofNat 4 (n + 1)) (BitVec.ofNat 64 (physRead s pa 8))) s k (n + 1)

/-- Load g1 to g15; a fault is the context's (log 13). -/
def startRun (s : State) (i : BitVec 2) (r : ColRun) : State :=
  if r.prog.args.toNat % 8 ≠ 0 then takeContextFault s i r { cause := 0x05, addr := r.prog.args }
  else
    match loadArgs i r s 15 0 with
    | .ok (r, s) => s.setRun i { r with loaded := true, wait := .none }
    | .error e => settleCol i r s e

/-- COL_PROGRAM_START: a free context takes up a saved program of a function that has its grant again, or else its
pending program, once every earlier one has ended or is saved for another function (R301, R315). -/
def colStart (s : State) (i : BitVec 2) : State :=
  let c := s.ctxs[i.toFin]
  if c.run.isSome then s
  else
    match c.saved.find? s.regranted with
    | some r =>
      s.updCtx i fun c => { c with
        run := some { r with redo := r.lastRv.isSome, halted := false }
        saved := c.saved.filter fun q => q.prog.num != r.prog.num }
    | none =>
      if c.waits s then s
      else
        let s := s.updCtx i fun c => c.takeUp s
        match s.colRun i with
        | some r => if r.halted then s else startRun s i r
        | none => s

/-! ### Commands (R304-R312) -/

/-- The windows of a program's partition. -/
def colWindow (s : State) (p : ColProg) (w : BitVec 6) : Window := (s.part p.part).windows[w.toFin]

/-- A command that performs units of `z` bytes one after another: `unit` performs the one named and `n` is their
number; the last one completes it. Where one faults, those before it stay performed, with their flags, and the command goes
on from it (R97, R114; log 105). -/
def colUnits (n : Nat) (adv : ColRun → ColRun) (unit : Nat → ColRun → State → ColRes) : ColEffect := fun _ r s =>
  match unit r.done r s with
  | .done s r => if r.done + 1 < n then .more s { r with done := r.done + 1 } else .done s (adv r)
  | e => e

/-- ADV of CSEND and CCOPY: each register grows by the length that the command used, one that stands twice only once
(R304, R306; log 94). -/
def advance2 (v : BitVec 1) (a b l : BitVec 4) (r : ColRun) : ColRun :=
  if v = 1 then
    let n := r.reg l
    let r' := r.setReg a (r.reg a + n)
    if a = b then r' else r'.setReg b (r.reg b + n)
  else r

/-- ADV of CRED: the two assignments of R305, one after the other, each with the length register as it then is. -/
def advanceRed (v : BitVec 1) (d s l : BitVec 4) (r : ColRun) : ColRun :=
  if v = 1 then
    let r := r.setReg d (r.reg d + r.reg l)
    r.setReg s (r.reg s + r.reg l)
  else r

/-- CSEND (R304, R311). -/
def colSend (g o : BitVec 4) (w : BitVec 6) (l : BitVec 4) (v : BitVec 1) : ColEffect := fun i r s =>
  let n := (r.reg l).toNat
  let src := r.reg g
  let off := (r.reg o).toNat
  let win := colWindow s r.prog w
  if n = 0 ∨ n % 8 ≠ 0 ∨ 2 ^ 32 ≤ n then .fault { cause := 0x03 }
  else if src.toNat % 8 ≠ 0 then .fault { cause := 0x05, addr := src }
  else if off % 8 ≠ 0 then .fault { cause := 0x05 }
  else if r.done = 0 ∧ (!bit r.rv w.toNat ∨ !win.permits true r.prog.tenant r.prog.bench ∨ win.size < off + n) then
    .fault { cause := 0x12 }
  else if !s.resident win r.prog.tenant then .more s { r with wait := .residency }
  else
    let r := { r with wait := .none }
    let (r, s) := if r.done = 0 then ({ r with xfer := s.links.tags }, nextTag s) else (r, s)
    colUnits (n / 8) (advance2 v g o l) (fun k r s =>
      let va := src + BitVec.ofNat 64 (8 * k)
      if !s.links.reaches (bit win.peer 8) (win.peer.extractLsb' 0 8) then .fault { cause := 0x2A }
      else
        match homeAccess s (whoContext s i r.prog) va 8 .read false with
        | .error f => .mem s va f
        | .ok (pa, s) =>
          let cells := ((List.range 8).map fun j => off + 8 * k + j).zip (bytesOf (physRead s pa 8) 8)
          .done (sendUnit s (.context i r.prog.part r.prog.num r.pc) (bit win.peer 8) (win.peer.extractLsb' 0 8)
            (windowUnit s win true r.prog.tenant cells r.xfer (n / 8)) (BitVec.ofNat 64 (off + 8 * k))) r) i r s

/-- CRED: `t` the format, `o` SUM, MIN or MAX (R305). -/
def colReduce (d g l t : BitVec 4) (o : BitVec 2) (v : BitVec 1) (rm : BitVec 3) : ColEffect := fun i r s =>
  let fmt := Fmt.ofCode t
  let z := fmt.size
  let n := (r.reg l).toNat
  let dst := r.reg d
  let src := r.reg g
  if n = 0 ∨ n % z ≠ 0 ∨ n % 8 ≠ 0 then .fault { cause := 0x03 }
  else if dst.toNat % z ≠ 0 then .fault { cause := 0x05, addr := dst }
  else if src.toNat % z ≠ 0 then .fault { cause := 0x05, addr := src }
  else
    colUnits (n / z) (advanceRed v d g l) (fun k r s =>
      let who := whoContext s i r.prog
      let da := dst + BitVec.ofNat 64 (z * k)
      let sa := src + BitVec.ofNat 64 (z * k)
      match homeAccess s who da z .read false with
      | .error f => .mem s da f
      | .ok (dp, s) =>
        match homeAccess s who sa z .read false with
        | .error f => .mem s sa f
        | .ok (sp, s) =>
          match homeAccess s who da z .write false with
          | .error f => .mem s da f
          | .ok (_, s) =>
            let x := physRead s dp z
            let y := physRead s sp z
            let e := if o = 0 then redAdd fmt (RMode.ofCode rm 0) x y else redMinMax fmt (o == 2) x y
            .done (physWrite s dp z e.1) { r with flg := r.flg ||| e.2 }) i r s

/-- Do two ranges of `n` bytes overlap? -/
def rangesMeet (a b n : Nat) : Bool := decide (a < b + n) && decide (b < a + n)

/-- CCOPY (R306). -/
def colCopy (d g l : BitVec 4) (v : BitVec 1) : ColEffect := fun i r s =>
  let n := (r.reg l).toNat
  let dst := r.reg d
  let src := r.reg g
  if n = 0 ∨ n % 8 ≠ 0 then .fault { cause := 0x03 }
  else if dst.toNat % 8 ≠ 0 then .fault { cause := 0x05, addr := dst }
  else if src.toNat % 8 ≠ 0 then .fault { cause := 0x05, addr := src }
  else if rangesMeet dst.toNat src.toNat n then .fault { cause := 0x03 }
  else
    colUnits (n / 8) (advance2 v d g l) (fun k r s =>
      let who := whoContext s i r.prog
      let da := dst + BitVec.ofNat 64 (8 * k)
      let sa := src + BitVec.ofNat 64 (8 * k)
      match homeAccess s who sa 8 .read false with
      | .error f => .mem s sa f
      | .ok (sp, s) =>
        match homeAccess s who da 8 .write false with
        | .error f => .mem s da f
        | .ok (dp, s) => .done (physWrite s dp 8 (physRead s sp 8)) r) i r s

/-- A timeline's counter as a program names it (R192, R307). -/
def colCounter (s : State) (p : ColProg) (id : Word) : Except Trap Nat :=
  let n := id.toNat
  let b : BenchId := BitVec.ofNat 6 (n / 16)
  if n < 1024 then
    if !(s.part p.part).bench.getLsbD b.toNat then .error { cause := 0x11 }
    else
      match s.gang? b with
      | none => .ok 0
      | some g => .ok (streamCounter (g.cores[(BitVec.ofNat 2 (n / 4)).toFin]) (BitVec.ofNat 2 n))
  else if n < 1028 then .ok (s.ctxs[(BitVec.ofNat 2 n).toFin]).counter
  else if n < 1032 then .ok (s.scx[(BitVec.ofNat 2 n).toFin]).counter
  else if 1088 ≤ n ∧ n < 1152 then .ok (colWindow s p (BitVec.ofNat 6 (n - 1088))).arrivals
  else .error { cause := 0x03 }

/-- CWAIT: `k` says that ga names a timeline (R307). -/
def colWait (k : BitVec 1) (a n : BitVec 4) : ColEffect := fun i r s =>
  let want := (r.reg n).toNat
  let go (s : State) (v : Nat) : ColRes := if want ≤ v then .done s r else .more s { r with wait := .count }
  if k = 1 then
    match colCounter s r.prog (r.reg a) with
    | .error t => .fault t
    | .ok v => go s v
  else
    let va := r.reg a
    if va.toNat % 8 ≠ 0 then .fault { cause := 0x05, addr := va }
    else
      match homeAccess s (whoContext s i r.prog) va 8 .read false with
      | .error f => .mem s va f
      | .ok (pa, s) => go s (physRead s pa 8)

/-- CSIG: a release at scope SYS (R308). -/
def colSignal (a v : BitVec 4) : ColEffect := fun i r s =>
  let va := r.reg a
  if va.toNat % 8 ≠ 0 then .fault { cause := 0x05, addr := va }
  else
    match homeAccess s (whoContext s i r.prog) va 8 .write false with
    | .error f => .mem s va f
    | .ok (pa, s) => .done (physWrite s pa 8 (r.reg v).toNat) r

/-- Does a CLOOP body of `n` words at an address hold a CLOOP or a CEND (R309)? -/
def bodyHolds (s : State) (w : Who) (a : Word) : Nat → Bool
  | 0 => false
  | n + 1 =>
    (match fetchWord s w a with
    | some (x, _) => (match decode .col x with
      | .ok (.cloop _ _) => true
      | .ok .cend => true
      | _ => false)
    | none => false) || bodyHolds s w (a + 4) n

/-- The state that the look at the words of a CLOOP body leaves (R90, R309). -/
def bodyLook (s : State) (w : Who) (a : Word) : Nat → State
  | 0 => s
  | n + 1 => bodyLook (fetchLook s w a) w (a + 4) n

/-- CLOOP: `n` is the body length (R309). -/
def colLoop (k : BitVec 4) (n : BitVec 13) : ColEffect := fun i r s =>
  let cnt := (r.reg k).toNat
  let w := whoContext s i r.prog
  let held := bodyHolds s w (r.pc + 4) n.toNat
  let s := bodyLook s w (r.pc + 4) n.toNat
  if held then .refused s { cause := 0x03 }
  else if cnt = 0 then .more s (r.advance (1 + n.toNat))
  else .more s { r.advance 1 with loop := some (r.pcw.toNat + 1, n.toNat, cnt) }

/-- CEND: the program's number passes (R310). -/
def colEnd : ColEffect := fun i r s => .ended (s.updCtx i fun c => { c with run := none, flg := r.flg })

/-- Are the peers of the windows of a mask that are registered resident for a program's tenant (R311)? -/
def maskResident (s : State) (p : ColProg) (m : Word) : Bool :=
  (List.range 64).all fun n =>
    let w := colWindow s p (BitVec.ofNat 6 n)
    !bit m n || !bit w.ctl 63 || s.resident w p.tenant

/-- CRV (R311). -/
def colRendezvous (m : BitVec 4) : ColEffect := fun _ r s =>
  let mask := r.reg m
  if maskResident s r.prog mask then .done s { r with rv := r.rv ||| mask, lastRv := some mask }
  else .more s { r with wait := .residency }

/-- CBW: shares change time only (R312). -/
def colShare (sh : Byte) (res : BitVec 2) : ColEffect := fun _ r s =>
  .done s { r with share := r.share.setIfInBounds res.toNat sh }

/-- CNOP. -/
def colNop : ColEffect := fun _ r s => .done s r

/-- The effect of a command. -/
def commandEffect : Instr → ColEffect
  | .csend g o w l v => colSend g o w l v
  | .cred d s l t o v r => colReduce d s l t o v r
  | .ccopy d s l v => colCopy d s l v
  | .cwait k a n => colWait k a n
  | .csig a v => colSignal a v
  | .cloop c n => colLoop c n
  | .cend => colEnd
  | .crv m => colRendezvous m
  | .cbw s r => colShare s r
  | .cnop => colNop
  | _ => fun _ _ _ => .fault { cause := 0x01 }

/-- May a context perform its next command? -/
def ColRun.ready (r : ColRun) : Bool := !r.halted && r.fault.isNone && r.wait != .pageFault && r.loaded && !r.redo

/-- Perform a command in a context. -/
def runCommand (s : State) (i : BitVec 2) (r : ColRun) (w : Instr) : State :=
  settleCol i r s (commandEffect w i r s)

/-- What a context does before its next command: it loads its arguments, or performs its last completed CRV again
(R302, R315). -/
def prepareContext (s : State) (i : BitVec 2) (r : ColRun) : State :=
  if r.halted || r.fault.isSome || r.wait == .pageFault then s
  else if !r.loaded then startRun s i r
  else if maskResident s r.prog (r.lastRv.getD 0) then s.setRun i { r with redo := false, wait := .none }
  else s.setRun i { r with wait := .residency }

/-- Is a command in progress that completes before the context stops? A page fault carries its wait through the stop
(R139, R315). -/
def ColRun.inProgress (r : ColRun) : Bool := r.done != 0 && r.wait != .pageFault

/-- A wait as a stop leaves it: CWAIT and CRV are abandoned, a page fault is not (R139, R315). -/
def ColWait.stopped (w : ColWait) : ColWait := if w = .pageFault then .pageFault else .none

/-- COL_CONTEXT_STOP: a context stops at a command boundary by a halt of the program's partition, or by the end of its
function's slice, which frees the context, also of a program that a halt has stopped (R133, R315). -/
def contextStop (s : State) (i : BitVec 2) : State :=
  match s.colRun i with
  | none => s
  | some r =>
    let p := s.part r.prog.part
    if r.fault.isSome || (!r.halted && r.inProgress) then s
    else if p.halt = .reached && !r.halted then
      let k : StopInfo := { cause := 0x30, slot := 0, pc := r.pc, addr := 0, aux0 := 0, aux1 := 0 }
      let s := (trapRecord s r.prog.part { contextRecord i k with seq := p.hseq }).1
      s.setRun i { r with halted := true, wait := r.wait.stopped }
    else if p.halt != .none && !r.halted then s
    else if p.granted != some r.prog.vf then
      s.updCtx i fun c => { c with
        run := none, flg := r.flg
        saved := c.saved ++ [{ r with wait := r.wait.stopped }] }
    else s

end Sys2Proof.Machine
end

