-- ==== Sys2Proof/Machine/Vector.lean ====
section
/-! DEFINITION. The vector words of CP: arithmetic, compares, conversion, moves, rotations, reductions, transposes, sorts,
predicate words and lane flags (R245-R265). -/

namespace Sys2Proof.Machine

/-- The rounding mode of a word of a stream (R61). -/
def Ctx.rmode (x : Ctx) (s : State) (r : BitVec 3) : RMode := RMode.ofCode r (x.st s).frm

/-- A word that computes each element of D from the elements of A and B, in the view of `z` bytes; `reads`: D is read
as well (R246). -/
def effElems (z : Nat) (wide reads : Bool) (d a b : BitVec 6) (f : Nat → Nat → Nat → Nat × XFlags) : Effect :=
  fun x s =>
  guarded x s <|
    match readTwo x s a b z wide with
    | .error r => r
    | .ok (ta, tb, s) =>
      let td := if reads then readDest x s d else 0
      let r := genTile z fun e => x.sel.flags z e (f (tileElem ta z e) (tileElem tb z e) (tileElem td z e))
      deliverTile x s d z r.1 r.2

/-- A unary word: only A is read. -/
def effUnary (z : Nat) (wide : Bool) (d a : BitVec 6) (f : Nat → Nat × XFlags) : Effect := fun x s =>
  guarded x s <|
    match readSource x s a z wide with
    | .error r => r
    | .ok (ta, s) =>
      let r := genTile z fun e => x.sel.flags z e (f (tileElem ta z e))
      deliverTile x s d z r.1 r.2

/-- A word that delivers a tile built from the whole of A, with no flags. -/
def effWhole (z : Nat) (wide : Bool) (d a : BitVec 6) (f : State → Tile → Tile) : Effect := fun x s =>
  guarded x s <|
    match readSource x s a z wide with
    | .error r => r
    | .ok (ta, s) => deliverTile x s d z (f s ta) 0

/-- Is a function of VF32 and its relatives unary: SQRT, ABS, NEG, CLASS (Table 18.6)? -/
def vfUnary (f : BitVec 4) : Bool := f == 7 || f == 12 || f == 13 || f == 15

/-- VF32, VF64, VF16, VBF16 (R250, R251). -/
def effVf (fmt : Fmt) (sh : FShape) (d a b : BitVec 6) (f : BitVec 4) (r : BitVec 3) : Effect := fun x s =>
  let rm := x.rmode s r
  let fn := f.toNat
  if vfUnary f then effUnary fmt.size false d a (fun u => vfElem fmt sh fn rm u 0 0) x s
  else effElems fmt.size false (3 ≤ fn && fn ≤ 5) d a b (fun u v t => vfElem fmt sh fn rm u v t) x s

/-- The shapes of the four formats. -/
def shapeF32 : FShape := { eb := 8, fb := 23 }
/-- F64 -/
def shapeF64 : FShape := { eb := 11, fb := 52 }
/-- F16 -/
def shapeF16 : FShape := { eb := 5, fb := 10 }
/-- BF16 -/
def shapeBF16 : FShape := { eb := 8, fb := 7 }

/-- Predicate bits, all the bits of each element's bytes, and lane flags (R47). -/
def genPred (x : Ctx) (z : Nat) (prefixed : Bool) (f : Nat → Bool × XFlags) : Pred × Lanes :=
  let r := genElems (elemLog z) z (fun e =>
    let y := f e
    let v := if y.1 then 2 ^ z - 1 else 0
    if prefixed then x.sel.flags z e (v, y.2) else (v, y.2)) (elemLog z) 0
  (BitVec.ofNat 4096 r.1, BitVec.ofNat 5120 r.2)

/-- A compare of A and B into p_D (R252, R253). -/
def effCompare (z : Nat) (d a b : BitVec 6) (f : Nat → Nat → Bool × XFlags) : Effect := fun x s =>
  guarded x s <|
    match readTwo x s a b z false with
    | .error r => r
    | .ok (ta, tb, s) =>
      let r := genPred x z true fun e => f (tileElem ta z e) (tileElem tb z e)
      deliverPred x s d z r.1 r.2 true

/-- The formats of VFCMP's types (R160). -/
def vfcmpFmt (t : BitVec 3) : Fmt := Fmt.ofCode (t.setWidth 4)

/-- VFCMP (R252). -/
def effVfcmp (d a b : BitVec 6) (f : BitVec 4) (t : BitVec 3) : Effect :=
  effCompare (vfcmpFmt t).size d a b (vfCompare (vfcmpFmt t) f.toNat)

/-- VICMP on one pair of elements of `w` bits (R253). -/
def viCompare (fn : Nat) (signed : Bool) (w a b : Nat) : Bool :=
  let v (n : Nat) : Int := if signed then (BitVec.ofNat w n).toInt else n
  match fn with
  | 0 => v a == v b
  | 1 => v a != v b
  | 2 => decide (v a < v b)
  | 3 => decide (v a ≤ v b)
  | 4 => decide (v b < v a)
  | _ => decide (v b ≤ v a)

/-- VICMP; type bits 1:0 give the width, bit 2 says unsigned (R160, R253). -/
def effVicmp (d a b : BitVec 6) (f : BitVec 4) (t : BitVec 3) : Effect :=
  let z := 2 ^ (t.extractLsb' 0 2).toNat
  effCompare z d a b fun u v => (viCompare f.toNat (!t.getLsbD 2) (8 * z) u v, 0)

/-- The integer functions of Table 26.5 on one element of `w` bits. -/
def viElem (fn : Nat) (u sat : Bool) (w a b d : Nat) : Nat :=
  let s (n : Nat) : Int := (BitVec.ofNat w n).toInt
  let v (n : Nat) : Int := if u then n else s n
  let lo : Int := if u then 0 else -(2 ^ (w - 1))
  let hi : Int := if u then 2 ^ w - 1 else 2 ^ (w - 1) - 1
  let code (k : Int) : Nat := (k % 2 ^ w).toNat
  let fit (k : Int) : Nat := if sat then code (if k < lo then lo else if hi < k then hi else k) else code k
  match fn with
  | 0 => fit (v a + v b)
  | 1 => fit (v a - v b)
  | 2 => fit (v a * v b)
  | 3 => code (v a * v b / 2 ^ w)
  | 4 => fit (v a * v b + v d)
  | 5 => code (min (v a) (v b))
  | 6 => code (max (v a) (v b))
  | 7 => code (v a - v b).natAbs
  | 8 =>
    if sat then
      if a = 0 then 0 else if w ≤ b then code (if v a < 0 then lo else hi) else fit (v a * 2 ^ b)
    else if w ≤ b then 0 else code (a * 2 ^ b : Nat)
  | 9 => if w ≤ b then 0 else a / 2 ^ b
  | 10 => if w ≤ b then code (if s a < 0 then -1 else 0) else code (s a / 2 ^ b)
  | 11 => code ((v a + v b + 1) / 2)
  | 12 => leadingZeros (BitVec.ofNat w a) w
  | _ => onesBelow (BitVec.ofNat w a) w

/-- VI32, VI16, VI8, VI64 (R254). -/
def effVi (z : Nat) (d a b : BitVec 6) (f : BitVec 4) (u sat : BitVec 1) : Effect :=
  let fn := f.toNat
  if fn = 12 ∨ fn = 13 then effUnary z false d a fun v => (viElem fn (u == 1) (sat == 1) (8 * z) v 0 0, 0)
  else effElems z false (fn == 4) d a b fun v w t => (viElem fn (u == 1) (sat == 1) (8 * z) v w t, 0)

/-- The functions of VLOGIC on whole tiles (R255). -/
def logicFn (fn : Nat) (a b : Tile) : Tile :=
  match fn with
  | 0 => a &&& b
  | 1 => a ||| b
  | 2 => a ^^^ b
  | 3 => a &&& ~~~b
  | 4 => a ||| ~~~b
  | 5 => ~~~(a ^^^ b)
  | _ => ~~~a

/-- VLOGIC (R255). -/
def effVlogic (d a b : BitVec 6) (f : BitVec 4) : Effect := fun x s =>
  if f = 6 then effWhole 1 true d a (fun _ t => logicFn 6 t 0) x s
  else
    guarded x s <|
      match readTwo x s a b 1 true with
      | .error r => r
      | .ok (ta, tb, s) => deliverTile x s d 1 (logicFn f.toNat ta tb) 0

/-- VCVT: `src` and `dst` are format codes (R256). -/
def effVcvt (d a : BitVec 6) (src dst : BitVec 4) (r : BitVec 3) : Effect := fun x s =>
  let fs := Fmt.ofCode src
  let fd := Fmt.ofCode dst
  guarded x s <|
    match readSource x s a fs.size false with
    | .error e => e
    | .ok (ta, s) =>
      let c := convertTile fs fd (x.rmode s r) x.sel.pred ta
      deliverTile x s d fd.size c.1 c.2

/-! ### VMOVE (R257) -/

/-- MOV -/
def effMov (d a : BitVec 6) : Effect := effWhole 1 true d a fun _ t => t

/-- SEL: byte by byte by a visible predicate. -/
def effSel (d a b : BitVec 6) (p : BitVec 3) : Effect := fun x s =>
  guarded x s <|
    match readTwo x s a b 1 true with
    | .error r => r
    | .ok (ta, tb, s) => deliverTile x s d 1 (blend ((x.core s).p[p.toFin]).vis ta tb) 0

/-- IMM -/
def effImm (d : BitVec 6) (i : BitVec 12) : Effect := fun x s =>
  guarded x s (deliverTile x s d 4 (splat 4 (i.signExtend 32).toNat) 0)

/-- IOTA: element (i, j) is 64i + j. -/
def effIota (d : BitVec 6) : Effect := fun x s => guarded x s (deliverTile x s d 4 (mapTile 4 id) 0)

/-- The visible face of the c register that a specifier names. -/
def cVisible (x : Ctx) (s : State) (b : BitVec 6) : Word := ((x.core s).c[b.toNat - 56]!).vis

/-- XTR: 64-bit element k of A in every element, k from c. -/
def effXtr (d a b : BitVec 6) : Effect := fun x s =>
  effWhole 8 false d a (fun s t => splat 8 (tileElem t 8 (bits (cVisible x s b) 0 9))) x s

/-- INS: the destination's value with 64-bit element k replaced by element 0 of A. -/
def effIns (d a b : BitVec 6) : Effect := fun x s =>
  effWhole 8 false d a (fun s t =>
    let k := bits (cVisible x s b) 0 9
    let old := readDest x s d
    mapTile 8 fun e => if e = k then tileElem t 8 0 else tileElem old 8 e) x s

/-! ### Rotations, broadcasts, permutes (R258-R260) -/

/-- Move the 32-bit elements by `n`: FN bits 1:0 0 ROTR, 1 ROTC, 2 SHFR, 3 SHFC. -/
def rotTile (fn : Nat) (n : Int) (t : Tile) : Tile :=
  let row := fn % 2 == 0
  let len : Int := if row then 64 else 16
  mapTile 4 fun e =>
    let i := e / 64
    let j := e % 64
    let p : Int := (if row then j else i : Nat) - n
    let at' (q : Nat) : Nat := tileElem t 4 (if row then 64 * i + q else 64 * q + j)
    if fn < 2 then at' (p % len).toNat
    else if 0 ≤ p ∧ p < len then at' p.toNat else 0

/-- VROT: the amount in B, or in a c register (R258). -/
def effVrot (d a b : BitVec 6) (f : BitVec 4) : Effect := fun x s =>
  let fn := f.toNat
  effWhole 4 false d a (fun s t =>
    rotTile (fn % 4) (if 4 ≤ fn then (cVisible x s b).toInt else b.toInt) t) x s

/-- VBC: BCR and BCC (R259). -/
def effVbc (d a b : BitVec 6) (f : BitVec 4) : Effect :=
  effWhole 4 false d a fun _ t => mapTile 4 fun e =>
    if f = 0 then tileElem t 4 (64 * (e / 64) + b.toNat) else tileElem t 4 (64 * b.toNat + e % 64)

/-- VPERM.ROWP (R260). -/
def effVperm (d a b : BitVec 6) : Effect :=
  fun x s =>
  guarded x s <|
    match readTwo x s a b 4 false with
    | .error r => r
    | .ok (ta, tb, s) =>
      deliverTile x s d 4 (mapTile 4 fun e =>
        let k := tileElem tb 4 e
        if k < 64 then tileElem ta 4 (64 * (e / 64) + k) else 0) 0

/-! ### Reductions and scans (R80, R261) -/

/-- The adjacent-pair tree over `2^m` elements from `i` (R80). -/
def tree (op : Nat → Nat → Nat × XFlags) (f : Nat → Nat) : Nat → Nat → Nat × XFlags
  | 0, i => (f i, 0)
  | m + 1, i =>
    let a := tree op f m i
    let b := tree op f m (i + 2 ^ m)
    let r := op a.1 b.1
    (r.1, a.2 ||| b.2 ||| r.2)

/-- The left-to-right sums of a list, each with the flags of its own addition (R261). -/
def scan (op : Nat → Nat → Nat × XFlags) : Nat → List Nat → List (Nat × XFlags)
  | _, [] => []
  | acc, v :: r =>
    let y := op acc v
    y :: scan op y.1 r

/-- The sums of a line of elements. -/
def scanLine (op : Nat → Nat → Nat × XFlags) : List Nat → List (Nat × XFlags)
  | [] => []
  | v :: r => (v, 0) :: scan op v r

/-- VRED of a tile in the format of code `e` (R261). -/
def redTile (fmt : Fmt) (fn : Nat) (rm : RMode) (sel : Sel) (t : Tile) : Tile × Lanes :=
  let z := fmt.size
  let n := cols z
  let row := fn % 2 == 0
  let op : Nat → Nat → Nat × XFlags :=
    if fn < 2 ∨ 6 ≤ fn then redAdd fmt rm else redMinMax fmt (decide (4 ≤ fn))
  let el (l k : Nat) : Nat := tileElem t z (if row then n * l + k else n * k + l)
  let lines := List.range (if row then 16 else n)
  if 6 ≤ fn then
    let res := lines.map fun l => scanLine op ((List.range (if row then n else 16)).map (el l))
    genTile z fun e =>
      let i := e / n
      let j := e % n
      sel.flags z e (if row then (res[i]!)[j]! else (res[j]!)[i]!)
  else
    let res := lines.map fun l => tree op (el l) (if row then n.log2 else 4) 0
    genTile z fun e =>
      let i := e / n
      let j := e % n
      let r := if row then res[i]! else res[j]!
      sel.flags z e (r.1, if (if row then j else i) = 0 then r.2 else 0)

/-- VRED (R261). -/
def effVred (d a : BitVec 6) (e f : BitVec 4) (r : BitVec 3) : Effect := fun x s =>
  let fmt := Fmt.ofCode e
  guarded x s <|
    match readSource x s a fmt.size false with
    | .error q => q
    | .ok (ta, s) =>
      let o := redTile fmt f.toNat (x.rmode s r) x.sel ta
      deliverTile x s d fmt.size o.1 o.2

/-! ### Transposes and sorts (R262, R263) -/

/-- Row and column of the source of element (X, Y) of the transposed matrix; FN 0 T32, 1 T16, 2 T8 (R262). -/
def transposed (fn x y : Nat) : Nat × Nat :=
  match fn with
  | 0 => (64 * (x / 64) + y, x % 64)
  | 1 => (y, x)
  | _ => (y % 128, 128 * (y / 128) + x)

/-- VTRG: the eight tiles after the transpose. -/
def transposeGroup (fn : Nat) (src : List Tile) : List Tile :=
  let z := match fn with
    | 0 => 4
    | 1 => 2
    | _ => 1
  let n := cols z
  (List.range 8).map fun g => mapTile z fun e =>
    let (r, c) := transposed fn (16 * g + e / n) (e % n)
    tileElem (src[r / 16]!) z (n * (r % 16) + c)

/-- Check and mark several registers in order (R50). -/
def markAll (k : Core) (tag : Tag) : List Reg → Except Trap Core
  | [] => .ok k
  | r :: rest =>
    match k.checkWrite r tag with
    | .error t => .error t
    | .ok k => markAll k tag rest

/-- VTRG (R262). -/
def effVtrg (d : BitVec 6) (f : BitVec 4) : Effect := fun x s =>
  guarded x s <|
    let k := x.core s
    let regs := (List.range 8).map fun g => k.physV (BitVec.ofNat 5 (d.toNat + g))
    let out := transposeGroup f.toNat (regs.map fun r => (k.v[r.toFin]).vis)
    match markAll k (x.tag false) (regs.map .v) with
    | .error t => .trap t
    | .ok k =>
      let ws := (regs.zip out).map fun (r, t) => ({ reg := .v r, data := t, mask := BitVec.allOnes 4096 } : FaceWrite)
      .ring (x.updCore s fun _ => { k with results := k.results ++ [{ writes := ws, flags := 0 }] }) none

/-- Insert a key with its payload behind every element that does not stand after it. -/
def insertKey (desc : Bool) (p : Nat × Nat) : List (Nat × Nat) → List (Nat × Nat)
  | [] => [p]
  | q :: r => if (if desc then decide (q.1 < p.1) else decide (p.1 < q.1)) then p :: q :: r else q :: insertKey desc p r

/-- Stable sort by key (R263). -/
def sortKeys (desc : Bool) (l : List (Nat × Nat)) : List (Nat × Nat) := l.foldl (fun a p => insertKey desc p a) []

/-- Does a long operation of a kind of the core not yet have landed (R170)? -/
def Core.busy (k : Core) (g : LongKind) : Bool := k.longs.any fun o => o.kind == g

/-- VSORT (R263). It waits for one that an earlier bundle has issued, not for the other slot's of its own (R170; log 106). -/
def effVsort (d a b : BitVec 6) (f : BitVec 1) : Effect := fun x s =>
  guarded x s <|
    if (x.rings.getD (x.core s)).busy .vsort then .stay s
    else
      match readTwo x s a b 8 false with
      | .error r => r
      | .ok (ta, tb, s) =>
        let k := x.core s
        let r0 := k.physV (d.setWidth 5)
        let r1 := k.physV (BitVec.ofNat 5 (d.toNat + 1))
        let rows := (List.range 16).map fun i =>
          sortKeys (f == 1) ((List.range 32).map fun j => (tileElem ta 8 (32 * i + j), tileElem tb 8 (32 * i + j)))
        let all := BitVec.allOnes 4096
        match markAll k (x.tag true) [.v r0, .v r1] with
        | .error t => .trap t
        | .ok k =>
          let op : LongOp :=
            { kind := .vsort, flags := 0
              writes := [{ reg := .v r0, data := mapTile 8 fun e => ((rows[e / 32]!)[e % 32]!).1, mask := all },
                         { reg := .v r1, data := mapTile 8 fun e => ((rows[e / 32]!)[e % 32]!).2, mask := all }] }
          .ring (x.updCore s fun _ => { k with longs := k.longs ++ [op] }) none

/-! ### Predicate words (R264) -/

/-- Number of governing bits set in row `i` of a view. -/
def rowCount (p : Pred) (z i : Nat) : Nat :=
  ((List.range (cols z)).filter fun j => p.getLsbD (256 * i + z * j)).length

/-- The first `n` columns of row `i`, or one column, set. -/
def rowBits (z i lo n : Nat) : Nat := (2 ^ (z * n) - 1) * 2 ^ (256 * i + z * lo)

/-- The functions of PRED on predicates; `b` is pB, `z` the bytes of the view that B's code names. -/
def predFn (fn : Nat) (a b : Pred) (z : Nat) : Pred :=
  match fn with
  | 0 => a &&& b
  | 1 => a ||| b
  | 2 => a ^^^ b
  | 3 => ~~~a
  | 4 => a &&& ~~~b
  | 5 => BitVec.allOnes 4096
  | 6 => 0
  | 7 => spread z a
  | 8 => BitVec.ofNat 4096 (((List.range 16).map fun i => rowBits z i 0 (rowCount a z i)).sum)
  | _ => BitVec.ofNat 4096 (((List.range 16).map fun i =>
      match (List.range (cols z)).find? fun j => a.getLsbD (256 * i + z * j) with
      | some j => rowBits z i j 1
      | none => 0).sum)

/-- PRED; it ignores the selection (R264). -/
def effPred (d a b : BitVec 6) (f : BitVec 4) : Effect := fun x s =>
  guarded x s <|
    let k := x.core s
    let p (r : BitVec 6) : Pred := (k.p[(r.setWidth 3 : BitVec 3).toFin]).vis
    deliverPred x s d 1 (predFn f.toNat (p a) (p b) (2 ^ b.toNat % 256)) 0 false

/-! ### Lane flags (R265) -/

/-- XF as 32-bit elements. -/
def lanesTile (f : Lanes) : Tile := mapTile 4 fun l => f.toNat / 2 ^ (5 * l) % 32

/-- Bits 4:0 of every 32-bit element selected, as lanes. -/
def tileLanes (sel : Sel) (t : Tile) : Lanes :=
  (genTile 4 fun l => sel.flags 4 l (0, BitVec.ofNat 5 (tileElem t 4 l))).2

/-- XF.RD: waits for every earlier result. -/
def effXfRd (d : BitVec 6) : Effect := fun x s =>
  guarded x s <|
    let s := x.updCore s Core.performAll
    match deliverTile x s d 4 (lanesTile (x.core s).xf) 0 with
    | .ring s _ => .ring s none
    | r => r

/-- XF.CLR and XF.SET. -/
def effXfChange (set : Bool) (a : BitVec 6) : Effect := fun x s =>
  guarded x s <|
    match readSource (x) (x.updCore s Core.performAll) a 4 false with
    | .error r => r
    | .ok (ta, s) =>
      let m := tileLanes x.sel ta
      .ring (x.updCore s fun k => { k with xf := if set then k.xf ||| m else k.xf &&& ~~~m }) none

end Sys2Proof.Machine
end

