-- ==== Sys2Proof/Machine/Curve.lean ====
section
/-! DEFINITION. The curve-key words CK and CKSPLIT (R69, R285-R292). -/

namespace Sys2Proof.Machine

/-! ### Keys and boxes (R285, R286) -/

/-- The axis count d of an RM code. -/
def ckAxes (x : BitVec 3) : Nat := x.toNat + 2

/-- b, the bits of one coordinate. -/
def ckBits (d : Nat) : Nat := 60 / d

/-- The end of the keys. -/
def ckEnd (d : Nat) : Nat := 2 ^ (d * ckBits d)

/-- The value written where no key exists. -/
def noKey : Nat := 2 ^ 64 - 1

/-- Axis(k, a), of the bits from `n` up to `n + m`. -/
def axisFrom (d k a : Nat) : Nat → Nat → Nat
  | 0, _ => 0
  | m + 1, n => k / 2 ^ (a + n * d) % 2 * 2 ^ n + axisFrom d k a m (n + 1)

/-- Axis(k, a). -/
def axis (d k a : Nat) : Nat := axisFrom d k a (ckBits d) 0

/-- The bits of one coordinate at their places in a key. -/
def spreadAxis (d v a : Nat) : Nat → Nat → Nat
  | 0, _ => 0
  | m + 1, n => v / 2 ^ n % 2 * 2 ^ (a + n * d) + spreadAxis d v a m (n + 1)

/-- Key(x_0, …, x_(d-1)). -/
def keyOf (d : Nat) (x : Nat → Nat) : Nat := ((List.range d).map fun a => spreadAxis d (x a) a (ckBits d) 0).sum

/-- The linear form of a key. -/
def linearOf (d k : Nat) : Nat := ((List.range d).map fun a => axis d k a * 2 ^ (a * ckBits d)).sum

/-- Is a value a key inside a box? -/
def inBox (d k lo hi : Nat) : Bool :=
  decide (k < ckEnd d) && (List.range d).all fun a =>
    decide (axis d lo a ≤ axis d k a) && decide (axis d k a ≤ axis d hi a)

/-- Has the block of keys from `p` to `q`, one corner of a cube to the other, a key inside the box (`want`), or one
outside it? -/
def blockHas (d p q lo hi : Nat) (want : Bool) : Bool :=
  if want then
    (List.range d).all fun a =>
      decide (axis d lo a ≤ axis d hi a) && decide (axis d p a ≤ axis d hi a) && decide (axis d lo a ≤ axis d q a)
  else !(inBox d p lo hi && inBox d q lo hi)

/-- The least key at or above `x`, in the block of `2^n` keys from `p`, that is inside the box (`want`) or outside. -/
def nextIn (d x lo hi : Nat) (want : Bool) : Nat → Nat → Option Nat
  | 0, p => if x ≤ p ∧ inBox d p lo hi = want then some p else none
  | n + 1, p =>
    if p + 2 ^ (n + 1) ≤ x ∨ blockHas d p (p + 2 ^ (n + 1) - 1) lo hi want = false then none
    else (nextIn d x lo hi want n p).or (nextIn d x lo hi want n (p + 2 ^ n))

/-- The least key at or above `x` inside the box (R288). -/
def ckNextKey (d x lo hi : Nat) : Option Nat := nextIn d x lo hi true (d * ckBits d) 0

/-- At most `n` maximal runs of keys inside the box, from a cursor up (R290). -/
def ckRuns (d lo hi : Nat) : Nat → Nat → List (Nat × Nat)
  | 0, _ => []
  | n + 1, cur =>
    match ckNextKey d cur lo hi with
    | none => []
    | some k =>
      let stop := (nextIn d k lo hi false (d * ckBits d) 0).getD (ckEnd d)
      (k, stop - 1) :: ckRuns d lo hi n stop

/-! ### Operands (R286, R287) -/

/-- Is B a box pair? -/
def boxOk (vc : Nat) (b : BitVec 6) : Bool :=
  let n := b.toNat
  (decide (n ≤ 30) && decide (n + 1 < vc)) || (decide (32 ≤ n) && decide (n ≤ 38)) || (decide (56 ≤ n) && decide (n ≤ 62))

/-- Is D a pair that ADD and SUB may write? -/
def pairOk (vc : Nat) (d : BitVec 6) (w : Bool) : Bool :=
  let n := d.toNat
  (decide (n ≤ 30) && decide (n + 1 < vc)) || (w && decide (32 ≤ n) && decide (n ≤ 38))

/-- The corners of a box. -/
def readBox (x : Ctx) (s : State) (b : BitVec 6) : Tile × Tile :=
  ((readPlain x s b 8 false).getD 0, (readPlain x s (b + 1) 8 false).getD 0)

/-! ### CK (R288, R289) -/

/-- ENC and DEC. -/
def effCkCode (enc : Bool) (d a : BitVec 6) (x : BitVec 3) : Effect :=
  let n := ckAxes x
  effUnary 8 false d a fun v =>
    (if enc then keyOf n (fun q => v / 2 ^ (q * ckBits n) % 2 ^ ckBits n) else linearOf n v, 0)

/-- One element of ADD or SUB: the key, and the overflow mask. -/
def ckAddElem (sub : Bool) (d x y : Nat) : Nat × Nat :=
  let m := 2 ^ ckBits d
  let t (a : Nat) : Int := if sub then (axis d x a : Int) - axis d y a else (axis d x a : Int) + axis d y a
  (keyOf d (fun a => (t a % m).toNat),
    ((List.range d).map fun a => if t a < 0 ∨ (m : Int) ≤ t a then 2 ^ a else 0).sum)

/-- ADD and SUB: two synchronous writes, to D and D + 1. -/
def effCkAdd (sub : Bool) (d a b : BitVec 6) (q : BitVec 3) : Effect := fun x s =>
  guarded x s <|
    match readTwo x s a b 8 false with
    | .error r => r
    | .ok (ta, tb, s) =>
      let n := ckAxes q
      let r (e : Nat) := ckAddElem sub n (tileElem ta 8 e) (tileElem tb 8 e)
      let t0 := mapTile 8 fun e => (r e).1
      let t1 := mapTile 8 fun e => (r e).2
      let m := x.sel.mask 8
      let merged (t old : Tile) : Tile := if x.sel.zero then t &&& byteMask m else blend m t old
      if d.toNat < 32 then
        let k := x.core s
        let r0 := k.physV (d.setWidth 5)
        let r1 := k.physV (BitVec.ofNat 5 (d.toNat + 1))
        match markAll k (x.tag false) [.v r0, .v r1] with
        | .error t => .trap t
        | .ok k =>
          let now := k.performAll
          let w (r : BitVec 5) (t : Tile) : FaceWrite :=
            { reg := .v r, data := merged t (now.v[r.toFin]).hid, mask := BitVec.allOnes 4096 }
          .ring (x.updCore s fun _ => { k with results := k.results ++
            [{ writes := [w r0 t0, w r1 t1], flags := 0, slot := x.slot }] })
            (some (w r0 t0).data)
      else
        let i := d.toNat - 32
        let old := (x.core s).w
        .ring (x.updCore s fun k => { k with
            w := (k.w.setIfInBounds i (merged t0 old[i]!)).setIfInBounds (i + 1) (merged t1 old[i + 1]!) })
          (some (merged t0 old[i]!))

/-- INBOX. -/
def effCkInbox (d a b : BitVec 6) (q : BitVec 3) : Effect := fun x s =>
  guarded x s <|
    match readSource x s a 8 false with
    | .error r => r
    | .ok (ta, s) =>
      let box := readBox x s b
      let r := genPred x 8 true fun e =>
        (inBox (ckAxes q) (tileElem ta 8 e) (tileElem box.1 8 e) (tileElem box.2 8 e), 0)
      deliverPred x s d 8 r.1 r.2 true

/-- NEXT. -/
def effCkNext (d a b : BitVec 6) (q : BitVec 3) : Effect := fun x s =>
  guarded x s <|
    match readSource x s a 8 false with
    | .error r => r
    | .ok (ta, s) =>
      let box := readBox x s b
      deliverTile x s d 8 (mapTile 8 fun e =>
        (ckNextKey (ckAxes q) (tileElem ta 8 e) (tileElem box.1 8 e) (tileElem box.2 8 e)).getD noKey) 0

/-! ### CKSPLIT (R290, R291) -/

/-- CKSPLIT: a long operation. -/
def effCksplit (d a b : BitVec 6) (q : BitVec 3) : Effect := fun x s =>
  guarded x s <|
    let k := x.core s
    if k.busy .cksplit then .stay s
    else
      let n := ckAxes q
      let c (i : BitVec 6) (j : Nat) : BitVec 3 := BitVec.ofNat 3 (i.toNat - 56 + j)
      let vis (i : BitVec 3) : Nat := (k.c[i.toFin]).vis.toNat
      let runs := ckRuns n (vis (c a 0)) (vis (c a 1)) 257 (vis (c b 0))
      let cnt := min runs.length 256
      let r0 := k.physV (d.setWidth 5)
      let r1 := k.physV (BitVec.ofNat 5 (d.toNat + 1))
      match markAll k (x.tag true) [.v r0, .v r1, .c (c b 0), .c (c b 1)] with
      | .error t => .trap t
      | .ok k =>
        let all := BitVec.allOnes 4096
        let at' (e : Nat) : Nat × Nat := if e < 256 then runs[e]?.getD (noKey, noKey) else (noKey, noKey)
        let cursor := if 256 < runs.length then ((runs[255]?.getD (0, 0)).2) + 1 else noKey
        let op : LongOp :=
          { kind := .cksplit, flags := 0
            writes := [{ reg := .v r0, data := mapTile 8 fun e => (at' e).1, mask := all },
                       { reg := .v r1, data := mapTile 8 fun e => (at' e).2, mask := all },
                       { reg := .c (c b 1), data := BitVec.ofNat 32768 cnt, mask := all },
                       { reg := .c (c b 0), data := BitVec.ofNat 32768 cursor, mask := all }] }
        .ring (x.updCore s fun _ => { k with longs := k.longs ++ [op] }) none

end Sys2Proof.Machine
end

