-- ==== Sys2Proof/Machine/Matrix.lean ====
section
/-! DEFINITION. The matrix words: accumulators and their chains, products, exact and ordered sums, the end of a chain, the
sum over the bench (R73-R79, R266-R277). -/

namespace Sys2Proof.Machine

/-! ### Formats and operands (Table 28.1) -/

/-- The format of an FMT code of MMA and MMAQ (Table 28.1); 7 is reserved. -/
def mmaFmt (f : BitVec 3) : Fmt :=
  match f.toNat with
  | 0 => .bf16
  | 1 => .f16
  | 2 => .e4m3
  | 3 => .e5m2
  | 4 => .lg8
  | 5 => .int true 0
  | _ => .int false 0

/-- The code of Table 18.5a of an FMT code of MMA and MMAQ. -/
def mmaCode (f : BitVec 3) : BitVec 4 :=
  match f.toNat with
  | 0 => 3
  | 1 => 2
  | 2 => 4
  | 3 => 5
  | 4 => 6
  | 5 => 7
  | _ => 8

/-- Does the format make an ordered chain? -/
def mmaOrdered (f : BitVec 3) : Bool := decide (f.toNat < 2)

/-- Bytes of an element. -/
def mmaSize (f : BitVec 3) : Nat := if mmaOrdered f then 2 else 1

/-- K (Table 28.1). -/
def mmaK (f : BitVec 3) (kx : BitVec 4) : Nat := (if mmaOrdered f then 8 else 16) * (kx.toNat + 1)

/-! ### Exact chains (R73-R76) -/

/-- An exact product in units of 2^-46; none: an operand that is a NaN or an infinity (R73, R74). -/
def exactProduct (f : Fmt) (a b : Nat) : Option Int :=
  if f = .lg8 then
    if a % 256 = 0xC0 ∨ b % 256 = 0xC0 then some 0
    else
      match lgValue ((a / 128 % 2 == 1) != (b / 128 % 2 == 1)) (lgLog a + lgLog b) with
      | .fin n m e => some (align n m e (-46))
      | _ => none
  else
    match f.read a, f.read b with
    | .fin n1 m1 e1, .fin n2 m2 e2 => some (align (n1 != n2) (m1 * m2) (e1 + e2) (-46))
    | _, _ => none

/-- The sum of the products that are numbers. -/
def exactSum (l : List (Option Int)) : Int := (l.map fun t => t.getD 0).foldl (· + ·) 0

/-- An exact value clamped to the range of R74; the flag says that it lay outside. -/
def clamp112 (v : Int) : BitVec 112 × Bool :=
  if 2 ^ 111 ≤ v then (BitVec.ofInt 112 (2 ^ 111 - 1), true)
  else if v < -(2 ^ 111) then (BitVec.ofInt 112 (-(2 ^ 111)), true)
  else (BitVec.ofInt 112 v, false)

/-- One MMA's addition to an element (R74). -/
def ExactElem.add (x : ExactElem) (l : List (Option Int)) : ExactElem :=
  let nvs := x.nvs || l.any Option.isNone
  if x.sat then { x with nvs := nvs }
  else
    let r := clamp112 (x.val.toInt + exactSum l)
    { val := r.1, sat := r.2, nvs := nvs }

/-- The sum over the bench (R76). -/
def ExactElem.bench (l : List ExactElem) : ExactElem :=
  let r := clamp112 ((l.map fun x => x.val.toInt).foldl (· + ·) 0)
  { val := r.1, sat := r.2 || l.any (·.sat), nvs := l.any (·.nvs) }

/-- MCHE of an exact element to a floating format (R75). The bound's sign is the sign bit of the value held, which R76 may
have left inside the range with SAT set, 0 among it (log 80). -/
def ExactElem.round (sh : FShape) (rm : RMode) (x : ExactElem) : Nat × XFlags :=
  let v := x.val.toInt
  if x.nvs then (sh.qNaN, fNV)
  else if x.sat then sh.overflow rm (decide (v < 0))
  else if v = 0 then (0, 0)
  else sh.roundTo rm (decide (v < 0)) v.natAbs (-46)

/-- MCHE of an element of an integer chain to INT32 (R75). -/
def ExactElem.toInt32 (x : ExactElem) : Nat × XFlags :=
  let v := x.val.toInt
  if x.nvs then (0, fNV)
  else if x.sat then (intCode 32 (if v < 0 then -(2 ^ 31) else 2 ^ 31 - 1), fNV)
  else
    let r := intClamp true 2 (v / 2 ^ 46)
    (intCode 32 r.1, flagIf r.2 fNV)

/-! ### Ordered chains (R77-R79) -/

/-- An element of an ordered chain: the F32 value and its sticky flags. -/
abbrev OrdElem := BitVec 32 × XFlags

/-- Is a value a zero? -/
def Num.isZero : Num → Bool
  | .fin _ m _ => m == 0
  | _ => false

/-- Floor of log2 of a nonzero finite magnitude. -/
def Num.exponent : Num → Int
  | .fin _ m e => m.log2 + e
  | _ => 0

/-- A term truncated to a window of quantum 2^q: the signed multiple, and whether anything was cut (R77). -/
def Num.window (q : Int) : Num → Int × Bool
  | .fin n m e =>
    let up := m * 2 ^ (max 0 (e - q)).toNat
    let d := 2 ^ (max 0 (q - e)).toNat
    let v : Int := (up / d : Nat)
    (if n then -v else v, up % d != 0)
  | _ => (0, false)

/-- One group of an ordered chain: A, and the products (R77, R78). -/
def ordGroup (x : OrdElem) (ps : List (Num × XFlags)) : OrdElem :=
  let terms := shapeF32.read x.1.toNat :: ps.map (·.1)
  let pos := terms.any fun t => match t with
    | .inf n => !n
    | _ => false
  let neg := terms.any fun t => match t with
    | .inf n => n
    | _ => false
  if terms.any Num.isNaN || (pos && neg) then (BitVec.ofNat 32 shapeF32.qNaN, x.2 ||| fNV)
  else if pos || neg then (BitVec.ofNat 32 (shapeF32.inf neg), x.2)
  else if terms.all Num.isZero then
    (BitVec.ofNat 32 (shapeF32.signBit (terms.all Num.sign)), x.2)
  else
    let es := (terms.filter fun t => !t.isZero).map Num.exponent
    let q := es.foldl max (es.headD 0) - 32
    let w := terms.map (Num.window q)
    let s := (w.map (·.1)).foldl (· + ·) 0
    let st := w.any (·.2)
    let m := 2 * s.natAbs + (if st then 1 else 0)
    if m = 0 then (0, x.2)
    else
      let r := shapeF32.roundTo .rne (decide (s < (0 : Int))) m (q - 1)
      let size : Nat := r.1 % 2 ^ 31
      let inexact := st || r.2.getLsbD 0
      (BitVec.ofNat 32 r.1, x.2 ||| (r.2 &&& fOF) ||| flagIf inexact fNX |||
        flagIf (inexact && decide (0 < size) && decide (size < 2 ^ 23)) fUF)

/-- The products of a chain in groups of eight, in increasing k (R77). -/
def ordGroups (ps : Nat → Num × XFlags) : Nat → Nat → OrdElem → OrdElem
  | 0, _, x => x
  | n + 1, k, x => ordGroups ps n (k + 8) (ordGroup x ((List.range 8).map fun i => ps (k + i)))

/-- An F32 addition rounded RNE (R79). -/
def f32Add (a b : BitVec 32) : BitVec 32 × XFlags :=
  let r := redAdd .f32 .rne a.toNat b.toNat
  (BitVec.ofNat 32 r.1, r.2)

/-- The sum over the bench (R79). -/
def OrdElem.bench (a b c d : OrdElem) : OrdElem :=
  let x := f32Add a.1 b.1
  let y := f32Add c.1 d.1
  let z := f32Add x.1 y.1
  (z.1, a.2 ||| b.2 ||| c.2 ||| d.2 ||| x.2 ||| y.2 ||| z.2)

/-! ### Accumulators (R267) -/

/-- The state of an accumulator as Table 28.2 names it: 0 IDLE, 1 OPEN, 2 EXACT, 3 ORDERED. -/
def Acc.state : Acc → Nat
  | .idle => 0
  | .opened => 1
  | .exact _ _ => 2
  | .ordered _ => 3

/-- Does a format not fit the state of a chain, or is there no chain (Table 28.2)? -/
def Acc.clash (k : Acc) (ordered : Bool) : Bool :=
  match k with
  | .idle => true
  | .opened => false
  | .exact _ _ => ordered
  | .ordered _ => !ordered

/-- The elements of an OPEN or EXACT chain. -/
def Acc.exacts : Acc → List ExactElem
  | .exact _ e => e
  | _ => List.replicate 1024 { val := 0, sat := false, nvs := false }

/-- The elements of an ordered chain, or those that it starts from. -/
def Acc.ordereds : Acc → List OrdElem
  | .ordered e => e
  | _ => List.replicate 1024 (0, 0)

/-- The INT bit as an MMA or MRED finds it: an OPEN chain has had no other format. -/
def Acc.isInt : Acc → Bool
  | .exact i _ => i
  | .opened => true
  | _ => false

/-- Contribution of an MMA to an accumulator: `a i k` and `b k n` are operand elements (R271). -/
def Acc.mma (acc : Acc) (f : BitVec 3) (k : Nat) (a : Nat → Nat → Nat) (b : Nat → Nat → Nat) : Acc :=
  let fmt := mmaFmt f
  let idx := List.range 1024
  if mmaOrdered f then
    .ordered ((idx.zip acc.ordereds).map fun (e, x) =>
      ordGroups (fun j => numMul (fmt.read (a (e / 64) j)) (fmt.read (b j (e % 64)))) (k / 8) 0 x)
  else
    .exact (acc.isInt && decide (5 ≤ f.toNat)) ((idx.zip acc.exacts).map fun (e, x) =>
      x.add ((List.range k).map fun j => exactProduct fmt (a (e / 64) j) (b j (e % 64))))

/-- Write an accumulator of a core. -/
def Core.setAcc (k : Core) (i : BitVec 3) (a : Acc) : Core := { k with acc := k.acc.set i.toFin a }

/-- Does an MRED of an accumulator not yet have landed (R272, R275)? -/
def Core.accBusy (k : Core) (i : BitVec 3) : Bool := k.longs.any fun o => o.kind == .mred && o.acc == i

/-- A word on an accumulator: not issued under a false stage predicate, and waiting for an MRED of it to land
(R271, R272). -/
def onAcc (i : BitVec 3) (e : Effect) : Effect := fun x s =>
  guarded x s (if (x.core s).accBusy i then .stay s else e x s)

/-! ### MMA and MMAQ (R269-R273) -/

/-- Is a source one whose read raises illegal-operand: an invalid ring entry, or a queue with refused formats? -/
def sourceBad (x : Ctx) (s : State) (a : BitVec 6) : Bool :=
  if isQueue a then ((x.core s).q[if a = 52 then 0 else 1]!).refused else (readPlain x s a 1 false).isNone

/-- The checks of R270 on a block of `n` bytes at the address in a register, in their order. -/
def mmaCheck (x : Ctx) (s : State) (sb : Word) (n : Nat) (mc : Bool) : Option Trap :=
  let b := sb.toNat
  let scope : Option Trap := some { cause := 0x06, addr := sb }
  let other := scratchCore b
  if 2 ^ 26 ≤ b then scope
  else if !mc && other != x.c then scope
  else if b % 64 ≠ 0 then some { cause := 0x05, addr := sb }
  else if !scratchRange (x.gang s) x.c b n mc then scope
  else if other = x.c then (if (x.st s).mayRead b n then none else scope)
  else if (s.core x.b other).exported b n then none
  else scope

/-- MMA: `t` is BT, `m` is MC (R269-R272). -/
def effMma (c : BitVec 3) (a : BitVec 6) (sb : BitVec 5) (f : BitVec 3) (kx : BitVec 4) (t m : BitVec 1) : Effect :=
  onAcc c fun x s =>
    let k := mmaK f kx
    let z := mmaSize f
    let bs := (x.st s).sreg sb
    let n := 64 * k * z
    if ((x.core s).acc[c.toFin]).clash (mmaOrdered f) || sourceBad x s a then illegalOperand
    else
      match mmaCheck x s bs n (m == 1) with
      | some q => .trap q
      | none =>
        match readSource x s a z false with
        | .error r => r
        | .ok (ta, s) =>
          let block := scratchRead s x.b bs.toNat n
          let el (i : Nat) : Nat := block / 2 ^ (8 * z * i) % 2 ^ (8 * z)
          let acc := ((x.core s).acc[c.toFin]).mma f k (fun i j => tileElem ta z (cols z * i + j))
            (fun j n => el (if t = 1 then k * n + j else 64 * j + n))
          .ok (x.updCore s fun y => y.setAcc c acc)

/-- Pop `n` entries of a queue, oldest first; a conversion's flags accrue at the pop (R56, R58). -/
def popMany (x : Ctx) (q : BitVec 6) : Nat → State → Except Res (List Tile × State)
  | 0, s => .ok ([], s)
  | n + 1, s =>
    match readSource x s q 1 false with
    | .error r => .error r
    | .ok (t, s) =>
      match popMany x q n s with
      | .error r => .error r
      | .ok (l, s) => .ok (t :: l, s)

/-- MMAQ: B from queue entries; the bundle waits until all of them have landed (R273). -/
def effMmaq (c : BitVec 3) (a : BitVec 6) (q : BitVec 1) (f : BitVec 3) (kx : BitVec 4) : Effect :=
  onAcc c fun x s =>
    let k := mmaK f kx
    let z := mmaSize f
    let kpe := 64 / z
    let e := (k + kpe - 1) / kpe
    let qs : BitVec 6 := if q = 0 then 52 else 53
    let queue := (x.core s).q[if q = 0 then 0 else 1]!
    if ((x.core s).acc[c.toFin]).clash (mmaOrdered f) || sourceBad x s a || sourceBad x s qs ||
        queue.kfmt != mmaCode f || decide (queue.depth < e) then illegalOperand
    else
      match readSource x s a z false with
      | .error r => r
      | .ok (ta, s') =>
        match popMany x qs e s' with
        | .error r =>
          match r with
          | .stay _ => .stay s
          | r => r
        | .ok (l, s') =>
          let acc := ((x.core s').acc[c.toFin]).mma f k (fun i j => tileElem ta z (cols z * i + j))
            (fun j n => tileElem (l[j / kpe]!) z (64 * (j % kpe) + n))
          .ok (x.updCore s' fun y => y.setAcc c acc)

/-! ### Chain control (R268) -/

/-- MCHB. -/
def effMchb (c : BitVec 3) : Effect := onAcc c fun x s => .ok (x.updCore s fun k => k.setAcc c .opened)

/-- MZERO. -/
def effMzero (c : BitVec 3) : Effect := onAcc c fun x s => .ok (x.updCore s fun k => k.setAcc c .idle)

/-- MLDA. -/
def effMlda (c : BitVec 3) (v : BitVec 6) : Effect := onAcc c fun x s =>
  match readSource x s v 4 false with
  | .error r => r
  | .ok (t, s) =>
    .ok (x.updCore s fun k => k.setAcc c (.ordered ((List.range 1024).map fun e => (BitVec.ofNat 32 (tileElem t 4 e), 0))))

/-! ### MCHE (R274) -/

/-- One element of a chain closed to a destination format (R75, R78, R274). -/
def Acc.close (a : Acc) (fmt : Fmt) (rm : RMode) (e : Nat) : Nat × XFlags :=
  match a with
  | .idle => (0, 0)
  | .opened => (0, 0)
  | .exact _ l =>
    let x := l[e]?.getD { val := 0, sat := false, nvs := false }
    match fmt.shape with
    | some sh => x.round sh rm
    | none => x.toInt32
  | .ordered l =>
    let x := l[e]?.getD (0, 0)
    if fmt = .f32 then (x.1.toNat, x.2)
    else
      let r := convert .f32 fmt rm x.1.toNat
      (r.1, r.2 ||| x.2)

/-- The tile that MCHE delivers, with its lane flags. -/
def Acc.closeTile (a : Acc) (fmt : Fmt) (rm : RMode) : Tile × Lanes :=
  let z := fmt.size
  genTile z fun e =>
    let i := e / cols z
    let n := e % cols z
    if n < 64 then a.close fmt rm (64 * i + n) else (0, 0)

/-- MCHE: `v` the destination, `f` its format code (R274). -/
def effMche (c : BitVec 3) (v : BitVec 6) (f : BitVec 4) (r : BitVec 3) : Effect := onAcc c fun x s =>
  let k := x.core s
  let a := k.acc[c.toFin]
  if a = .idle ∨ (f = 11 ∧ a.isInt = false) then illegalOperand
  else if k.busy .mche then .stay s
  else
    let reg := k.physV (v.setWidth 5)
    match k.checkWrite (.v reg) (x.tag true) with
    | .error t => .trap t
    | .ok k =>
      let o := a.closeTile (Fmt.ofCode f) (x.rmode s r)
      let op : LongOp := { kind := .mche, flags := o.2
                           writes := [{ reg := .v reg, data := o.1, mask := BitVec.allOnes 4096 }] }
      .ok (x.updCore s fun _ => { k.setAcc c .idle with longs := k.longs ++ [op] })

/-! ### MRED (R275) -/

/-- The accumulator that a core's CP holds at the rendezvous; none where it has not reached it. -/
def State.atRendezvous (s : State) (b : BenchId) (c : CoreId) : Option (BitVec 3) :=
  match (s.stream b c 2).wait with
  | .rendezvous a => some a
  | _ => none

/-- The value that all four accumulators take. -/
def Acc.bench (l : List Acc) : Acc :=
  let idx := List.range 1024
  match l.head? with
  | some (.ordered _) =>
    let e := l.map Acc.ordereds
    let at' (c i : Nat) : OrdElem := ((e[c]!)[i]!)
    .ordered (idx.map fun i => OrdElem.bench (at' 0 i) (at' 1 i) (at' 2 i) (at' 3 i))
  | some (.exact _ _) =>
    let e := l.map Acc.exacts
    .exact (l.all Acc.isInt) (idx.map fun i => ExactElem.bench (e.map fun x => x[i]!))
  | _ => .opened

/-- MRED: the k-th of each core's CP issue together; one of another accumulator that has not landed holds it up too
(R170, R275). -/
def effMred (c : BitVec 3) : Effect := fun x s =>
  guarded x s <|
    if (x.st s).wait = .reduced then .ok s
    else if (x.core s).busy .mred then .stay s
    else
      let s := x.upd s fun st => { st with wait := .rendezvous c }
      let cores := (List.range 4).map (BitVec.ofNat 2)
      let named := cores.filterMap (s.atRendezvous x.b)
      if named.length < 4 then .stay s
      else
        let accs := (cores.zip named).map fun (q, a) => (s.core x.b q).acc[a.toFin]
        let bad := (cores.zip accs).find? fun y => y.2 == .idle
        let bad := bad.or ((cores.zip accs).find? fun y => y.2.state != (accs.headD .idle).state)
        match bad with
        | some (q, _) =>
          if q = x.c then illegalOperand
          else .halt (takeFault s x.b q 2 4 (s.stream x.b q 2).pc { cause := 0x03 })
        | none =>
          let v := Acc.bench accs
          let s := (cores.zip named).foldl (fun s (q, a) =>
            (s.updCore x.b q fun k => { k.setAcc a v with
              mreds := k.mreds + 1, longs := k.longs ++ [{ kind := .mred, writes := [], flags := 0, acc := a }] }).updStream
              x.b q 2 fun st => { st with wait := .reduced }) s
          .ok { s with agenda := ((cores.filter fun q => q != x.c).map fun q => Turn.stream x.b q 2) ++ s.agenda }

end Sys2Proof.Machine
end

