-- ==== Sys2Proof/Machine/SpecialMath.lean ====
section
/-! DEFINITION. The special functions on one element: the exact value rounded once, found by enclosing it between two
dyadic numbers ever closer until both round alike (R278-R281). -/

namespace Sys2Proof.Machine

/-! ### Enclosures -/

/-- Bounds of a real number, in units of 2^-p. -/
structure Iv where
  lo : Int
  hi : Int
  deriving DecidableEq, Repr, Inhabited

/-- The quotient rounded up. -/
def ceilDiv (a b : Int) : Int := -((-a) / b)

/-- A fraction. -/
def Iv.ofFrac (p : Nat) (n d : Int) : Iv := { lo := n * 2 ^ p / d, hi := ceilDiv (n * 2 ^ p) d }

/-- Sum. -/
def Iv.add (a b : Iv) : Iv := { lo := a.lo + b.lo, hi := a.hi + b.hi }

/-- Difference. -/
def Iv.sub (a b : Iv) : Iv := { lo := a.lo - b.hi, hi := a.hi - b.lo }

/-- A whole multiple. -/
def Iv.times (k : Int) (a : Iv) : Iv := { lo := min (k * a.lo) (k * a.hi), hi := max (k * a.lo) (k * a.hi) }

/-- A quotient by a positive whole number. -/
def Iv.over (a : Iv) (d : Int) : Iv := { lo := a.lo / d, hi := ceilDiv a.hi d }

/-- Product. -/
def Iv.mul (p : Nat) (a b : Iv) : Iv :=
  let w := a.lo * b.lo
  let x := a.lo * b.hi
  let y := a.hi * b.lo
  let z := a.hi * b.hi
  { lo := min (min w x) (min y z) / 2 ^ p, hi := ceilDiv (max (max w x) (max y z)) (2 ^ p) }

/-- Quotient by a positive number. -/
def Iv.div (p : Nat) (a b : Iv) : Iv :=
  { lo := min (a.lo * 2 ^ p / b.lo) (a.lo * 2 ^ p / b.hi)
    hi := max (ceilDiv (a.hi * 2 ^ p) b.lo) (ceilDiv (a.hi * 2 ^ p) b.hi) }

/-- Square root of a positive number. -/
def Iv.sqrt (p : Nat) (a : Iv) : Iv :=
  { lo := Nat.sqrt (a.lo.toNat * 2 ^ p), hi := Nat.sqrt (a.hi.toNat * 2 ^ p) + 1 }

/-- `±m · 2^e`. -/
def Iv.ofNum (p : Nat) (neg : Bool) (m : Nat) (e : Int) : Iv :=
  let v : Int := if neg then -(m : Int) else m
  let k := e + p
  if 0 ≤ k then { lo := v * 2 ^ k.toNat, hi := v * 2 ^ k.toNat }
  else { lo := v / 2 ^ (-k).toNat, hi := ceilDiv v (2 ^ (-k).toNat) }

/-- `Σ w^j / (2(n+j)+1)` from `n`, `k` terms and a tail, for `|w| ≤ 1/9`: `atanh z / z` for `w = z²`, `atan z / z` for
`w = -z²`. -/
def seriesAtan (p : Nat) (w : Iv) : Nat → Nat → Iv
  | 0, _ => { lo := -(2 ^ (p + 1)), hi := 2 ^ (p + 1) }
  | k + 1, n => (Iv.ofFrac p 1 (2 * n + 1)).add (Iv.mul p w (seriesAtan p w k (n + 1)))

/-- ln 2 = 2 atanh (1/3). -/
def ivLn2 (p : Nat) : Iv := ((seriesAtan p (Iv.ofFrac p 1 9) (p / 3 + 8) 0).times 2).over 3

/-- π = 16 atan (1/5) - 4 atan (1/239). -/
def ivPi (p : Nat) : Iv :=
  (((seriesAtan p (Iv.ofFrac p (-1) 25) (p / 4 + 8) 0).times 16).over 5).sub
    (((seriesAtan p (Iv.ofFrac p (-1) 57121) (p / 15 + 8) 0).times 4).over 239)

/-- `Σ r^j n!/(n+j)!` from `n`: e^r at `n = 0`, for `-1/10 ≤ r ≤ 11/10`. -/
def seriesExp (p : Nat) (r : Iv) : Nat → Nat → Iv
  | 0, _ => { lo := 0, hi := 4 * 2 ^ p }
  | k + 1, n => (Iv.ofFrac p 1 1).add ((Iv.mul p r (seriesExp p r k (n + 1))).over (n + 1))

/-- e^a as 2^k times an enclosure. -/
def ivExp (p : Nat) (a : Iv) : Int × Iv :=
  let l := ivLn2 p
  let k := a.lo / l.hi
  (k, seriesExp p (a.sub (l.times k)) (p / 4 + 24) 0)

/-- ln of `m · 2^e`, split as `k` and the rest: ln = k · ln 2 + rest. -/
def ivLogParts (p : Nat) (m : Nat) (e : Int) : Int × Iv :=
  let l := m.log2
  let up := decide (2 ^ (2 * l + 1) < m * m)
  let d : Int := 2 ^ (if up then l + 1 else l)
  let z := Iv.ofFrac p (m - d) (m + d)
  (e + l + (if up then 1 else 0), ((Iv.mul p z (seriesAtan p (Iv.mul p z z) (p / 5 + 8) 0)).times 2))

/-- ln of `m · 2^e`. -/
def ivLog (p : Nat) (m : Nat) (e : Int) : Iv :=
  let r := ivLogParts p m e
  ((ivLn2 p).times r.1).add r.2

/-- `Σ (2t)^j / ((2n+3)(2n+5)…(2(n+j)+1))` from `n`, for `4t ≤ n` at the tail. -/
def seriesErf (p : Nat) (t : Iv) : Nat → Nat → Iv
  | 0, _ => { lo := 2 ^ p, hi := 2 * 2 ^ p }
  | k + 1, n => (Iv.ofFrac p 1 1).add (((Iv.mul p t (seriesErf p t k (n + 1))).times 2).over (2 * n + 3))

/-- `e^-t Σ (2t)^n/(2n+1)!! / √π`: half of erf x over x, at `t = x²`. -/
def ivErfCore (p : Nat) (t : Iv) : Iv :=
  let whole := (t.hi / 2 ^ p).toNat + 1
  let (k, r) := ivExp p { lo := -t.hi, hi := -t.lo }
  let ex : Iv := if 0 ≤ k then r.times (2 ^ k.toNat) else r.over (2 ^ (-k).toNat)
  (Iv.mul p ex (seriesErf p t (6 * whole + p + 8) 0)).div p (Iv.sqrt p (ivPi p))

/-! ### The functions -/

/-- Bounds between which the value of a function lies strictly, in units of 2^e. -/
structure Bounds where
  lo : Int
  hi : Int
  e : Int
  deriving DecidableEq, Repr, Inhabited

/-- An enclosure, opened. -/
def Iv.bounds (a : Iv) (e : Int) : Bounds := { lo := a.lo - 1, hi := a.hi + 1, e := e }

/-- Just above or just below a positive dyadic number `n · 2^e`, nearer than 2^-80 of it. -/
def beside (above : Bool) (n : Nat) (e : Int) : Bounds :=
  let v : Int := n * 2 ^ 80
  { lo := if above then v else v - n, hi := if above then v + n else v, e := e - 80 }

/-- The bounds with the opposite sign. -/
def Bounds.neg (b : Bounds) : Bounds := { lo := -b.hi, hi := -b.lo, e := b.e }

/-- Bounds of function FN of Table 30.1 at `±m · 2^e`, not zero and not a fixed input of Table 30.3, with working
precision `p`. -/
def sfBounds (fn : Nat) (neg : Bool) (m : Nat) (e : Int) (p : Nat) : Bounds :=
  let top : Int := m.log2 + e
  let small : Bool := decide (top < -84)
  let reach (n : Nat) : Bool := numCmp (.fin false m e) (.fin false n 0) != .lt
  let a := Iv.ofNum p neg m e
  let one : Int := 2 ^ p
  let huge : Bounds := { lo := 2 ^ 80, hi := 2 ^ 80 + 1, e := 2000 }
  let none' : Bounds := { lo := 2 ^ 80, hi := 2 ^ 80 + 1, e := -4000 }
  match fn with
  | 0 =>
    if small then beside (!neg) 1 0
    else if reach 2000 then (if neg then none' else huge)
    else
      let r := ivExp p a
      r.2.bounds (r.1 - p)
  | 1 =>
    if small then beside (!neg) 1 0
    else if reach 2000 then (if neg then none' else huge)
    else
      let k := a.lo / one
      (seriesExp p (Iv.mul p { lo := a.lo - k * one, hi := a.hi - k * one } (ivLn2 p)) (p / 4 + 24) 0).bounds (k - p)
  | 2 =>
    if small then (if neg then (beside false m e).neg else beside true m e)
    else if reach 2000 then (if neg then (beside false 1 0).neg else huge)
    else if neg && reach 100 then (beside false 1 0).neg
    else
      let r := ivExp p a
      let v : Iv := if 0 ≤ r.1 then r.2.times (2 ^ r.1.toNat) else r.2.over (2 ^ (-r.1).toNat)
      (v.sub { lo := one, hi := one }).bounds (-p)
  | 3 => (ivLog p m e).bounds (-p)
  | 4 =>
    let r := ivLogParts p m e
    (Iv.add { lo := r.1 * one, hi := r.1 * one } (r.2.div p (ivLn2 p))).bounds (-p)
  | 5 =>
    if small then (if neg then (beside true m e).neg else beside false m e)
    else
      let e0 := min e 0
      let v := align neg m e e0 + 2 ^ (-e0).toNat
      (ivLog p v.toNat e0).bounds (-p)
  | 6 =>
    if reach 16 then (if neg then (beside false 1 0).neg else beside false 1 0)
    else
      let g := (ivErfCore p (Iv.ofNum p false (m * m) (2 * e))).times (if neg then -(m : Int) else m)
      g.bounds (e + 1 - p)
  | 7 =>
    if small then beside neg 1 0
    else if reach 32 && !neg then none'
    else if reach 16 && neg then beside false 2 0
    else
      let g := Iv.mul p a ((ivErfCore p (Iv.ofNum p false (m * m) (2 * e))).times 2)
      (Iv.sub { lo := one, hi := one } g).bounds (-p)
  | 8 =>
    if small then beside (!neg) 1 (-1)
    else if reach 48 && neg then none'
    else if reach 24 && !neg then beside false 1 0
    else
      let root := Iv.sqrt p { lo := 2 * one, hi := 2 * one }
      let g := Iv.mul p (Iv.mul p a root) (ivErfCore p (Iv.ofNum p false (m * m) (2 * e - 1)))
      (Iv.add { lo := one, hi := one } g).bounds (-p - 1)
  | _ =>
    let odd := e % 2 != 0
    let m' := if odd then 2 * m else m
    let e' := if odd then e - 1 else e
    let k := m'.log2 + 80
    let r : Int := Nat.sqrt (2 ^ (2 * k) / m')
    { lo := r, hi := r + 1, e := -(e' / 2) - k }

/-- The rounded value with its flags, where everything between the bounds rounds alike. -/
def decideBounds (sh : FShape) (rm : RMode) (b : Bounds) : Option (Nat × XFlags) :=
  let neg := decide (b.hi ≤ 0)
  let x := if neg then (-b.hi).toNat else b.lo.toNat
  let y := if neg then (-b.lo).toNat else b.hi.toNat
  if (b.lo < 0 ∧ 0 < b.hi) ∨ x.log2 < sh.fb + 3 ∨ y ≤ x then none
  else
    let r := sh.roundTo rm neg x b.e true
    if r = sh.roundTo rm neg (y - 1) b.e true then some r else none

/-- Enclosures of growing precision until one decides. -/
def refine (sh : FShape) (rm : RMode) (f : Nat → Bounds) : Nat → Nat → Option (Nat × XFlags)
  | 0, _ => none
  | n + 1, p =>
    match decideBounds sh rm (f p) with
    | some r => some r
    | none => refine sh rm f n (2 * p)

/-- The RM code of a mode (Table 06.2). -/
def RMode.code : RMode → Nat
  | .rne => 0
  | .rtz => 1
  | .rdn => 2
  | .rup => 3
  | .rmm => 4

/-- Is a number a power of two? -/
def isPow2 (m : Nat) : Bool := m == 2 ^ m.log2

/-- More enclosures than any value needs: their precision doubles each time (log 8). -/
def refineFuel : Nat := 2 ^ 50

/-- The value of a function at `±m · 2^e` that is no dyadic number, rounded once; the value that no enclosure decided is
free (R280, R281; log 8). -/
def sfGeneral (wide : Bool) (sh : FShape) (fn : Nat) (rm : RMode) (c : Nat) (neg : Bool) (m : Nat) (e : Int) :
    Nat × XFlags :=
  let top : Int := m.log2 + e
  let whole := if 6 ≤ fn ∧ fn ≤ 8 ∧ top < 7 then m * m * 2 ^ (max 0 (2 * e)).toNat / 2 ^ (max 0 (-2 * e)).toNat else 0
  (refine sh rm (sfBounds fn neg m e) refineFuel (192 + 4 * whole)).getD (Config.undecided wide fn rm.code c)

/-- A function of Table 30.1 on one element (R280, R281). `wide`: F64. -/
def sfElem (wide : Bool) (sh : FShape) (fn : Nat) (rm : RMode) (c : Nat) : Nat × XFlags :=
  let code (neg : Bool) (m : Nat) (e : Int) : Nat := (sh.deliver .rne (.fin neg m e)).1
  let nan : Nat × XFlags := (sh.qNaN, fNV)
  match sh.read c with
  | .nan sg => (sh.qNaN, flagIf sg fNV)
  | .inf neg =>
    match fn with
    | 0 | 1 => (if neg then 0 else sh.inf false, 0)
    | 2 => (if neg then code true 1 0 else sh.inf false, 0)
    | 3 | 4 | 5 => if neg then nan else (sh.inf false, 0)
    | 6 => (code neg 1 0, 0)
    | 7 => (if neg then code false 2 0 else 0, 0)
    | 8 => (if neg then 0 else code false 1 0, 0)
    | _ => if neg then nan else (0, 0)
  | .fin neg 0 _ =>
    match fn with
    | 0 | 1 | 7 => (code false 1 0, 0)
    | 3 | 4 => (sh.inf true, fDZ)
    | 8 => (code false 1 (-1), 0)
    | 9 => (sh.inf neg, fDZ)
    | _ => (sh.signBit neg, 0)
  | .fin neg m e =>
    let top : Int := m.log2 + e
    let cmp1 := numCmp (.fin false m e) (.fin false 1 0)
    let general (_ : Unit) : Nat × XFlags := sfGeneral wide sh fn rm c neg m e
    match fn with
    | 1 => if 0 ≤ e ∨ m % 2 ^ (-e).toNat = 0 then
        (if 12 ≤ top then general ()
         else
          let n : Int := align neg m e (min e 0) / 2 ^ (max 0 (-e)).toNat
          sh.deliver rm (.fin false 1 n))
      else general ()
    | 3 => if neg then nan else if cmp1 == .eq then (0, 0) else general ()
    | 4 => if neg then nan
      else if isPow2 m then
        (if top = 0 then 0 else code (decide (top < 0)) top.natAbs 0, 0)
      else general ()
    | 5 => if neg && cmp1 == .eq then (sh.inf true, fDZ) else if neg && cmp1 == .gt then nan else general ()
    | 9 => if neg then nan else if isPow2 m && top % 2 == 0 then (code false 1 (-(top / 2)), 0) else general ()
    | _ => general ()

end Sys2Proof.Machine
end

