-- ==== Sys2Proof/Machine/Special.lean ====
section
/-! DEFINITION. SF32 and SF64 (R278-R284). -/

namespace Sys2Proof.Machine

/-- SF32 (R280, R282). -/
def effSf32 (d a : BitVec 6) (f : BitVec 4) (r : BitVec 3) : Effect := fun x s =>
  let rm := x.rmode s r
  effUnary 4 false d a (fun u => sfElem false shapeF32 f.toNat rm u) x s

/-- The writes of a long operation of one tile to a v register, in the view of `z` bytes. -/
def Sel.faceWrite (l : Sel) (z : Nat) (r : BitVec 5) (t : Tile) : FaceWrite :=
  let m := l.mask z
  { reg := .v r, data := if l.zero then t &&& byteMask m else t, mask := if l.zero then BitVec.allOnes 4096 else m }

/-- SF64: a long operation (R279, R283). -/
def effSf64 (d a : BitVec 6) (f : BitVec 4) (r : BitVec 3) : Effect := fun x s =>
  guarded x s <|
    if (x.core s).busy .sf64 then .stay s
    else
      let rm := x.rmode s r
      match readSource x s a 8 false with
      | .error e => e
      | .ok (t, s) =>
        let o := genTile 8 fun e => x.sel.flags 8 e (sfElem true shapeF64 f.toNat rm (tileElem t 8 e))
        let add (s : State) (op : LongOp) : Res := .ring (x.updCore s fun k => { k with longs := k.longs ++ [op] }) none
        let n := d.toNat
        if n < 32 then
          let reg := (x.core s).physV (d.setWidth 5)
          match (x.core s).checkWrite (.v reg) (x.tag true) with
          | .error t => .trap t
          | .ok k =>
            add (x.updCore s fun _ => k) { kind := .sf64, flags := o.2, writes := [x.sel.faceWrite 8 reg o.1] }
        else if n = 63 then add s { kind := .sf64, flags := o.2, writes := [] }
        else
          let id := (x.core s).entries
          match pushQueue x s (if n = 54 then 2 else 3) 0 with
          | .error r => r
          | .ok s =>
            let t := o.1 &&& byteMask (x.sel.mask 8)
            add s { kind := .sf64, flags := o.2, writes := [], entry := some (if n = 54 then 2 else 3, id, t) }

end Sys2Proof.Machine
end

