-- ==== Sys2Proof/Machine/Effects.lean ====
section
/-! DEFINITION. Every instruction word with its class, its effect, and the operand specifiers that it permits (R153, R157,
R159). -/

namespace Sys2Proof.Machine

/-- The streams in which a word may stand (R153): the common group, SC only, LD only, ST only, LD and ST, CP only, the
collective engine; or an event of the table, which is no word. -/
inductive Class where
  | common | sc | ld | st | m | c | n | event
  deriving DecidableEq, Repr

/-- The class of an instruction. -/
def classOf : Instr → Class
  | .aluAdd _ _ _ _ _ _ => .common
  | .aluSub _ _ _ _ _ _ => .common
  | .aluMul _ _ _ _ _ _ => .common
  | .aluMulh _ _ _ _ _ _ => .common
  | .aluMulhu _ _ _ _ _ _ => .common
  | .aluDiv _ _ _ _ _ _ => .common
  | .aluDivu _ _ _ _ _ _ => .common
  | .aluRem _ _ _ _ _ _ => .common
  | .aluRemu _ _ _ _ _ _ => .common
  | .aluAnd _ _ _ _ _ _ => .common
  | .aluOr _ _ _ _ _ _ => .common
  | .aluXor _ _ _ _ _ _ => .common
  | .aluAndn _ _ _ _ _ _ => .common
  | .aluShl _ _ _ _ _ _ => .common
  | .aluShr _ _ _ _ _ _ => .common
  | .aluSar _ _ _ _ _ _ => .common
  | .alu2Min _ _ _ _ _ _ => .common
  | .alu2Max _ _ _ _ _ _ => .common
  | .alu2Minu _ _ _ _ _ _ => .common
  | .alu2Maxu _ _ _ _ _ _ => .common
  | .alu2Clz _ _ _ _ _ => .common
  | .alu2Ctz _ _ _ _ _ => .common
  | .alu2Popc _ _ _ _ _ => .common
  | .alu2Brev _ _ _ _ _ => .common
  | .alu2Bswap _ _ _ _ _ => .common
  | .alu2Sel _ _ _ _ _ _ => .common
  | .alu2Rol _ _ _ _ _ _ => .common
  | .alu2Ror _ _ _ _ _ _ => .common
  | .addi _ _ _ _ => .common
  | .logiAndi _ _ _ _ => .common
  | .logiOri _ _ _ _ => .common
  | .logiXori _ _ _ _ => .common
  | .shiShl _ _ _ _ => .common
  | .shiShr _ _ _ _ => .common
  | .shiSar _ _ _ _ => .common
  | .shiRor _ _ _ _ => .common
  | .li _ _ _ => .common
  | .lih _ _ _ => .common
  | .cmp _ _ _ _ _ _ => .common
  | .cmpi _ _ _ _ _ => .common
  | .fopAnd _ _ _ _ => .common
  | .fopOr _ _ _ _ => .common
  | .fopXor _ _ _ _ => .common
  | .fopAndn _ _ _ _ => .common
  | .fopNot _ _ _ => .common
  | .fopSet _ _ => .common
  | .fopClr _ _ => .common
  | .bfBfx _ _ _ _ _ => .common
  | .bfBfxu _ _ _ _ _ => .common
  | .bfBfi _ _ _ _ _ => .common
  | .pbr _ _ _ => .common
  | .pbrReg _ _ _ => .common
  | .br _ _ _ => .common
  | .brl _ _ _ => .common
  | .loop _ _ _ => .common
  | .kloop _ _ _ _ _ _ => .common
  | .lds _ _ _ _ _ _ _ => .common
  | .sts _ _ _ _ _ _ => .common
  | .xmovMovc _ _ _ => .common
  | .xmovMovtc _ _ _ => .common
  | .xmovRdsr _ _ _ => .common
  | .xmovWrsr _ _ _ => .common
  | .xmovMovb _ _ _ => .common
  | .flip _ => .common
  | .endStream _ => .common
  | .pdecl _ _ _ _ _ => .common
  | .tlwait _ _ _ => .common
  | .tlrd _ _ _ => .common
  | .tsig _ _ => .common
  | .twait _ _ => .common
  | .nop _ => .common
  | .trap _ _ => .common
  | .brk _ _ => .common
  | .fork _ => .sc
  | .join => .sc
  | .amo _ _ _ _ _ _ _ => .sc
  | .cas _ _ _ _ _ _ _ => .sc
  | .lda _ _ _ _ _ => .sc
  | .strl _ _ _ _ _ => .sc
  | .fence _ _ => .sc
  | .barb => .sc
  | .futinit _ => .sc
  | .futreg _ _ => .sc
  | .futres _ _ => .sc
  | .futfail _ _ => .sc
  | .nspawn _ => .sc
  | .nexit _ => .sc
  | .nyield _ => .sc
  | .nself _ => .sc
  | .colgo _ _ _ _ => .sc
  | .colq _ _ => .sc
  | .capq _ => .sc
  | .boost _ => .sc
  | .permq _ => .sc
  | .snap _ => .sc
  | .vld _ _ _ _ _ _ => .ld
  | .vlds _ _ _ _ _ _ => .ld
  | .vst _ _ _ _ _ => .st
  | .vsts _ _ _ _ _ => .st
  | .qld _ _ _ _ _ _ => .ld
  | .qst _ _ _ _ _ _ => .st
  | .spld _ _ _ _ _ _ => .ld
  | .spst _ _ _ _ _ => .st
  | .spcp _ _ _ _ _ => .m
  | .gather _ _ _ _ _ _ => .ld
  | .scatter _ _ _ _ _ => .st
  | .scatterAdd _ _ _ _ _ => .st
  | .put _ _ _ _ _ _ => .st
  | .get _ _ _ _ _ _ => .ld
  | .pref _ _ _ _ => .ld
  | .cbatch => .m
  | .tlwaitOut _ => .m
  | .vf32 _ _ _ _ _ _ => .c
  | .vf64 _ _ _ _ _ _ => .c
  | .vf16 _ _ _ _ _ _ => .c
  | .vbf16 _ _ _ _ _ _ => .c
  | .vfcmp _ _ _ _ _ _ => .c
  | .vi32 _ _ _ _ _ _ _ => .c
  | .vi16 _ _ _ _ _ _ _ => .c
  | .vi8 _ _ _ _ _ _ _ => .c
  | .vi64 _ _ _ _ _ _ _ => .c
  | .vlogic _ _ _ _ _ => .c
  | .vicmp _ _ _ _ _ _ => .c
  | .vcvt _ _ _ _ _ _ => .c
  | .vmoveMov _ _ _ => .c
  | .vmoveSel _ _ _ _ _ => .c
  | .vmoveImm _ _ _ => .c
  | .vmoveIota _ _ => .c
  | .vmoveXtr _ _ _ _ => .c
  | .vmoveIns _ _ _ _ => .c
  | .vrot _ _ _ _ _ => .c
  | .vbc _ _ _ _ _ => .c
  | .vred _ _ _ _ _ _ => .c
  | .vtrg _ _ _ => .c
  | .vperm _ _ _ _ => .c
  | .vsort _ _ _ _ _ => .c
  | .pred _ _ _ _ _ => .c
  | .xfRd _ _ => .c
  | .xfClr _ _ => .c
  | .xfSet _ _ => .c
  | .psel _ _ _ _ _ => .c
  | .sf32 _ _ _ _ _ => .c
  | .sf64 _ _ _ _ _ => .c
  | .ckEnc _ _ _ _ => .c
  | .ckDec _ _ _ _ => .c
  | .ckAdd _ _ _ _ _ => .c
  | .ckSub _ _ _ _ _ => .c
  | .ckInbox _ _ _ _ _ => .c
  | .ckNext _ _ _ _ _ => .c
  | .cksplit _ _ _ _ _ => .c
  | .mma _ _ _ _ _ _ _ _ => .c
  | .mmaq _ _ _ _ _ _ => .c
  | .mchb _ _ => .c
  | .mche _ _ _ _ _ => .c
  | .mzero _ _ => .c
  | .mred _ _ => .c
  | .mlda _ _ _ => .c
  | .csend _ _ _ _ _ => .n
  | .cred _ _ _ _ _ _ _ => .n
  | .ccopy _ _ _ _ => .n
  | .cwait _ _ _ => .n
  | .csig _ _ => .n
  | .cloop _ _ => .n
  | .cend => .n
  | .crv _ => .n
  | .cbw _ _ => .n
  | .cnop => .n
  | .colProgramStart _ => .event
  | .cpResultWrite _ _ => .event
  | .longOpLand _ _ _ => .event
  | .copyUnit _ _ _ => .event
  | .copyComplete _ _ _ => .event
  | .flipComplete _ _ => .event
  | .nodeRetire _ => .event
  | .launchDoorbell _ _ => .event
  | .launchRecordConsume _ => .event
  | .launchRequest _ _ _ _ => .event
  | .dispatch _ => .event
  | .gangMigrate _ => .event
  | .haltLine _ => .event
  | .copyAbandon _ _ _ => .event
  | .colContextStop _ => .event
  | .pctlResume _ _ => .event
  | .pctlAbort _ _ => .event
  | .pctlReplay _ _ => .event
  | .pctlBarrier _ _ => .event
  | .pctlStop _ _ => .event
  | .partitionBarrier _ => .event
  | .vfGrant _ => .event
  | .sliceEnd _ => .event
  | .forcedEpilogue _ => .event
  | .epilogueSave _ => .event
  | .fullStop _ => .event
  | .vfctxRootWrite _ _ _ => .event
  | .vfctxCommit _ _ => .event
  | .tqheadWrite _ _ => .event
  | .htqheadWrite _ => .event
  | .fmtcfgWrite _ _ _ => .event
  | .pbenchWrite _ _ => .event
  | .winctlWrite _ _ _ => .event
  | .windowUnitArrive _ => .event
  | .residencyReport _ _ _ _ => .event
  | .flitRetransmit _ => .event
  | .creditFlit _ _ => .event
  | .linkDown _ _ => .event
  | .udpRetransmit _ => .event
  | .udpUnitTimeout _ => .event
  | .uncorrectableEcc _ => .event
  | .scxGo _ _ => .event
  | .scxComplete _ => .event
  | .llcmntWriteback _ _ => .event
  | .llcmntWbInvalidate _ _ => .event
  | .llcmntDone _ => .event
  | .coldStart => .event
  | .devctlWarm _ => .event
  | .devctlReady _ => .event
  | .recgo _ _ => .event
  | .lifecycleAdvance _ _ => .event
  | .dbgctlReq _ => .event
  | .dbgctlLoad _ _ => .event
  | .snapctlFire _ => .event
  | .qpwrReq _ _ => .event
  | .p2Entry _ => .event
  | .p1Entry _ => .event
  | .p1Wake _ => .event
  | .powerOff => .event
  | .powerWindowEnd _ _ => .event
  | .permitCharge _ => .event
  | .permitRefill _ => .event
  | .boostFallEnd _ => .event
  | .boostStepChange _ => .event
  | .registerWrite _ _ _ => .event
  | .bucketAccrual _ => .event
  | .linkRetrain _ _ _ => .event
  | .arrivalAcknowledgement _ _ => .event
  | .refusedUnit _ => .event
  | .getUnitReturn _ _ => .event
  | .hostMemoryAccess _ _ _ _ => .event
  | .debugWindowAccess _ _ _ => .event
  | .contextWindowAccess _ _ _ => .event
  | .tlbInvalidate => .event

/-- May a stream issue a word of a class? -/
def Class.fits (k : Class) (t : StreamId) : Bool :=
  match k with
  | .common => true
  | .sc => t == 0
  | .ld => t == 1
  | .c => t == 2
  | .st => t == 3
  | .m => t == 1 || t == 3
  | .n | .event => false

/-- The effect of what is no word of a stream. -/
def effNone : Effect := fun _ _ => illegalInstruction

/-- The effect of an instruction word; PSEL acts on the other words of its bundle (R247). -/
def wordEffect : Instr → Effect
  | .aluAdd _ d a b w q => effAlu 0 d a b w q
  | .aluSub _ d a b w q => effAlu 1 d a b w q
  | .aluMul _ d a b w q => effAlu 2 d a b w q
  | .aluMulh _ d a b w q => effAlu 3 d a b w q
  | .aluMulhu _ d a b w q => effAlu 4 d a b w q
  | .aluDiv _ d a b w q => effAlu 5 d a b w q
  | .aluDivu _ d a b w q => effAlu 6 d a b w q
  | .aluRem _ d a b w q => effAlu 7 d a b w q
  | .aluRemu _ d a b w q => effAlu 8 d a b w q
  | .aluAnd _ d a b w q => effAlu 9 d a b w q
  | .aluOr _ d a b w q => effAlu 10 d a b w q
  | .aluXor _ d a b w q => effAlu 11 d a b w q
  | .aluAndn _ d a b w q => effAlu 12 d a b w q
  | .aluShl _ d a b w q => effAlu 13 d a b w q
  | .aluShr _ d a b w q => effAlu 14 d a b w q
  | .aluSar _ d a b w q => effAlu 15 d a b w q
  | .alu2Min _ d a b w q => effAlu2 0 d a b w q
  | .alu2Max _ d a b w q => effAlu2 1 d a b w q
  | .alu2Minu _ d a b w q => effAlu2 2 d a b w q
  | .alu2Maxu _ d a b w q => effAlu2 3 d a b w q
  | .alu2Clz _ d a w q => effAlu2 4 d a 0 w q
  | .alu2Ctz _ d a w q => effAlu2 5 d a 0 w q
  | .alu2Popc _ d a w q => effAlu2 6 d a 0 w q
  | .alu2Brev _ d a w q => effAlu2 7 d a 0 w q
  | .alu2Bswap _ d a w q => effAlu2 8 d a 0 w q
  | .alu2Sel _ d a b w q => effAlu2 9 d a b w q
  | .alu2Rol _ d a b w q => effAlu2 10 d a b w q
  | .alu2Ror _ d a b w q => effAlu2 11 d a b w q
  | .addi _ d a i => effAddi d a i
  | .logiAndi _ d a i => effLogi 0 d a i
  | .logiOri _ d a i => effLogi 1 d a i
  | .logiXori _ d a i => effLogi 2 d a i
  | .shiShl _ d a n => effShi 0 d a n
  | .shiShr _ d a n => effShi 1 d a n
  | .shiSar _ d a n => effShi 2 d a n
  | .shiRor _ d a n => effShi 3 d a n
  | .li _ d i => effLi d i
  | .lih _ d i => effLih d i
  | .cmp _ f c a b q => effCmp f c a b q
  | .cmpi _ f c a i => effCmpi f c a i
  | .fopAnd _ d a b => effFop 0 d a b
  | .fopOr _ d a b => effFop 1 d a b
  | .fopXor _ d a b => effFop 2 d a b
  | .fopAndn _ d a b => effFop 3 d a b
  | .fopNot _ d a => effFop 4 d a 0
  | .fopSet _ d => effFop 5 d 0 0
  | .fopClr _ d => effFop 6 d 0 0
  | .bfBfx _ d a p n => effBf 0 d a p n
  | .bfBfxu _ d a p n => effBf 1 d a p n
  | .bfBfi _ d a p n => effBf 2 d a p n
  | .pbr _ b i => effPbr b i
  | .pbrReg _ b s => effPbrReg b s
  | .br _ b q => effBr false b q
  | .brl _ b q => effBr true b q
  | .loop _ s n => effLoop s n
  | .kloop _ f p t s n => effKloop f p t s n
  | .lds _ d b z u p o => effLds d b z u p o
  | .sts _ d b z p o => effSts d b z p o
  | .xmovMovc _ x y => effMovc x y
  | .xmovMovtc _ x y => effMovtc x y
  | .xmovRdsr _ x r => effRdsr x r
  | .xmovWrsr _ y r => effWrsr y r
  | .xmovMovb _ x y => effMovb x y
  | .flip _ => effFlip
  | .endStream _ => effEnd
  | .pdecl _ c s b n => effPdecl c s b n
  | .tlwait _ i n => effTlwait i n
  | .tlrd _ d i => effTlrd d i
  | .tsig _ t => effTsig t
  | .twait _ s => effTwait s
  | .nop _ => effNop
  | .trap _ _ => effTrap
  | .brk _ _ => effBrk
  | .fork m => effFork m
  | .join => effJoin
  | .amo f w o c d b t => effAmo f w o c d b t
  | .cas w o c d b m t => effCas w o c d b m t
  | .lda z c d b o => effLda z c d b o
  | .strl z c d b o => effStrl z c d b o
  | .fence k c => effFence k c
  | .barb => effBarb
  | .futinit f => effFutinit f
  | .futreg f n => effFutreg f n
  | .futres f c => effResolve 1 f c
  | .futfail f c => effResolve 2 f c
  | .nspawn s => effNspawn s
  | .nexit s => effRetire false s
  | .nyield s => effRetire true s
  | .nself s => effNself s
  | .colgo c p a d => effColgo c p a d
  | .colq c d => effColq c d
  | .capq s => effCapq s
  | .boost s => effBoost s
  | .permq s => effPermq s
  | .snap s => effSnap s
  | .vld t a g f x s => effLoadTile false t a g f x s
  | .vlds t a g f x s => effLoadTile true t a g f x s
  | .vst t a g f s => effStoreTile false t a g f s
  | .vsts t a g f s => effStoreTile true t a g f s
  | .qld t a g f x s => effQld t a g f x s
  | .qst t a g f x s => effQst t a g f x s
  | .spld t a g f x s => effSpld t a g f x s
  | .spst t a g f s => effSpst t a g f s
  | .spcp t a g f s => effSpcp t a g f s
  | .gather t a g f x s => effGather t a g f x s
  | .scatter t a g f s => effScatter false t a g f s
  | .scatterAdd t a g f s => effScatter true t a g f s
  | .put t a g f x s => effPut t a g f x s
  | .get t a g f x s => effGet t a g f x s
  | .pref a g f s => effPref a g f s
  | .cbatch => effCbatch
  | .tlwaitOut n => effTlwaitOut n
  | .vf32 _ d a b f r => effVf .f32 shapeF32 d a b f r
  | .vf64 _ d a b f r => effVf .f64 shapeF64 d a b f r
  | .vf16 _ d a b f r => effVf .f16 shapeF16 d a b f r
  | .vbf16 _ d a b f r => effVf .bf16 shapeBF16 d a b f r
  | .vfcmp _ d a b f t => effVfcmp d a b f t
  | .vi32 _ d a b f u s => effVi 4 d a b f u s
  | .vi16 _ d a b f u s => effVi 2 d a b f u s
  | .vi8 _ d a b f u s => effVi 1 d a b f u s
  | .vi64 _ d a b f u s => effVi 8 d a b f u s
  | .vlogic _ d a b f => effVlogic d a b f
  | .vicmp _ d a b f t => effVicmp d a b f t
  | .vcvt _ d a s f r => effVcvt d a s f r
  | .vmoveMov _ d a => effMov d a
  | .vmoveSel _ d a b p => effSel d a b p
  | .vmoveImm _ d i => effImm d i
  | .vmoveIota _ d => effIota d
  | .vmoveXtr _ d a b => effXtr d a b
  | .vmoveIns _ d a b => effIns d a b
  | .vrot _ d a b f => effVrot d a b f
  | .vbc _ d a b f => effVbc d a b f
  | .vred _ d a e f r => effVred d a e f r
  | .vtrg _ d f => effVtrg d f
  | .vperm _ d a b => effVperm d a b
  | .vsort _ d a b f => effVsort d a b f
  | .pred _ d a b f => effPred d a b f
  | .xfRd _ d => effXfRd d
  | .xfClr _ a => effXfChange false a
  | .xfSet _ a => effXfChange true a
  | .psel _ _ _ _ _ => effNop
  | .sf32 _ d a f r => effSf32 d a f r
  | .sf64 _ d a f r => effSf64 d a f r
  | .ckEnc _ d a x => effCkCode true d a x
  | .ckDec _ d a x => effCkCode false d a x
  | .ckAdd _ d a b x => effCkAdd false d a b x
  | .ckSub _ d a b x => effCkAdd true d a b x
  | .ckInbox _ d a b x => effCkInbox d a b x
  | .ckNext _ d a b x => effCkNext d a b x
  | .cksplit _ d a b x => effCksplit d a b x
  | .mma _ c a s f k t m => effMma c a s f k t m
  | .mmaq _ c a q f k => effMmaq c a q f k
  | .mchb _ c => effMchb c
  | .mche _ c v f r => effMche c v f r
  | .mzero _ c => effMzero c
  | .mred _ c => effMred c
  | .mlda _ c v => effMlda c v
  | .csend _ _ _ _ _ => effNone
  | .cred _ _ _ _ _ _ _ => effNone
  | .ccopy _ _ _ _ => effNone
  | .cwait _ _ _ => effNone
  | .csig _ _ => effNone
  | .cloop _ _ => effNone
  | .cend => effNone
  | .crv _ => effNone
  | .cbw _ _ => effNone
  | .cnop => effNone
  | .colProgramStart _ => effNone
  | .cpResultWrite _ _ => effNone
  | .longOpLand _ _ _ => effNone
  | .copyUnit _ _ _ => effNone
  | .copyComplete _ _ _ => effNone
  | .flipComplete _ _ => effNone
  | .nodeRetire _ => effNone
  | .launchDoorbell _ _ => effNone
  | .launchRecordConsume _ => effNone
  | .launchRequest _ _ _ _ => effNone
  | .dispatch _ => effNone
  | .gangMigrate _ => effNone
  | .haltLine _ => effNone
  | .copyAbandon _ _ _ => effNone
  | .colContextStop _ => effNone
  | .pctlResume _ _ => effNone
  | .pctlAbort _ _ => effNone
  | .pctlReplay _ _ => effNone
  | .pctlBarrier _ _ => effNone
  | .pctlStop _ _ => effNone
  | .partitionBarrier _ => effNone
  | .vfGrant _ => effNone
  | .sliceEnd _ => effNone
  | .forcedEpilogue _ => effNone
  | .epilogueSave _ => effNone
  | .fullStop _ => effNone
  | .vfctxRootWrite _ _ _ => effNone
  | .vfctxCommit _ _ => effNone
  | .tqheadWrite _ _ => effNone
  | .htqheadWrite _ => effNone
  | .fmtcfgWrite _ _ _ => effNone
  | .pbenchWrite _ _ => effNone
  | .winctlWrite _ _ _ => effNone
  | .windowUnitArrive _ => effNone
  | .residencyReport _ _ _ _ => effNone
  | .flitRetransmit _ => effNone
  | .creditFlit _ _ => effNone
  | .linkDown _ _ => effNone
  | .udpRetransmit _ => effNone
  | .udpUnitTimeout _ => effNone
  | .uncorrectableEcc _ => effNone
  | .scxGo _ _ => effNone
  | .scxComplete _ => effNone
  | .llcmntWriteback _ _ => effNone
  | .llcmntWbInvalidate _ _ => effNone
  | .llcmntDone _ => effNone
  | .coldStart => effNone
  | .devctlWarm _ => effNone
  | .devctlReady _ => effNone
  | .recgo _ _ => effNone
  | .lifecycleAdvance _ _ => effNone
  | .dbgctlReq _ => effNone
  | .dbgctlLoad _ _ => effNone
  | .snapctlFire _ => effNone
  | .qpwrReq _ _ => effNone
  | .p2Entry _ => effNone
  | .p1Entry _ => effNone
  | .p1Wake _ => effNone
  | .powerOff => effNone
  | .powerWindowEnd _ _ => effNone
  | .permitCharge _ => effNone
  | .permitRefill _ => effNone
  | .boostFallEnd _ => effNone
  | .boostStepChange _ => effNone
  | .registerWrite _ _ _ => effNone
  | .bucketAccrual _ => effNone
  | .linkRetrain _ _ _ => effNone
  | .arrivalAcknowledgement _ _ => effNone
  | .refusedUnit _ => effNone
  | .getUnitReturn _ _ => effNone
  | .hostMemoryAccess _ _ _ _ => effNone
  | .debugWindowAccess _ _ _ => effNone
  | .contextWindowAccess _ _ _ => effNone
  | .tlbInvalidate => effNone

/-! ### Operand specifiers (R157 order 4) -/

/-- VF32, VF64, VF16, VBF16: FMA, FMS and FNMA read D (R159). -/
def vfSpec (vc : Nat) (d a b : BitVec 6) (f : BitVec 4) : Bool :=
  (if 3 ≤ f.toNat ∧ f.toNat ≤ 5 then dstReadOk vc d else dstOk vc d) && srcOk vc a && (vfUnary f || srcOk vc b)

/-- VI32, VI16, VI8, VI64: MAD reads D (R159). -/
def viSpec (vc : Nat) (d a b : BitVec 6) (f : BitVec 4) : Bool :=
  (if f = 4 then dstReadOk vc d else dstOk vc d) && srcOk vc a && (f == 12 || f == 13 || srcOk vc b)

/-- PRED: every field is a code of 0 to 7, the view code in B of FN 7 to 9 too (R159, R264). -/
def predSpec (a b : BitVec 6) : Bool := pOk a && pOk b

/-- CKSPLIT: a pair of cross scalars (Table 32.1). -/
def crPair (a : BitVec 6) : Bool := decide (56 ≤ a.toNat) && decide (a.toNat ≤ 62)

/-- Are the operands that a CP word encodes permitted, with a VCOUNT (R45, R159, R187)? -/
def specOk (vc : Nat) : Instr → Bool
  | .xmovMovc _ _ y => decide (y.toNat < 8)
  | .xmovMovtc _ y _ => decide (y.toNat < 8)
  | .xmovMovb _ y _ => decide (y.toNat < 8)
  | .xmovRdsr _ _ r => assignedSR r
  | .xmovWrsr _ _ r => r == 2 || r == 3
  | .vf32 _ d a b f _ => vfSpec vc d a b f
  | .vf64 _ d a b f _ => vfSpec vc d a b f
  | .vf16 _ d a b f _ => vfSpec vc d a b f
  | .vbf16 _ d a b f _ => vfSpec vc d a b f
  | .vfcmp _ d a b _ _ => pOk d && srcOk vc a && srcOk vc b
  | .vicmp _ d a b _ _ => pOk d && srcOk vc a && srcOk vc b
  | .vi32 _ d a b f _ _ => viSpec vc d a b f
  | .vi16 _ d a b f _ _ => viSpec vc d a b f
  | .vi8 _ d a b f _ _ => viSpec vc d a b f
  | .vi64 _ d a b f _ _ => viSpec vc d a b f
  | .vlogic _ d a b f => dstOk vc d && srcOk vc a && (f == 6 || srcOk vc b)
  | .vcvt _ d a _ _ _ => dstOk vc d && srcOk vc a
  | .vmoveMov _ d a => dstOk vc d && srcOk vc a
  | .vmoveSel _ d a b _ => dstOk vc d && srcOk vc a && srcOk vc b
  | .vmoveImm _ d _ => dstOk vc d
  | .vmoveIota _ d => dstOk vc d
  | .vmoveXtr _ d a b => dstOk vc d && srcOk vc a && cOk b
  | .vmoveIns _ d a b => dstReadOk vc d && srcOk vc a && cOk b
  | .vrot _ d a b f => dstOk vc d && srcOk vc a && (decide (f.toNat < 4) || cOk b)
  | .vbc _ d a _ _ => dstOk vc d && srcOk vc a
  | .vperm _ d a b => dstOk vc d && srcOk vc a && srcOk vc b
  | .vred _ d a _ _ _ => dstOk vc d && srcOk vc a
  | .vtrg _ d _ => decide (d.toNat % 8 = 0) && decide (d.toNat < 32) && decide (d.toNat + 7 < vc)
  | .vsort _ d a b _ => pairOk vc d false && srcOk vc a && srcOk vc b
  | .pred _ d a b _ => pOk d && predSpec a b
  | .xfRd _ d => dstOk vc d
  | .xfClr _ a => srcOk vc a
  | .xfSet _ a => srcOk vc a
  | .sf32 _ d a _ _ => dstOk vc d && srcOk vc a
  | .sf64 _ d a _ _ => (vOk vc d || d == 54 || d == 55 || d == 63) && srcOk vc a
  | .ckEnc _ d a _ => dstOk vc d && srcOk vc a
  | .ckDec _ d a _ => dstOk vc d && srcOk vc a
  | .ckAdd _ d a b _ => pairOk vc d true && srcOk vc a && srcOk vc b
  | .ckSub _ d a b _ => pairOk vc d true && srcOk vc a && srcOk vc b
  | .ckInbox _ d a b _ => pOk d && srcOk vc a && boxOk vc b
  | .ckNext _ d a b _ => dstOk vc d && srcOk vc a && boxOk vc b
  | .cksplit _ d a b _ => pairOk vc d false && crPair a && crPair b
  | .mma _ _ a _ _ _ _ _ => srcOk vc a
  | .mmaq _ _ a _ _ _ => srcOk vc a
  | .mche _ _ v _ _ => vOk vc v
  | .mlda _ _ v => srcOk vc v
  | _ => true

/-! ### Groups (R140, R168) -/

/-- Is a word one of group D (R168)? -/
def groupD : Instr → Bool
  | .vf64 _ _ _ _ _ _ => true
  | .sf64 _ _ _ _ _ => true
  | .vcvt _ _ _ s f _ => s == 1 || f == 1
  | .vfcmp _ _ _ _ _ t => t == 1
  | _ => false

/-- Is a word one of the curve group (R140)? -/
def groupCK : Instr → Bool
  | .ckEnc _ _ _ _ => true
  | .ckDec _ _ _ _ => true
  | .ckAdd _ _ _ _ _ => true
  | .ckSub _ _ _ _ _ => true
  | .ckInbox _ _ _ _ _ => true
  | .ckNext _ _ _ _ _ => true
  | .cksplit _ _ _ _ _ => true
  | _ => false

/-- What keeps a CP word from issuing where its bundle stands: a masked group, or a lean die (R157 orders 5 and 6). -/
def groupStop (x : Ctx) (s : State) (i : Instr) : Option Res :=
  if groupD i && isMasked x s 0 then some (.masked 0)
  else if groupCK i && isMasked x s 1 then some (.masked 1)
  else if groupD i && isLean x.b then some .migrate
  else none

end Sys2Proof.Machine
end

