-- ==== Sys2Proof/Machine/Bundle.lean ====
section
/-! DEFINITION. Performing a word: the words of SC, LD and ST one at a time, the bundles of CP as a whole, the commands of
a collective context (R151-R157, R247, R335). -/

namespace Sys2Proof.Machine

/-! ### Agents that may move -/

/-- Is a stream at a word that it may perform? -/
def Stream.ready (st : Stream) : Bool :=
  st.status == .running && st.fault.isNone && (match st.wait with
    | .flip _ _ => false
    | .pageFault => false
    | .epilogue _ _ => false
    | _ => true)

/-- May a stream perform a word? -/
def State.canIssue (s : State) (b : BenchId) (c : CoreId) (t : StreamId) : Bool :=
  s.moving b && (s.stream b c t).ready

/-! ### Slots of a bundle (R155, Table 18.2) -/

/-- What a CP word's OP claims: 0 PSEL, 1 SX, 2 a vector slot, 3 VB, 4 MX, 5 SF, 6 none. -/
def slotClaim (raw : IWord) : Nat :=
  let op := (fld raw 26 6).toNat
  if op = 0 then 6
  else if op < 0x14 then 1
  else if op < 0x28 then 2
  else if op = 0x28 then 0
  else if op < 0x2B then 5
  else if op < 0x2D then 3
  else if op < 0x30 then 4
  else 6

/-- Words of a bundle that claim what `k` says. -/
def claims (ws : List BundleWord) (k : Nat) : Nat := (ws.filter fun w => slotClaim w.raw == k).length

/-- Is a bundle malformed (R155)? -/
def malformed (ws : List BundleWord) : Bool :=
  let n := claims ws
  let psel := decide (n 0 ≠ 0)
  !((ws.getLast?.map fun w => w.raw.getLsbD 25).getD false) ||
  decide (1 < n 0) || decide (1 < n 1) || decide (1 < n 3) || decide (1 < n 4) || decide (1 < n 5) ||
  decide (2 < n 2 + n 3) ||
  (psel && slotClaim ((ws.headD ⟨0, 0, none⟩).raw) != 0) ||
  (psel && (ws.filter fun w => slotClaim w.raw == 0).any fun w => w.raw.getLsbD 25) ||
  (psel && decide (n 2 + n 3 + n 4 + n 5 = 0))

/-- The words with their slots: vector words fill VA and then VB, skipping VB where CK or CKSPLIT holds it; a word that
claims no slot counts as slot 0. -/
def slotted (va : Nat) : List BundleWord → List (Nat × BundleWord)
  | [] => []
  | w :: r =>
    match slotClaim w.raw with
    | 2 => (va, w) :: slotted (va + 1) r
    | 6 => (0, w) :: slotted va r
    | k => (k, w) :: slotted va r

/-- The words of a slot. -/
def inSlot (l : List (Nat × BundleWord)) (n : Nat) : List (Nat × BundleWord) := l.filter fun y => y.1 == n

/-- Words in slot order. -/
def bySlot (l : List (Nat × BundleWord)) : List (Nat × BundleWord) := (List.range 6).flatMap (inSlot l)

/-! ### Issuing a bundle (R156, R335) -/

/-- A bundle while its words are looked at: the state with the words so far performed, the refusals, a word that waits,
what the SX word does to the program counter, its late fault, ring entries. -/
structure Issue where
  s : State
  refused : List (Nat × Res) := []
  waits : Option State := none
  control : Option Res := none
  late : Option Trap := none
  pushes : List (Nat × Option Tile) := []

/-- Place of a refusal found at issue in the order of R157; what R157 does not order comes last. -/
def refusalRank : Res → Nat
  | .masked _ => 0
  | .migrate => 1
  | _ => 2

/-- Is a refusal raised even while another word of the bundle waits: a masked group, a lean die, a queue (R55, R157)? -/
def atOnce : Res → Bool
  | .trap t => t.cause == 0x09 || t.cause == 0x0A
  | .masked _ => true
  | .migrate => true
  | _ => false

/-- Does a refusal stand before another: the first under R157, then the lowest slot (R335)? -/
def before (z y : Nat × Res) : Bool :=
  let a := refusalRank z.2
  let b := refusalRank y.2
  decide (a < b) || (a == b && decide (z.1 < y.1))

/-- The refusal that the bundle raises (R335). -/
def worst : List (Nat × Res) → Option (Nat × Res)
  | [] => none
  | y :: r =>
    match worst r with
    | none => some y
    | some z => some (if before z y then z else y)

/-- The context of a word in a slot. -/
def Ctx.at' (x : Ctx) (n : Nat) (w : BundleWord) : Ctx := { x with slot := n, word := w.addr }

/-- Look at one word. -/
def Issue.word (x : Ctx) (y : Issue) (n : Nat) (w : BundleWord) (i : Instr) : Issue :=
  let x := x.at' n w
  let r := match groupStop x y.s i with
    | some r => r
    | none => wordEffect i x y.s
  match r with
  | .ok s => { y with s := s }
  | .ring s e => { y with s := s, pushes := y.pushes ++ [(n, e)] }
  | .jump s a l => { y with s := s, control := some (.jump s a l) }
  | .skip s a => { y with s := s, control := some (.skip s a) }
  | .after s t => { y with s := s, control := some (.after s t) }
  | .stay s => { y with waits := some s }
  | .halt s => { y with waits := some s }
  | .late _ t => { y with late := some t }
  | r => { y with refused := y.refused ++ [(n, r)] }

/-- Is a word MRED? It is looked at last: it reaches issue when every other word of its bundle could issue (R275). -/
def isMred (w : BundleWord) : Bool := match w.instr with
  | some (.mred _ _) => true
  | _ => false

/-- Push an entry into the ring of a slot; the results of the slot's words keep the depths of their entries (R52). -/
def pushRing (k : Core) (y : Nat × Option Tile) : Core :=
  let down (r : Vector (Option Tile) 4) : Vector (Option Tile) 4 := #v[y.2, r[0], r[1], r[2]]
  let k := { k with results := k.results.map fun r => if r.slot = y.1 then { r with depth := r.depth + 1 } else r }
  match y.1 with
  | 2 => { k with za := down k.za }
  | 3 => { k with zb := down k.zb }
  | 5 => { k with zf := down k.zf }
  | _ => k

/-- What PSEL selects for its bundle (R166, R247). -/
def selOf (x : Ctx) (s : State) (ws : List BundleWord) : Sel :=
  match ws.head?.bind (·.instr) with
  | some (.psel p u k v z) =>
    { blocked := v == 1 && !(x.st s).k.getLsbD k.toNat
      pred := if u = 1 then some ((x.core s).p[p.toFin]).vis else none
      zero := z == 1 }
  | _ => {}

/-- Empty the bundle of a stream. -/
def Stream.cleared (st : Stream) : Stream := { st with bundle := [], sxOnly := false }

/-- What the words of a bundle, all performed, come to: what its SX word does to the program counter. -/
def Issue.outcome (y : Issue) (s : State) : Res := match y.control with
  | some (.jump _ a l) => .jump s a l
  | some (.skip _ a) => .skip s a
  | some (.after _ t) => .after s t
  | _ => .ok s

/-- The fault of going on after a word: a transfer that leaves a KLOOP, or reaches an address not fetchable (R152,
R185). -/
def Res.goFault (x : Ctx) : Res → Option Trap
  | .ok s => match leads x s x.next ((x.st s).advance x.next) with
    | .error t => some t
    | .ok _ => none
  | .jump s a l => match branches x s a l with
    | .error t => some t
    | .ok _ => none
  | .skip s a => match leads x s a ((x.st s).advance a) with
    | .error t => some t
    | .ok _ => none
  | _ => none

/-- The state with the words of a bundle performed: the bundle is over, and each ring entry is pushed (R52). -/
def Issue.closed (x : Ctx) (y : Issue) : State :=
  x.updCore (x.upd y.s Stream.cleared) fun k => y.pushes.foldl pushRing k

/-- The slot of the word that transfers control: SX, or, at the end of a loop body, the bundle's last word (R152). -/
def Issue.transferSlot (y : Issue) (ws : List BundleWord) : Nat :=
  if y.control.isSome then 1 else ((slotted 2 ws).getLast?.map (·.1)).getD 0

/-- The refusals of a bundle, with that of the word whose transfer of control faults (R152, R335). -/
def Issue.faults (x : Ctx) (ws : List BundleWord) (y : Issue) : List (Nat × Res) :=
  y.refused ++ ((y.outcome (y.closed x)).goFault x).toList.map fun t => (y.transferSlot ws, Res.trap t)

/-- What a bundle whose words were looked at comes to. A word that waits holds the bundle, but for a queue's trap policy
and for the checks that R157 puts before issue (R55, R156, R335). -/
def Issue.finish (x : Ctx) (s0 : State) (ws : List BundleWord) (y : Issue) : State :=
  let raise (l : List (Nat × Res)) : Option State :=
    (worst l).map fun (n, r) => settle { x with slot := n } s0 r
  match y.waits with
  | some s =>
    match raise (y.refused.filter fun z => atOnce z.2) with
    | some s => s
    | none => x.upd s fun st => { st with bundle := ws.dropLast }
  | none =>
      match raise (y.faults x ws) with
      | some s => s
      | none =>
        let s := y.closed x
        match y.late with
        | some t => takeFault (x.upd (faultedAccess x s t) fun st => { st with sxOnly := true }) x.b x.c x.t 1 x.pc t
        | none => settle { x with slot := y.transferSlot ws } s0 (y.outcome s)

/-- The state that a waiting word leaves: the one before the bundle, with the stream's wait (R156). -/
def Issue.held (x : Ctx) (s0 : State) (y : Issue) : Issue :=
  match y.waits with
  | some s => { y with waits := some (x.upd s0 fun st => { st with wait := (x.st s).wait }) }
  | none => y

/-- The context of a bundle of CP. -/
def bundleCtx (s : State) (b : BenchId) (c : CoreId) (ws : List BundleWord) : Ctx :=
  let pc := (s.stream b c 2).pc
  let x : Ctx := { b := b, c := c, t := 2, pc := pc, next := pc + 4 * BitVec.ofNat 64 ws.length, slot := 0, word := pc
                   rings := some (s.core b c) }
  { x with sel := selOf x s ws }

/-- The first check of Table 18.3, orders 2 to 4, that a bundle breaks: slot and cause (R157). -/
def bundleDefect (vc : Nat) (ws : List BundleWord) : Option (Nat × Nat) :=
  let l := bySlot (slotted 2 ws)
  if malformed ws then some (0, 0x02)
  else
    match l.find? fun y => y.2.instr.isNone with
    | some (n, _) => some (n, 0x01)
    | none => (l.find? fun y => (y.2.instr.map fun i => !specOk vc i).getD false).map fun y => (y.1, 0x03)

/-- Look at the words of a bundle, in slot order, but for MRED. -/
def lookWords (x : Ctx) (s : State) (l : List (Nat × BundleWord)) : Issue :=
  let look (y : Issue) (z : Nat × BundleWord) : Issue := match z.2.instr with
    | some i => y.word x z.1 z.2 i
    | none => y
  ((l.filter fun z => !isMred z.2).foldl look { s := s }).held x s

/-! ### The rendezvous of MRED (R275) -/

/-- The bundle that CP of a core holds up: the words collected, and its last one, which is fetched again. -/
def heldBundle (s : State) (b : BenchId) (c : CoreId) : List BundleWord :=
  let st := s.stream b c 2
  let a := st.pc + 4 * BitVec.ofNat 64 st.bundle.length
  match fetchWord s (whoStream s b c) a with
  | some (w, _) => st.bundle ++ [{ addr := a, raw := w, instr := (decode .cp w).toOption }]
  | none => st.bundle

/-- Has CP of a core reached issue at an MRED: could every other word of the bundle that it holds up issue? -/
def atIssue (s : State) (b : BenchId) (c : CoreId) : Bool :=
  let ws := heldBundle s b c
  let x := bundleCtx s b c ws
  let y := lookWords x s (bySlot (slotted 2 ws))
  (bundleDefect (s.gang b).vcount ws).isNone && ws.any isMred && y.waits.isNone && y.refused.isEmpty &&
    ((y.outcome y.s).goFault x).isNone

/-- A core of the bench whose bundle could not issue has not reached issue at its MRED, wherever it waits. -/
def dropStale (s : State) (x : Ctx) : State :=
  (((List.range 4).map (BitVec.ofNat 2)).filter fun q => q != x.c && (s.atRendezvous x.b q).isSome && !atIssue s x.b q).foldl
    (fun s q => s.updStream x.b q 2 fun st => { st with wait := .none }) s

/-- MRED in a bundle: looked at from the state before the bundle, then performed after the other words; beside the
fault of another word only its own counts (R335). -/
def Issue.mred (x : Ctx) (s0 : State) (y : Issue) (n : Nat) (w : BundleWord) (i : Instr) : Issue :=
  if y.waits.isSome then y
  else
    let s0 := dropStale s0 x
    let r := wordEffect i (x.at' n w) s0
    if !y.refused.isEmpty || ((y.outcome y.s).goFault x).isSome then
      match r with
      | .trap t => { y with refused := y.refused ++ [(n, .trap t)] }
      | _ => y
    else match r with
    | .ok _ =>
      if (x.st s0).wait = .reduced then y
      else
        let z := ({ y with s := dropStale y.s x } : Issue).word x n w i
        { z with s := x.upd z.s fun st => { st with wait := (x.st y.s).wait } }
    | .stay s => { y with waits := some s }
    | .halt s => { y with waits := some s }
    | r => { y with refused := y.refused ++ [(n, r)] }

/-- Perform the words `l` of a bundle of CP, or wait, or fault; `late` is a fault that its SX word is known to meet after
issue (R156, R335). -/
def performBundle (s : State) (x : Ctx) (ws : List BundleWord) (l : List (Nat × BundleWord)) (late : Option Trap) : State :=
  let meet (y : Issue) (z : Nat × BundleWord) : Issue := match z.2.instr with
    | some i => y.mred x s z.1 z.2 i
    | none => y
  let y := (l.filter fun z => isMred z.2).foldl meet (lookWords x s l)
  ({ y with late := y.late.or late } : Issue).finish x s ws

/-- Issue a complete bundle of CP; one whose words other than SX have issued performs its SX word alone (R335). -/
def issueBundle (s : State) (b : BenchId) (c : CoreId) (ws : List BundleWord) : State :=
  let x := bundleCtx s b c ws
  match bundleDefect (s.gang b).vcount ws with
  | some (n, cause) => takeFault s b c 2 n x.pc { cause := cause }
  | none =>
    let l := bySlot (slotted 2 ws)
    performBundle s x ws (if (s.stream b c 2).sxOnly then inSlot l 1 else l) none

/-- The words of a bundle from an address on, at most `n`, up to the one with L set (R155). -/
def bundleFrom (s : State) (w : Who) (a : Word) : Nat → List BundleWord
  | 0 => []
  | n + 1 =>
    match fetchWord s w a with
    | none => []
    | some (x, _) =>
      { addr := a, raw := x, instr := (decode .cp x).toOption } :: (if x.getLsbD 25 then [] else bundleFrom s w (a + 4) n)

/-- Is a word an LDS or STS of device memory? -/
def isAccess (w : BundleWord) : Bool := match w.instr with
  | some (.lds _ _ _ _ _ p _) => p == 0
  | some (.sts _ _ _ _ p _) => p == 0
  | _ => false

/-- The LDS or STS of the bundle at CP's program counter meets an uncorrectable error: the other words, if they have not
issued, issue and complete, and the SX word writes nothing; none where the bundle has no such word or could not issue
(R335). -/
def eccBundle (s : State) (b : BenchId) (c : CoreId) : Option State :=
  let st := s.stream b c 2
  let ws := bundleFrom s (whoStream s b c) st.pc 6
  let x := bundleCtx s b c ws
  let l := bySlot (slotted 2 ws)
  let sx := lookWords x s (inSlot l 1)
  if (bundleDefect (s.gang b).vcount ws).isSome || !((inSlot l 1).any fun z => isAccess z.2) || sx.waits.isSome ||
      !sx.refused.isEmpty then none
  else some (performBundle s x ws (if st.sxOnly then [] else l.filter fun z => z.1 != 1) (some { cause := 0x29 }))

/-- The device reads at most six words for a bundle (R155). -/
def bundleMax : Nat := 6

/-- CP takes one more word of its bundle: raw bits, and the instruction that they are; the bundle issues with its last
word (R155, R156). -/
def collectWord (s : State) (b : BenchId) (c : CoreId) (raw : IWord) (i : Option Instr) : State :=
  let st := s.stream b c 2
  let ws := st.bundle ++ [{ addr := st.pc + 4 * BitVec.ofNat 64 st.bundle.length, raw := raw, instr := i }]
  if raw.getLsbD 25 || decide (bundleMax ≤ ws.length) then issueBundle s b c ws
  else s.updStream b c 2 fun st => { st with bundle := ws }

/-! ### One word -/

/-- The bits of an instruction; an event has none. -/
def rawOf (i : Instr) : IWord := (encode i).getD 0

/-- The context of a word of SC, LD or ST. -/
def scalarCtx (s : State) (b : BenchId) (c : CoreId) (t : StreamId) : Ctx :=
  let pc := (s.stream b c t).pc
  { b := b, c := c, t := t, pc := pc, next := pc + 4, slot := 0, word := pc }

/-- A stream performs a word (R154, R157). -/
def runStream (s : State) (b : BenchId) (c : CoreId) (t : StreamId) (i : Instr) : State :=
  let x := scalarCtx s b c t
  if t = 2 ∧ (classOf i).fits t = true then collectWord s b c (rawOf i) (some i)
  else if t ≠ 2 ∧ (rawOf i).getLsbD 25 = false then takeFault s b c t 0 x.pc { cause := 0x02 }
  else if (classOf i).fits t = false then takeFault s b c t 0 x.pc { cause := 0x01 }
  else settle x s (wordEffect i x s)

/-- A word of a stream that is no instruction (R154, R157). -/
def runBadWord (s : State) (b : BenchId) (c : CoreId) (t : StreamId) (raw : IWord) : State :=
  if t = 2 then collectWord s b c raw none
  else takeFault s b c t 0 (s.stream b c t).pc { cause := if raw.getLsbD 25 then 0x01 else 0x02 }

/-- The meaning of an instruction word: the agent whose turn it is performs it; where no agent can, nothing is
performed. -/
def runWord (i : Instr) (s : State) : Host.Outcome State Fault Refusal :=
  match s.cur with
  | some (.stream b c t) => if s.canIssue b c t then .next (runStream s b c t i) else .fault .noRunningStream
  | some (.context n) =>
    match s.colRun n with
    | some r => if r.ready then .next (runCommand s n r i) else .fault .noRunningStream
    | none => .fault .noRunningStream
  | none => .fault .noRunningStream

end Sys2Proof.Machine
end

