-- ==== Sys2Proof/Machine/Commands.lean ====
section
/-! DEFINITION. The commands of the collective engine (34): the meaning of each. -/

namespace Sys2Proof.Machine

/-- CSEND (R304). -/
def execCsend (g o : BitVec 4) (w : BitVec 6) (l : BitVec 4) (v : BitVec 1) (s : State) : Out :=
  runWord (.csend g o w l v) s

/-- CRED (R305). -/
def execCred (d s l t : BitVec 4) (o : BitVec 2) (v : BitVec 1) (r : BitVec 3) (st : State) : Out :=
  runWord (.cred d s l t o v r) st

/-- CCOPY (R306). -/
def execCcopy (d s l : BitVec 4) (v : BitVec 1) (st : State) : Out :=
  runWord (.ccopy d s l v) st

/-- CWAIT (R307). -/
def execCwait (k : BitVec 1) (a n : BitVec 4) (s : State) : Out :=
  runWord (.cwait k a n) s

/-- CSIG (R308). -/
def execCsig (a v : BitVec 4) (s : State) : Out :=
  runWord (.csig a v) s

/-- CLOOP (R309). -/
def execCloop (c : BitVec 4) (n : BitVec 13) (s : State) : Out :=
  runWord (.cloop c n) s

/-- CEND (R310). -/
def execCend (s : State) : Out :=
  runWord .cend s

/-- CRV (R311). -/
def execCrv (m : BitVec 4) (s : State) : Out :=
  runWord (.crv m) s

/-- CBW (R312). -/
def execCbw (s : BitVec 8) (r : BitVec 2) (st : State) : Out :=
  runWord (.cbw s r) st

/-- CNOP (R303). -/
def execCnop (s : State) : Out :=
  runWord .cnop s

end Sys2Proof.Machine
end

