-- ==== Sys2Proof/Machine/Common.lean ====
section
/-! DEFINITION. The common scalar group and SYNC (20): the meaning of each. -/

namespace Sys2Proof.Machine

/-- ALU_ADD (R173). -/
def execAluAdd (l : BitVec 1) (d a b : BitVec 5) (w : BitVec 2) (q : BitVec 4) (s : State) : Out :=
  runWord (.aluAdd l d a b w q) s

/-- ALU_SUB (R173). -/
def execAluSub (l : BitVec 1) (d a b : BitVec 5) (w : BitVec 2) (q : BitVec 4) (s : State) : Out :=
  runWord (.aluSub l d a b w q) s

/-- ALU_MUL (R173). -/
def execAluMul (l : BitVec 1) (d a b : BitVec 5) (w : BitVec 2) (q : BitVec 4) (s : State) : Out :=
  runWord (.aluMul l d a b w q) s

/-- ALU_MULH (R173). -/
def execAluMulh (l : BitVec 1) (d a b : BitVec 5) (w : BitVec 2) (q : BitVec 4) (s : State) : Out :=
  runWord (.aluMulh l d a b w q) s

/-- ALU_MULHU (R173). -/
def execAluMulhu (l : BitVec 1) (d a b : BitVec 5) (w : BitVec 2) (q : BitVec 4) (s : State) : Out :=
  runWord (.aluMulhu l d a b w q) s

/-- ALU_DIV (R173). -/
def execAluDiv (l : BitVec 1) (d a b : BitVec 5) (w : BitVec 2) (q : BitVec 4) (s : State) : Out :=
  runWord (.aluDiv l d a b w q) s

/-- ALU_DIVU (R173). -/
def execAluDivu (l : BitVec 1) (d a b : BitVec 5) (w : BitVec 2) (q : BitVec 4) (s : State) : Out :=
  runWord (.aluDivu l d a b w q) s

/-- ALU_REM (R173). -/
def execAluRem (l : BitVec 1) (d a b : BitVec 5) (w : BitVec 2) (q : BitVec 4) (s : State) : Out :=
  runWord (.aluRem l d a b w q) s

/-- ALU_REMU (R173). -/
def execAluRemu (l : BitVec 1) (d a b : BitVec 5) (w : BitVec 2) (q : BitVec 4) (s : State) : Out :=
  runWord (.aluRemu l d a b w q) s

/-- ALU_AND (R173). -/
def execAluAnd (l : BitVec 1) (d a b : BitVec 5) (w : BitVec 2) (q : BitVec 4) (s : State) : Out :=
  runWord (.aluAnd l d a b w q) s

/-- ALU_OR (R173). -/
def execAluOr (l : BitVec 1) (d a b : BitVec 5) (w : BitVec 2) (q : BitVec 4) (s : State) : Out :=
  runWord (.aluOr l d a b w q) s

/-- ALU_XOR (R173). -/
def execAluXor (l : BitVec 1) (d a b : BitVec 5) (w : BitVec 2) (q : BitVec 4) (s : State) : Out :=
  runWord (.aluXor l d a b w q) s

/-- ALU_ANDN (R173). -/
def execAluAndn (l : BitVec 1) (d a b : BitVec 5) (w : BitVec 2) (q : BitVec 4) (s : State) : Out :=
  runWord (.aluAndn l d a b w q) s

/-- ALU_SHL (R173). -/
def execAluShl (l : BitVec 1) (d a b : BitVec 5) (w : BitVec 2) (q : BitVec 4) (s : State) : Out :=
  runWord (.aluShl l d a b w q) s

/-- ALU_SHR (R173). -/
def execAluShr (l : BitVec 1) (d a b : BitVec 5) (w : BitVec 2) (q : BitVec 4) (s : State) : Out :=
  runWord (.aluShr l d a b w q) s

/-- ALU_SAR (R173). -/
def execAluSar (l : BitVec 1) (d a b : BitVec 5) (w : BitVec 2) (q : BitVec 4) (s : State) : Out :=
  runWord (.aluSar l d a b w q) s

/-- ALU2_MIN (R174). -/
def execAlu2Min (l : BitVec 1) (d a b : BitVec 5) (w : BitVec 2) (q : BitVec 4) (s : State) : Out :=
  runWord (.alu2Min l d a b w q) s

/-- ALU2_MAX (R174). -/
def execAlu2Max (l : BitVec 1) (d a b : BitVec 5) (w : BitVec 2) (q : BitVec 4) (s : State) : Out :=
  runWord (.alu2Max l d a b w q) s

/-- ALU2_MINU (R174). -/
def execAlu2Minu (l : BitVec 1) (d a b : BitVec 5) (w : BitVec 2) (q : BitVec 4) (s : State) : Out :=
  runWord (.alu2Minu l d a b w q) s

/-- ALU2_MAXU (R174). -/
def execAlu2Maxu (l : BitVec 1) (d a b : BitVec 5) (w : BitVec 2) (q : BitVec 4) (s : State) : Out :=
  runWord (.alu2Maxu l d a b w q) s

/-- ALU2_CLZ (R174). -/
def execAlu2Clz (l : BitVec 1) (d a : BitVec 5) (w : BitVec 2) (q : BitVec 4) (s : State) : Out :=
  runWord (.alu2Clz l d a w q) s

/-- ALU2_CTZ (R174). -/
def execAlu2Ctz (l : BitVec 1) (d a : BitVec 5) (w : BitVec 2) (q : BitVec 4) (s : State) : Out :=
  runWord (.alu2Ctz l d a w q) s

/-- ALU2_POPC (R174). -/
def execAlu2Popc (l : BitVec 1) (d a : BitVec 5) (w : BitVec 2) (q : BitVec 4) (s : State) : Out :=
  runWord (.alu2Popc l d a w q) s

/-- ALU2_BREV (R174). -/
def execAlu2Brev (l : BitVec 1) (d a : BitVec 5) (w : BitVec 2) (q : BitVec 4) (s : State) : Out :=
  runWord (.alu2Brev l d a w q) s

/-- ALU2_BSWAP (R174). -/
def execAlu2Bswap (l : BitVec 1) (d a : BitVec 5) (w : BitVec 2) (q : BitVec 4) (s : State) : Out :=
  runWord (.alu2Bswap l d a w q) s

/-- ALU2_SEL (R174). -/
def execAlu2Sel (l : BitVec 1) (d a b : BitVec 5) (w : BitVec 2) (q : BitVec 4) (s : State) : Out :=
  runWord (.alu2Sel l d a b w q) s

/-- ALU2_ROL (R174). -/
def execAlu2Rol (l : BitVec 1) (d a b : BitVec 5) (w : BitVec 2) (q : BitVec 4) (s : State) : Out :=
  runWord (.alu2Rol l d a b w q) s

/-- ALU2_ROR (R174). -/
def execAlu2Ror (l : BitVec 1) (d a b : BitVec 5) (w : BitVec 2) (q : BitVec 4) (s : State) : Out :=
  runWord (.alu2Ror l d a b w q) s

/-- ADDI (R175). -/
def execAddi (l : BitVec 1) (d a : BitVec 5) (i : BitVec 15) (s : State) : Out :=
  runWord (.addi l d a i) s

/-- LOGI_ANDI (R175). -/
def execLogiAndi (l : BitVec 1) (d a : BitVec 5) (i : BitVec 13) (s : State) : Out :=
  runWord (.logiAndi l d a i) s

/-- LOGI_ORI (R175). -/
def execLogiOri (l : BitVec 1) (d a : BitVec 5) (i : BitVec 13) (s : State) : Out :=
  runWord (.logiOri l d a i) s

/-- LOGI_XORI (R175). -/
def execLogiXori (l : BitVec 1) (d a : BitVec 5) (i : BitVec 13) (s : State) : Out :=
  runWord (.logiXori l d a i) s

/-- SHI_SHL (R175). -/
def execShiShl (l : BitVec 1) (d a : BitVec 5) (n : BitVec 6) (s : State) : Out :=
  runWord (.shiShl l d a n) s

/-- SHI_SHR (R175). -/
def execShiShr (l : BitVec 1) (d a : BitVec 5) (n : BitVec 6) (s : State) : Out :=
  runWord (.shiShr l d a n) s

/-- SHI_SAR (R175). -/
def execShiSar (l : BitVec 1) (d a : BitVec 5) (n : BitVec 6) (s : State) : Out :=
  runWord (.shiSar l d a n) s

/-- SHI_ROR (R175). -/
def execShiRor (l : BitVec 1) (d a : BitVec 5) (n : BitVec 6) (s : State) : Out :=
  runWord (.shiRor l d a n) s

/-- LI (R176). -/
def execLi (l : BitVec 1) (d : BitVec 5) (i : BitVec 20) (s : State) : Out :=
  runWord (.li l d i) s

/-- LIH (R176). -/
def execLih (l : BitVec 1) (d : BitVec 5) (i : BitVec 20) (s : State) : Out :=
  runWord (.lih l d i) s

/-- CMP (R177). -/
def execCmp (l : BitVec 1) (f : BitVec 3) (c : BitVec 4) (a b : BitVec 5) (q : BitVec 4) (s : State) : Out :=
  runWord (.cmp l f c a b q) s

/-- CMPI (R177). -/
def execCmpi (l : BitVec 1) (f : BitVec 3) (c : BitVec 4) (a : BitVec 5) (i : BitVec 13) (s : State) : Out :=
  runWord (.cmpi l f c a i) s

/-- FOP_AND (R178). -/
def execFopAnd (l : BitVec 1) (d a b : BitVec 3) (s : State) : Out :=
  runWord (.fopAnd l d a b) s

/-- FOP_OR (R178). -/
def execFopOr (l : BitVec 1) (d a b : BitVec 3) (s : State) : Out :=
  runWord (.fopOr l d a b) s

/-- FOP_XOR (R178). -/
def execFopXor (l : BitVec 1) (d a b : BitVec 3) (s : State) : Out :=
  runWord (.fopXor l d a b) s

/-- FOP_ANDN (R178). -/
def execFopAndn (l : BitVec 1) (d a b : BitVec 3) (s : State) : Out :=
  runWord (.fopAndn l d a b) s

/-- FOP_NOT (R178). -/
def execFopNot (l : BitVec 1) (d a : BitVec 3) (s : State) : Out :=
  runWord (.fopNot l d a) s

/-- FOP_SET (R178). -/
def execFopSet (l : BitVec 1) (d : BitVec 3) (s : State) : Out :=
  runWord (.fopSet l d) s

/-- FOP_CLR (R178). -/
def execFopClr (l : BitVec 1) (d : BitVec 3) (s : State) : Out :=
  runWord (.fopClr l d) s

/-- BF_BFX (R179). -/
def execBfBfx (l : BitVec 1) (d a : BitVec 5) (p n : BitVec 6) (s : State) : Out :=
  runWord (.bfBfx l d a p n) s

/-- BF_BFXU (R179). -/
def execBfBfxu (l : BitVec 1) (d a : BitVec 5) (p n : BitVec 6) (s : State) : Out :=
  runWord (.bfBfxu l d a p n) s

/-- BF_BFI (R179). -/
def execBfBfi (l : BitVec 1) (d a : BitVec 5) (p n : BitVec 6) (s : State) : Out :=
  runWord (.bfBfi l d a p n) s

/-- PBR (R180). -/
def execPbr (l : BitVec 1) (b : BitVec 3) (i : BitVec 21) (s : State) : Out :=
  runWord (.pbr l b i) s

/-- PBR_REG (R180). -/
def execPbrReg (l : BitVec 1) (b : BitVec 3) (s : BitVec 5) (st : State) : Out :=
  runWord (.pbrReg l b s) st

/-- BR (R181). -/
def execBr (l : BitVec 1) (b : BitVec 3) (q : BitVec 4) (s : State) : Out :=
  runWord (.br l b q) s

/-- BRL (R181). -/
def execBrl (l : BitVec 1) (b : BitVec 3) (q : BitVec 4) (s : State) : Out :=
  runWord (.brl l b q) s

/-- LOOP (R183). -/
def execLoop (l : BitVec 1) (s : BitVec 5) (n : BitVec 14) (st : State) : Out :=
  runWord (.loop l s n) st

/-- KLOOP (R183). -/
def execKloop (l f p : BitVec 1) (t : BitVec 3) (s : BitVec 5) (n : BitVec 14) (st : State) : Out :=
  runWord (.kloop l f p t s n) st

/-- LDS (R186). -/
def execLds (l : BitVec 1) (d b : BitVec 5) (z : BitVec 2) (u p : BitVec 1) (o : BitVec 11) (s : State) : Out :=
  runWord (.lds l d b z u p o) s

/-- STS (R186). -/
def execSts (l : BitVec 1) (d b : BitVec 5) (z : BitVec 2) (p : BitVec 1) (o : BitVec 11) (s : State) : Out :=
  runWord (.sts l d b z p o) s

/-- XMOV_MOVC (R187). -/
def execXmovMovc (l : BitVec 1) (x y : BitVec 5) (s : State) : Out :=
  runWord (.xmovMovc l x y) s

/-- XMOV_MOVTC (R187). -/
def execXmovMovtc (l : BitVec 1) (x y : BitVec 5) (s : State) : Out :=
  runWord (.xmovMovtc l x y) s

/-- XMOV_RDSR (R187). -/
def execXmovRdsr (l : BitVec 1) (x : BitVec 5) (r : BitVec 12) (s : State) : Out :=
  runWord (.xmovRdsr l x r) s

/-- XMOV_WRSR (R187). -/
def execXmovWrsr (l : BitVec 1) (y : BitVec 5) (r : BitVec 12) (s : State) : Out :=
  runWord (.xmovWrsr l y r) s

/-- XMOV_MOVB (R187). -/
def execXmovMovb (l : BitVec 1) (x y : BitVec 5) (s : State) : Out :=
  runWord (.xmovMovb l x y) s

/-- FLIP (R190). -/
def execFlip (l : BitVec 1) (s : State) : Out :=
  runWord (.flip l) s

/-- END (R190). -/
def execEnd (l : BitVec 1) (s : State) : Out :=
  runWord (.endStream l) s

/-- PDECL (R191). -/
def execPdecl (l : BitVec 1) (c s : BitVec 2) (b n : BitVec 5) (st : State) : Out :=
  runWord (.pdecl l c s b n) st

/-- TLWAIT (R192). -/
def execTlwait (l : BitVec 1) (i n : BitVec 5) (s : State) : Out :=
  runWord (.tlwait l i n) s

/-- TLRD (R192). -/
def execTlrd (l : BitVec 1) (d i : BitVec 5) (s : State) : Out :=
  runWord (.tlrd l d i) s

/-- TSIG (R193). -/
def execTsig (l : BitVec 1) (t : BitVec 2) (s : State) : Out :=
  runWord (.tsig l t) s

/-- TWAIT (R193). -/
def execTwait (l : BitVec 1) (s : BitVec 2) (st : State) : Out :=
  runWord (.twait l s) st

/-- NOP (R194). -/
def execNop (l : BitVec 1) (s : State) : Out :=
  runWord (.nop l) s

/-- TRAP (R194). -/
def execTrap (l : BitVec 1) (c : BitVec 16) (s : State) : Out :=
  runWord (.trap l c) s

/-- BRK (R194). -/
def execBrk (l : BitVec 1) (c : BitVec 16) (s : State) : Out :=
  runWord (.brk l c) s

end Sys2Proof.Machine
end

