-- ==== Sys2Proof/Machine/Compute.lean ====
section
/-! DEFINITION. The words of CP (26, 28, 30, 32): the meaning of each. -/

namespace Sys2Proof.Machine

/-- VF32 (R250). -/
def execVf32 (l : BitVec 1) (d a b : BitVec 6) (f : BitVec 4) (r : BitVec 3) (s : State) : Out :=
  runWord (.vf32 l d a b f r) s

/-- VF64 (R250). -/
def execVf64 (l : BitVec 1) (d a b : BitVec 6) (f : BitVec 4) (r : BitVec 3) (s : State) : Out :=
  runWord (.vf64 l d a b f r) s

/-- VF16 (R250). -/
def execVf16 (l : BitVec 1) (d a b : BitVec 6) (f : BitVec 4) (r : BitVec 3) (s : State) : Out :=
  runWord (.vf16 l d a b f r) s

/-- VBF16 (R250). -/
def execVbf16 (l : BitVec 1) (d a b : BitVec 6) (f : BitVec 4) (r : BitVec 3) (s : State) : Out :=
  runWord (.vbf16 l d a b f r) s

/-- VFCMP (R252). -/
def execVfcmp (l : BitVec 1) (d a b : BitVec 6) (f : BitVec 4) (t : BitVec 3) (s : State) : Out :=
  runWord (.vfcmp l d a b f t) s

/-- VI32 (R254). -/
def execVi32 (l : BitVec 1) (d a b : BitVec 6) (f : BitVec 4) (u s : BitVec 1) (st : State) : Out :=
  runWord (.vi32 l d a b f u s) st

/-- VI16 (R254). -/
def execVi16 (l : BitVec 1) (d a b : BitVec 6) (f : BitVec 4) (u s : BitVec 1) (st : State) : Out :=
  runWord (.vi16 l d a b f u s) st

/-- VI8 (R254). -/
def execVi8 (l : BitVec 1) (d a b : BitVec 6) (f : BitVec 4) (u s : BitVec 1) (st : State) : Out :=
  runWord (.vi8 l d a b f u s) st

/-- VI64 (R254). -/
def execVi64 (l : BitVec 1) (d a b : BitVec 6) (f : BitVec 4) (u s : BitVec 1) (st : State) : Out :=
  runWord (.vi64 l d a b f u s) st

/-- VLOGIC (R255). -/
def execVlogic (l : BitVec 1) (d a b : BitVec 6) (f : BitVec 4) (s : State) : Out :=
  runWord (.vlogic l d a b f) s

/-- VICMP (R253). -/
def execVicmp (l : BitVec 1) (d a b : BitVec 6) (f : BitVec 4) (t : BitVec 3) (s : State) : Out :=
  runWord (.vicmp l d a b f t) s

/-- VCVT (R256). -/
def execVcvt (l : BitVec 1) (d a : BitVec 6) (s f : BitVec 4) (r : BitVec 3) (st : State) : Out :=
  runWord (.vcvt l d a s f r) st

/-- VMOVE_MOV (R257). -/
def execVmoveMov (l : BitVec 1) (d a : BitVec 6) (s : State) : Out :=
  runWord (.vmoveMov l d a) s

/-- VMOVE_SEL (R257). -/
def execVmoveSel (l : BitVec 1) (d a b : BitVec 6) (p : BitVec 3) (s : State) : Out :=
  runWord (.vmoveSel l d a b p) s

/-- VMOVE_IMM (R257). -/
def execVmoveImm (l : BitVec 1) (d : BitVec 6) (i : BitVec 12) (s : State) : Out :=
  runWord (.vmoveImm l d i) s

/-- VMOVE_IOTA (R257). -/
def execVmoveIota (l : BitVec 1) (d : BitVec 6) (s : State) : Out :=
  runWord (.vmoveIota l d) s

/-- VMOVE_XTR (R257). -/
def execVmoveXtr (l : BitVec 1) (d a b : BitVec 6) (s : State) : Out :=
  runWord (.vmoveXtr l d a b) s

/-- VMOVE_INS (R257). -/
def execVmoveIns (l : BitVec 1) (d a b : BitVec 6) (s : State) : Out :=
  runWord (.vmoveIns l d a b) s

/-- VROT (R258). -/
def execVrot (l : BitVec 1) (d a b : BitVec 6) (f : BitVec 4) (s : State) : Out :=
  runWord (.vrot l d a b f) s

/-- VBC (R259). -/
def execVbc (l : BitVec 1) (d a b : BitVec 6) (f : BitVec 4) (s : State) : Out :=
  runWord (.vbc l d a b f) s

/-- VRED (R261). -/
def execVred (l : BitVec 1) (d a : BitVec 6) (e f : BitVec 4) (r : BitVec 3) (s : State) : Out :=
  runWord (.vred l d a e f r) s

/-- VTRG (R262). -/
def execVtrg (l : BitVec 1) (d : BitVec 6) (f : BitVec 4) (s : State) : Out :=
  runWord (.vtrg l d f) s

/-- VPERM (R260). -/
def execVperm (l : BitVec 1) (d a b : BitVec 6) (s : State) : Out :=
  runWord (.vperm l d a b) s

/-- VSORT (R263). -/
def execVsort (l : BitVec 1) (d a b : BitVec 6) (f : BitVec 1) (s : State) : Out :=
  runWord (.vsort l d a b f) s

/-- PRED (R264). -/
def execPred (l : BitVec 1) (d a b : BitVec 6) (f : BitVec 4) (s : State) : Out :=
  runWord (.pred l d a b f) s

/-- XF_RD (R265). -/
def execXfRd (l : BitVec 1) (d : BitVec 6) (s : State) : Out :=
  runWord (.xfRd l d) s

/-- XF_CLR (R265). -/
def execXfClr (l : BitVec 1) (a : BitVec 6) (s : State) : Out :=
  runWord (.xfClr l a) s

/-- XF_SET (R265). -/
def execXfSet (l : BitVec 1) (a : BitVec 6) (s : State) : Out :=
  runWord (.xfSet l a) s

/-- PSEL (R247). -/
def execPsel (p : BitVec 3) (u : BitVec 1) (k : BitVec 3) (v z : BitVec 1) (s : State) : Out :=
  runWord (.psel p u k v z) s

/-- SF32 (R280). -/
def execSf32 (l : BitVec 1) (d a : BitVec 6) (f : BitVec 4) (r : BitVec 3) (s : State) : Out :=
  runWord (.sf32 l d a f r) s

/-- SF64 (R283). -/
def execSf64 (l : BitVec 1) (d a : BitVec 6) (f : BitVec 4) (r : BitVec 3) (s : State) : Out :=
  runWord (.sf64 l d a f r) s

/-- CK_ENC (R288). -/
def execCkEnc (l : BitVec 1) (d a : BitVec 6) (x : BitVec 3) (s : State) : Out :=
  runWord (.ckEnc l d a x) s

/-- CK_DEC (R288). -/
def execCkDec (l : BitVec 1) (d a : BitVec 6) (x : BitVec 3) (s : State) : Out :=
  runWord (.ckDec l d a x) s

/-- CK_ADD (R288). -/
def execCkAdd (l : BitVec 1) (d a b : BitVec 6) (x : BitVec 3) (s : State) : Out :=
  runWord (.ckAdd l d a b x) s

/-- CK_SUB (R288). -/
def execCkSub (l : BitVec 1) (d a b : BitVec 6) (x : BitVec 3) (s : State) : Out :=
  runWord (.ckSub l d a b x) s

/-- CK_INBOX (R288). -/
def execCkInbox (l : BitVec 1) (d a b : BitVec 6) (x : BitVec 3) (s : State) : Out :=
  runWord (.ckInbox l d a b x) s

/-- CK_NEXT (R288). -/
def execCkNext (l : BitVec 1) (d a b : BitVec 6) (x : BitVec 3) (s : State) : Out :=
  runWord (.ckNext l d a b x) s

/-- CKSPLIT (R290). -/
def execCksplit (l : BitVec 1) (d a b : BitVec 6) (x : BitVec 3) (s : State) : Out :=
  runWord (.cksplit l d a b x) s

/-- MMA (R271). -/
def execMma (l : BitVec 1) (c : BitVec 3) (a : BitVec 6) (s : BitVec 5) (f : BitVec 3) (k : BitVec 4) (t m : BitVec 1) (st : State) : Out :=
  runWord (.mma l c a s f k t m) st

/-- MMAQ (R273). -/
def execMmaq (l : BitVec 1) (c : BitVec 3) (a : BitVec 6) (q : BitVec 1) (f : BitVec 3) (k : BitVec 4) (s : State) : Out :=
  runWord (.mmaq l c a q f k) s

/-- MCHB (R268). -/
def execMchb (l : BitVec 1) (c : BitVec 3) (s : State) : Out :=
  runWord (.mchb l c) s

/-- MCHE (R274). -/
def execMche (l : BitVec 1) (c : BitVec 3) (v : BitVec 6) (f : BitVec 4) (r : BitVec 3) (s : State) : Out :=
  runWord (.mche l c v f r) s

/-- MZERO (R268). -/
def execMzero (l : BitVec 1) (c : BitVec 3) (s : State) : Out :=
  runWord (.mzero l c) s

/-- MRED (R275). -/
def execMred (l : BitVec 1) (c : BitVec 3) (s : State) : Out :=
  runWord (.mred l c) s

/-- MLDA (R268). -/
def execMlda (l : BitVec 1) (c : BitVec 3) (v : BitVec 6) (s : State) : Out :=
  runWord (.mlda l c v) s

end Sys2Proof.Machine
end

