-- ==== Sys2Proof/Machine/Copies.lean ====
section
/-! DEFINITION. The copy words of LD and ST (24): the meaning of each. -/

namespace Sys2Proof.Machine

/-- VLD (R238). -/
def execVld (t : BitVec 6) (a g : BitVec 5) (f : BitVec 4) (x : BitVec 1) (s : BitVec 4) (st : State) : Out :=
  runWord (.vld t a g f x s) st

/-- VLDS (R238). -/
def execVlds (t : BitVec 6) (a g : BitVec 5) (f : BitVec 4) (x : BitVec 1) (s : BitVec 4) (st : State) : Out :=
  runWord (.vlds t a g f x s) st

/-- VST (R238). -/
def execVst (t : BitVec 6) (a g : BitVec 5) (f s : BitVec 4) (st : State) : Out :=
  runWord (.vst t a g f s) st

/-- VSTS (R238). -/
def execVsts (t : BitVec 6) (a g : BitVec 5) (f s : BitVec 4) (st : State) : Out :=
  runWord (.vsts t a g f s) st

/-- QLD (R239). -/
def execQld (t : BitVec 6) (a g : BitVec 5) (f : BitVec 4) (x : BitVec 1) (s : BitVec 4) (st : State) : Out :=
  runWord (.qld t a g f x s) st

/-- QST (R239). -/
def execQst (t : BitVec 6) (a g : BitVec 5) (f : BitVec 4) (x : BitVec 1) (s : BitVec 4) (st : State) : Out :=
  runWord (.qst t a g f x s) st

/-- SPLD (R238). -/
def execSpld (t : BitVec 6) (a g : BitVec 5) (f : BitVec 4) (x : BitVec 1) (s : BitVec 4) (st : State) : Out :=
  runWord (.spld t a g f x s) st

/-- SPST (R238). -/
def execSpst (t : BitVec 6) (a g : BitVec 5) (f s : BitVec 4) (st : State) : Out :=
  runWord (.spst t a g f s) st

/-- SPCP (R240). -/
def execSpcp (t : BitVec 6) (a g : BitVec 5) (f s : BitVec 4) (st : State) : Out :=
  runWord (.spcp t a g f s) st

/-- GATHER (R241). -/
def execGather (t : BitVec 6) (a g : BitVec 5) (f : BitVec 4) (x : BitVec 1) (s : BitVec 4) (st : State) : Out :=
  runWord (.gather t a g f x s) st

/-- SCATTER (R241). -/
def execScatter (t : BitVec 6) (a g : BitVec 5) (f s : BitVec 4) (st : State) : Out :=
  runWord (.scatter t a g f s) st

/-- SCATTER_ADD (R241). -/
def execScatterAdd (t : BitVec 6) (a g : BitVec 5) (f s : BitVec 4) (st : State) : Out :=
  runWord (.scatterAdd t a g f s) st

/-- PUT (R242). -/
def execPut (t : BitVec 6) (a g : BitVec 5) (f : BitVec 4) (x : BitVec 1) (s : BitVec 4) (st : State) : Out :=
  runWord (.put t a g f x s) st

/-- GET (R242). -/
def execGet (t : BitVec 6) (a g : BitVec 5) (f : BitVec 4) (x : BitVec 1) (s : BitVec 4) (st : State) : Out :=
  runWord (.get t a g f x s) st

/-- PREF (R243). -/
def execPref (a g : BitVec 5) (f s : BitVec 4) (st : State) : Out :=
  runWord (.pref a g f s) st

/-- CBATCH (R244). -/
def execCbatch (s : State) : Out :=
  runWord .cbatch s

/-- TLWAIT_OUT (R244). -/
def execTlwaitOut (n : BitVec 6) (s : State) : Out :=
  runWord (.tlwaitOut n) s

end Sys2Proof.Machine
end

