-- ==== Sys2Proof/Machine/Landing.lean ====
section
/-! DEFINITION. The events of a core: results that land, the flip (R34-R37, R41, R58, R144, R169, R171). -/

namespace Sys2Proof.Machine

/-! ### Results (R169, R171) -/

/-- CP_RESULT_WRITE: the oldest synchronous CP result of a core is performed (R58, R169). -/
def cpResult (s : State) (b : BenchId) (c : CoreId) : State := s.updCore b c Core.performResult

/-- The last element of a long operation lands: its writes are performed, P is cleared, its queue entry has landed, and
its flags wait for the flip (R51, R55, R58, R171). -/
def Core.landLong (k : Core) (o : LongOp) : Core :=
  let k := o.writes.foldl (fun k w => (k.land w).clearPending w.reg) k
  let k := { k with held := k.held ||| o.flags }
  match o.entry with
  | none => k
  | some (q, id, t) =>
    let qq := k.q[q.toFin]
    { k with q := k.q.set q.toFin { qq with entries := qq.entries.map fun n =>
        if n.id = id then { n with landed := true, tile := t } else n } }

/-- LONG_OP_LAND of the long operation at a place of a core's list (R171). -/
def longLand (s : State) (b : BenchId) (c : CoreId) (n : Nat) : State :=
  s.updCore b c fun k => match k.longs[n]? with
    | some o => { k.landLong o with longs := k.longs.eraseIdx n }
    | none => k

/-- Perform every synchronous result and land every long operation of a core: what a stop waits for (R128, R132, R146). -/
def Core.completeIssued (k : Core) : Core :=
  let k := k.performAll
  { k.longs.foldl Core.landLong k with longs := [] }

/-! ### The flip (R35) -/

/-- Does a stream wait at its FLIP? -/
def Stream.atFlip (st : Stream) : Bool := match st.wait with
  | .flip _ _ => st.status == .running
  | _ => false

/-- Does a stream wait at a flip that ends a KLOOP.F iteration (R41)? -/
def Stream.atLoopFlip (st : Stream) : Bool := match st.wait with
  | .flip true _ => st.status == .running
  | _ => false

/-- Is every stream IDLE or arrived, and does one wait at its FLIP? -/
def Core.gathered (k : Core) : Bool :=
  ((List.range 4).all fun t => (k.streams[t]!).status == .idle || (k.streams[t]!).arrived (t == 0)) &&
    k.streams.toList.any Stream.atFlip

/-- Does a copy of a core of the bench still write the scratchpad of core `c` (R35, R88)? -/
def Core.writesInto (k : Core) (own c : CoreId) : Bool :=
  k.copies.any fun y => (own == c && y.inPhase) || (match y.kind with
    | .toScratch dst => scratchCore dst.toNat == c
    | _ => false)

/-- Is a result no more than a push to a queue, for which a flip does not wait (R49, R55)? -/
def Result.onlyPushes (r : Result) : Bool := r.writes.isEmpty && r.entry.isSome

/-- Have the writes that a flip waits for landed (R35, R171, R236, R275)? -/
def flipLanded (g : Gang) (c : CoreId) : Bool :=
  let k := g.cores[c.toFin]
  k.results.all Result.onlyPushes && k.longs.isEmpty &&
    !(k.v.toList.any (·.pending) || k.c.toList.any (·.pending) || k.p.toList.any (·.pending)) &&
    !(((List.range 4).map (BitVec.ofNat 2)).any fun o => (g.cores[o.toFin]).writesInto o c)

/-- The exchange of one register: W, P and the tag are cleared (R35, R48). -/
def Face.flip {α : Type} (f : Face α) : Face α :=
  { vis := if f.written then f.hid else f.vis, hid := if f.written then f.vis else f.hid }

/-- Under a forced epilogue, the clamp of the trip count at the flip that ends an iteration (R144). -/
def Stream.clamp (st : Stream) : Stream :=
  match st.loops with
  | f :: r => if f.pre && f.iter + 1 < f.n then { st with loops := { f with n := f.iter + 1 } :: r } else st
  | [] => st

/-- A stream stops at its loop end under a forced epilogue, with the trip count that remains (R144). -/
def Stream.loopEnded (st : Stream) : Option (Word × Nat × List LoopFrame × Word) :=
  match st.loops with
  | f :: r => if f.pre && decide (f.total ≤ f.iter + 1) then some (f.word, f.norig - f.n, r, f.last) else none
  | [] => none

/-- A stream waiting at its FLIP is released (R35, R40, R144). -/
def Stream.release (epilogue : Bool) (st : Stream) : Stream :=
  match st.atFlip, st.wait with
  | true, .flip true next =>
    let st := if epilogue then st.clamp else st
    match (if epilogue then st.loopEnded else none) with
    | some (word, rem, loops, last) => { st with k := 0, loops := loops, pc := last, wait := .epilogue word rem }
    | none => ({ st with wait := .none }).endIter next true st.loops
  | true, .flip false next => ({ st with wait := .none }).endIter next false st.loops
  | _, _ => st

/-- The steps of R35 that follow its waits. -/
def Core.flip (k : Core) (rotating epilogue : Bool) : Core :=
  { k with
    c := k.c.map Face.flip
    v := k.v.map Face.flip
    p := k.p.map Face.flip
    za := Vector.replicate 4 none
    zb := Vector.replicate 4 none
    zf := Vector.replicate 4 none
    rb := if rotating then k.rb + 1 else k.rb
    phase := k.phase + 1
    xf := k.xf ||| k.held
    held := 0
    copies := k.copies.map fun y => { y with slack := y.slack - 1 }
    streams := k.streams.map fun st => ({ st with sets := st.next }).release epilogue }

/-- A set-overlap fault is raised against the higher-numbered stream of the pair; its wait at the flip lasts (R36). -/
def setOverlap (s : State) (b : BenchId) (c : CoreId) (lo hi : Nat × Nat × Range) : State :=
  let t : StreamId := BitVec.ofNat 2 hi.1
  let st := s.stream b c t
  let s := takeFault s b c t 0 st.pc { cause := 0x07, aux0 := rangeAux lo, aux1 := rangeAux hi }
  s.updStream b c t fun st' => { st' with wait := st.wait }

/-- FLIP_COMPLETE of a core (R35, R36, R41). -/
def flipComplete (s : State) (b : BenchId) (c : CoreId) : State :=
  match s.gang? b with
  | none => s
  | some g =>
    let k := g.cores[c.toFin]
    if g.halted || g.stop != .none || !k.gathered || !flipLanded g c || (k.streams.toList.any (·.fault.isSome)) then s
    else
      match setsConflict (k.streams.map (·.next)) with
      | some (lo, hi) => setOverlap s b c lo hi
      | none =>
        let rotating := g.vcount == 32 && k.streams.toList.any Stream.atLoopFlip
        s.updCore b c fun k => k.flip rotating g.epilogue

end Sys2Proof.Machine
end

