-- ==== Sys2Proof/Machine/SystemCopy.lean ====
section
/-! DEFINITION. The system copy contexts (R330, Table 36.12). -/

namespace Sys2Proof.Machine

/-- Change a system copy context. -/
def State.updScx (s : State) (i : BitVec 2) (f : Scx → Scx) : State :=
  { s with scx := s.scx.set i.toFin (f s.scx[i.toFin]) }

/-- Who a system copy context is to memory; VF 127 names physical addresses (R330). -/
def whoScx (s : State) (i : BitVec 2) : Who :=
  let y := s.scx[i.toFin]
  let v := s.vf y.vf
  { unit := 260 + i.toNat, part := some y.part
    root1 := if y.vf = 127 then none else some ((v.root.setWidth 64) <<< 12)
    root2 := (v.s2root.setWidth 64) <<< 12, en2 := v.s2en, bench := none }

/-- A stop record of a system copy context (Tables 16.2, 16.3). -/
def scxRecord (i : BitVec 2) (cause : Nat) (addr aux0 aux1 : Word) : StopRecord :=
  { cause := cause, unit := 5, bench := i.setWidth 6, addr := addr, aux0 := aux0, aux1 := aux1 }

/-- Any fault of a system copy but a page fault: ERR, a record, and the copy is over with its performed units kept; no
halt is raised (R330). -/
def State.scxFault (s : State) (i : BitVec 2) (cause : Nat) (addr aux0 aux1 : Word) : State :=
  let s := (trapRecord s (s.scx[i.toFin]).part (scxRecord i cause addr aux0 aux1)).1
  s.updScx i fun y => { y with err := true, cause := BitVec.ofNat 8 cause, busy := false, paused := false, todo := [] }

/-- What a memory fault of unit `n` comes to: a page fault pauses the copy once its record is written; AUX1 holds the
number of the copy, or of a race the index of the unit (R134, R136, R330). -/
def scxMem (s : State) (i : BitVec 2) (n : Nat) (va : Word) : MemFault → State
  | .page stage level =>
    let p := (s.scx[i.toFin]).part
    let (s', ok) := trapRecord s p { scxRecord i 0x10 va (BitVec.ofNat 64 (stage * 2 ^ 63 + level))
      (BitVec.ofNat 64 (s.scx[i.toFin]).num) with
      replay := true, seq := haltSeq s p }
    if ok then s'.updScx i fun y => { y with paused := true } else s
  | .prot => s.scxFault i 0x11 va 0 0
  | .race e => s.scxFault i 0x0B va e (BitVec.ofNat 64 n)

/-- Perform one 8-byte unit (R97, R330). -/
def scxUnit (s : State) (i : BitVec 2) (n : Nat) : State :=
  let y := s.scx[i.toFin]
  let w := whoScx s i
  let src := y.src + BitVec.ofNat 64 (8 * n)
  let dst := y.dst + BitVec.ofNat 64 (8 * n)
  match homeAccess s w src 8 .read false with
  | .error f => scxMem (missed s w src f.raced) i n src f
  | .ok (sp, s1) =>
    match homeAccess s1 w dst 8 .write false with
    | .error f => scxMem (missed s1 w dst f.raced) i n dst f
    | .ok (dp, s1) => physWrite (s1.updScx i fun y => { y with todo := todoDrop n y.todo }) dp 8 (physRead s1 sp 8)

/-- Perform units, in an order that the specification leaves open (R330). -/
def scxUnits (i : BitVec 2) : Nat → Nat → State → State
  | 0, _, s => s
  | n + 1, pick, s =>
    let y := s.scx[i.toFin]
    let m := todoCount y.todo
    if !y.busy || y.paused || m = 0 then s
    else
      match todoNth y.todo (pick % m) with
      | none => s
      | some u => scxUnits i n (pick / m) (scxUnit s i u)

/-- SCX_COMPLETE: the next units of a system copy, at most 128 bytes; with none left BUSY is cleared and the number passes
(R115, R330). -/
def scxComplete (s : State) (i : BitVec 2) : State :=
  let s := scxUnits i 16 (Config.scxOrder s.ticks) s
  let y := s.scx[i.toFin]
  if y.busy && !y.paused && todoCount y.todo == 0 then s.updScx i fun y => { y with busy := false } else s

/-- A write to SCXCTLi: ERR is cleared by a one; the other fields and GO act while no copy is in progress (R330). -/
def scxGo (s : State) (i : BitVec 2) (x : Word) : State :=
  let s := if bit x 61 then s.updScx i fun y => { y with err := false } else s
  let y := s.scx[i.toFin]
  if y.busy then s
  else
    let y : Scx := { y with part := x.extractLsb' 40 6, vf := x.extractLsb' 32 7 }
    if !bit x 63 then s.updScx i fun _ => y
    else
      let y : Scx := { y with num := y.num + 1 }
      if 96 ≤ y.vf.toNat ∧ y.vf ≠ 127 then s.updScx i fun _ => { y with err := true, cause := 0x03 }
      else if y.src.toNat % 8 ≠ 0 ∨ y.dst.toNat % 8 ≠ 0 ∨ y.len.toNat % 8 ≠ 0 then
        s.updScx i fun _ => { y with err := true, cause := 0x05 }
      else if y.len = 0 then s.updScx i fun _ => y
      else s.updScx i fun _ => { y with busy := true, paused := false, todo := [(0, y.len.toNat / 8)] }

/-- The status word of a system copy context (Table 36.12). -/
def Scx.ctl (y : Scx) : Word :=
  0#1 ++ (BitVec.ofBool y.busy ++ (BitVec.ofBool y.err ++ (0#5 ++ (y.cause ++ (0#2 ++ (y.part ++ (0#1 ++ (y.vf ++
    BitVec.ofNat 32 y.num))))))))

end Sys2Proof.Machine
end

