-- ==== Sys2Proof/Machine/Halt.lean ====
section
/-! DEFINITION. The halt line and its stop records, RETURNING FROM A HALT by PCTL, pre-emption by a full stop, the context
window, uncorrectable errors (R131-R139, R146, R147). -/

namespace Sys2Proof.Machine

/-- Every bench. -/
def allBenches : List BenchId := (List.range 64).map (BitVec.ofNat 6)
/-- Every core of a bench, and every stream of a core. -/
def allCores : List (BitVec 2) := (List.range 4).map (BitVec.ofNat 2)

/-- Is the gang on a bench one of a partition? -/
def gangOf (s : State) (p : PartId) (b : BenchId) : Bool := ((s.gang? b).map fun g => decide (g.part = p)).getD false

/-- The benches on which a partition's gangs stand. -/
def gangBenches (s : State) (p : PartId) : List BenchId := allBenches.filter (gangOf s p)

/-! ### HALT_LINE (R132, R133) -/

/-- A stop with no fault of its own. -/
def peerStop (pc : Word) : StopInfo := { cause := 0x30, slot := 0, pc := pc, addr := 0, aux0 := 0, aux1 := 0 }

/-- The records of one stream and of the faulting copies that it issued, one for each (R133; log 40). -/
def streamRecords (k : Core) (b : BenchId) (c : CoreId) (t : StreamId) : List StopRecord :=
  let st := k.streams[t.toFin]
  let own := match st.fault with
    | some i => [streamRecord k b c t 0 i]
    | none => if st.status = .running then [streamRecord k b c t 0 (peerStop st.pc)] else []
  own ++ ((k.copies.filter fun y => y.stream == t).filterMap (·.fault)).map (streamRecord k b c t 1) ++
    ((k.engineFaults.filter fun y => y.1 == t).map (·.2)).map (streamRecord k b c t 1)

/-- The records of a core: its streams', and its copy engine's, which names no copy where none faulted: with PC 0, and with
the KLOOP and the copies of stream 0 (log 40). -/
def coreRecords (k : Core) (b : BenchId) (c : CoreId) : List StopRecord :=
  let l := allCores.flatMap (streamRecords k b c)
  if k.retired.isSome || l.any (fun r => r.unit == 1) then l else l ++ [streamRecord k b c 0 1 (peerStop 0)]

/-- The records of a halt of a partition, in the order of R133 but with the one that raised it first. -/
def haltRecords (s : State) (p : PartId) : List StopRecord :=
  let l := (gangBenches s p).flatMap (fun b => allCores.flatMap fun c => coreRecords (s.core b c) b c) ++
    allCores.filterMap (fun i => match s.colRun i with
      | some r => if r.prog.part = p then r.fault.map (contextRecord i) else none
      | none => none) ++
    (if (s.part p).powerFault then [{ cause := 0x28, unit := 4, first := (s.part p).hunit == 4 }] else [])
  l.filter (·.first) ++ l.filter (fun r => !r.first)

/-- A core as a halt leaves it: what it issued has completed, what it has reported is no more to be reported. -/
def Core.stopped (k : Core) : Core :=
  { k with
    engineFaults := []
    copies := k.copies.map fun y => { y with fault := none }
    streams := k.streams.map fun st => { st with fault := none, bundle := [] } }

/-- A stop for a move ends when a halt discards its trap, and when the gang leaves its bench instead (R128, R147). -/
def GangStop.halted : GangStop → GangStop
  | .migrate _ _ => .none
  | g => g

/-- HALT_LINE: the line reaches the partition's units, which stop and write their records (R132, R133). -/
def haltLine (s : State) (p : PartId) : State :=
  if (s.part p).halt ≠ .raised then s
  else
    let done (s : State) (b : BenchId) : State := s.updGang b fun g => { g with cores := g.cores.map Core.completeIssued }
    let s := (gangBenches s p).foldl done s
    let recs := haltRecords s p
    let s := recs.foldl (fun s r => (trapRecord s p { r with seq := (s.part p).hseq }).1) s
    let stop (s : State) (b : BenchId) : State := s.updGang b fun g => { g with
      cores := g.cores.map Core.stopped, stop := g.stop.halted, halted := true }
    let s := (gangBenches s p).foldl stop s
    let s := allCores.foldl (fun s i => match s.colRun i with
      | some r => if r.prog.part = p ∧ r.fault.isSome then s.setRun i { r with fault := none, halted := true } else s
      | none => s) s
    s.updPart p fun q => { q with halt := .reached, powerFault := false }

/-- COPY_ABANDON: a copy not completed is abandoned; what it asked of a peer is to be asked again (R132, R137). -/
def copyAbandon (s : State) (b : BenchId) (c : CoreId) (n : Nat) : State :=
  match (s.core b c).copies[n]? with
  | some k =>
    if (s.gang b).halted && k.live && !k.complete then
      setCopy s b c { k.again (k.asked.map (·.1)) with state := .abandoned }
    else s
  | none => s

/-! ### PCTL (R137-R139, Table 16.4) -/

/-- BENCH, CORE, STREAM, TKIND and NUM of a PCTL command. -/
def pctlBench (x : Word) : BenchId := x.extractLsb' 54 6
/-- CORE. -/
def pctlCore (x : Word) : CoreId := x.extractLsb' 52 2
/-- STREAM. -/
def pctlStream (x : Word) : StreamId := x.extractLsb' 50 2
/-- TKIND. -/
def pctlKind (x : Word) : BitVec 2 := x.extractLsb' 48 2

/-- Is a gang stopped by masked-feature (R140)? -/
def Gang.isMasked (g : Gang) : Bool := match g.stop with
  | .masked _ _ _ _ => true
  | _ => false

/-- A core whose abandoned copies are to be replayed. -/
def Core.replay (k : Core) : Core :=
  { k with copies := k.copies.map fun y => if y.state = .abandoned then { y with state := .replaying } else y }

/-- Replay the copies of a core as far as they may be sent (R137, R311). -/
def replayCopies (s : State) (b : BenchId) (c : CoreId) : State :=
  ((s.core b c).copies.filter fun k => k.state == .replaying).foldl
    (fun s k => if sendable s b k && (s.core b c).replays k.stream then workOn s b c (todoCount k.todo) 0 k else s) s

/-- RETURNING FROM A HALT: the gangs go on where they stopped, once the abandoned copies are replayed (R137). -/
def resumePart (s : State) (p : PartId) : State :=
  let bs := gangBenches s p
  let s := bs.foldl (fun s b => s.updGang b fun g => { g with haltCause := none, cores := g.cores.map Core.replay }) s
  let s := allCores.foldl (fun s i => match s.colRun i with
    | some r => if r.prog.part = p then s.setRun i { r with halted := false } else s
    | none => s) s
  let s := s.updPart p fun q => { q with halt := .resuming }
  let s := bs.foldl (fun s b => allCores.foldl (fun s c => replayCopies s b c) s) s
  settleResume s p

/-- PCTL RESUME (R137, R140). -/
def pctlResume (s : State) (p : PartId) (x : Word) : State :=
  let s := haltLine s p
  match (s.part p).halt with
  | .reached => resumePart s p
  | .none =>
    let b := pctlBench x
    if gangOf s p b && (s.gang b).isMasked then (keepRecord s b).updGang b fun g => { g with stop := .none } else s
  | _ => s

/-- The code's C of an ABORT: 0x19 of a gang stopped by masked-feature, also where a copy of it has raised a fault of its own
(R137, R140; log 104). -/
def Gang.abortCause (g : Gang) : Nat := if g.isMasked then 0x19 else g.haltCause.getD 0x30

/-- A gang is retired with a failing code, its future resolved FAILED, its copies discarded, its bench freed (R137). The
device resolves the future as the dispatcher does, with the all-zero vector (log 81). Nodes that a word of the gang has made
ready and waits to place are placed in its stead (log 90). -/
def abortGang (s : State) (b : BenchId) (code : Nat) : State :=
  let g := s.gang b
  let node := g.record.toNat
  let fut : Word := ((vfRead s g.space (node + 24)).getD 0) &&& 0xFFFFFFFFFFF8#64
  let s := vfTouch (keepRecord s b) g.space (node + 24) 8 .read
  let s := (failRecord s g.space node code).retire b
  let (s, nodes) := dispatcherResolve (placeStranded s g.stranded) g.part g.space node fut code
  (makeReady readyFuel s (nodes.map fun n => (n, g.vf, false))).1

/-- PCTL ABORT (R137, R138). -/
def pctlAbort (s : State) (p : PartId) (x : Word) : State :=
  let s' := haltLine s p
  let b := pctlBench x
  let g := s'.gang b
  if pctlKind x ≠ 0 || !gangOf s' p b || ((s'.part p).halt == .none && !g.isMasked) then s
  else settleResume (abortGang s' b (0x100 + g.abortCause)) p

/-- PCTL REPLAY: the target goes on if it waits on a page fault; a context's program that a slice end has saved goes on
with its function's next grant (R138, R139, R315). -/
def pctlReplay (s : State) (p : PartId) (x : Word) : State :=
  let b := pctlBench x
  let c := pctlCore x
  let t := pctlStream x
  let i : BitVec 2 := b.extractLsb' 0 2
  match (pctlKind x).toNat with
  | 0 =>
    if gangOf s p b && (s.stream b c t).wait == .pageFault then s.updStream b c t fun st => { st with wait := .none } else s
  | 1 =>
    if gangOf s p b then
      match (s.core b c).copies.find? fun k =>
        k.stream == t && BitVec.ofNat 32 k.num == x.extractLsb' 0 32 && k.state == .paused with
      | some k => setCopy s b c { k with state := .active }
      | none => s
    else s
  | 2 =>
    let waits (r : ColRun) : Bool := decide (r.prog.part = p) && r.wait == .pageFault
    let go (r : ColRun) : ColRun := if waits r then { r with wait := .none } else r
    s.updCtx i fun k => if (k.run.map waits).getD false then { k with run := k.run.map go }
      else { k with saved := k.saved.map go }
  | _ =>
    let y := s.scx[i.toFin]
    if y.part = p ∧ y.busy ∧ y.paused then { s with scx := s.scx.set i.toFin { y with paused := false } } else s

/-! ### Full stop (R146, R147) -/

/-- Address of an image slot. -/
def slotAddr (s : State) (v : VfId) (n : Nat) : Nat := (s.vf v).saveBase.toNat * 2 ^ 25 + n * 2 ^ 25

/-- The lowest image slot of a virtual function at whose address no image lies (R147). -/
def freeSlot (s : State) (v : VfId) : Option Nat :=
  let f := s.vf v
  (List.range f.saveCount.toNat).find? fun n => !(f.saved.any fun g => g.addr == slotAddr s v n)

/-- The stop records that a full stop saves with an image: one of cause 0x31 for each RUNNING stream (R131, R146;
log 69). -/
def preemptRecords (g : Gang) (b : BenchId) : List (BitVec 512) :=
  allCores.flatMap fun c => (allCores.filter fun t => ((g.cores[c.toFin]).streams[t.toFin]).status == .running).map fun t =>
    let k := g.cores[c.toFin]
    (streamRecord k b c t 0 { peerStop (k.streams[t.toFin]).pc with cause := 0x31 }).toBits

/-- Save a gang in a slot and free its bench; D15 says where its image is (R144, R146, R147). The first-level caches are no
item of the image (Table 14.7; log 100). -/
def saveGang (s : State) (b : BenchId) (n : Nat) (full : Bool) (g : Gang) : State :=
  let img : SavedGang :=
    { slot := n, addr := slotAddr s g.vf n, full := full, bench := b
      gang := { g with cores := g.cores.map fun k => { k with l1 := [] } }
      clock := s.clocks[b.toFin]
      records := if full then preemptRecords g b else [] }
  let s := ((keepRecord s b).vacate b).updVf g.vf fun f => { f with saved := f.saved ++ [img] }
  vfWrite s g.space (g.record.toNat + 120)
    (BitVec.ofNat 64 ((if full then 3 else 2) * 2 ^ 62 + slotAddr s g.vf n))

/-- A gang under a full stop is saved once every operation that it issued has completed; a forced epilogue that it has
begun goes on when it resumes, a stop by masked-feature lasts, and a stopped word that asked for a move is looked at
again on the bench where the gang resumes (R128, R142, R146, R147). While a halt lasts the gang keeps its bench (R132). -/
def fullSave (s : State) (b : BenchId) : State :=
  match s.gang? b with
  | some g =>
    if g.leaving && (s.part g.part).halt == .none && g.cores.toList.all Core.drained then
      match freeSlot s g.vf with
      | some n => saveGang s b n true { g with leaving := false, stop := g.stop.halted.recorded }
      | none => s.updGang b fun g => { g with leaving := false }
    else s
  | none => s

/-- A full stop of a gang: nothing more issues, and what has been issued completes; a gang that finds no free slot runs
on (R146, R147). -/
def fullStopNow (s : State) (b : BenchId) : State :=
  match s.gang? b with
  | some g =>
    if (freeSlot s g.vf).isNone then s
    else
      fullSave (s.updGang b fun g => { g with
        leaving := true
        cores := (g.cores.map Core.completeIssued).map fun k => { k with
          streams := k.streams.map fun st => { st with bundle := [] } } }) b
  | none => s

/-- PCTL STOP (R138, R142). -/
def pctlStop (s : State) (p : PartId) (x : Word) : State :=
  let b := pctlBench x
  if pctlKind x = 0 ∧ gangOf s p b then fullStopNow s b else s

/-- PCTL BARRIER (R112). -/
def pctlBarrier (s : State) (p : PartId) : State := s.updPart p fun q => { q with barrier := true }

/-- A write to PCTL (Table 16.4). -/
def writePctl (s : State) (p : PartId) (x : Word) : State :=
  match bits x 60 4 with
  | 1 => pctlResume s p x
  | 2 => pctlAbort s p x
  | 3 => pctlReplay s p x
  | 4 => pctlBarrier s p
  | 5 => pctlStop s p x
  | _ => s

/-! ### Trap queues (R136, R141) -/

/-- TQHEAD_WRITE: entries are freed; a stalled replayable fault tries again by itself (R136). -/
def writeTqhead (s : State) (p : PartId) (x : Word) : State :=
  s.updPart p fun q => { q with tq := { q.tq with head := x.extractLsb' 0 32 } }

/-- HTQHEAD_WRITE: held masked-feature records are written as entries free, first those of gangs that have gone on
(R141). -/
def writeHtqhead (s : State) (x : Word) : State :=
  let s := { s with dev := { s.dev with htq := { s.dev.htq with head := x.extractLsb' 0 32 } } }
  allBenches.foldl recordMasked (writeHeld s.dev.held s)

/-! ### The context window (R135) -/

/-- Give a place of a list a new value, where it exists. -/
def setAt {α : Type} (l : List α) (n : Nat) (f : α → α) : List α :=
  match l[n]? with
  | some x => l.set n (f x)
  | none => l

/-- Change a stream of a core. -/
def Core.onStream (k : Core) (t : StreamId) (f : Stream → Stream) : Core :=
  { k with streams := k.streams.set t.toFin (f k.streams[t.toFin]) }

/-- An element of an accumulator's chain takes a value (R74, R78). -/
def Acc.setExact (a : Acc) (n : Nat) (e : ExactElem) : Acc := match a with
  | .exact int l => .exact int (setAt l n fun _ => e)
  | a => a

/-- An element of an ordered chain takes a value (R77). -/
def Acc.setOrdered (a : Acc) (n : Nat) (e : BitVec 32 × BitVec 5) : Acc := match a with
  | .ordered l => .ordered (setAt l n fun _ => e)
  | a => a

/-- An accumulator takes a state of its chain and INT; sums of that kind stay, others start from nothing (R267). -/
def Acc.setChain (a : Acc) (state : BitVec 2) (int : Bool) : Acc := match state with
  | 0 => .idle
  | 1 => .opened
  | 2 => .exact int a.exacts
  | 3 => .ordered a.ordereds

/-- The ranges of element numbers below a count. -/
def rangesBelow (count : Nat) (l : List (Nat × Nat)) : List (Nat × Nat) :=
  l.filter fun y => decide (0 < y.2 ∧ y.1 + y.2 ≤ count)

/-- An abandoned copy takes the elements it still has to perform; at least one stays (R132, R135). -/
def Copy.setAbandoned (y : Copy) (todo : List (Nat × Nat)) : Copy :=
  let l := rangesBelow y.shape.count todo
  if y.state = .abandoned ∧ l ≠ [] then { y with todo := l } else y

/-- A stream whose program counter changes waits at its word no more, and no bundle is issued but for its SX word: it resumes
at the new one (R135, R335; log 51). -/
def Stream.setPc (st : Stream) (v : Word) : Stream :=
  if v = st.pc then st else { st with pc := v, wait := .none, sxOnly := false }

/-- The status that a code names (R135; log 51). -/
def Status.ofCode : BitVec 2 → Option Status
  | 0 => some .idle
  | 1 => some .running
  | 2 => some .ended
  | 3 => none

/-- The code of a status. -/
def Status.code : Status → BitVec 2
  | .idle => 0
  | .running => 1
  | .ended => 2

/-- A stream whose status changes waits no more; a code that names no status changes nothing (R135). -/
def Stream.setStatus (st : Stream) (v : BitVec 2) : Stream := match Status.ofCode v with
  | some n => if n = st.status then st else { st with status := n, wait := .none }
  | none => st

/-- A loop takes other addresses and, a KLOOP, another S (R135, R183). -/
def LoopFrame.setBody (f : LoopFrame) (stages : BitVec 3) (word first last : Word) : LoopFrame :=
  { f with stages := if f.kloop then stages.toNat + 1 else f.stages, word := word, first := first, last := last }

/-- Change the item of a core that the window names (R135, Table 14.7); `off` is the offset in the scratchpad of an
address in a pool. QCFG does not change within a node (R54). FRM takes any mode; a DYN word rounds under modes 5 to 7,
to which R61 gives no meaning, as under RMM (log 70). -/
def CtxItem.write (k : Core) (off : Option Nat) (vc : Nat) : CtxItem → Core
  | .scratch v => match off with
    | some n => { k with scratch := Memory.set k.scratch n v }
    | none => k
  | .sReg t i v => k.onStream t fun st => st.setS i v
  | .fReg t i v => k.onStream t fun st => st.setF i v
  | .bReg t i v => k.onStream t fun st => st.setB i v
  | .pc t v => k.onStream t fun st => st.setPc v
  | .frm t v => k.onStream t fun st => { st with frm := v }
  | .stages t v => k.onStream t fun st => { st with k := v }
  | .kdesc t v => k.onStream t fun st => { st with kdesc := v }
  | .declared t next i base len => k.onStream t fun st =>
    if next then { st with next := st.next.set i.toFin ⟨base, len⟩ } else { st with sets := st.sets.set i.toFin ⟨base, len⟩ }
  | .loopCount t depth n iter => k.onStream t fun st => { st with
    loops := setAt st.loops depth fun f => { f with n := n, iter := iter } }
  | .loopBody t depth stages word first last => k.onStream t fun st => { st with
    loops := setAt st.loops depth fun f => f.setBody stages word first last }
  | .status t v => k.onStream t fun st => st.setStatus v
  | .vFace i h v =>
    if i.toNat < vc then
      { k with v := k.v.set i.toFin (if h then { k.v[i.toFin] with hid := v } else { k.v[i.toFin] with vis := v }) }
    else k
  | .cFace i h v =>
    { k with c := k.c.set i.toFin (if h then { k.c[i.toFin] with hid := v } else { k.c[i.toFin] with vis := v }) }
  | .pFace i h v =>
    { k with p := k.p.set i.toFin (if h then { k.p[i.toFin] with hid := v } else { k.p[i.toFin] with vis := v }) }
  | .vWritten i w => { k with v := k.v.set i.toFin { k.v[i.toFin] with written := w } }
  | .cWritten i w => { k with c := k.c.set i.toFin { k.c[i.toFin] with written := w } }
  | .pWritten i w => { k with p := k.p.set i.toFin { k.p[i.toFin] with written := w } }
  | .wTile i v => { k with w := k.w.set i.toFin v }
  | .xf v => { k with xf := v }
  | .token src v => { k with tok := k.tok.set src.toFin v }
  | .vTag i t async pc => { k with v := k.v.set i.toFin { k.v[i.toFin] with tag := ⟨t, async, pc⟩ } }
  | .cTag i t async pc => { k with c := k.c.set i.toFin { k.c[i.toFin] with tag := ⟨t, async, pc⟩ } }
  | .pTag i t async pc => { k with p := k.p.set i.toFin { k.p[i.toFin] with tag := ⟨t, async, pc⟩ } }
  | .ringA depth v => { k with za := k.za.set depth.toFin v }
  | .ringB depth v => { k with zb := k.zb.set depth.toFin v }
  | .ringF depth v => { k with zf := k.zf.set depth.toFin v }
  | .chain i state int => { k with acc := k.acc.set i.toFin ((k.acc[i.toFin]).setChain state int) }
  | .exactElem i n v sat nvs => { k with acc := k.acc.set i.toFin ((k.acc[i.toFin]).setExact n ⟨v, sat, nvs⟩) }
  | .orderedElem i n v flags => { k with acc := k.acc.set i.toFin ((k.acc[i.toFin]).setOrdered n (v, flags)) }
  | .qEntry q n v =>
    let qq := k.q[q.toFin]
    { k with q := k.q.set q.toFin { qq with entries := setAt qq.entries n fun e => { e with tile := v } } }
  | .qcfg _ => k
  | .phase v rb => { k with phase := v, rb := rb }
  | .barrier barbs mreds => { k with barbs := barbs, mreds := mreds }
  | .batches t o c => k.onStream t fun st => { st with openBatch := o, closed := c }
  | .issued v => k.onStream 2 fun st => { st with sxOnly := v }
  | .abandoned n todo => { k with copies := setAt k.copies n fun y => y.setAbandoned todo }

/-- The bytes of a writer tag: stream, asynchronous or not, address. -/
def Tag.bytes (t : Tag) : List Byte := bytesOf t.stream.toNat 1 ++ bytesOf t.async.toNat 1 ++ bytesOf t.pc.toNat 8

/-- The bytes of a ring entry: valid or not, tile. -/
def ringBytes (e : Option Tile) : List Byte := bytesOf e.isSome.toNat 1 ++ bytesOf (e.getD 0).toNat 4096

/-- The bytes of a list of numbers, 8 a number. -/
def listBytes (l : List Nat) : List Byte := l.flatMap fun n => bytesOf n 8

/-- The bit INT that EXACT carries (R267). -/
def Acc.intBit : Acc → Bool
  | .exact i _ => i
  | .idle | .opened | .ordered _ => false

/-- The bytes of an item of a core as the window shows it, little-endian (R135; log 51). The value that the item carries
plays no part. -/
def CtxItem.read (k : Core) (off : Option Nat) : CtxItem → List Byte
  | .scratch _ => [(off.map (Memory.get k.scratch)).getD 0]
  | .sReg t i _ => bytesOf (k.streams[t.toFin].sreg i).toNat 8
  | .fReg t i _ => bytesOf (k.streams[t.toFin].flag i.toNat).toNat 1
  | .bReg t i _ => bytesOf (k.streams[t.toFin].breg i).toNat 8
  | .pc t _ => bytesOf (k.streams[t.toFin].pc).toNat 8
  | .frm t _ => bytesOf (k.streams[t.toFin].frm).toNat 1
  | .stages t _ => bytesOf (k.streams[t.toFin].k).toNat 1
  | .kdesc t _ => bytesOf (k.streams[t.toFin].kdesc).toNat 8
  | .declared t next i _ _ =>
    let st := k.streams[t.toFin]
    let r := if next then st.next[i.toFin] else st.sets[i.toFin]
    bytesOf r.base.toNat 4 ++ bytesOf r.len.toNat 4
  | .loopCount t depth _ _ => ((k.streams[t.toFin].loops[depth]?).map fun f => listBytes [f.n, f.iter]).getD []
  | .loopBody t depth _ _ _ _ => ((k.streams[t.toFin].loops[depth]?).map fun f =>
      bytesOf f.stages 1 ++ bytesOf f.word.toNat 8 ++ bytesOf f.first.toNat 8 ++ bytesOf f.last.toNat 8).getD []
  | .status t _ => bytesOf (k.streams[t.toFin].status.code).toNat 1
  | .vFace i h _ => bytesOf (if h then k.v[i.toFin].hid else k.v[i.toFin].vis).toNat 4096
  | .cFace i h _ => bytesOf (if h then k.c[i.toFin].hid else k.c[i.toFin].vis).toNat 8
  | .pFace i h _ => bytesOf (if h then k.p[i.toFin].hid else k.p[i.toFin].vis).toNat 512
  | .vWritten i _ => bytesOf (k.v[i.toFin].written).toNat 1
  | .cWritten i _ => bytesOf (k.c[i.toFin].written).toNat 1
  | .pWritten i _ => bytesOf (k.p[i.toFin].written).toNat 1
  | .wTile i _ => bytesOf (k.w[i.toFin]).toNat 4096
  | .xf _ => bytesOf k.xf.toNat 640
  | .token src _ => bytesOf (k.tok[src.toFin]).toNat 1
  | .vTag i _ _ _ => k.v[i.toFin].tag.bytes
  | .cTag i _ _ _ => k.c[i.toFin].tag.bytes
  | .pTag i _ _ _ => k.p[i.toFin].tag.bytes
  | .ringA d _ => ringBytes k.za[d.toFin]
  | .ringB d _ => ringBytes k.zb[d.toFin]
  | .ringF d _ => ringBytes k.zf[d.toFin]
  | .chain i _ _ => bytesOf (k.acc[i.toFin]).state 1 ++ bytesOf ((k.acc[i.toFin]).intBit).toNat 1
  | .exactElem i n _ _ _ =>
    if (k.acc[i.toFin]).state = 1 ∨ (k.acc[i.toFin]).state = 2 then
      (((k.acc[i.toFin]).exacts[n]?).map fun e => bytesOf e.val.toNat 14 ++ bytesOf e.sat.toNat 1 ++ bytesOf e.nvs.toNat 1).getD []
    else []
  | .orderedElem i n _ _ => match k.acc[i.toFin] with
    | .ordered l => (l[n]?.map fun e => bytesOf e.1.toNat 4 ++ bytesOf e.2.toNat 1).getD []
    | _ => []
  | .qEntry q n _ => ((k.q[q.toFin].entries[n]?).map fun e => bytesOf e.tile.toNat 4096).getD []
  | .qcfg q => bytesOf (k.q[q.toFin].config).toNat 8
  | .phase _ _ => bytesOf k.phase.toNat 4 ++ bytesOf k.rb.toNat 1
  | .barrier _ _ => listBytes [k.barbs, k.mreds]
  | .batches t _ _ =>
    let st := k.streams[t.toFin]
    listBytes (st.openBatch.length :: st.openBatch) ++ st.closed.flatMap fun b => listBytes (b.length :: b)
  | .issued _ => bytesOf (k.streams[2]).sxOnly.toNat 1
  | .abandoned n _ => ((k.copies[n]?).map fun y =>
      if y.state = .abandoned then listBytes (y.stream.toNat :: y.num :: y.todo.flatMap fun r => [r.1, r.2]) else []).getD []

/-- Does an item lie in a core's pool, where the faces and the scratchpad stay, rather than in its image (R135)? -/
def CtxItem.inPool : CtxItem → Bool
  | .scratch _ | .vFace _ _ _ | .cFace _ _ _ | .pFace _ _ _ => true
  | _ => false

/-- What an address of the system cores names in a context window: the partition, the core of the bench in CTXSEL, and
the offset in the core's pool of 6 MiB, or none in its register image (R332). -/
def contextPlace (a : Nat) : Option (PartId × CoreId × Option Nat) :=
  let o := a - 0x4000000000
  let r := o % 2 ^ 26
  let p : PartId := BitVec.ofNat 6 (o / 2 ^ 26)
  if a < 0x4000000000 || decide (2 ^ 32 ≤ o) then none
  else if r < 2 ^ 25 then
    if r % 2 ^ 23 < 6 * 2 ^ 20 then some (p, BitVec.ofNat 2 (r / 2 ^ 23), some (r % 2 ^ 23)) else none
  else if r < 36 * 2 ^ 20 then some (p, BitVec.ofNat 2 (r / 2 ^ 20), none)
  else none

/-- The offset in the scratchpad of an offset in the pool of a core (R81). -/
def Gang.scratchAt (g : Gang) (off : Nat) : Option Nat :=
  let o := off - 2 ^ 16 * g.pb1.toNat
  if 2 ^ 16 * g.pb1.toNat ≤ off ∧ o < g.scratchSize then some o else none

/-- CONTEXT_WINDOW_ACCESS: the window shows the stopped bench that CTXSEL names, and a write changes what a resumption
restores (R135, R332). Where in a pool or an image an item other than scratchpad lies the specification does not give, so
the item names itself (log 51). -/
def contextWindow (s : State) (write : Bool) (a : Word) (item : CtxItem) : State :=
  match contextPlace a.toNat with
  | none => s
  | some (p, c, off) =>
    let b := (s.part p).ctxsel
    let g := s.gang b
    let n := off.bind g.scratchAt
    if gangOf s p b && (g.halted || g.isMasked) && CtxItem.inPool item == off.isSome then
      if write then s.updCore b c fun k => CtxItem.write k n g.vcount item
      else { s with out := CtxItem.read (s.core b c) n item }
    else s

/-! ### Faults that reach a unit from outside its own words (R131, R295, R297) -/

/-- The elements of a copy that a unit carries. -/
def Copy.inUnit (k : Copy) (m : UnitMsg) : List Nat :=
  (List.range k.shape.count).filter fun j => m.cells.any fun y => y.1 == (k.addr j).toNat

/-- The elements of a unit that its peer did not perform are still to be performed. -/
def Copy.unperform (k : Copy) (m : UnitMsg) : Copy := k.again (k.inUnit m)

/-- What the fault of a unit tells: of a race, where the unit lies, the shadow entry, and of a copy the unit's index
(Table 16.3; log 30). -/
def OutUnit.trap (u : OutUnit) (cause : Nat) (entry : Word) : Trap :=
  if cause = 0x0B then { cause := cause, addr := u.addr, aux0 := entry, aux1 := BitVec.ofNat 64 u.index }
  else { cause := cause }

/-- A fault of a copy engine that names a unit of a copy: the copy of that transfer takes it while it is outstanding, and the
engine otherwise (R237, R295, R297). -/
def engineFault (s : State) (b : BenchId) (c : CoreId) (t : StreamId) (num : Nat) (pc : Word) (u : OutUnit)
    (cause : Nat) (entry : Word) : State :=
  match s.gang? b with
  | none => s
  | some g =>
    match (s.core b c).copies.find? fun k => k.stream == t && k.num == num && k.xfer == u.msg.xfer with
    | some k =>
      let k := k.unperform u.msg
      if k.state == .abandoned then setCopy s b c k
      else
        let (s, k) := takeCopyFault s b c k (u.trap cause entry)
        let (s, k) := drainRecord s b c k
        setCopy s b c k
    | none =>
      let (s, first) := raiseHalt s g.part cause 1 b c t
      let f := u.trap cause entry
      let i : StopInfo :=
        { first := first, cause := cause, slot := 0, pc := pc, addr := f.addr, aux0 := f.aux0, aux1 := f.aux1 }
      let s := s.blame b cause
      if s.stopped g.part then (trapRecord s g.part { streamRecord (s.core b c) b c t 1 i with seq := (s.part g.part).hseq }).1
      else s.updCore b c fun k => { k with engineFaults := k.engineFaults ++ [(t, i)] }

/-- A fault of a unit that left the package, at its source: the gang that sent it, wherever it stands; where it stands on no
bench the record is written at once (R295, R297, R299; log 30). -/
def originFault (s : State) (u : OutUnit) (cause : Nat) (entry : Word) : State :=
  match u.origin with
  | .copy b c t num pc p run =>
    match allBenches.find? fun n => ((s.gang? n).map fun g => decide (g.part = p) && g.run == run).getD false with
    | some n => engineFault s n c t num pc u cause entry
    | none =>
      let (s, first) := raiseHalt s p cause 1 b c t
      let f := u.trap cause entry
      (trapRecord s p { cause := cause, unit := 1, stream := t, core := c, bench := b, first := first, pc := pc
                        addr := f.addr, aux0 := f.aux0, aux1 := f.aux1, seq := (s.part p).hseq }).1
  | .context i p num pc =>
    match (s.colRun i).filter fun r => r.prog.num == num && !r.halted && r.fault.isNone with
    | some r => contextFaultAt s i r pc (u.trap cause entry)
    | none =>
      let (s, first) := raiseHalt s p cause 2 (i.setWidth 6) 0 0
      let f := u.trap cause entry
      let k : StopInfo :=
        { first := first, cause := cause, slot := 0, pc := pc, addr := f.addr, aux0 := f.aux0, aux1 := f.aux1 }
      let s := s.updCtx i fun y => { y with cause := BitVec.ofNat 8 cause }
      (trapRecord s p { contextRecord i k with seq := (s.part p).hseq }).1

/-- Take a unit that left the package out of those not acknowledged. -/
def dropUnit (s : State) (tag : Nat) : State :=
  { s with links := { s.links with out := s.links.out.filter fun u => u.tag != tag } }

/-- A fault of the unit with a tag, which is then no more outstanding; `entry` is the shadow entry of a race. -/
def unitFault (s : State) (tag cause : Nat) (entry : Word) (eth : Option Bool) : State :=
  match s.links.out.find? fun u => u.tag == tag && (eth.isNone || eth == some u.eth) with
  | some u => originFault (dropUnit s tag) u cause entry
  | none => s

/-- UNCORRECTABLE_ECC at a stream: an LDS or STS of CP meets it after the other words of its bundle have issued (R335);
elsewhere the stream stops at its word, and what it waits for there lasts (R131, R132). -/
def eccStream (s : State) (b : BenchId) (c : CoreId) (t : StreamId) : State :=
  let st := s.stream b c t
  if s.moving b && st.status == .running && st.fault.isNone then
    match (if t = 2 ∧ st.wait = .none then eccBundle s b c else none) with
    | some s => s
    | none =>
      let s := takeFault s b c t 0 st.pc { cause := 0x29 }
      s.updStream b c t fun st' => { st' with wait := st.wait }
  else s

/-- UNCORRECTABLE_ECC: the unit that meets the error takes cause 0x29 (R131, R314, R330); a PREF raises no fault after
issue (R243). -/
def eccError (s : State) (u : EccUnit) : State :=
  match u with
  | .stream b c t => eccStream s b c t
  | .copy b c n =>
    match (s.core b c).copies[n]? with
    | some k =>
      if k.live && k.kind != .prefetch && (s.gang? b).isSome then
        let (s, k) := takeCopyFault s b c k { cause := 0x29 }
        let (s, k) := drainRecord s b c k
        setCopy s b c k
      else s
    | none => s
  | .context i =>
    match (s.colRun i).filter fun r => !r.halted && r.fault.isNone with
    | some r => takeContextFault s i r { cause := 0x29 }
    | none => s
  | .scx i => if (s.scx[i.toFin]).busy then s.scxFault i 0x29 0 0 0 else s

end Sys2Proof.Machine
end

