-- ==== Sys2Proof/Machine/Slices.lean ====
section
/-! DEFINITION. Virtual functions taking turns, pre-emption at a slice end, the partition barrier (R112, R142-R149). -/

namespace Sys2Proof.Machine

/-! ### Work of a virtual function (R149) -/

/-- Is the launch queue of a function empty? -/
def Vf.noLaunches (f : Vf) : Bool := f.lq.head == f.lq.tail && f.requests.isEmpty && f.launching.isEmpty

/-- Has a function nodes: waiting, ready, running or pre-empted? -/
def hasNodes (s : State) (v : VfId) : Bool :=
  let q := s.part (vfPart s v)
  q.pool.any (·.vf == v) || q.numbers.any (·.2.1 == v) || q.waiting.any (·.2 == v) || !(s.vf v).saved.isEmpty ||
    s.benches.toList.any fun g => (g.map fun g => g.vf == v).getD false

/-- Is a function one that a partition runs? -/
def assigned (s : State) (p : PartId) (v : VfId) : Bool := (s.vf v).partEn && decide ((s.vf v).part = p)

/-- Has a function of a partition work? -/
def hasWork (s : State) (p : PartId) (v : VfId) : Bool :=
  assigned s p v && ((((s.vf v).lqEn) && !(s.vf v).noLaunches) || hasNodes s v)

/-- The virtual functions, in turn after one of them. -/
def vfOrder (last : Option VfId) : List VfId :=
  let n := (last.map fun v => v.toNat + 1).getD 0
  (List.range 96).map fun i => BitVec.ofNat 7 ((n + i) % 96)

/-- The next function with work (R149). -/
def nextVf (s : State) (p : PartId) : Option VfId := (vfOrder (s.part p).lastVf).find? (hasWork s p)

/-! ### Grants (R147, R149) -/

/-- The pre-empted nodes of a function go back to the pool with their ready numbers, each with the root of its gang, which
found its record and keeps it (R147, R150; log 92). -/
def returnSaved (s : State) (p : PartId) (v : VfId) : State :=
  (s.vf v).saved.foldl (fun s g =>
    let node := g.gang.record.toNat
    let q := s.part p
    if q.pool.any (fun e => e.node == node && e.vf == v) || q.numbers.any (fun e => e.1 == node && e.2.1 == v) then s
    else enterPool (vfTouch s g.gang.space (node + 16) 8 .read) p v node g.gang.ready (some g.gang.root)) s

/-! ### Residency of tenants (R300, R311) -/

/-- Address of an entry of the launch-validation table. -/
def lvtAddr (s : State) (n : Nat) : Nat := s.dev.lvtBase.toNat * 2 ^ 9 + 512 * n

/-- A doubleword of an entry of the launch-validation table. -/
def lvtWord (s : State) (n i : Nat) : Word := BitVec.ofNat 64 (physRead s (lvtAddr s n + 8 * i) 8)

/-- Is an entry of the launch-validation table present: V set, and every reserved bit zero (R300)? -/
def lvtPresent (s : State) (n : Nat) : Bool :=
  let d0 := lvtWord s n 0
  bit d0 63 && bits d0 16 40 == 0 && decide (bits d0 56 7 < 96) && decide ((lvtWord s n 1).toNat ≤ 16) &&
    (List.range 30).all fun i => lvtWord s n (34 + i) == 0

/-- The tenant of an entry. -/
def lvtTenant (s : State) (n : Nat) : BitVec 16 := (lvtWord s n 0).extractLsb' 0 16

/-- The virtual function of an entry. -/
def lvtVf (s : State) (n : Nat) : VfId := (lvtWord s n 0).extractLsb' 56 7

/-- The tenants whose virtual function one is, by the launch-validation table (R300, R311; log 71). -/
def tenantsOf (s : State) (v : VfId) : List (BitVec 16) :=
  if s.dev.lvtEn then (((List.range 64).filter fun n => lvtPresent s n && lvtVf s n == v).map (lvtTenant s)).eraseDups
  else []

/-- The reads of every entry of the launch-validation table, by which a grant finds the tenants of a function (R90, R300,
R325). -/
def lvtLook (s : State) : State :=
  if s.dev.lvtEn then (List.range 64).foldl (fun s n => atHome s none .read (lvtAddr s n) 512) s else s

/-- The peers of the windows that a tenant has registered: path and package or neighbour. -/
def tenantPeers (s : State) (t : BitVec 16) : List (Bool × BitVec 8) :=
  (s.parts.toList.flatMap fun q => (q.windows.toList.filter fun w => bit w.ctl 63 && w.ctl.extractLsb' 32 16 == t).map
    fun w => (bit w.peer 8, w.peer.extractLsb' 0 8)).eraseDups

/-- The residency bits of a partition become those of some tenants, and each change is reported to the peers of every
window that the tenant has registered (R311). -/
def reside (s : State) (p : PartId) (now : List (BitVec 16)) : State :=
  let old := (s.links.own.filter fun e => e.1 == p).map (·.2)
  let changed := ((now.filter fun t => !old.contains t).map fun t => (t, true)) ++
    (old.filter fun t => !now.contains t).map fun t => (t, false)
  if changed.isEmpty then s
  else
    { s with links := { s.links with
        own := now.map (fun t => (p, t)) ++ s.links.own.filter fun e => e.1 != p
        reports := changed.flatMap fun y => (tenantPeers s y.1).map fun q => (q.1, q.2, p, y.1, y.2) } }

/-- VF_GRANT: a partition with no function granted grants the next one with work, whose tenants are then resident
(R149, R311). -/
def grantVf (s : State) (p : PartId) : State :=
  if !s.dev.ready || (s.part p).granted.isSome then s
  else
    match nextVf s p with
    | none => s
    | some v =>
      let s := lvtLook (s.updPart p fun q => { q with granted := some v, lastVf := some v })
      returnSaved (reside s p (tenantsOf s v)) p v

/-- SLICE_END: BUCKET becomes 0; with no other function waiting a new slice, and so a new grant, starts at once
(R142, R147, R149). -/
def sliceEnd (s : State) (p : PartId) : State :=
  match (s.part p).granted with
  | none => s
  | some v =>
    let s := s.updVf v fun f => { f with bucket := 0 }
    if (vfOrder (some v)).any fun w => w != v && hasWork s p w then
      reside (s.updPart p fun q => { q with granted := none }) p []
    else returnSaved s p v

/-- BUCKET_ACCRUAL: an assigned function with neither launch records nor nodes gains a microsecond, up to SLICE (R149). -/
def accrue (s : State) (v : VfId) : State :=
  let f := s.vf v
  if f.partEn && f.noLaunches && !hasNodes s v && decide (f.bucket.toNat < f.slice.toNat) then
    s.updVf v fun f => { f with bucket := f.bucket + 1 }
  else s

/-! ### Pre-emption at a slice end (R142-R147) -/

/-- Has the slice of a gang's function ended? -/
def sliceOver (s : State) (g : Gang) : Bool := (s.part g.part).granted != some g.vf

/-- Is a stream where a forced epilogue may find it (R142)? -/
def Stream.eligible (st : Stream) (sc : Bool) : Bool :=
  if sc then st.status == .running && st.wait == .join
  else st.status == .idle || st.status == .ended || st.loops.any (·.pre)

/-- Is every stream of a gang where a forced epilogue may find it? -/
def Gang.eligible (g : Gang) : Bool :=
  g.cores.toList.all fun k => (List.range 4).all fun t => (k.streams[t]!).eligible (t == 0)

/-- FORCED_EPILOGUE: an eligible gang of a function whose slice has ended begins to leave (R142). -/
def forceEpilogue (s : State) (b : BenchId) : State :=
  match s.gang? b with
  | none => s
  | some g =>
    if s.moving b && sliceOver s g && g.pre && g.eligible && (freeSlot s g.vf).isSome then
      s.updGang b fun g => { g with epilogue := true }
    else s

/-- Has a stream stopped under a forced epilogue (R144)? -/
def Stream.drainedOut (st : Stream) (sc : Bool) : Bool :=
  st.status == .idle || st.status == .ended || (match st.wait with
    | .epilogue _ _ => true
    | .join => sc
    | _ => false)

/-- The carried-set descriptor in force of a stream: that of the KLOOP it stopped at. -/
def Stream.carried (st : Stream) : Option (Vector Word 6) := match st.wait with
  | .epilogue _ _ => some st.carry
  | _ => none

/-- A stream as it starts again after a forced epilogue, over the one of node start (R144, R147). -/
def Stream.carryOver (old new : Stream) : Stream :=
  let m : Word := (old.carried.map (·[0])).getD 0
  { new with
    status := old.status
    pc := match old.wait with
      | .epilogue w _ => w
      | _ => old.pc
    rem := match old.wait with
      | .epilogue _ n => some n
      | _ => none
    wait := if old.wait = .join then .join else .none
    s := Vector.ofFn fun i => if m.getLsbD i.val then old.s[i] else new.s[i]
    f := old.f, b := old.b, frm := old.frm, kdesc := old.kdesc, loops := old.loops }

/-- Is a scratchpad offset in a range that a descriptor carries (R145)? -/
def inCarried (ds : List (Vector Word 6)) (off : Nat) : Bool :=
  ds.any fun d => [2, 3, 4, 5].any fun i =>
    let w := d[i]!
    decide (scratchOff (bits w 0 32) ≤ off) && decide (off < scratchOff (bits w 0 32) + bits w 32 32)

/-- A core as it starts again after a forced epilogue: the carried items over the state of node start (R144, R145). -/
def Core.carryOver (old new : Core) : Core :=
  let ds := old.streams.toList.filterMap Stream.carried
  let vm (i : Nat) : Bool := ds.any fun d => (d[0]).getLsbD (32 + i)
  let m1 (i : Nat) : Bool := ds.any fun d => (d[1]).getLsbD i
  { new with
    streams := Vector.ofFn fun t => (old.streams[t]).carryOver new.streams[t]
    v := Vector.ofFn fun i => if vm i.val then old.v[(old.physV (BitVec.ofNat 5 i.val)).toFin] else new.v[i]
    c := Vector.ofFn fun i => if m1 i.val then old.c[i] else new.c[i]
    p := Vector.ofFn fun i => if m1 (8 + i.val) then old.p[i] else new.p[i]
    w := Vector.ofFn fun i => if m1 (16 + i.val) then old.w[i] else new.w[i]
    acc := Vector.ofFn fun i => if m1 (24 + i.val) then old.acc[i] else new.acc[i]
    scratch := old.scratch.filter fun y => inCarried ds y.1
    xf := old.xf
    held := old.held }

/-- A stream that stopped at a loop end goes on at its KLOOP word with the trip count that remains. -/
def Stream.restart (st : Stream) : Stream := match st.wait with
  | .epilogue w n => { st with pc := w, rem := some n, wait := .none }
  | _ => st

/-- A gang that has finished its forced epilogue and does not leave runs on (R147). -/
def Gang.restart (g : Gang) : Gang :=
  { g with
    epilogue := false
    cores := g.cores.map fun k => { k with streams := k.streams.map Stream.restart } }

/-- EPILOGUE_SAVE: once every stream of a gang under a forced epilogue has stopped and its operations have completed, the
carried set is saved and the gang leaves (R144); a gang that finds no free slot, or whose function has been granted
again, is not pre-empted and goes on at its KLOOP words (R142, R147; log 72). While a halt lasts the gang keeps its bench
(R132). -/
def epilogueSave (s : State) (b : BenchId) : State :=
  match s.gang? b with
  | none => s
  | some g =>
    let out (k : Core) : Bool := k.drained && (List.range 4).all fun t => (k.streams[t]!).drainedOut (t == 0)
    if s.moving b && (s.part g.part).halt == .none && g.epilogue && g.cores.toList.all out then
      match (if sliceOver s g then freeSlot s g.vf else none), readRecord s g.space g.record.toNat with
      | some n, some d =>
        let s := setsTouch (vfTouch s g.space g.record.toNat 128 .read) g.space d
        let new := startGang s g.part g.space g.record.toNat d g.ready
        saveGang s b n false { new with
          former := g.former, run := g.run
          cores := Vector.ofFn fun c => (g.cores[c]).carryOver new.cores[c] }
      | some _, none => vfMissed s g.space g.record.toNat
      | none, _ => s.updGang b Gang.restart
    else s

/-- FULL_STOP: a gang still on its bench 2 ms after the slice end is fully stopped, and saved once its operations have
completed (R142, R146). -/
def fullStop (s : State) (b : BenchId) : State :=
  match s.gang? b with
  | none => s
  | some g =>
    if g.leaving then fullSave s b
    else if (s.part g.part).halt == .none && sliceOver s g && g.pre then fullStopNow s b
    else s

/-! ### The partition barrier (R112) -/

/-- Cells outside a span of addresses. -/
def Memory.without (m : List Host.Cell) (lo n : Nat) : List Host.Cell := m.filter fun y => !(decide (lo ≤ y.1) && decide (y.1 < lo + n))

/-- Clear every shadow entry of a partition: each line of the shadow area is written (R90, R112, R325). -/
def clearShadow (s : State) (p : PartId) : State :=
  let q := s.part p
  let lo := q.shbase.toNat * 2 ^ 12
  let n := (q.shhi.toNat + 1 - q.shlo.toNat) * 2 ^ 14
  let s := (List.range (n / 128)).foldl (fun s i => atHome s (some p) .write (lo + 128 * i) 128) s
  { s with
    mem := Memory.without s.mem lo n
    atomicMarks := s.atomicMarks.filter fun m => !(decide (lo ≤ m.1) && decide (m.1 < lo + n)) }

/-- Nodes of a partition that are submitted and have not started (R112). -/
def notStarted (q : Part) : List (Nat × VfId) :=
  q.waiting ++ q.pool.map (fun e => (e.node, e.vf)) ++ q.numbers.map fun e => (e.1, e.2.1)

/-- Has every node of a partition that started retired? -/
def allRetired (s : State) (p : PartId) : Bool :=
  !hasRunning s p && !(s.vfs.toList.any fun f => f.saved.any fun g => decide (g.gang.part = p))

/-- PARTITION_BARRIER: once asked for, and every node has retired, clocks and start vectors are zero, GEN advances, and
dispatch goes on (R112). -/
def partitionBarrier (s : State) (p : PartId) : State :=
  let q := s.part p
  if q.barrier && allRetired s p then
    let starts := (notStarted q).filterMap fun n => recordLine s (s.space n.2) n.1
    let s := (notStarted q).foldl (fun s n => vfMissed s (s.space n.2) n.1) s
    let s := (allBenches.filter fun b => q.bench.getLsbD b.toNat).foldl
      (fun s b => { s with clocks := s.clocks.set b.toFin Clock.zero }) s
    let s := starts.foldl (fun s l => clearCarried s p l) s
    let s := if q.gen = 0xFFFF then clearShadow s p else s
    s.updPart p fun q => { q with gen := q.gen + 1, barrier := false }
  else s

end Sys2Proof.Machine
end

