-- ==== Sys2Proof/Machine/Fabric.lean ====
section
/-! DEFINITION. Windows and links: registration, units that arrive, units that come back, ports (R293-R299, R311). -/

namespace Sys2Proof.Machine

/-! ### WINCTL (R296) -/

/-- The RW fields of WINCTL other than EN. -/
def winctlMask : Word := 0x3FF0FFFFFFFFFFFF#64

/-- Is a write that sets EN refused: SIZE 0, or a span beyond 2^48? -/
def windowBad (base ctl : Word) : Bool := bits ctl 0 32 == 0 || decide (2 ^ 48 < bits base 16 32 * 2 ^ 16 + bits ctl 0 32 * 2 ^ 16)

/-- A window after a write to its WINCTL (R296, Table 34.2). A refused write stores its other fields (log 75). -/
def Window.writeCtl (w : Window) (x : Word) : Window :=
  if bit w.ctl 63 then (if bit x 63 then w else { w with ctl := setBits w.ctl 63 1 0 })
  else
    let f := x &&& winctlMask
    if !bit x 63 then { w with ctl := f ||| (w.ctl &&& 0x4000000000000000#64) }
    else if windowBad w.base f then { w with ctl := setBits f 62 1 1 }
    else { w with ctl := setBits f 63 1 1, arrivals := 0 }

/-- Change a window of a partition. -/
def State.updWindow (s : State) (p : PartId) (n : BitVec 6) (f : Window → Window) : State :=
  s.updPart p fun q => { q with windows := q.windows.set n.toFin (f q.windows[n.toFin]) }

/-- WINCTL_WRITE (R296). -/
def writeWinctl (s : State) (p : PartId) (n : BitVec 6) (x : Word) : State := s.updWindow p n fun w => w.writeCtl x

/-! ### WINDOW_UNIT_ARRIVE (R297, R298) -/

/-- The function whose translation a partition's windows use: the one that holds the grant, else the last that held it,
else the first that the partition runs (log 14). -/
def windowVf (s : State) (p : PartId) : VfId :=
  let own := ((List.range 96).map (BitVec.ofNat 7)).find? fun v => (s.vf v).partEn && decide ((s.vf v).part = p)
  (((s.part p).granted.or (s.part p).lastVf).or own).getD 127

/-- Who performs a unit that arrives at a partition; it has no clock (log 14). -/
def whoWindow (s : State) (p : PartId) : Who :=
  let v := s.vf (windowVf s p)
  { unit := 416 + p.toNat, part := some p, root1 := some ((v.root.setWidth 64) <<< 12)
    root2 := (v.s2root.setWidth 64) <<< 12, en2 := v.s2en, bench := none }

/-- Does the target's window accept a unit (R297)? -/
def Window.accepts (w : Window) (u : UnitMsg) : Bool :=
  bit w.ctl 63 && bit w.ctl (if u.isPut then 61 else 60) && w.ctl.extractLsb' 32 16 == u.tenant &&
    u.cells.all fun y => decide (y.1 < w.size)

/-- Does an arriving entry belong to the transfer of a unit? -/
def Arriving.of (a : Arriving) (u : UnitMsg) : Bool :=
  a.peer == u.peer && a.xfer == u.xfer && a.part == u.part && a.win == u.win

/-- Count a unit of a put: the arrival counter counts the put with its last unit, unless one was refused; a put refused in any
unit is never counted, so its entry stays, and units of it that are sent again count for nothing (R137, R298). -/
def countUnit (s : State) (u : UnitMsg) (refused : Bool) : State :=
  let old := (s.links.arriving.find? (·.of u)).getD
    { peer := u.peer, xfer := u.xfer, part := u.part, win := u.win, got := 0, refused := false }
  let now := { old with got := old.got + 1, refused := old.refused || refused }
  let rest := s.links.arriving.filter fun a => !a.of u
  if u.total ≤ now.got ∧ !now.refused then
    { s with links := { s.links with arriving := rest } }.updWindow u.part u.win fun w => { w with arrivals := w.arrivals + 1 }
  else { s with links := { s.links with arriving := now :: rest } }

/-- The aligned 8-byte parts of a window in which the cells of a unit lie: one, for a unit that another package of this
kind sends. -/
def unitParts (u : UnitMsg) : List Nat := (u.cells.map fun y => y.1 / 8).eraseDups

/-- Check the parts of a unit as accesses of the target's partition: the physical address of each (R95, R110, R297; logs
14, 18); a fault comes with the state that the access leaves. -/
def unitAccess (w : Who) (base : Nat) (put : Bool) : State → List Nat → Except (MemFault × State) (List (Nat × Nat) × State)
  | s, [] => .ok ([], s)
  | s, o :: r =>
    let va : Word := BitVec.ofNat 64 (base + 8 * o)
    match homeAccess s w va 8 (if put then .write else .read) false with
    | .error f => .error (f, missed s w va f.raced)
    | .ok (pa, s) =>
      match unitAccess w base put s r with
      | .error f => .error f
      | .ok (l, s) => .ok ((o, pa) :: l, s)

/-- Physical address of a cell of a checked unit. -/
def cellAddr (l : List (Nat × Nat)) (off : Nat) : Nat :=
  ((l.find? fun y => y.1 == off / 8).map (·.2)).getD 0 + off % 8

/-- What the target answers to a unit. -/
def State.answer (s : State) (r : UnitReply) : State := { s with links := { s.links with reply := r } }

/-- WINDOW_UNIT_ARRIVE: a unit is checked, performed and counted, or not performed at all: refused, or, where the checked
window finds a race, answered with the conflicting entry; what a get reads goes back to the peer (R110, R297, R298). A
unit whose address the target cannot translate, or may not access, is refused (log 14). -/
def unitArrive (s : State) (u : UnitMsg) : State :=
  let w := (s.part u.part).windows[u.win.toFin]
  let fail (s : State) (r : UnitReply) : State := (if u.isPut then countUnit s u true else s).answer r
  if !w.accepts u then fail s .refused
  else
    match unitAccess (whoWindow s u.part) (bits w.base 16 32 * 2 ^ 16) u.isPut s (unitParts u) with
    | .error (.race e, s) => fail s (.race e)
    | .error (_, s) => fail s .refused
    | .ok (l, s) =>
      let s := s.answer .performed
      if u.isPut then countUnit (u.cells.foldl (fun s y => physSet s (cellAddr l y.1) y.2) s) u false
      else { s with out := u.cells.map fun y => physByte s (cellAddr l y.1) }

/-! ### Units that come back (R297-R299) -/

/-- RESIDENCY_REPORT (R311). -/
def residencyReport (s : State) (eth : Bool) (peer : BitVec 8) (part : PartId) (tenant : BitVec 16) (resident : Bool) :
    State :=
  let rest := s.links.resident.filter fun e => e != (eth, peer, part, tenant)
  { s with links := { s.links with resident := if resident then (eth, peer, part, tenant) :: rest else rest } }

/-- REFUSED_UNIT: the unit with a tag raises window at its source, or race where the target's checked window found one,
with the conflicting entry (R110, R297). -/
def refusedUnit (s : State) (tag : Nat) (race : Option Word) : State :=
  match race with
  | none => unitFault s tag 0x12 0 none
  | some e => unitFault s tag 0x0B e none

/-- UDP_UNIT_TIMEOUT: link-failure at the source of an Ethernet unit (R299). -/
def unitTimeout (s : State) (tag : Nat) : State := unitFault s tag 0x2A 0 (some true)

/-- ARRIVAL_ACKNOWLEDGEMENT from a peer retires a unit of a put (R299). -/
def arrivalAck (s : State) (peer : BitVec 8) (tag : Nat) : State :=
  { s with links := { s.links with out := s.links.out.filter fun u => !(u.tag == tag && u.dest == peer && u.msg.isPut) } }

/-- Values of `z` bytes of a byte list. -/
def valuesOf (z : Nat) (data : List Byte) (n : Nat) : Nat :=
  ((data.drop (z * n)).take z).foldr (fun x v => x.toNat + 256 * v) 0

/-- The units of packed scratch whose elements have all been read are written, each in one access (R97). -/
def writeRead (s : State) (b : BenchId) (c : CoreId) (k : Copy) : List Nat → State × Copy
  | [] => (s, k)
  | i :: r =>
    let g := k.group i
    if g.any fun j => (todoAll k.reads).contains j || k.asked.any fun y => y.1 == j then writeRead s b c k r
    else writeRead (g.foldl (fun s j => landElem s b c k j (k.value j)) s) b c (k.done g) r

/-- The elements that a returned unit of a GET holds land in its copy: in a face at once, in scratch by whole units
(R97, R298, Table 24.4). -/
def landReturn (s : State) (b : BenchId) (c : CoreId) (tag : Nat) (data : List Byte) (k : Copy) : State :=
  let els := (k.asked.filter fun y => y.2 == tag).map (·.1)
  let vals := els.zip ((List.range els.length).map (valuesOf k.z data))
  let k : Copy := { k with asked := k.asked.filter fun y => y.2 != tag }
  match k.kind with
  | .toScratch _ =>
    let (s, k) := writeRead s b c { k with got := k.got ++ vals } els
    setCopy s b c k.replayed
  | _ => setCopy (vals.foldl (fun s y => landElem s b c k y.1 y.2) s) b c k.replayed

/-- GET_UNIT_RETURN (R298). -/
def getReturn (s : State) (tag : Nat) (data : List Byte) : State :=
  allBenches.foldl (fun s b => allCores.foldl (fun s c =>
    match (s.core b c).copies.find? fun k => k.asked.any fun y => y.2 == tag with
    | some k => if (s.gang? b).isSome then settleResume (landReturn s b c tag data k) (s.gang b).part else s
    | none => s) s) (dropUnit s tag)

/-! ### Ports (R293, R295) -/

/-- The ports of a path with one of them set up or down. -/
def Links.setPort (l : Links) (eth : Bool) (port : BitVec 4) (up : Bool) : Links :=
  let e : BitVec 12 := 1 <<< port.toNat
  let t : BitVec 16 := 1 <<< port.toNat
  if eth then { l with eth := if up then l.eth ||| e else l.eth &&& ~~~e }
  else { l with tilrak := if up then l.tilrak ||| t else l.tilrak &&& ~~~t }

/-- LINK_DOWN: the port is down, and a unit that no port takes to its peer any more raises link-failure (R295). -/
def linkDown (s : State) (eth : Bool) (port : BitVec 4) : State :=
  let s := { s with links := s.links.setPort eth port false }
  (s.links.out.filter fun u => u.eth == eth && !s.links.reaches eth u.dest).foldl
    (fun s u => unitFault s u.tag 0x2A 0 none) s

/-- LINK_RETRAIN: a port that has finished retraining carries traffic again; one that begins to retrain changes time only,
until LINK_DOWN (R293, R295). -/
def linkRetrain (s : State) (eth : Bool) (port : BitVec 4) (done : Bool) : State :=
  if done then { s with links := s.links.setPort eth port true } else s

/-- CREDIT_FLIT: receive-buffer credits come back to a Tilrak port (R293). -/
def creditFlit (s : State) (port : BitVec 4) (n : Nat) : State :=
  { s with links := { s.links with credits := s.links.credits.set port.toFin (s.links.credits[port.toFin] + n) } }

end Sys2Proof.Machine
end

