-- ==== Sys2Proof/Machine/Launch.lean ====
section
/-! DEFINITION. Launch queues, launch requests, and the writes to PBENCH (R118-R122, R148, R300). -/

namespace Sys2Proof.Machine

/-! ### Launch queues (R118, R119) -/

/-- LQERR names a rejected record or an ignored doorbell (R119). -/
def lqError (s : State) (v : VfId) (reason : Byte) (seq : BitVec 16) : State :=
  s.updVf v fun f => { f with lqErr := true, lqReason := reason, lqSeq := seq }

/-- LAUNCH_DOORBELL: LQTAIL takes the value unless the ring would be overrun (R118). -/
def doorbell (s : State) (v : VfId) (x : Word) : State :=
  let f := s.vf v
  let tail : BitVec 32 := x.extractLsb' 0 32
  if 2 ^ f.lq.log2n < (tail - f.lq.head).toNat then lqError s v 3 0
  else s.updVf v fun f => { f with lq := { f.lq with tail := tail } }

/-- Virtual address of the record at the head of a launch queue (R118). -/
def Vf.headAddr (f : Vf) : Nat := f.lq.base.toNat * 2 ^ 12 + 64 * (f.lq.head.toNat % 2 ^ f.lq.log2n)

/-- The eight doublewords of a launch record (Table 14.2). -/
def launchRecord (s : State) (v : VfId) (a : Nat) : Option (List Word) :=
  (vfAddr s (s.space v) a .read).map fun pa => (List.range 8).map fun i => BitVec.ofNat 64 (physRead s (pa + 8 * i) 8)

/-- Are the reserved fields and KIND of a launch record zero (R119)? -/
def launchOk (l : List Word) : Bool :=
  bits (l[0]!) 48 16 == 0 && bits (l[0]!) 0 7 == 0 && bits (l[1]!) 25 39 == 0 && bits (l[1]!) 16 8 == 0 &&
    (l.drop 3).all (· == 0)

/-- A launch record as a launch request is entered (R120). -/
def requestRecord (node : Word) : List Word := [node, 0, 0, 0, 0, 0, 0, 0]

/-- A record has been consumed: LQHEAD advances, or the request is taken off. -/
def consumed (s : State) (v : VfId) (request : Bool) : State :=
  s.updVf v fun f =>
    if request then { f with requests := f.requests.tail, launching := [] }
    else { f with lq := { f.lq with head := f.lq.head + 1 }, launching := [] }

/-- An accepted record submits its node record: the start vector is zero, and a node with no pending count becomes ready.
A node that finds no place leaves the record unconsumed (R109, R119, R122, R123). What of the node record cannot be
written is not written (log 86). -/
def submitLaunch (s : State) (v : VfId) (l : List Word) (d : List Word) (request : Bool) : State :=
  let node := bits (l[0]!) 7 41 * 2 ^ 7
  let p := vfPart s v
  let sp := s.space v
  let s := if bit (l[1]!) 24 then vfWrite s sp (node + 8) (l[2]!) else s
  let s := match recordLine s sp node with
    | some n => clearCarried s p n
    | none => s
  if bits (d[2]!) 0 32 ≠ 0 then consumed (submitWaiting (setState s sp node 0) v node) v request
  else
    let (s, rest) := makeReady readyFuel s [(node, v, true)]
    if rest.isEmpty then consumed s v request else s.updVf v fun f => { f with launching := rest }

/-- Consume one record: the launch record, where it could be read (R119). -/
def consumeRecord (s : State) (v : VfId) (rec' : Option (List Word)) (request : Bool) : State :=
  match rec' with
  | none => consumed (lqError s v 2 0) v request
  | some l =>
    let seq := (l[1]!).extractLsb' 0 16
    if !launchOk l then consumed (lqError s v 1 seq) v request
    else
      match readRecord s (s.space v) (bits (l[0]!) 7 41 * 2 ^ 7) with
      | none => consumed (lqError (vfMissed s (s.space v) (bits (l[0]!) 7 41 * 2 ^ 7)) v 2 seq) v request
      | some d => submitLaunch (vfTouch s (s.space v) (bits (l[0]!) 7 41 * 2 ^ 7) 128 .read) v l d request

/-- Is the next record of a function a launch request: has every ring record that precedes it been consumed? -/
def Vf.requestNext (f : Vf) : Bool := match f.requests with
  | (mark, _) :: _ => decide (mark = f.lq.head)
  | [] => false

/-- LAUNCH_RECORD_CONSUME: the dispatcher takes the next launch record of a function (R118, R119, R123). -/
def consumeLaunch (s : State) (v : VfId) : State :=
  let f := s.vf v
  if !s.dev.ready || !f.lqEn then s
  else if !f.launching.isEmpty then
    let (s, rest) := placeRest s f.launching
    if rest.isEmpty then consumed s v f.requestNext else s.updVf v fun f => { f with launching := rest }
  else if f.requestNext then consumeRecord s v (some (requestRecord ((f.requests.head?.map (·.2)).getD 0))) true
  else if f.lq.head = f.lq.tail then s
  else consumeRecord (vfTouch s (s.space v) f.headAddr 64 .read) v (launchRecord s v f.headAddr) false

/-! ### Launch requests (R120, R300) -/

/-- Does an entry of the launch-validation table match a tenant? -/
def lvtMatches (s : State) (tenant : BitVec 16) (n : Nat) : Bool := lvtPresent s n && lvtTenant s n == tenant

/-- The reads of the launch-validation table for a request: the entries up to the one that matches (R300, R325). -/
def lvtTouch (s : State) (tenant : BitVec 16) : State :=
  if !s.dev.lvtEn then s
  else
    let n := (((List.range 64).find? (lvtMatches s tenant)).map (· + 1)).getD 64
    (List.range n).foldl (fun s n => atHome s none .read (lvtAddr s n) 512) s

/-- The virtual function that a valid launch request names (R120). -/
def requestVf (s : State) (tenant : BitVec 16) (win : BitVec 6) (node : Word) : Option VfId :=
  if !s.dev.lvtEn then none
  else
    match (List.range 64).find? (lvtMatches s tenant) with
    | none => none
    | some n =>
      let v := lvtVf s n
      let ranges := (List.range (lvtWord s n 1).toNat).any fun i =>
        (lvtWord s n (2 + 2 * i)).ule node && node.ule (lvtWord s n (3 + 2 * i))
      let w := (s.part (vfPart s v)).windows[win.toFin]
      let okWin := (s.vf v).partEn && bit w.ctl 63 && bit w.ctl 59 && w.ctl.extractLsb' 32 16 == tenant
      if ranges && okWin then some v else none

/-- Is a port up: 0 to 15 Tilrak, 16 to 27 Ethernet? -/
def Links.portUp (l : Links) (port : BitVec 5) : Bool :=
  if port.toNat < 16 then l.tilrak.getLsbD port.toNat else l.eth.getLsbD (port.toNat - 16)

/-- LAUNCH_REQUEST: a request that arrives at a port enters the launch queue of the function that it names, or is dropped
and counted (R120). -/
def launchRequest (s : State) (port : BitVec 5) (tenant : BitVec 16) (win : BitVec 6) (node : Word) : State :=
  if !s.links.portUp port then s
  else
    let found := requestVf s tenant win node
    let s := lvtTouch s tenant
    match found with
    | some v => s.updVf v fun f => { f with requests := f.requests ++ [(f.lq.tail, node)] }
    | none =>
      let n := port.toNat
      { s with links := { s.links with
        refusedLaunches := s.links.refusedLaunches.setIfInBounds n ((s.links.refusedLaunches[n]?.getD 0) + 1) } }

/-! ### PBENCH (R122, R148) -/

/-- Is a partition idle: no node of it runs, and every launch queue feeding it is off? -/
def partIdle (s : State) (p : PartId) : Bool :=
  !hasRunning s p && (List.range 96).all fun i =>
    let v : VfId := BitVec.ofNat 7 i
    !(assigned s p v && (s.vf v).lqEn)

/-- Does a mask name a disabled bench, or one of another partition (R148)? -/
def pbenchBad (s : State) (p : PartId) (x : Word) : Bool :=
  (x &&& ~~~s.dev.benchmap) != 0 ||
    (List.range 64).any fun i => i != p.toNat && (x &&& (s.part (BitVec.ofNat 6 i)).bench) != 0

/-- The nodes of a spoil ring, oldest first, as node and virtual function. -/
def spoilNodes (s : State) (q : Part) : List (Nat × VfId) :=
  (List.range q.spoilCount.toNat).map fun i =>
    let e := BitVec.ofNat 64 (physRead s (spoilSlot q (q.spoilHead + i)) 8)
    (bits e 7 41 * 2 ^ 7, e.extractLsb' 0 7)

/-- The nodes of a deferred list from one named in its way, up to the last. -/
def deferNodes (s : State) (last : Word) : Nat → Word → List (Nat × VfId)
  | 0, _ => []
  | n + 1, w =>
    if w = 0 then []
    else
      let node := bits w 7 41 * 2 ^ 7
      let v : VfId := w.extractLsb' 0 7
      (node, v) :: (if w = last then [] else
        deferNodes s last n (((vfRead s (s.space v) (node + 32)).getD 0) &&& 0xFFFFFFFFFFFF#64))

/-- Does a node outside the pool need an extended bench: SUBD or MIG? -/
def needsExtended (s : State) (n : Nat × VfId) : Bool :=
  ((vfRead s (s.space n.2) (n.1 + 16)).map fun d => bit d 32 || bit d 36).getD false

/-- The dispatcher's reads of the spoil ring, of the deferred list, and of D2 of their nodes (R90, R325). -/
def touchNodes (s : State) (p : PartId) (spoil defer : List (Nat × VfId)) : State :=
  let s := (List.range spoil.length).foldl
    (fun s i => atHome s (some p) .read (spoilSlot (s.part p) ((s.part p).spoilHead + i)) 8) s
  let s := defer.foldl (fun s n => vfTouch s (s.space n.2) (n.1 + 32) 8 .read) s
  (spoil ++ defer).foldl (fun s n => vfTouch s (s.space n.2) (n.1 + 16) 8 .read) s

/-- A node whose record stands in a space fails with code 0x1A, a pre-empted one with its image, and the nodes that its
future releases become ready (R122). D15 of the record stays as it is (log 92). -/
def failExtended (s : State) (p : PartId) (n : Nat × Space) : State :=
  let sp := n.2
  let v := sp.vf
  let fut : Word := ((vfRead s sp (n.1 + 24)).getD 0) &&& 0xFFFFFFFFFFF8#64
  let s := recordOnly (failRecord s sp n.1 0x1A) p 0x1A (BitVec.ofNat 64 n.1) 0 0
  let s := vfTouch s sp (n.1 + 24) 8 .read
  let s := ((s.vf v).saved.filter fun g => g.gang.record.toNat == n.1).foldl
    (fun s g => s.forget g.gang.run) s
  let s := s.updVf v fun f => { f with saved := f.saved.filter fun g => g.gang.record.toNat != n.1 }
  let (s, l) := dispatcherResolve s p sp n.1 fut 0x1A
  (makeReady readyFuel s (l.map fun m => (m, v, false))).1

/-- Every node of the pool, the spoil queue and the deferred list that needs an extended bench fails (R122). -/
def failAllExtended (s : State) (p : PartId) : State :=
  let q := s.part p
  let spoil := spoilNodes s q
  let defer := deferNodes s q.defTail drainFuel q.defHead
  let pool := (q.pool.filter (·.ext)).map fun e => (e.node, s.entrySpace e)
  let bad := (spoil ++ defer).filter (needsExtended s)
  let s := touchNodes s p spoil defer
  if pool.isEmpty && bad.isEmpty then s
  else
    let keep (l : List (Nat × VfId)) : List (Nat × VfId) := l.filter fun n => !bad.contains n
    let s := s.updPart p fun q => { q with
      pool := q.pool.filter fun e => !e.ext
      numbers := q.numbers.filter fun e => !bad.contains (e.1, e.2.1)
      spoilHead := 0, spoilCount := 0, defHead := 0, defTail := 0 }
    let s := (keep spoil).foldl (fun s n => spoilAppend s p n.2 n.1) s
    let s := (keep defer).foldl (fun s n => deferAppend s p n.2 n.1) s
    drainSpoil p drainFuel ((pool ++ bad.map fun n => (n.1, s.space n.2)).foldl (fun s n => failExtended s p n) s)

/-- PBENCH_WRITE (R122, R148). -/
def writePbench (s : State) (p : PartId) (x : Word) : State :=
  if !partIdle s p then s
  else if pbenchBad s p x then s.updPart p fun q => { q with perr := true }
  else
    let s := s.updPart p fun q => { q with bench := x }
    if hasExtended s p then s else failAllExtended s p

end Sys2Proof.Machine
end

