-- ==== Sys2Proof/Machine/Start.lean ====
section
/-! DEFINITION. Start, security, power, boost, maintenance, and accesses from outside (R114, R316-R329, R94). -/

namespace Sys2Proof.Machine

/-- Change the device block. -/
def State.updDev (s : State) (f : Device → Device) : State := { s with dev := f s.dev }

/-- Change a quadrant. -/
def State.updQuad (s : State) (q : QuadId) (f : Quad → Quad) : State :=
  { s with quads := s.quads.set q.toFin (f s.quads[q.toFin]) }

/-! ### Start (R316-R318, Table 36.1) -/

/-- Recovery, with its reason (R318). -/
def recovery (s : State) (reason : BitVec 4) : State := s.updDev fun d => { d with stage := 15, berr := reason, ready := false }

/-- Why an image is not accepted, 0 where it is (R317, R318). -/
def imageReason (d : Device) (image : List Byte) : BitVec 4 :=
  let r := Config.imageCheck d.lc image
  if r ≠ 0 then r else if (Config.imageVersion image).ult d.rollback then 3 else 0

/-- A partition after step 5: its registers at their reset values, but for the number of its last halt (R133). -/
def Part.restarted (p : Part) : Part := { hseq := p.hseq }

/-- A virtual function after step 5: its launch queue at its reset values, with no node left; the hypervisor's registers
stay (R316). -/
def Vf.restarted (f : Vf) : Vf :=
  { slice := f.slice, bucket := f.bucket, feat := f.feat, saveBase := f.saveBase, saveCount := f.saveCount
    ctxPend := f.ctxPend, ctxRoot := f.ctxRoot, root := f.root, s2root := f.s2root, s2en := f.s2en, partEn := f.partEn
    part := f.part }

/-- A quadrant after step 5: its format regions at their reset values, and its stacks out of self-refresh (R316, R321). -/
def Quad.restarted (q : Quad) : Quad :=
  { q with fmt := Vector.replicate 16 {}, pwr := if q.pwr = 2 then 0 else q.pwr }

/-- Step 5 of Table 36.1, with what steps 3 and 4 leave in storage: partitions, way masks, format regions, windows and
launch queues take their reset values, nothing runs, no line is held, and every pool and HBM byte reads zero. What the
step does not name is kept: the device block with the system copy contexts, the hypervisor's registers of the functions,
LLCMNT and QPWR, the halt sequence numbers (R133, R316; log 48). -/
def stepFive (s : State) : State :=
  { s with
    benches := State.reset.benches, clocks := State.reset.clocks, pools := State.reset.pools, mem := [], llc := [], tlb := []
    atomicMarks := [], quads := s.quads.map Quad.restarted, parts := s.parts.map Part.restarted
    vfs := s.vfs.map Vf.restarted, ctxs := State.reset.ctxs
    links := { s.links with out := [], arriving := [], reply := .performed, resident := [], own := [], reports := [] } }

/-- Steps 3 to 6 with an accepted image, whose hash is measured into secure SRAM (R317, R318, Table 36.1). They form one
event, so no step of the model ends with STAGE at 2 to 5 (log 73). -/
def startImage (s : State) (image : List Byte) : State :=
  (stepFive s).updDev fun d => { d with
    stage := 6, berr := 0, imageVersion := Config.imageVersion image, imageHash := Config.imageHash image }

/-- The device after a loss of power: what a cold start finds. Fuses, of which its first step loads the bench fuse map,
wiring and the count of steps are kept (R2, R316, R319, R320). -/
def poweredOn (s : State) : State :=
  { State.reset with
    ticks := s.ticks, agenda := s.agenda, cur := s.cur
    links := { State.reset.links with apart := s.links.apart }
    dev := { State.reset.dev with
      kind := s.dev.kind, pkgpwr := s.dev.kind.limit
      lc := s.dev.lc, rollback := s.dev.rollback, fuses := s.dev.fuses, nonce := Config.nonce s.ticks } }

/-- COLD_START: the start sequence of Table 36.1 up to its sixth step, or recovery (R316-R318). -/
def coldStart (s : State) : State :=
  let s := poweredOn s
  if s.dev.lc = 2 then recovery s 5
  else
    match Config.flashImage s.ticks with
    | none => recovery s 4
    | some image =>
      let r := imageReason s.dev image
      if r ≠ 0 then recovery s r else startImage s image

/-- The steps of a warm start that run: step 5, and the verified image starts again; the device block and the debug token
are kept (R316, R320; log 48). -/
def warmReset (s : State) : State := (stepFive s).updDev fun d => { d with stage := 6, ready := false }

/-- DEVCTL_WARM: a warm start. Step 1 reads the lifecycle fuses, so that a Revoked device stops in recovery; where the
image found in HBM does not have the hash measured at the last cold start it becomes a cold start (R316, R319). -/
def warmStart (s : State) (x : Word) : State :=
  if !bit x 63 then s
  else if s.dev.lc = 2 then recovery s 5
  else if s.dev.stage = 15 ∨ Config.imageHash (Config.hbmImage s.ticks) ≠ s.dev.imageHash then coldStart s
  else warmReset s

/-- DEVCTL_READY: step 7; an accepted version above the rollback counter advances it (R316, R317). -/
def writeReady (s : State) (x : Word) : State :=
  if bit x 62 && s.dev.stage == 6 then
    s.updDev fun d => { d with
      stage := 7, ready := true, rollback := if d.rollback.ult d.imageVersion then d.imageVersion else d.rollback }
  else s

/-- RECGO: in recovery, the image that the host supplies is verified, and the start goes on with it (R318, R331). -/
def recoveryGo (s : State) (x : Word) (image : List Byte) : State :=
  let d := s.dev
  let image := image.take d.recLen.toNat
  if !bit x 0 || d.stage ≠ 15 || d.lc == 2 then s
  else if 2 ^ 26 < d.recLen.toNat then recovery s 4
  else
    let r := imageReason d image
    if r ≠ 0 then recovery s r else startImage s image

/-! ### Lifecycle and debug (R319, R320, R322) -/

/-- The ceiling on the debug level: 0 none, 1 observe, 2 invasive (R320). -/
def Device.ceiling (d : Device) : BitVec 2 := if d.lc = 0 ∨ (d.lc = 1 ∧ d.tokv = true) then 2 else 1

/-- The granted level: the lesser of request and ceiling. -/
def Device.grant (d : Device) : Device := { d with dbg := if d.req.ult d.ceiling then d.req else d.ceiling }

/-- LIFECYCLE_ADVANCE: forward only, on a signed request (R319); the quadrants of a Revoked device stand in P0 (R322). -/
def lifecycle (s : State) (lc : BitVec 2) (request : List Byte) : State :=
  let d := s.dev
  let forward : Bool := (d.lc == 0 && (lc == 1 || lc == 2)) || (d.lc == 1 && lc == 2)
  let awake (s : State) : State := { s with quads := s.quads.map fun q => { q with pwr := 0 } }
  if forward && Config.lifecycleSigned lc request then
    (if lc = 2 then awake s else s).updDev fun d => ({ d with lc := lc } : Device).grant
  else s

/-- DBGCTL_REQ (R320, Table 36.6). -/
def debugRequest (s : State) (x : Word) : State :=
  let r : BitVec 2 := x.extractLsb' 0 2
  s.updDev fun d => ({ d with req := if r = 3 then 0 else r } : Device).grant

/-- DBGCTL_LOAD: REQ takes its value, as in every write to DBGCTL; the token at DBGTOK is verified, and a fresh nonce is
issued; a write with LOAD = 0 takes REQ alone (R320, Table 36.6). -/
def debugLoad (s : State) (x : Word) (token : List Byte) : State :=
  let s := debugRequest s x
  if !bit x 63 then s
  else
    let fresh := Config.nonce s.ticks
    match (if token.length ≤ 4096 then Config.tokenMask s.dev.nonce token else none) with
    | some m => s.updDev fun d => ({ d with tokv := true, tokMask := m, tokerr := false, nonce := fresh } : Device).grant
    | none => s.updDev fun d => { d with tokerr := true, nonce := fresh }

/-- Does an invasive grant reach a bench (R320)? -/
def Device.reaches (d : Device) (b : BenchId) : Bool := d.dbg == 2 && (d.lc == 0 || d.tokMask.getLsbD b.toNat)

/-- Does an invasive grant reach a partition: is it built wholly from benches of the mask? -/
def reachesPart (s : State) (p : PartId) : Bool :=
  let m := (s.part p).bench
  m != 0 && (m &&& ~~~s.dev.tokMask) == 0

/-- Does a table of stage 2 map a physical address, by entries that a walk accepts (R93, R94)? -/
def mapsPa (s : State) (pa : Nat) : Nat → List (Nat × Nat × Nat) → Bool
  | _, [] => false
  | table, (lv, lo, n) :: rest =>
    (List.range (2 ^ n)).any fun i =>
      let e := BitVec.ofNat 64 (physRead s (table + 8 * i) 8)
      let a := bits e 8 44 * 2 ^ 8
      !entryBad 1 e && (if bit e 1 then !leafBad lv lo a && decide (a ≤ pa) && decide (pa < a + 2 ^ lo)
        else mapsPa s pa a rest)

/-- Does an invasive grant reach a physical address: in Secure, only memory mapped by the partitions that it reaches? -/
def reachesMem (s : State) (pa : Nat) : Bool :=
  s.dev.dbg == 2 && (s.dev.lc == 0 || (List.range 96).any fun i =>
    let f := s.vf (BitVec.ofNat 7 i)
    f.partEn && f.s2en && reachesPart s f.part && mapsPa s pa (f.s2root.toNat * 2 ^ 12) walkLevels)

/-- The quadrant of a bench. -/
def benchQuad (b : BenchId) : QuadId := b.extractLsb' 4 2

/-! ### Power states (R321, R333) -/

/-- Does a partition own enabled benches in a quadrant? -/
def ownsQuad (s : State) (p : PartId) (q : QuadId) : Bool := (partBenches s p).any fun b => benchQuad b == q

/-- The partitions that own enabled benches in a quadrant. -/
def quadOwners (s : State) (q : QuadId) : List PartId := ((List.range 64).map (BitVec.ofNat 6)).filter fun p => ownsQuad s p q

/-- QPWR_REQ (R321, R333). -/
def quadRequest (s : State) (q : QuadId) (x : Word) : State :=
  let r : BitVec 2 := x.extractLsb' 8 2
  let r := if r = 1 ∨ r = 3 then 0 else r
  s.updQuad q fun y => { y with req := r, pwr := if r = 0 ∧ y.pwr = 2 then 0 else y.pwr }

/-- P2_ENTRY: a request for retention takes effect while no partition that owns benches in the quadrant has a running gang
(R321, R322, R333). -/
def enterP2 (s : State) (q : QuadId) : State :=
  if (s.quads[q.toFin]).req = 2 ∧ s.dev.lc ≠ 2 ∧ !((quadOwners s q).any (hasRunning s)) then
    s.updQuad q fun y => { y with pwr := 2 }
  else s

/-- Is a quadrant idle: no running gang, so no outstanding copy, and no collective program (R321)? -/
def quadIdle (s : State) (q : QuadId) : Bool :=
  !(allBenches.any fun b => benchQuad b == q && (s.gang? b).isSome) && !(s.ctxs.toList.any fun c => c.run.isSome)

/-- P1_ENTRY (R321, R322). -/
def enterP1 (s : State) (q : QuadId) : State :=
  if (s.quads[q.toFin]).pwr = 0 ∧ s.dev.lc ≠ 2 ∧ quadIdle s q then s.updQuad q fun y => { y with pwr := 1 } else s

/-- P1_WAKE (R321). -/
def wakeP1 (s : State) (q : QuadId) : State := s.updQuad q fun y => if y.pwr = 1 then { y with pwr := 0 } else y

/-- POWER_OFF: P3; leaving it is a cold start (R321). -/
def powerOff (s : State) : State :=
  let s := poweredOn s
  s.updDev fun d => { d with off := true, nonce := 0 }

/-! ### Power limits and boost (R323, R324) -/

/-- power-limit in a partition: the controller takes it as a context-stopping fault with UNIT 4 (R323). -/
def powerLimit (s : State) (p : PartId) : State :=
  let (s, first) := raiseHalt s p 0x28 4 0 0 0
  if (s.part p).halt = .raised then s.updPart p fun q => { q with powerFault := true }
  else (trapRecord s p { cause := 0x28, unit := 4, first := first, seq := (s.part p).hseq }).1

/-- POWER_WINDOW_END with the average power of the package and of partitions, in watts (R323). -/
def powerWindow (s : State) (package : Nat) (parts : List (PartId × Nat)) : State :=
  let above (y : PartId × Nat) : Bool := (s.part y.1).pwrlim != 0 && decide ((s.part y.1).pwrlim.toNat < y.2)
  let all : List PartId := ((List.range 64).map (BitVec.ofNat 6)).filter (hasRunning s)
  let hit := (parts.filter above).map (·.1) ++
    (if s.dev.pkgpwr != 0 && decide (s.dev.pkgpwr.toNat < package) then all else [])
  hit.eraseDups.foldl powerLimit s

/-- Does a quadrant charge its owners? -/
def Quad.charges (q : Quad) : Bool := q.step != 0 && !q.fall

/-- PERMIT_CHARGE: one permit of each owner; when one reaches 0 its quadrants fall (R324). -/
def permitCharge (s : State) (q : QuadId) : State :=
  if !(s.quads[q.toFin]).charges then s
  else
    let own := quadOwners s q
    let s := own.foldl (fun s p => s.updPart p fun y => { y with permits := y.permits - 1 }) s
    let dry := own.filter fun p => decide ((s.part p).permits = 0)
    let falls (q : QuadId) : Bool := dry.any fun p => ownsQuad s p q
    (allCores.filter falls).foldl (fun s q => s.updQuad q fun y => if y.step = 0 then y else { y with step := 1, fall := true }) s

/-- PERMIT_REFILL: a partition charged in no quadrant gains a permit, up to 64 (R324). -/
def permitRefill (s : State) (p : PartId) : State :=
  if allCores.any fun q => (s.quads[q.toFin]).charges && ownsQuad s p q then s
  else s.updPart p fun y => { y with permits := min 64 (y.permits + 1) }

/-- BOOST_FALL_END (R324). -/
def fallEnd (s : State) (q : QuadId) : State :=
  s.updQuad q fun y => if y.fall then { y with step := 0, fall := false } else y

/-- The step that the claims give a quadrant (R324). -/
def quadStep (s : State) (q : QuadId) : BitVec 2 :=
  match quadOwners s q with
  | [] => 0
  | p :: r =>
    let least := r.foldl (fun n p => if (s.part p).step.ult n then (s.part p).step else n) (s.part p).step
    let poor := (p :: r).any fun p => decide ((s.part p).permits < 8)
    if (s.quads[q.toFin]).step = 0 ∧ poor = true then 0 else least

/-- BOOST_STEP_CHANGE (R19, R324). -/
def stepChange (s : State) (q : QuadId) : State :=
  s.updQuad q fun y => if y.fall then y else { y with step := quadStep s q }

/-! ### Cache maintenance (R329) and translation (R94) -/

/-- A command of LLCMNT: 1 write back, 2 write back and invalidate. -/
def maintenance (s : State) (q : QuadId) (cmd : BitVec 2) (x : Word) : State :=
  s.updQuad q fun y =>
    if y.mnt ≠ 0 then y
    else { y with mnt := if cmd = 3 then 0 else cmd, mntLimit := x.extractLsb' 32 24, mntBase := x.extractLsb' 0 24 }

/-- Is a line in the range of a quadrant's command, and homed there? -/
def inRange (y : Quad) (q : QuadId) (l : LlcLine) : Bool :=
  let g := 128 * l.line / 2 ^ 16
  homeQuad (128 * l.line) == q && decide (y.mntBase.toNat ≤ g) && decide (g ≤ y.mntLimit.toNat)

/-- LLCMNT_DONE: every line of the range has been handled, and BUSY clears (R92, R329). -/
def maintenanceDone (s : State) (q : QuadId) : State :=
  let y := s.quads[q.toFin]
  if y.mnt = 0 then s
  else
    let ls := s.llc.filter (inRange y q)
    let clean (s : State) (l : LlcLine) : State :=
      if y.mnt = 1 then llcUpdate (writeBackLine s l) { l with dirty := false } else llcEvict s l
    (ls.foldl clean s).updQuad q fun y => { y with mnt := 0 }

/-- TLB_INVALIDATE (R94). -/
def tlbInvalidate (s : State) : State := { s with tlb := [] }

/-! ### Accesses from outside (R114) -/

/-- The system cores that run: all 16 with the verified image, from step 6 on; before, and in recovery, core 0 alone with
the boot ROM; none in P3 (R23, R318, Table 36.1). -/
def Device.systemCores (d : Device) : BitVec 16 := if d.off then 0 else if d.stage == 6 || d.ready then 0xFFFF else 1

/-- Does the verified image run, so that the system cores, or a host from step 7 on, reach device memory (R318, Table
36.1)? -/
def Device.imageRuns (d : Device) : Bool := d.systemCores == 0xFFFF

/-- An access of any length from outside passes the home slice of each of its lines, and may match a watch (R90, R325). -/
def hostAtHome (s : State) (k : AccKind) (pa n : Nat) : State :=
  let lines := ((List.range n).map fun i => lineOf (pa + i)).eraseDups
  watch (lines.foldl (fun s l => llcTouch s none l) s) k pa n

/-- HOST_MEMORY_ACCESS: `n` bytes of device memory read, or the bytes given written, once the verified image runs (R114,
R318, R325). -/
def hostAccess (s : State) (write : Bool) (pa : BitVec 40) (n : Nat) (data : List Byte) : State :=
  if !s.dev.imageRuns then s
  else if write then
    ((List.range data.length).zip data).foldl (fun s y => physSet s (pa.toNat + y.1) y.2)
      (hostAtHome s .write pa.toNat data.length)
  else
    let s := hostAtHome s .read pa.toNat n
    { s with out := (List.range n).map fun i => physByte s (pa.toNat + i) }

/-! ### VFCTX (R150) -/

/-- VFCTX_ROOT_WRITE by the guest sets PEND; the hypervisor restores ROOT and PEND together, COMMIT plays no part in its
view, and a root that it restores with PEND = 0 is committed at once (R150, R334; log 74). -/
def writeRoot (s : State) (v : VfId) (hyp : Bool) (x : Word) : State :=
  let r : BitVec 36 := x.extractLsb' 12 36
  s.updVf v fun f =>
    if !hyp then { f with ctxRoot := r, ctxPend := true }
    else if bit x 63 then { f with ctxRoot := r, ctxPend := true }
    else { f with ctxRoot := r, ctxPend := false, root := r }

/-- VFCTX_COMMIT: a pending root applies to every node dispatched afterwards (R150). A write that sets COMMIT leaves ROOT
as it is (log 74). -/
def commitRoot (s : State) (v : VfId) (x : Word) : State :=
  if bit x 62 && (s.vf v).ctxPend then s.updVf v fun f => { f with root := f.ctxRoot, ctxPend := false } else s

/-! ### FMTCFG (R91) -/

/-- Do two spans of granules, first and last, meet? -/
def spansMeet (a b c d : Nat) : Bool := decide (a ≤ d) && decide (c ≤ b)

/-- First and last granule of a region's storage. -/
def FmtRegion.storage (r : FmtRegion) : Nat × Nat :=
  (r.store.toNat, r.store.toNat + 3 * (r.limit.toNat - r.base.toNat + 1) / 4 - 1)

/-- Is a write that sets EN refused (R91)? -/
def regionBad (y : Quad) (q : QuadId) (n : BitVec 4) (r : FmtRegion) : Bool :=
  let st := r.storage
  let home (g : Nat) : Bool := decide (g / 2 ^ 21 = q.toNat)
  !home r.base.toNat || !home r.limit.toNat || decide (r.limit.toNat < r.base.toNat) ||
    (r.limit.toNat - r.base.toNat + 1) % 4 != 0 || !home st.1 || !home st.2 ||
    decide (r.sigma.toInt < -12) || decide (12 < r.sigma.toInt) ||
    (List.range 16).any fun i =>
      let o := y.fmt[i]!
      i != n.toNat && o.en && (spansMeet r.base.toNat r.limit.toNat o.base.toNat o.limit.toNat ||
        spansMeet st.1 st.2 o.storage.1 o.storage.2)

/-- A format region after a write to its FMTCFG (R91). A refused write stores STORE and SIGMA all the same, and a write that
leaves a disabled region disabled clears no ERR (log 75). -/
def FmtRegion.writeCfg (r : FmtRegion) (y : Quad) (q : QuadId) (n : BitVec 4) (x : Word) : FmtRegion :=
  if r.en then (if bit x 63 then r else { r with en := false })
  else
    let r := { r with store := x.extractLsb' 32 23, sigma := x.extractLsb' 8 5 }
    if !bit x 63 then r
    else if regionBad y q n r then { r with err := true } else { r with en := true, err := false }

/-- FMTCFG_WRITE (R91). -/
def writeFmtcfg (s : State) (q : QuadId) (n : BitVec 4) (x : Word) : State :=
  s.updQuad q fun y => { y with fmt := y.fmt.set n.toFin ((y.fmt[n.toFin]).writeCfg y q n x) }

/-! ### Snapshots (R326) -/

/-- SNAPCTL_FIRE: a write to SNAPCTL that sets FIRE; LOCK and EN take their values first (R326, Table 36.6; log 76). -/
def writeSnapctl (s : State) (x : Word) : State :=
  let s := s.updDev fun d => { d with snapLock := bit x 63, snapEn := x.extractLsb' 32 4 }
  if bit x 36 then fireTrigger s 1 else s

end Sys2Proof.Machine
end

