-- ==== Sys2Proof/Machine/Registers.lean ====
section
/-! DEFINITION. The host-visible registers: where they lie, how they read, and what a write does (R328-R334, Tables 08.2,
08.3, 14.1, 14.8, 16.4, 16.5, 34.2, 36.3 to 36.12). -/

namespace Sys2Proof.Machine

/-- The registers of the BARs, by name. -/
inductive HostReg where
  | devstat | devctl | dbgctl | dbgstat | dbgtok | dbgnonce | snapctl | pkgid | lvtbase | pkgpwr | benchmap
  | watchlo (n : BitVec 2) | watchhi (n : BitVec 2)
  | htqcfg | htqhead | htqtail
  | scxsrc (i : BitVec 2) | scxdst (i : BitVec 2) | scxlen (i : BitVec 2) | scxctl (i : BitVec 2)
  | recbase | reclen | recgo
  | pbench (p : PartId) | pwrlim (p : PartId) | pboost (p : PartId) | hbmshr (p : PartId)
  | shbase (p : PartId) | shlo (p : PartId) | shhi (p : PartId) | vspill (p : PartId) | vspillcnt (p : PartId)
  | ctxsel (p : PartId) | spoilbase (p : PartId) | spoilcap (p : PartId) | defhead (p : PartId) | deftail (p : PartId)
  | llcway (p : PartId) (q : QuadId) | llcfhit (p : PartId) (q : QuadId)
  | tqcfg (p : PartId) | tqhead (p : PartId) | tqtail (p : PartId) | pstat (p : PartId) | pctl (p : PartId)
  | winbase (p : PartId) (n : BitVec 6) | winctl (p : PartId) (n : BitVec 6) | winpeer (p : PartId) (n : BitVec 6)
  | fmtspan (q : QuadId) (n : BitVec 4) | fmtcfg (q : QuadId) (n : BitVec 4) | fmtcnt (q : QuadId) (n : BitVec 4)
  | llcmnt (q : QuadId) | qpwr (q : QuadId)
  | vfbud (v : VfId) | vffeat (v : VfId) | vfsave (v : VfId) | vfctx (v : VfId) (hyp : Bool) | vfs2root (v : VfId)
  | vfpart (v : VfId)
  /-- a snapshot register, by its offset in their block -/
  | snap (o : Nat)
  | lqcfg (v : VfId) | lqhead (v : VfId) | lqerr (v : VfId) | lqtail (v : VfId)
  deriving DecidableEq, Repr, Inhabited

/-! ### Offsets (Tables 36.4, 36.5, 36.7, 36.9, 36.11) -/

/-- The device block, and the recovery mailbox (Table 36.5). -/
def devReg (o : Nat) : Option HostReg :=
  let i : BitVec 2 := BitVec.ofNat 2 ((o - 0x200) / 0x40)
  let n : BitVec 2 := BitVec.ofNat 2 ((o - 0x80) / 0x10)
  match o with
  | 0x000 => some .devstat
  | 0x008 => some .devctl
  | 0x010 => some .dbgctl
  | 0x018 => some .dbgstat
  | 0x020 => some .dbgtok
  | 0x028 => some .dbgnonce
  | 0x030 => some .snapctl
  | 0x038 => some .pkgid
  | 0x040 => some .lvtbase
  | 0x048 => some .pkgpwr
  | 0x050 => some .benchmap
  | 0x100 => some .htqcfg
  | 0x108 => some .htqhead
  | 0x110 => some .htqtail
  | 0x100000 => some .recbase
  | 0x100008 => some .reclen
  | 0x100010 => some .recgo
  | _ =>
    if 0x80 ≤ o ∧ o < 0xC0 then
      (if o % 0x10 = 0 then some (.watchlo n) else if o % 0x10 = 8 then some (.watchhi n) else none)
    else if 0x200 ≤ o ∧ o < 0x300 then
      (match o % 0x40 with
      | 0x00 => some (.scxsrc i)
      | 0x08 => some (.scxdst i)
      | 0x10 => some (.scxlen i)
      | 0x18 => some (.scxctl i)
      | _ => none)
    else none

/-- A partition block (Table 36.7). -/
def partReg (p : PartId) (o : Nat) : Option HostReg :=
  match o with
  | 0x000 => some (.pbench p)
  | 0x008 => some (.pwrlim p)
  | 0x010 => some (.pboost p)
  | 0x018 => some (.hbmshr p)
  | 0x020 => some (.shbase p)
  | 0x028 => some (.shlo p)
  | 0x030 => some (.shhi p)
  | 0x038 => some (.vspill p)
  | 0x040 => some (.vspillcnt p)
  | 0x048 => some (.ctxsel p)
  | 0x050 => some (.spoilbase p)
  | 0x058 => some (.spoilcap p)
  | 0x060 => some (.defhead p)
  | 0x068 => some (.deftail p)
  | 0x100 => some (.tqcfg p)
  | 0x108 => some (.tqhead p)
  | 0x110 => some (.tqtail p)
  | 0x118 => some (.pstat p)
  | 0x120 => some (.pctl p)
  | _ =>
    if 0x80 ≤ o ∧ o < 0xA0 ∧ o % 8 = 0 then some (.llcway p (BitVec.ofNat 2 ((o - 0x80) / 8)))
    else if 0xA0 ≤ o ∧ o < 0xC0 ∧ o % 8 = 0 then some (.llcfhit p (BitVec.ofNat 2 ((o - 0xA0) / 8)))
    else if 0x1000 ≤ o ∧ o < 0x1800 then
      let n : BitVec 6 := BitVec.ofNat 6 ((o - 0x1000) / 0x20)
      (match o % 0x20 with
      | 0x00 => some (.winbase p n)
      | 0x08 => some (.winctl p n)
      | 0x10 => some (.winpeer p n)
      | _ => none)
    else none

/-- A quadrant block (Table 36.9). -/
def quadReg (q : QuadId) (o : Nat) : Option HostReg :=
  if o = 0x400 then some (.llcmnt q)
  else if o = 0x408 then some (.qpwr q)
  else if o < 0x200 then
    let n : BitVec 4 := BitVec.ofNat 4 (o / 0x20)
    match o % 0x20 with
    | 0x00 => some (.fmtspan q n)
    | 0x08 => some (.fmtcfg q n)
    | 0x10 => some (.fmtcnt q n)
    | _ => none
  else none

/-- The hypervisor's view of a virtual function (Table 36.11). -/
def vfReg (v : VfId) (o : Nat) : Option HostReg :=
  match o with
  | 0x000 => some (.vfbud v)
  | 0x008 => some (.vffeat v)
  | 0x010 => some (.vfsave v)
  | 0x018 => some (.vfctx v true)
  | 0x020 => some (.vfs2root v)
  | 0x028 => some (.vfpart v)
  | _ => none

/-- The register at an offset of a BAR (Table 36.4). VF BAR0 holds LQCFG, LQHEAD and LQERR in this order (log 15). -/
def regAt (bar : Bar) (o : Nat) : Option HostReg :=
  match bar with
  | .pf0 =>
    if o < 0x200000 then devReg o
    else if o < 0x600000 then partReg (BitVec.ofNat 6 ((o - 0x200000) / 0x10000)) (o % 0x10000)
    else if o < 0x640000 then quadReg (BitVec.ofNat 2 ((o - 0x600000) / 0x10000)) (o % 0x10000)
    else if 0x800000 ≤ o ∧ o < 0x800000 + 96 * 0x1000 then vfReg (BitVec.ofNat 7 ((o - 0x800000) / 0x1000)) (o % 0x1000)
    else if 0x1000000 ≤ o ∧ o < 0x4000000 then some (.snap (o - 0x1000000))
    else none
  | .vf0 v =>
    if 96 ≤ v.toNat then none
    else
      match o with
      | 0x0000 => some (.lqcfg v)
      | 0x0008 => some (.lqhead v)
      | 0x0010 => some (.lqerr v)
      | 0x1000 => some (.lqtail v)
      | 0x2000 => some (.vfctx v false)
      | _ => none

/-! ### Reads -/

/-- Package power state: 0 P0, 3 P3. -/
def Device.pwr (d : Device) : BitVec 2 := if d.off then 3 else 0

/-- A field at a bit. -/
def field {n : Nat} (v : BitVec n) (lo : Nat) : Word := (v.setWidth 64) <<< lo

/-- TQCFG and HTQCFG (Table 16.4). -/
def Ring.cfg (r : Ring) : Word := field r.base 12 ||| field (BitVec.ofNat 4 r.log2n) 0

/-- PSTAT (Table 16.4). -/
def Part.pstat (p : Part) : Word :=
  field (BitVec.ofBool (p.halt != .none)) 63 ||| field (BitVec.ofBool p.lost) 62 ||| field (BitVec.ofBool p.perr) 61 |||
    field p.hcause 48 ||| field p.hbench 42 ||| field p.hcore 40 ||| field p.hstream 38 ||| field p.hunit 32 ||| field p.hseq 0

/-- VFCTX (Table 16.5). -/
def Vf.ctx (f : Vf) : Word := field (BitVec.ofBool f.ctxPend) 63 ||| field f.ctxRoot 12

/-- What a snapshot holds, as doublewords, with the quadrant of those latched in a bench or an LLC slice (R326). -/
def Snapshot.words (p : Snapshot) : List (Option QuadId × Word) :=
  let all (l : List Nat) : List (Option QuadId × Word) := l.map fun n => (none, BitVec.ofNat 64 n)
  let inQuad (q : QuadId) (l : List Nat) : List (Option QuadId × Word) := l.map fun n => (some q, BitVec.ofNat 64 n)
  let perQuad (l : List (List Nat)) : List (Option QuadId × Word) :=
    ((List.range 4).zip l).flatMap fun y => inQuad (BitVec.ofNat 2 y.1) y.2
  all [p.seq.toNat] ++
    (p.pcs.flatMap fun y => inQuad (benchQuad y.1) [y.2.2.2.1.toNat, y.2.2.2.2]) ++
    (p.cores.flatMap fun y => inQuad (benchQuad y.bench) ([y.phase.toNat] ++ y.queues ++ [y.copies] ++ y.tokens.map BitVec.toNat)) ++
    all (p.commands.flatMap fun y => [y.runs.toNat, y.command.toNat, y.counter, y.pending.toNat]) ++
    perQuad (p.fmtcnt.map fun l => l.flatMap fun y => [y.1.toNat, y.2.toNat]) ++
    (p.llcfhit.flatMap fun l => perQuad (l.map fun y => [y.toNat])) ++
    all (p.spillLost.map BitVec.toNat) ++
    all (p.pools.flatMap fun y => [y.1, y.2.1, y.2.2.1, y.2.2.2]) ++
    all p.windows.flatten ++
    all (p.launches.flatMap fun y => [y.1, y.2.1.toNat, y.2.2.toNat]) ++
    all (p.scx.flatMap fun y => [y.1, y.2]) ++
    all (p.links.1 ++ [p.links.2.1] ++ p.links.2.2) ++ all [p.htq]

/-- The doubleword that a snapshot register shows, with its quadrant; zero before any trigger, and where none lies (R326,
R328; log 66). -/
def State.snapWord (s : State) (o : Nat) : Option QuadId × Word :=
  ((Config.snapIndex o).bind fun n => s.dev.snap.bind fun p => (Snapshot.words p)[n]?).getD (none, 0)

/-- A register as it reads; a field that only writes reads zero, and so do bits for which Tables 16.4 and 16.5 name no field,
which a write leaves alone (log 89). -/
def readReg (s : State) : HostReg → Word
  | .devstat =>
    let d := s.dev
    field d.lc 62 ||| field d.dbg 60 ||| field d.pwr 58 ||| field d.stage 28 ||| field d.berr 24 |||
      field (d.rollback.extractLsb' 0 24) 0
  | .devctl => 0
  | .dbgctl => field s.dev.req 0
  | .dbgstat =>
    let d := s.dev
    field (BitVec.ofBool d.ret) 63 ||| field (BitVec.ofBool d.tokv) 62 ||| field (BitVec.ofBool d.tokerr) 61 ||| field d.pwr 0
  | .dbgtok => field s.dev.dbgtok 12
  | .dbgnonce => s.dev.nonce
  | .snapctl => field (BitVec.ofBool s.dev.snapLock) 63 ||| field s.dev.snapEn 32 ||| field s.dev.snapSeq 0
  | .pkgid => field s.dev.pkgid 0
  | .lvtbase => field s.dev.lvtBase 9 ||| field (BitVec.ofBool s.dev.lvtEn) 0
  | .pkgpwr => field s.dev.pkgpwr 0
  | .benchmap => s.dev.benchmap
  | .watchlo n => s.dev.watchLo[n.toFin]
  | .watchhi n => field s.dev.watchHi[n.toFin] 0
  | .htqcfg => s.dev.htq.cfg
  | .htqhead => field s.dev.htq.head 0
  | .htqtail => field s.dev.htq.tail 0
  | .scxsrc i => (s.scx[i.toFin]).src
  | .scxdst i => (s.scx[i.toFin]).dst
  | .scxlen i => field (s.scx[i.toFin]).len 0
  | .scxctl i => (s.scx[i.toFin]).ctl
  | .recbase => field s.dev.recBase 12
  | .reclen => field s.dev.recLen 0
  | .recgo => 0
  | .pbench p => (s.part p).bench
  | .pwrlim p => field (s.part p).pwrlim 0
  | .pboost p => field (BitVec.ofNat 7 (s.part p).permits) 8 ||| field (s.part p).step 0
  | .hbmshr p => field (s.part p).hbmshr 0
  | .shbase p => field (s.part p).shbase 12
  | .shlo p => field (s.part p).shlo 16
  | .shhi p => field (s.part p).shhi 16
  | .vspill p => field (s.part p).spillBase 12 ||| field (BitVec.ofNat 5 (s.part p).spillLog) 0
  | .vspillcnt p => (s.part p).spillLost
  | .ctxsel p => field (s.part p).ctxsel 0
  | .spoilbase p => field (s.part p).spoilBase 12
  | .spoilcap p => field (s.part p).spoilCount 48 ||| field (s.part p).spoilCap 0
  | .defhead p => (s.part p).defHead
  | .deftail p => (s.part p).defTail
  | .llcway p q => field (s.part p).llcway[q.toFin] 0
  | .llcfhit p q => (s.part p).llcfhit[q.toFin]
  | .tqcfg p => (s.part p).tq.cfg
  | .tqhead p => field (s.part p).tq.head 0
  | .tqtail p => field (s.part p).tq.tail 0
  | .pstat p => (s.part p).pstat
  | .pctl _ => 0
  | .winbase p n => ((s.part p).windows[n.toFin]).base
  | .winctl p n => ((s.part p).windows[n.toFin]).ctl
  | .winpeer p n => ((s.part p).windows[n.toFin]).peer
  | .fmtspan q n =>
    let r := (s.quads[q.toFin]).fmt[n.toFin]
    field r.limit 32 ||| field r.base 0
  | .fmtcfg q n =>
    let r := (s.quads[q.toFin]).fmt[n.toFin]
    field (BitVec.ofBool r.en) 63 ||| field (BitVec.ofBool r.err) 62 ||| field r.store 32 ||| field r.sigma 8
  | .fmtcnt q n =>
    let r := (s.quads[q.toFin]).fmt[n.toFin]
    field r.sat 32 ||| field r.uf 0
  | .llcmnt q =>
    let y := s.quads[q.toFin]
    field (BitVec.ofBool (y.mnt != 0)) 61 ||| field y.mntLimit 32 ||| field y.mntBase 0
  | .qpwr q => field (s.quads[q.toFin]).req 8 ||| field (s.quads[q.toFin]).pwr 0
  | .vfbud v => field (s.vf v).bucket 16 ||| field (s.vf v).slice 0
  | .vffeat v => field (s.vf v).feat 0
  | .vfsave v => field (s.vf v).saveBase 25 ||| field (s.vf v).saveCount 0
  | .vfctx v _ => (s.vf v).ctx
  | .vfs2root v => field (s.vf v).s2root 12 ||| field (BitVec.ofBool (s.vf v).s2en) 0
  | .vfpart v => field (BitVec.ofBool (s.vf v).partEn) 63 ||| field (s.vf v).part 0
  | .lqcfg v => field (s.vf v).lq.base 12 ||| field (BitVec.ofNat 5 (s.vf v).lq.log2n) 4 ||| field (BitVec.ofBool (s.vf v).lqEn) 0
  | .lqhead v => field (s.vf v).lq.head 0
  | .lqerr v =>
    field (BitVec.ofBool (s.vf v).lqErr) 63 ||| field (s.vf v).lqReason 32 ||| field (s.vf v).lqSeq 0
  | .lqtail v => field (s.vf v).lq.tail 0
  | .snap o => (s.snapWord o).2

/-- Does the host port present a BAR: PF BAR0 always, the others from step 7 of the start on (R318, Table 36.1)? -/
def barPresent (s : State) (bar : Bar) : Bool := match bar with
  | .pf0 => true
  | .vf0 _ => s.dev.ready

/-- What an offset of a BAR reads: an offset that the tables do not name reads zero (R328). -/
def readBar (s : State) (bar : Bar) (o : Nat) : Word :=
  if barPresent s bar then ((regAt bar o).map (readReg s)).getD 0 else 0

/-! ### Writes -/

/-- LOG2N of a ring: other values read back as the least (Tables 14.1, 16.4). -/
def ringLog (v lo hi : Nat) : Nat := if lo ≤ v ∧ v ≤ hi then v else lo

/-- TQCFG and HTQCFG: BASE and LOG2N. -/
def Ring.writeCfg (r : Ring) (x : Word) : Ring := { r with base := x.extractLsb' 12 36, log2n := ringLog (bits x 0 4) 3 12 }

/-- Is a function's queue off and none of its nodes running (R334)? -/
def vfQuiet (s : State) (v : VfId) : Bool :=
  !(s.vf v).lqEn && !(s.benches.toList.any fun g => (g.map fun g => g.vf == v).getD false)

/-- Are the spoil queue and the deferred list of a partition empty (R124)? -/
def Part.noSpoil (q : Part) : Bool := q.spoilCount == 0 && q.defHead == 0

/-- A write to WINBASE or WINPEER, ignored while the window is registered (R296). -/
def Window.writeOther (w : Window) (peer : Bool) (x : Word) : Window :=
  if bit w.ctl 63 then w
  else if peer then { w with peer := x &&& 0x3F7FFF#64 } else { w with base := x &&& 0xFFFFFFFF0000#64 }

/-- The package limit that a write stores: on the ZM480 at most its 3,000 W (R25, R323, Table 36.6). -/
def PartKind.clamp (k : PartKind) (w : BitVec 16) : BitVec 16 := match k with
  | .zm480 => if k.limit.ult w then k.limit else w
  | .zp480 | .zp448 => w

/-- A write to a register: its own behaviour, or its writable fields under their access codes (R328, R331 to R334). A
write to DEVCTL with WARM and READY starts warm, and READY has no effect (log 77); VFSAVE.COUNT above 64 becomes 64
(log 78); one to VFBUD leaves BUCKET as it is, also above the new SLICE (log 107). -/
def writeReg (s : State) (r : HostReg) (x : Word) : State :=
  match r with
  | .devstat => s
  | .devctl => if bit x 63 then warmStart s x else writeReady s x
  | .dbgctl => debugRequest s x
  | .dbgstat => s.updDev fun d => { d with ret := d.ret && !bit x 63, tokerr := d.tokerr && !bit x 61 }
  | .dbgtok => s.updDev fun d => { d with dbgtok := x.extractLsb' 12 52 }
  | .dbgnonce => s
  | .snapctl => writeSnapctl s x
  | .pkgid => s.updDev fun d => { d with pkgid := x.extractLsb' 0 8 }
  | .lvtbase => s.updDev fun d => { d with lvtBase := x.extractLsb' 9 39, lvtEn := bit x 0 }
  | .pkgpwr => s.updDev fun d => { d with pkgpwr := d.kind.clamp (x.extractLsb' 0 16) }
  | .benchmap => s
  | .watchlo n =>
    if s.dev.dbg = 2 then
      s.updDev fun d => { d with watchLo := d.watchLo.set n.toFin (x &&& 0xC00000FFFFFFFFFF#64) }
    else s
  | .watchhi n =>
    if s.dev.dbg = 2 then s.updDev fun d => { d with watchHi := d.watchHi.set n.toFin (x.extractLsb' 0 40) } else s
  | .htqcfg => s.updDev fun d => { d with htq := d.htq.writeCfg x }
  | .htqhead => writeHtqhead s x
  | .htqtail => s
  | .scxsrc i => s.updScx i fun y => if y.busy then y else { y with src := x }
  | .scxdst i => s.updScx i fun y => if y.busy then y else { y with dst := x }
  | .scxlen i => s.updScx i fun y => if y.busy then y else { y with len := x.extractLsb' 0 32 }
  | .scxctl i => scxGo s i x
  | .recbase => if s.dev.stage = 15 then s.updDev fun d => { d with recBase := x.extractLsb' 12 52 } else s
  | .reclen => if s.dev.stage = 15 then s.updDev fun d => { d with recLen := x.extractLsb' 0 27 } else s
  | .recgo => s
  | .pbench p => writePbench s p x
  | .pwrlim p => s.updPart p fun q => { q with pwrlim := x.extractLsb' 0 16 }
  | .pboost _ => s
  | .hbmshr p => s.updPart p fun q => { q with hbmshr := x.extractLsb' 0 8 }
  | .shbase p => if hasRunning s p then s else s.updPart p fun q => { q with shbase := x.extractLsb' 12 28 }
  | .shlo p => if hasRunning s p then s else s.updPart p fun q => { q with shlo := x.extractLsb' 16 24 }
  | .shhi p => if hasRunning s p then s else s.updPart p fun q => { q with shhi := x.extractLsb' 16 24 }
  | .vspill p =>
    if hasRunning s p then s
    else
      let n := bits x 0 5
      s.updPart p fun q => { q with spillBase := x.extractLsb' 12 28, spillLog := if 8 ≤ n ∧ n ≤ 24 then n else 0 }
  | .vspillcnt p => s.updPart p fun q => { q with spillLost := q.spillLost &&& ~~~x }
  | .ctxsel p => s.updPart p fun q => { q with ctxsel := x.extractLsb' 0 6 }
  | .spoilbase p => s.updPart p fun q => if q.noSpoil then { q with spoilBase := x.extractLsb' 12 28 } else q
  | .spoilcap p => s.updPart p fun q => if q.noSpoil then { q with spoilCap := x.extractLsb' 0 16, spoilHead := 0 } else q
  | .defhead _ => s
  | .deftail _ => s
  | .llcway p q => s.updPart p fun y => { y with llcway := y.llcway.set q.toFin (x.extractLsb' 0 16) }
  | .llcfhit p q => s.updPart p fun y => { y with llcfhit := y.llcfhit.set q.toFin (y.llcfhit[q.toFin] &&& ~~~x) }
  | .tqcfg p => s.updPart p fun q => { q with tq := q.tq.writeCfg x }
  | .tqhead p => writeTqhead s p x
  | .tqtail _ => s
  | .pstat p => s.updPart p fun q => { q with lost := q.lost && !bit x 62, perr := q.perr && !bit x 61 }
  | .pctl p => writePctl s p x
  | .winbase p n => s.updWindow p n fun w => w.writeOther false x
  | .winctl p n => writeWinctl s p n x
  | .winpeer p n => s.updWindow p n fun w => w.writeOther true x
  | .fmtspan q n =>
    s.updQuad q fun y =>
      let r := y.fmt[n.toFin]
      let r' := if r.en then r else { r with limit := x.extractLsb' 32 23, base := x.extractLsb' 0 23 }
      { y with fmt := y.fmt.set n.toFin r' }
  | .fmtcfg q n => writeFmtcfg s q n x
  | .fmtcnt q n =>
    s.updQuad q fun y =>
      let r := y.fmt[n.toFin]
      let r' := { r with sat := r.sat &&& ~~~(x.extractLsb' 32 32), uf := r.uf &&& ~~~(x.extractLsb' 0 32) }
      { y with fmt := y.fmt.set n.toFin r' }
  | .llcmnt q => maintenance s q (x.extractLsb' 62 2) x
  | .qpwr q => quadRequest s q x
  | .vfbud v =>
    let n : BitVec 16 := x.extractLsb' 0 16
    s.updVf v fun f => { f with slice := if n.ult 100 then 100 else n }
  | .vffeat v => s.updVf v fun f => { f with feat := x.extractLsb' 0 3 }
  | .vfsave v =>
    s.updVf v fun f => { f with
      saveBase := x.extractLsb' 25 23, saveCount := if 64 < bits x 0 7 then 64 else x.extractLsb' 0 7 }
  | .vfctx v hyp => if bit x 62 && !hyp then commitRoot s v x else writeRoot s v hyp x
  | .vfs2root v =>
    if vfQuiet s v then s.updVf v fun f => { f with s2root := x.extractLsb' 12 36, s2en := bit x 0 } else s
  | .vfpart v => if vfQuiet s v then s.updVf v fun f => { f with partEn := bit x 63, part := x.extractLsb' 0 6 } else s
  | .lqcfg v =>
    s.updVf v fun f => { f with
      lq := { f.lq with base := x.extractLsb' 12 36, log2n := ringLog (bits x 4 5) 4 16 }, lqEn := bit x 0 }
  | .lqhead _ => s
  | .lqerr v => s.updVf v fun f => { f with lqErr := f.lqErr && !bit x 63 }
  | .lqtail v => doorbell s v x
  | .snap _ => s

/-- REGISTER_WRITE: a write at an offset of a BAR; an offset that the tables do not name ignores it (R328). -/
def writeBar (s : State) (bar : Bar) (o : Nat) (x : Word) : State :=
  if barPresent s bar then
    match regAt bar o with
    | some r => writeReg s r x
    | none => s
  else s

/-! ### Debug accesses (R320, R322) -/

/-- An access through the debug window to a quadrant: in P2 a read returns zero, a write is refused, and RET is set; P1
wakes to P0 (R322). `look` is what the access itself does to the state. -/
def debugAccess (s : State) (q : QuadId) (write : Bool) (look : State → State) (read : State → Byte) (store : State → State) :
    State :=
  if (s.quads[q.toFin]).pwr = 2 then { s.updDev fun d => { d with ret := true } with out := if write then s.out else [0] }
  else
    let s := look (s.updQuad q fun y => { y with pwr := 0 })
    if write then store s else { s with out := [read s] }

/-- Bytes of a core's pool that the debug window reaches: the scratchpad of the gang on the bench, or, with none, the
whole pool, which shows what its scratchpad held (R81; log 51). -/
def poolSize (s : State) (b : BenchId) : Nat := ((s.gang? b).map Gang.scratchSize).getD (96 * 2 ^ 16)

/-- A byte of a core's pool. -/
def poolByte (s : State) (b : BenchId) (c : CoreId) (off : Nat) : Byte :=
  Memory.get (if (s.gang? b).isSome then (s.core b c).scratch else (s.pools[b.toFin])[c.toFin]) off

/-- Set a byte of a core's pool. -/
def setPool (s : State) (b : BenchId) (c : CoreId) (off : Nat) (v : Byte) : State :=
  if (s.gang? b).isSome then s.updCore b c fun k => { k with scratch := Memory.set k.scratch off v }
  else
    let l := s.pools[b.toFin]
    { s with pools := s.pools.set b.toFin (l.set c.toFin (Memory.set l[c.toFin] off v)) }

/-- Registers that an observe grant reads: DEVSTAT, PSTAT, counters and snapshots (R320). -/
def HostReg.observed : HostReg → Bool
  | .devstat | .pstat _ | .vspillcnt _ | .llcfhit _ _ | .fmtcnt _ _ | .snap _ => true
  | _ => false

/-- Does a register show what a bench or an LLC slice of a quadrant in retention holds: a snapshot, or a counter of the
slice (R322)? -/
def retained (s : State) : HostReg → Bool
  | .snap o => ((s.snapWord o).1.map fun q => (s.quads[q.toFin]).pwr == 2).getD false
  | .llcfhit _ q | .fmtcnt q _ => (s.quads[q.toFin]).pwr == 2
  | _ => false

/-- Does an invasive grant reach a partition: any in Manufacturing, one built wholly from benches of the mask in Secure
(R320)? -/
def invades (s : State) (p : PartId) : Bool := s.dev.dbg == 2 && (s.dev.lc == 0 || reachesPart s p)

/-- A debug access writes a register: an invasive grant stops a gang of a partition that it reaches, its quadrant awake,
and sets watch matches; nothing else is written (R320, R322, R325). -/
def debugWrite (s : State) (off : Nat) (x : Word) : State :=
  if s.dev.off then s
  else
    match regAt .pf0 off with
    | some (.pctl p) =>
      if invades s p && bits x 60 4 == 5 then pctlStop (wakeP1 s (benchQuad (pctlBench x))) p x else s
    | some (.watchlo n) => writeReg s (.watchlo n) x
    | some (.watchhi n) => writeReg s (.watchhi n) x
    | _ => s

/-- A debug access reads a register: DBGSTAT.PWR in every state; without a grant, or in P3, nothing else; on a Revoked
device DEVSTAT alone; else what an observe grant reads, of which pool and LLC in retention read zero and set RET. It wakes
nothing (R320, R322, Tables 36.2 and 36.6). -/
def debugRead (s : State) (off : Nat) : State :=
  let show' (v : Word) : State := { s with out := bytesOf v.toNat 8 }
  match regAt .pf0 off with
  | some .dbgstat => show' (field s.dev.pwr 0)
  | some r =>
    if s.dev.off || s.dev.dbg == 0 || !r.observed || (s.dev.lc == 2 && r != .devstat) then show' 0
    else if retained s r then { s.updDev fun d => { d with ret := true } with out := bytesOf 0 8 }
    else show' (readReg s r)
  | none => show' 0

/-- DEBUG_WINDOW_ACCESS: a register is read or written; of pools and memory one byte is read or written, only under an invasive
grant and once the host port presents the full layout; reads otherwise return zero (R318, R320, R322, R328). -/
def debugWindow (s : State) (write : Bool) (target : DbgTarget) (v : Byte) : State :=
  let denied : State := if write then s else { s with out := [0] }
  match target with
  | .reg off x => if write then debugWrite s off x else debugRead s off
  | .mem pa =>
    if s.dev.ready && !s.dev.off && reachesMem s pa.toNat then
      let look (s : State) : State := atHome s none (if write then .write else .read) pa.toNat 1
      debugAccess s (homeQuad pa.toNat) write look (fun s => physByte s pa.toNat) (fun s => physSet s pa.toNat v)
    else denied
  | .pool b c off =>
    if s.dev.ready && !s.dev.off && s.dev.reaches b && decide (off < poolSize s b) then
      debugAccess s (benchQuad b) write id (fun s => poolByte s b c off) (fun s => setPool s b c off v)
    else denied

end Sys2Proof.Machine
end

