-- ==== Sys2Proof/Machine/Happen.lean ====
section
/-! DEFINITION. The events of the table (95): the meaning of each. -/

namespace Sys2Proof.Machine

/-- Retransmission of a flit changes timing only (R293). -/
def retransmitFlit (s : State) (_ : BitVec 4) : State := s

/-- Retransmission of a datagram changes timing only (R299). -/
def retransmitUdp (s : State) (_ : Nat) : State := s

/-- An event happens: with the package in P3 nothing does but a cold start (R321). -/
def happen (s : State) (f : State → State) : Out := .next (if s.dev.off then s else f s)

/-- COL_PROGRAM_START (R301). -/
def execColProgramStart (i : BitVec 2) (s : State) : Out :=
  happen s fun s => colStart s i

/-- CP_RESULT_WRITE (R169). -/
def execCpResultWrite (b : BenchId) (c : CoreId) (s : State) : Out :=
  happen s fun s => cpResult s b c

/-- LONG_OP_LAND (R171). -/
def execLongOpLand (b : BenchId) (c : CoreId) (k : Nat) (s : State) : Out :=
  happen s fun s => longLand s b c k

/-- COPY_UNIT (R236). -/
def execCopyUnit (b : BenchId) (c : CoreId) (pick : Nat) (s : State) : Out :=
  happen s fun s => copyUnit s b c pick

/-- COPY_COMPLETE (R236). -/
def execCopyComplete (b : BenchId) (c : CoreId) (k : Nat) (s : State) : Out :=
  happen s fun s => copyComplete s b c k

/-- FLIP_COMPLETE (R35). -/
def execFlipComplete (b : BenchId) (c : CoreId) (s : State) : Out :=
  happen s fun s => flipComplete s b c

/-- NODE_RETIRE (R33). -/
def execNodeRetire (b : BenchId) (s : State) : Out :=
  happen s fun s => retireNode s b

/-- LAUNCH_DOORBELL, a write in the function's own BAR (R118, R318). -/
def execLaunchDoorbell (v : VfId) (x : Word) (s : State) : Out :=
  happen s fun s => if barPresent s (.vf0 v) then doorbell s v x else s

/-- LAUNCH_RECORD_CONSUME (R119). -/
def execLaunchRecordConsume (v : VfId) (s : State) : Out :=
  happen s fun s => consumeLaunch s v

/-- LAUNCH_REQUEST (R120). -/
def execLaunchRequest (port : BitVec 5) (tenant : BitVec 16) (win : BitVec 6) (node : Word) (s : State) : Out :=
  happen s fun s => launchRequest s port tenant win node

/-- DISPATCH (R125). -/
def execDispatch (p : PartId) (s : State) : Out :=
  happen s fun s => dispatchOne s p

/-- GANG_MIGRATE (R129). -/
def execGangMigrate (b : BenchId) (s : State) : Out :=
  happen s fun s => migrateGang s b

/-- HALT_LINE (R132). -/
def execHaltLine (p : PartId) (s : State) : Out :=
  happen s fun s => haltLine s p

/-- COPY_ABANDON (R132). -/
def execCopyAbandon (b : BenchId) (c : CoreId) (k : Nat) (s : State) : Out :=
  happen s fun s => copyAbandon s b c k

/-- COL_CONTEXT_STOP (R315). -/
def execColContextStop (i : BitVec 2) (s : State) : Out :=
  happen s fun s => contextStop s i

/-- PCTL_RESUME (R137). -/
def execPctlResume (p : PartId) (x : Word) (s : State) : Out :=
  happen s fun s => pctlResume s p x

/-- PCTL_ABORT (R137). -/
def execPctlAbort (p : PartId) (x : Word) (s : State) : Out :=
  happen s fun s => pctlAbort s p x

/-- PCTL_REPLAY (R139). -/
def execPctlReplay (p : PartId) (x : Word) (s : State) : Out :=
  happen s fun s => pctlReplay s p x

/-- PCTL_BARRIER (R112). -/
def execPctlBarrier (p : PartId) (_ : Word) (s : State) : Out :=
  happen s fun s => pctlBarrier s p

/-- PCTL_STOP (R142). -/
def execPctlStop (p : PartId) (x : Word) (s : State) : Out :=
  happen s fun s => pctlStop s p x

/-- PARTITION_BARRIER (R112). -/
def execPartitionBarrier (p : PartId) (s : State) : Out :=
  happen s fun s => partitionBarrier s p

/-- VF_GRANT (R149). -/
def execVfGrant (p : PartId) (s : State) : Out :=
  happen s fun s => grantVf s p

/-- SLICE_END (R142). -/
def execSliceEnd (p : PartId) (s : State) : Out :=
  happen s fun s => sliceEnd s p

/-- FORCED_EPILOGUE (R142). -/
def execForcedEpilogue (b : BenchId) (s : State) : Out :=
  happen s fun s => forceEpilogue s b

/-- EPILOGUE_SAVE (R144). -/
def execEpilogueSave (b : BenchId) (s : State) : Out :=
  happen s fun s => epilogueSave s b

/-- FULL_STOP (R146). -/
def execFullStop (b : BenchId) (s : State) : Out :=
  happen s fun s => fullStop s b

/-- VFCTX_ROOT_WRITE, in the function's own BAR or in the hypervisor's view (R150, R318). -/
def execVfctxRootWrite (v : VfId) (hyp : Bool) (x : Word) (s : State) : Out :=
  happen s fun s => if barPresent s (if hyp then .pf0 else .vf0 v) then writeRoot s v hyp x else s

/-- VFCTX_COMMIT, a write in the function's own BAR (R150, R318). -/
def execVfctxCommit (v : VfId) (x : Word) (s : State) : Out :=
  happen s fun s => if barPresent s (.vf0 v) then commitRoot s v x else s

/-- TQHEAD_WRITE (R136). -/
def execTqheadWrite (p : PartId) (x : Word) (s : State) : Out :=
  happen s fun s => writeTqhead s p x

/-- HTQHEAD_WRITE (R141). -/
def execHtqheadWrite (x : Word) (s : State) : Out :=
  happen s fun s => writeHtqhead s x

/-- FMTCFG_WRITE (R91). -/
def execFmtcfgWrite (q : QuadId) (n : BitVec 4) (x : Word) (s : State) : Out :=
  happen s fun s => writeFmtcfg s q n x

/-- PBENCH_WRITE (R148). -/
def execPbenchWrite (p : PartId) (x : Word) (s : State) : Out :=
  happen s fun s => writePbench s p x

/-- WINCTL_WRITE (R296). -/
def execWinctlWrite (p : PartId) (n : BitVec 6) (x : Word) (s : State) : Out :=
  happen s fun s => writeWinctl s p n x

/-- WINDOW_UNIT_ARRIVE (R297). -/
def execWindowUnitArrive (u : UnitMsg) (s : State) : Out :=
  happen s fun s => unitArrive s u

/-- RESIDENCY_REPORT (R311). -/
def execResidencyReport (src : Peer) (part : PartId) (tenant : BitVec 16) (resident : Bool) (s : State) :
    Out :=
  happen s fun s => residencyReport s src.eth src.id part tenant resident

/-- FLIT_RETRANSMIT (R293). -/
def execFlitRetransmit (port : BitVec 4) (s : State) : Out :=
  happen s fun s => retransmitFlit s port

/-- CREDIT_FLIT (R293). -/
def execCreditFlit (port : BitVec 4) (n : Nat) (s : State) : Out :=
  happen s fun s => creditFlit s port n

/-- LINK_DOWN (R295). -/
def execLinkDown (eth : Bool) (port : BitVec 4) (s : State) : Out :=
  happen s fun s => linkDown s eth port

/-- UDP_RETRANSMIT (R299). -/
def execUdpRetransmit (tag : Nat) (s : State) : Out :=
  happen s fun s => retransmitUdp s tag

/-- UDP_UNIT_TIMEOUT (R299). -/
def execUdpUnitTimeout (tag : Nat) (s : State) : Out :=
  happen s fun s => unitTimeout s tag

/-- UNCORRECTABLE_ECC (R131). -/
def execUncorrectableEcc (u : EccUnit) (s : State) : Out :=
  happen s fun s => eccError s u

/-- SCX_GO (R330). -/
def execScxGo (i : BitVec 2) (x : Word) (s : State) : Out :=
  happen s fun s => scxGo s i x

/-- SCX_COMPLETE (R330). -/
def execScxComplete (i : BitVec 2) (s : State) : Out :=
  happen s fun s => scxComplete s i

/-- LLCMNT_WRITEBACK (R329). -/
def execLlcmntWriteback (q : QuadId) (x : Word) (s : State) : Out :=
  happen s fun s => maintenance s q 1 x

/-- LLCMNT_WB_INVALIDATE (R329). -/
def execLlcmntWbInvalidate (q : QuadId) (x : Word) (s : State) : Out :=
  happen s fun s => maintenance s q 2 x

/-- LLCMNT_DONE (R329). -/
def execLlcmntDone (q : QuadId) (s : State) : Out :=
  happen s fun s => maintenanceDone s q

/-- COLD_START (R316). -/
def execColdStart (s : State) : Out :=
  .next (Sys2Proof.Machine.coldStart s)

/-- DEVCTL_WARM (R316). -/
def execDevctlWarm (x : Word) (s : State) : Out :=
  happen s fun s => warmStart s x

/-- DEVCTL_READY (R316). -/
def execDevctlReady (x : Word) (s : State) : Out :=
  happen s fun s => writeReady s x

/-- RECGO (R318). -/
def execRecgo (x : Word) (image : List Byte) (s : State) : Out :=
  happen s fun s => recoveryGo s x image

/-- LIFECYCLE_ADVANCE (R319). -/
def execLifecycleAdvance (lc : BitVec 2) (request : List Byte) (s : State) : Out :=
  happen s fun s => lifecycle s lc request

/-- DBGCTL_REQ (R320). -/
def execDbgctlReq (x : Word) (s : State) : Out :=
  happen s fun s => debugRequest s x

/-- DBGCTL_LOAD (R320). -/
def execDbgctlLoad (x : Word) (token : List Byte) (s : State) : Out :=
  happen s fun s => debugLoad s x token

/-- SNAPCTL_FIRE (R326). -/
def execSnapctlFire (x : Word) (s : State) : Out :=
  happen s fun s => writeSnapctl s x

/-- QPWR_REQ (R333). -/
def execQpwrReq (q : QuadId) (x : Word) (s : State) : Out :=
  happen s fun s => quadRequest s q x

/-- P2_ENTRY (R321). -/
def execP2Entry (q : QuadId) (s : State) : Out :=
  happen s fun s => enterP2 s q

/-- P1_ENTRY (R321). -/
def execP1Entry (q : QuadId) (s : State) : Out :=
  happen s fun s => enterP1 s q

/-- P1_WAKE (R321). -/
def execP1Wake (q : QuadId) (s : State) : Out :=
  happen s fun s => wakeP1 s q

/-- POWER_OFF (R321). -/
def execPowerOff (s : State) : Out :=
  happen s fun s => powerOff s

/-- POWER_WINDOW_END (R323). -/
def execPowerWindowEnd (package : Nat) (parts : List (PartId × Nat)) (s : State) : Out :=
  happen s fun s => powerWindow s package parts

/-- PERMIT_CHARGE (R324). -/
def execPermitCharge (q : QuadId) (s : State) : Out :=
  happen s fun s => permitCharge s q

/-- PERMIT_REFILL (R324). -/
def execPermitRefill (p : PartId) (s : State) : Out :=
  happen s fun s => permitRefill s p

/-- BOOST_FALL_END (R324). -/
def execBoostFallEnd (q : QuadId) (s : State) : Out :=
  happen s fun s => fallEnd s q

/-- BOOST_STEP_CHANGE (R324). -/
def execBoostStepChange (q : QuadId) (s : State) : Out :=
  happen s fun s => stepChange s q

/-- REGISTER_WRITE (R328). -/
def execRegisterWrite (bar : Bar) (off : Nat) (x : Word) (s : State) : Out :=
  happen s fun s => writeBar s bar off x

/-- BUCKET_ACCRUAL (R149). -/
def execBucketAccrual (v : VfId) (s : State) : Out :=
  happen s fun s => accrue s v

/-- LINK_RETRAIN (R295). -/
def execLinkRetrain (eth : Bool) (port : BitVec 4) (done : Bool) (s : State) : Out :=
  happen s fun s => linkRetrain s eth port done

/-- ARRIVAL_ACKNOWLEDGEMENT (R299). -/
def execArrivalAcknowledgement (peer : BitVec 8) (tag : Nat) (s : State) : Out :=
  happen s fun s => arrivalAck s peer tag

/-- REFUSED_UNIT (R297). -/
def execRefusedUnit (r : UnitRefusal) (s : State) : Out :=
  happen s fun s => refusedUnit s r.tag r.race

/-- GET_UNIT_RETURN (R298). -/
def execGetUnitReturn (tag : Nat) (data : List Byte) (s : State) : Out :=
  happen s fun s => getReturn s tag data

/-- HOST_MEMORY_ACCESS (R114). -/
def execHostMemoryAccess (write : Bool) (pa : BitVec 40) (n : Nat) (data : List Byte) (s : State) : Out :=
  happen s fun s => hostAccess s write pa n data

/-- DEBUG_WINDOW_ACCESS (R320); the debug port answers in P3 too (R322). -/
def execDebugWindowAccess (write : Bool) (target : DbgTarget) (data : Byte) (s : State) : Out :=
  .next (debugWindow s write target data)

/-- CONTEXT_WINDOW_ACCESS (R135). -/
def execContextWindowAccess (write : Bool) (addr : Word) (item : CtxItem) (s : State) : Out :=
  happen s fun s => contextWindow s write addr item

/-- TLB_INVALIDATE (R94). -/
def execTlbInvalidate (s : State) : Out :=
  happen s fun s => tlbInvalidate s

end Sys2Proof.Machine
end

