-- ==== Sys2Proof/Machine/Sc.lean ====
section
/-! DEFINITION. The SC-only words (20): the meaning of each. -/

namespace Sys2Proof.Machine

/-- FORK (R31). -/
def execFork (m : BitVec 3) (s : State) : Out :=
  runWord (.fork m) s

/-- JOIN (R32). -/
def execJoin (s : State) : Out :=
  runWord .join s

/-- AMO (R197). -/
def execAmo (f : BitVec 4) (w o c : BitVec 2) (d b t : BitVec 5) (s : State) : Out :=
  runWord (.amo f w o c d b t) s

/-- CAS (R198). -/
def execCas (w : BitVec 1) (o c : BitVec 2) (d b m t : BitVec 5) (s : State) : Out :=
  runWord (.cas w o c d b m t) s

/-- LDA (R199). -/
def execLda (z c : BitVec 2) (d b : BitVec 5) (o : BitVec 10) (s : State) : Out :=
  runWord (.lda z c d b o) s

/-- STRL (R199). -/
def execStrl (z c : BitVec 2) (d b : BitVec 5) (o : BitVec 10) (s : State) : Out :=
  runWord (.strl z c d b o) s

/-- FENCE (R200). -/
def execFence (k c : BitVec 2) (s : State) : Out :=
  runWord (.fence k c) s

/-- BARB (R201). -/
def execBarb (s : State) : Out :=
  runWord .barb s

/-- FUTINIT (R202). -/
def execFutinit (f : BitVec 5) (s : State) : Out :=
  runWord (.futinit f) s

/-- FUTREG (R202). -/
def execFutreg (f n : BitVec 5) (s : State) : Out :=
  runWord (.futreg f n) s

/-- FUTRES (R202). -/
def execFutres (f c : BitVec 5) (s : State) : Out :=
  runWord (.futres f c) s

/-- FUTFAIL (R202). -/
def execFutfail (f c : BitVec 5) (s : State) : Out :=
  runWord (.futfail f c) s

/-- NSPAWN (R203). -/
def execNspawn (s : BitVec 5) (st : State) : Out :=
  runWord (.nspawn s) st

/-- NEXIT (R33). -/
def execNexit (s : BitVec 5) (st : State) : Out :=
  runWord (.nexit s) st

/-- NYIELD (R203). -/
def execNyield (s : BitVec 5) (st : State) : Out :=
  runWord (.nyield s) st

/-- NSELF (R203). -/
def execNself (s : BitVec 5) (st : State) : Out :=
  runWord (.nself s) st

/-- COLGO (R204). -/
def execColgo (c : BitVec 2) (p a d : BitVec 5) (s : State) : Out :=
  runWord (.colgo c p a d) s

/-- COLQ (R313). -/
def execColq (c : BitVec 2) (d : BitVec 5) (s : State) : Out :=
  runWord (.colq c d) s

/-- CAPQ (R205). -/
def execCapq (s : BitVec 5) (st : State) : Out :=
  runWord (.capq s) st

/-- BOOST (R327). -/
def execBoost (s : BitVec 5) (st : State) : Out :=
  runWord (.boost s) st

/-- PERMQ (R327). -/
def execPermq (s : BitVec 5) (st : State) : Out :=
  runWord (.permq s) st

/-- SNAP (R327). -/
def execSnap (s : BitVec 5) (st : State) : Out :=
  runWord (.snap s) st

end Sys2Proof.Machine
end

