-- ==== Sys2Proof/Machine/Dispatch.lean ====
section
/-! DEFINITION. One arm for each instruction: the call of its meaning. -/

namespace Sys2Proof.Machine

def exec (i : Instr) (s : State) : Host.Outcome State Fault Refusal :=
  match i with
  | .aluAdd x0 x1 x2 x3 x4 x5 => Sys2Proof.Machine.execAluAdd x0 x1 x2 x3 x4 x5 s
  | .aluSub x0 x1 x2 x3 x4 x5 => Sys2Proof.Machine.execAluSub x0 x1 x2 x3 x4 x5 s
  | .aluMul x0 x1 x2 x3 x4 x5 => Sys2Proof.Machine.execAluMul x0 x1 x2 x3 x4 x5 s
  | .aluMulh x0 x1 x2 x3 x4 x5 => Sys2Proof.Machine.execAluMulh x0 x1 x2 x3 x4 x5 s
  | .aluMulhu x0 x1 x2 x3 x4 x5 => Sys2Proof.Machine.execAluMulhu x0 x1 x2 x3 x4 x5 s
  | .aluDiv x0 x1 x2 x3 x4 x5 => Sys2Proof.Machine.execAluDiv x0 x1 x2 x3 x4 x5 s
  | .aluDivu x0 x1 x2 x3 x4 x5 => Sys2Proof.Machine.execAluDivu x0 x1 x2 x3 x4 x5 s
  | .aluRem x0 x1 x2 x3 x4 x5 => Sys2Proof.Machine.execAluRem x0 x1 x2 x3 x4 x5 s
  | .aluRemu x0 x1 x2 x3 x4 x5 => Sys2Proof.Machine.execAluRemu x0 x1 x2 x3 x4 x5 s
  | .aluAnd x0 x1 x2 x3 x4 x5 => Sys2Proof.Machine.execAluAnd x0 x1 x2 x3 x4 x5 s
  | .aluOr x0 x1 x2 x3 x4 x5 => Sys2Proof.Machine.execAluOr x0 x1 x2 x3 x4 x5 s
  | .aluXor x0 x1 x2 x3 x4 x5 => Sys2Proof.Machine.execAluXor x0 x1 x2 x3 x4 x5 s
  | .aluAndn x0 x1 x2 x3 x4 x5 => Sys2Proof.Machine.execAluAndn x0 x1 x2 x3 x4 x5 s
  | .aluShl x0 x1 x2 x3 x4 x5 => Sys2Proof.Machine.execAluShl x0 x1 x2 x3 x4 x5 s
  | .aluShr x0 x1 x2 x3 x4 x5 => Sys2Proof.Machine.execAluShr x0 x1 x2 x3 x4 x5 s
  | .aluSar x0 x1 x2 x3 x4 x5 => Sys2Proof.Machine.execAluSar x0 x1 x2 x3 x4 x5 s
  | .alu2Min x0 x1 x2 x3 x4 x5 => Sys2Proof.Machine.execAlu2Min x0 x1 x2 x3 x4 x5 s
  | .alu2Max x0 x1 x2 x3 x4 x5 => Sys2Proof.Machine.execAlu2Max x0 x1 x2 x3 x4 x5 s
  | .alu2Minu x0 x1 x2 x3 x4 x5 => Sys2Proof.Machine.execAlu2Minu x0 x1 x2 x3 x4 x5 s
  | .alu2Maxu x0 x1 x2 x3 x4 x5 => Sys2Proof.Machine.execAlu2Maxu x0 x1 x2 x3 x4 x5 s
  | .alu2Clz x0 x1 x2 x3 x4 => Sys2Proof.Machine.execAlu2Clz x0 x1 x2 x3 x4 s
  | .alu2Ctz x0 x1 x2 x3 x4 => Sys2Proof.Machine.execAlu2Ctz x0 x1 x2 x3 x4 s
  | .alu2Popc x0 x1 x2 x3 x4 => Sys2Proof.Machine.execAlu2Popc x0 x1 x2 x3 x4 s
  | .alu2Brev x0 x1 x2 x3 x4 => Sys2Proof.Machine.execAlu2Brev x0 x1 x2 x3 x4 s
  | .alu2Bswap x0 x1 x2 x3 x4 => Sys2Proof.Machine.execAlu2Bswap x0 x1 x2 x3 x4 s
  | .alu2Sel x0 x1 x2 x3 x4 x5 => Sys2Proof.Machine.execAlu2Sel x0 x1 x2 x3 x4 x5 s
  | .alu2Rol x0 x1 x2 x3 x4 x5 => Sys2Proof.Machine.execAlu2Rol x0 x1 x2 x3 x4 x5 s
  | .alu2Ror x0 x1 x2 x3 x4 x5 => Sys2Proof.Machine.execAlu2Ror x0 x1 x2 x3 x4 x5 s
  | .addi x0 x1 x2 x3 => Sys2Proof.Machine.execAddi x0 x1 x2 x3 s
  | .logiAndi x0 x1 x2 x3 => Sys2Proof.Machine.execLogiAndi x0 x1 x2 x3 s
  | .logiOri x0 x1 x2 x3 => Sys2Proof.Machine.execLogiOri x0 x1 x2 x3 s
  | .logiXori x0 x1 x2 x3 => Sys2Proof.Machine.execLogiXori x0 x1 x2 x3 s
  | .shiShl x0 x1 x2 x3 => Sys2Proof.Machine.execShiShl x0 x1 x2 x3 s
  | .shiShr x0 x1 x2 x3 => Sys2Proof.Machine.execShiShr x0 x1 x2 x3 s
  | .shiSar x0 x1 x2 x3 => Sys2Proof.Machine.execShiSar x0 x1 x2 x3 s
  | .shiRor x0 x1 x2 x3 => Sys2Proof.Machine.execShiRor x0 x1 x2 x3 s
  | .li x0 x1 x2 => Sys2Proof.Machine.execLi x0 x1 x2 s
  | .lih x0 x1 x2 => Sys2Proof.Machine.execLih x0 x1 x2 s
  | .cmp x0 x1 x2 x3 x4 x5 => Sys2Proof.Machine.execCmp x0 x1 x2 x3 x4 x5 s
  | .cmpi x0 x1 x2 x3 x4 => Sys2Proof.Machine.execCmpi x0 x1 x2 x3 x4 s
  | .fopAnd x0 x1 x2 x3 => Sys2Proof.Machine.execFopAnd x0 x1 x2 x3 s
  | .fopOr x0 x1 x2 x3 => Sys2Proof.Machine.execFopOr x0 x1 x2 x3 s
  | .fopXor x0 x1 x2 x3 => Sys2Proof.Machine.execFopXor x0 x1 x2 x3 s
  | .fopAndn x0 x1 x2 x3 => Sys2Proof.Machine.execFopAndn x0 x1 x2 x3 s
  | .fopNot x0 x1 x2 => Sys2Proof.Machine.execFopNot x0 x1 x2 s
  | .fopSet x0 x1 => Sys2Proof.Machine.execFopSet x0 x1 s
  | .fopClr x0 x1 => Sys2Proof.Machine.execFopClr x0 x1 s
  | .bfBfx x0 x1 x2 x3 x4 => Sys2Proof.Machine.execBfBfx x0 x1 x2 x3 x4 s
  | .bfBfxu x0 x1 x2 x3 x4 => Sys2Proof.Machine.execBfBfxu x0 x1 x2 x3 x4 s
  | .bfBfi x0 x1 x2 x3 x4 => Sys2Proof.Machine.execBfBfi x0 x1 x2 x3 x4 s
  | .pbr x0 x1 x2 => Sys2Proof.Machine.execPbr x0 x1 x2 s
  | .pbrReg x0 x1 x2 => Sys2Proof.Machine.execPbrReg x0 x1 x2 s
  | .br x0 x1 x2 => Sys2Proof.Machine.execBr x0 x1 x2 s
  | .brl x0 x1 x2 => Sys2Proof.Machine.execBrl x0 x1 x2 s
  | .loop x0 x1 x2 => Sys2Proof.Machine.execLoop x0 x1 x2 s
  | .kloop x0 x1 x2 x3 x4 x5 => Sys2Proof.Machine.execKloop x0 x1 x2 x3 x4 x5 s
  | .lds x0 x1 x2 x3 x4 x5 x6 => Sys2Proof.Machine.execLds x0 x1 x2 x3 x4 x5 x6 s
  | .sts x0 x1 x2 x3 x4 x5 => Sys2Proof.Machine.execSts x0 x1 x2 x3 x4 x5 s
  | .xmovMovc x0 x1 x2 => Sys2Proof.Machine.execXmovMovc x0 x1 x2 s
  | .xmovMovtc x0 x1 x2 => Sys2Proof.Machine.execXmovMovtc x0 x1 x2 s
  | .xmovRdsr x0 x1 x2 => Sys2Proof.Machine.execXmovRdsr x0 x1 x2 s
  | .xmovWrsr x0 x1 x2 => Sys2Proof.Machine.execXmovWrsr x0 x1 x2 s
  | .xmovMovb x0 x1 x2 => Sys2Proof.Machine.execXmovMovb x0 x1 x2 s
  | .flip x0 => Sys2Proof.Machine.execFlip x0 s
  | .endStream x0 => Sys2Proof.Machine.execEnd x0 s
  | .pdecl x0 x1 x2 x3 x4 => Sys2Proof.Machine.execPdecl x0 x1 x2 x3 x4 s
  | .tlwait x0 x1 x2 => Sys2Proof.Machine.execTlwait x0 x1 x2 s
  | .tlrd x0 x1 x2 => Sys2Proof.Machine.execTlrd x0 x1 x2 s
  | .tsig x0 x1 => Sys2Proof.Machine.execTsig x0 x1 s
  | .twait x0 x1 => Sys2Proof.Machine.execTwait x0 x1 s
  | .nop x0 => Sys2Proof.Machine.execNop x0 s
  | .trap x0 x1 => Sys2Proof.Machine.execTrap x0 x1 s
  | .brk x0 x1 => Sys2Proof.Machine.execBrk x0 x1 s
  | .fork x0 => Sys2Proof.Machine.execFork x0 s
  | .join => Sys2Proof.Machine.execJoin s
  | .amo x0 x1 x2 x3 x4 x5 x6 => Sys2Proof.Machine.execAmo x0 x1 x2 x3 x4 x5 x6 s
  | .cas x0 x1 x2 x3 x4 x5 x6 => Sys2Proof.Machine.execCas x0 x1 x2 x3 x4 x5 x6 s
  | .lda x0 x1 x2 x3 x4 => Sys2Proof.Machine.execLda x0 x1 x2 x3 x4 s
  | .strl x0 x1 x2 x3 x4 => Sys2Proof.Machine.execStrl x0 x1 x2 x3 x4 s
  | .fence x0 x1 => Sys2Proof.Machine.execFence x0 x1 s
  | .barb => Sys2Proof.Machine.execBarb s
  | .futinit x0 => Sys2Proof.Machine.execFutinit x0 s
  | .futreg x0 x1 => Sys2Proof.Machine.execFutreg x0 x1 s
  | .futres x0 x1 => Sys2Proof.Machine.execFutres x0 x1 s
  | .futfail x0 x1 => Sys2Proof.Machine.execFutfail x0 x1 s
  | .nspawn x0 => Sys2Proof.Machine.execNspawn x0 s
  | .nexit x0 => Sys2Proof.Machine.execNexit x0 s
  | .nyield x0 => Sys2Proof.Machine.execNyield x0 s
  | .nself x0 => Sys2Proof.Machine.execNself x0 s
  | .colgo x0 x1 x2 x3 => Sys2Proof.Machine.execColgo x0 x1 x2 x3 s
  | .colq x0 x1 => Sys2Proof.Machine.execColq x0 x1 s
  | .capq x0 => Sys2Proof.Machine.execCapq x0 s
  | .boost x0 => Sys2Proof.Machine.execBoost x0 s
  | .permq x0 => Sys2Proof.Machine.execPermq x0 s
  | .snap x0 => Sys2Proof.Machine.execSnap x0 s
  | .vld x0 x1 x2 x3 x4 x5 => Sys2Proof.Machine.execVld x0 x1 x2 x3 x4 x5 s
  | .vlds x0 x1 x2 x3 x4 x5 => Sys2Proof.Machine.execVlds x0 x1 x2 x3 x4 x5 s
  | .vst x0 x1 x2 x3 x4 => Sys2Proof.Machine.execVst x0 x1 x2 x3 x4 s
  | .vsts x0 x1 x2 x3 x4 => Sys2Proof.Machine.execVsts x0 x1 x2 x3 x4 s
  | .qld x0 x1 x2 x3 x4 x5 => Sys2Proof.Machine.execQld x0 x1 x2 x3 x4 x5 s
  | .qst x0 x1 x2 x3 x4 x5 => Sys2Proof.Machine.execQst x0 x1 x2 x3 x4 x5 s
  | .spld x0 x1 x2 x3 x4 x5 => Sys2Proof.Machine.execSpld x0 x1 x2 x3 x4 x5 s
  | .spst x0 x1 x2 x3 x4 => Sys2Proof.Machine.execSpst x0 x1 x2 x3 x4 s
  | .spcp x0 x1 x2 x3 x4 => Sys2Proof.Machine.execSpcp x0 x1 x2 x3 x4 s
  | .gather x0 x1 x2 x3 x4 x5 => Sys2Proof.Machine.execGather x0 x1 x2 x3 x4 x5 s
  | .scatter x0 x1 x2 x3 x4 => Sys2Proof.Machine.execScatter x0 x1 x2 x3 x4 s
  | .scatterAdd x0 x1 x2 x3 x4 => Sys2Proof.Machine.execScatterAdd x0 x1 x2 x3 x4 s
  | .put x0 x1 x2 x3 x4 x5 => Sys2Proof.Machine.execPut x0 x1 x2 x3 x4 x5 s
  | .get x0 x1 x2 x3 x4 x5 => Sys2Proof.Machine.execGet x0 x1 x2 x3 x4 x5 s
  | .pref x0 x1 x2 x3 => Sys2Proof.Machine.execPref x0 x1 x2 x3 s
  | .cbatch => Sys2Proof.Machine.execCbatch s
  | .tlwaitOut x0 => Sys2Proof.Machine.execTlwaitOut x0 s
  | .vf32 x0 x1 x2 x3 x4 x5 => Sys2Proof.Machine.execVf32 x0 x1 x2 x3 x4 x5 s
  | .vf64 x0 x1 x2 x3 x4 x5 => Sys2Proof.Machine.execVf64 x0 x1 x2 x3 x4 x5 s
  | .vf16 x0 x1 x2 x3 x4 x5 => Sys2Proof.Machine.execVf16 x0 x1 x2 x3 x4 x5 s
  | .vbf16 x0 x1 x2 x3 x4 x5 => Sys2Proof.Machine.execVbf16 x0 x1 x2 x3 x4 x5 s
  | .vfcmp x0 x1 x2 x3 x4 x5 => Sys2Proof.Machine.execVfcmp x0 x1 x2 x3 x4 x5 s
  | .vi32 x0 x1 x2 x3 x4 x5 x6 => Sys2Proof.Machine.execVi32 x0 x1 x2 x3 x4 x5 x6 s
  | .vi16 x0 x1 x2 x3 x4 x5 x6 => Sys2Proof.Machine.execVi16 x0 x1 x2 x3 x4 x5 x6 s
  | .vi8 x0 x1 x2 x3 x4 x5 x6 => Sys2Proof.Machine.execVi8 x0 x1 x2 x3 x4 x5 x6 s
  | .vi64 x0 x1 x2 x3 x4 x5 x6 => Sys2Proof.Machine.execVi64 x0 x1 x2 x3 x4 x5 x6 s
  | .vlogic x0 x1 x2 x3 x4 => Sys2Proof.Machine.execVlogic x0 x1 x2 x3 x4 s
  | .vicmp x0 x1 x2 x3 x4 x5 => Sys2Proof.Machine.execVicmp x0 x1 x2 x3 x4 x5 s
  | .vcvt x0 x1 x2 x3 x4 x5 => Sys2Proof.Machine.execVcvt x0 x1 x2 x3 x4 x5 s
  | .vmoveMov x0 x1 x2 => Sys2Proof.Machine.execVmoveMov x0 x1 x2 s
  | .vmoveSel x0 x1 x2 x3 x4 => Sys2Proof.Machine.execVmoveSel x0 x1 x2 x3 x4 s
  | .vmoveImm x0 x1 x2 => Sys2Proof.Machine.execVmoveImm x0 x1 x2 s
  | .vmoveIota x0 x1 => Sys2Proof.Machine.execVmoveIota x0 x1 s
  | .vmoveXtr x0 x1 x2 x3 => Sys2Proof.Machine.execVmoveXtr x0 x1 x2 x3 s
  | .vmoveIns x0 x1 x2 x3 => Sys2Proof.Machine.execVmoveIns x0 x1 x2 x3 s
  | .vrot x0 x1 x2 x3 x4 => Sys2Proof.Machine.execVrot x0 x1 x2 x3 x4 s
  | .vbc x0 x1 x2 x3 x4 => Sys2Proof.Machine.execVbc x0 x1 x2 x3 x4 s
  | .vred x0 x1 x2 x3 x4 x5 => Sys2Proof.Machine.execVred x0 x1 x2 x3 x4 x5 s
  | .vtrg x0 x1 x2 => Sys2Proof.Machine.execVtrg x0 x1 x2 s
  | .vperm x0 x1 x2 x3 => Sys2Proof.Machine.execVperm x0 x1 x2 x3 s
  | .vsort x0 x1 x2 x3 x4 => Sys2Proof.Machine.execVsort x0 x1 x2 x3 x4 s
  | .pred x0 x1 x2 x3 x4 => Sys2Proof.Machine.execPred x0 x1 x2 x3 x4 s
  | .xfRd x0 x1 => Sys2Proof.Machine.execXfRd x0 x1 s
  | .xfClr x0 x1 => Sys2Proof.Machine.execXfClr x0 x1 s
  | .xfSet x0 x1 => Sys2Proof.Machine.execXfSet x0 x1 s
  | .psel x0 x1 x2 x3 x4 => Sys2Proof.Machine.execPsel x0 x1 x2 x3 x4 s
  | .sf32 x0 x1 x2 x3 x4 => Sys2Proof.Machine.execSf32 x0 x1 x2 x3 x4 s
  | .sf64 x0 x1 x2 x3 x4 => Sys2Proof.Machine.execSf64 x0 x1 x2 x3 x4 s
  | .ckEnc x0 x1 x2 x3 => Sys2Proof.Machine.execCkEnc x0 x1 x2 x3 s
  | .ckDec x0 x1 x2 x3 => Sys2Proof.Machine.execCkDec x0 x1 x2 x3 s
  | .ckAdd x0 x1 x2 x3 x4 => Sys2Proof.Machine.execCkAdd x0 x1 x2 x3 x4 s
  | .ckSub x0 x1 x2 x3 x4 => Sys2Proof.Machine.execCkSub x0 x1 x2 x3 x4 s
  | .ckInbox x0 x1 x2 x3 x4 => Sys2Proof.Machine.execCkInbox x0 x1 x2 x3 x4 s
  | .ckNext x0 x1 x2 x3 x4 => Sys2Proof.Machine.execCkNext x0 x1 x2 x3 x4 s
  | .cksplit x0 x1 x2 x3 x4 => Sys2Proof.Machine.execCksplit x0 x1 x2 x3 x4 s
  | .mma x0 x1 x2 x3 x4 x5 x6 x7 => Sys2Proof.Machine.execMma x0 x1 x2 x3 x4 x5 x6 x7 s
  | .mmaq x0 x1 x2 x3 x4 x5 => Sys2Proof.Machine.execMmaq x0 x1 x2 x3 x4 x5 s
  | .mchb x0 x1 => Sys2Proof.Machine.execMchb x0 x1 s
  | .mche x0 x1 x2 x3 x4 => Sys2Proof.Machine.execMche x0 x1 x2 x3 x4 s
  | .mzero x0 x1 => Sys2Proof.Machine.execMzero x0 x1 s
  | .mred x0 x1 => Sys2Proof.Machine.execMred x0 x1 s
  | .mlda x0 x1 x2 => Sys2Proof.Machine.execMlda x0 x1 x2 s
  | .csend x0 x1 x2 x3 x4 => Sys2Proof.Machine.execCsend x0 x1 x2 x3 x4 s
  | .cred x0 x1 x2 x3 x4 x5 x6 => Sys2Proof.Machine.execCred x0 x1 x2 x3 x4 x5 x6 s
  | .ccopy x0 x1 x2 x3 => Sys2Proof.Machine.execCcopy x0 x1 x2 x3 s
  | .cwait x0 x1 x2 => Sys2Proof.Machine.execCwait x0 x1 x2 s
  | .csig x0 x1 => Sys2Proof.Machine.execCsig x0 x1 s
  | .cloop x0 x1 => Sys2Proof.Machine.execCloop x0 x1 s
  | .cend => Sys2Proof.Machine.execCend s
  | .crv x0 => Sys2Proof.Machine.execCrv x0 s
  | .cbw x0 x1 => Sys2Proof.Machine.execCbw x0 x1 s
  | .cnop => Sys2Proof.Machine.execCnop s
  | .colProgramStart x0 => Sys2Proof.Machine.execColProgramStart x0 s
  | .cpResultWrite x0 x1 => Sys2Proof.Machine.execCpResultWrite x0 x1 s
  | .longOpLand x0 x1 x2 => Sys2Proof.Machine.execLongOpLand x0 x1 x2 s
  | .copyUnit x0 x1 x2 => Sys2Proof.Machine.execCopyUnit x0 x1 x2 s
  | .copyComplete x0 x1 x2 => Sys2Proof.Machine.execCopyComplete x0 x1 x2 s
  | .flipComplete x0 x1 => Sys2Proof.Machine.execFlipComplete x0 x1 s
  | .nodeRetire x0 => Sys2Proof.Machine.execNodeRetire x0 s
  | .launchDoorbell x0 x1 => Sys2Proof.Machine.execLaunchDoorbell x0 x1 s
  | .launchRecordConsume x0 => Sys2Proof.Machine.execLaunchRecordConsume x0 s
  | .launchRequest x0 x1 x2 x3 => Sys2Proof.Machine.execLaunchRequest x0 x1 x2 x3 s
  | .dispatch x0 => Sys2Proof.Machine.execDispatch x0 s
  | .gangMigrate x0 => Sys2Proof.Machine.execGangMigrate x0 s
  | .haltLine x0 => Sys2Proof.Machine.execHaltLine x0 s
  | .copyAbandon x0 x1 x2 => Sys2Proof.Machine.execCopyAbandon x0 x1 x2 s
  | .colContextStop x0 => Sys2Proof.Machine.execColContextStop x0 s
  | .pctlResume x0 x1 => Sys2Proof.Machine.execPctlResume x0 x1 s
  | .pctlAbort x0 x1 => Sys2Proof.Machine.execPctlAbort x0 x1 s
  | .pctlReplay x0 x1 => Sys2Proof.Machine.execPctlReplay x0 x1 s
  | .pctlBarrier x0 x1 => Sys2Proof.Machine.execPctlBarrier x0 x1 s
  | .pctlStop x0 x1 => Sys2Proof.Machine.execPctlStop x0 x1 s
  | .partitionBarrier x0 => Sys2Proof.Machine.execPartitionBarrier x0 s
  | .vfGrant x0 => Sys2Proof.Machine.execVfGrant x0 s
  | .sliceEnd x0 => Sys2Proof.Machine.execSliceEnd x0 s
  | .forcedEpilogue x0 => Sys2Proof.Machine.execForcedEpilogue x0 s
  | .epilogueSave x0 => Sys2Proof.Machine.execEpilogueSave x0 s
  | .fullStop x0 => Sys2Proof.Machine.execFullStop x0 s
  | .vfctxRootWrite x0 x1 x2 => Sys2Proof.Machine.execVfctxRootWrite x0 x1 x2 s
  | .vfctxCommit x0 x1 => Sys2Proof.Machine.execVfctxCommit x0 x1 s
  | .tqheadWrite x0 x1 => Sys2Proof.Machine.execTqheadWrite x0 x1 s
  | .htqheadWrite x0 => Sys2Proof.Machine.execHtqheadWrite x0 s
  | .fmtcfgWrite x0 x1 x2 => Sys2Proof.Machine.execFmtcfgWrite x0 x1 x2 s
  | .pbenchWrite x0 x1 => Sys2Proof.Machine.execPbenchWrite x0 x1 s
  | .winctlWrite x0 x1 x2 => Sys2Proof.Machine.execWinctlWrite x0 x1 x2 s
  | .windowUnitArrive x0 => Sys2Proof.Machine.execWindowUnitArrive x0 s
  | .residencyReport x0 x1 x2 x3 => Sys2Proof.Machine.execResidencyReport x0 x1 x2 x3 s
  | .flitRetransmit x0 => Sys2Proof.Machine.execFlitRetransmit x0 s
  | .creditFlit x0 x1 => Sys2Proof.Machine.execCreditFlit x0 x1 s
  | .linkDown x0 x1 => Sys2Proof.Machine.execLinkDown x0 x1 s
  | .udpRetransmit x0 => Sys2Proof.Machine.execUdpRetransmit x0 s
  | .udpUnitTimeout x0 => Sys2Proof.Machine.execUdpUnitTimeout x0 s
  | .uncorrectableEcc x0 => Sys2Proof.Machine.execUncorrectableEcc x0 s
  | .scxGo x0 x1 => Sys2Proof.Machine.execScxGo x0 x1 s
  | .scxComplete x0 => Sys2Proof.Machine.execScxComplete x0 s
  | .llcmntWriteback x0 x1 => Sys2Proof.Machine.execLlcmntWriteback x0 x1 s
  | .llcmntWbInvalidate x0 x1 => Sys2Proof.Machine.execLlcmntWbInvalidate x0 x1 s
  | .llcmntDone x0 => Sys2Proof.Machine.execLlcmntDone x0 s
  | .coldStart => Sys2Proof.Machine.execColdStart s
  | .devctlWarm x0 => Sys2Proof.Machine.execDevctlWarm x0 s
  | .devctlReady x0 => Sys2Proof.Machine.execDevctlReady x0 s
  | .recgo x0 x1 => Sys2Proof.Machine.execRecgo x0 x1 s
  | .lifecycleAdvance x0 x1 => Sys2Proof.Machine.execLifecycleAdvance x0 x1 s
  | .dbgctlReq x0 => Sys2Proof.Machine.execDbgctlReq x0 s
  | .dbgctlLoad x0 x1 => Sys2Proof.Machine.execDbgctlLoad x0 x1 s
  | .snapctlFire x0 => Sys2Proof.Machine.execSnapctlFire x0 s
  | .qpwrReq x0 x1 => Sys2Proof.Machine.execQpwrReq x0 x1 s
  | .p2Entry x0 => Sys2Proof.Machine.execP2Entry x0 s
  | .p1Entry x0 => Sys2Proof.Machine.execP1Entry x0 s
  | .p1Wake x0 => Sys2Proof.Machine.execP1Wake x0 s
  | .powerOff => Sys2Proof.Machine.execPowerOff s
  | .powerWindowEnd x0 x1 => Sys2Proof.Machine.execPowerWindowEnd x0 x1 s
  | .permitCharge x0 => Sys2Proof.Machine.execPermitCharge x0 s
  | .permitRefill x0 => Sys2Proof.Machine.execPermitRefill x0 s
  | .boostFallEnd x0 => Sys2Proof.Machine.execBoostFallEnd x0 s
  | .boostStepChange x0 => Sys2Proof.Machine.execBoostStepChange x0 s
  | .registerWrite x0 x1 x2 => Sys2Proof.Machine.execRegisterWrite x0 x1 x2 s
  | .bucketAccrual x0 => Sys2Proof.Machine.execBucketAccrual x0 s
  | .linkRetrain x0 x1 x2 => Sys2Proof.Machine.execLinkRetrain x0 x1 x2 s
  | .arrivalAcknowledgement x0 x1 => Sys2Proof.Machine.execArrivalAcknowledgement x0 x1 s
  | .refusedUnit x0 => Sys2Proof.Machine.execRefusedUnit x0 s
  | .getUnitReturn x0 x1 => Sys2Proof.Machine.execGetUnitReturn x0 x1 s
  | .hostMemoryAccess x0 x1 x2 x3 => Sys2Proof.Machine.execHostMemoryAccess x0 x1 x2 x3 s
  | .debugWindowAccess x0 x1 x2 => Sys2Proof.Machine.execDebugWindowAccess x0 x1 x2 s
  | .contextWindowAccess x0 x1 x2 => Sys2Proof.Machine.execContextWindowAccess x0 x1 x2 s
  | .tlbInvalidate => Sys2Proof.Machine.execTlbInvalidate s

end Sys2Proof.Machine
end

