-- ==== Sys2Proof/Machine/Fetch.lean ====
section
/-! DEFINITION. Whose turn it is, and the word that an agent fetches (R28, R151, R154, R301-R303; log 1). -/

namespace Sys2Proof.Machine

/-- The turn that a step takes: the first of the agenda, else the free choice (log 1). -/
def nextTurn (s : State) : Turn × State :=
  match s.agenda with
  | t :: r => (t, { s with agenda := r })
  | [] => (Config.turn s.ticks, s)

/-- The format of a stream's words (Table 02.2). -/
def streamFormat (t : StreamId) : Format :=
  match t with
  | 0 => .sc
  | 1 => .ld
  | 2 => .cp
  | _ => .st

/-- What the turn of an agent comes to before any word is performed: the word it performs, or, where there is none, the
state that the turn leaves. -/
inductive Fetched where
  | word (i : Instr) (s : State)
  | done (s : State)
  deriving DecidableEq, Repr

/-- Address of the next word of a stream: in CP, past the words of the bundle collected so far (R155). -/
def Stream.fetchAddr (st : Stream) : Word := st.pc + 4 * BitVec.ofNat 64 st.bundle.length

/-- A stream fetches and decodes its next word (R28, R152, R154). -/
def fetchStream (s : State) (b : BenchId) (c : CoreId) (t : StreamId) : Fetched :=
  if !s.canIssue b c t then .done s
  else
    let st := s.stream b c t
    match fetchWord s (whoStream s b c) st.fetchAddr with
    | none =>
      .done (takeFault (fetchMissed s (whoStream s b c) st.fetchAddr) b c t 0 st.pc { cause := 0x04, addr := st.fetchAddr })
    | some (w, s) =>
      match decode (streamFormat t) w with
      | .ok i => .word i { s with cur := some (.stream b c t) }
      | .error _ => .done (runBadWord s b c t w)

/-- A context fetches and decodes its next command (R301, R303). -/
def fetchContext (s : State) (i : BitVec 2) : Fetched :=
  match s.colRun i with
  | none => .done s
  | some r =>
    if !r.ready then .done (prepareContext s i r)
    else
      match fetchWord s (whoContext s i r.prog) r.pc with
      | none => .done (takeContextFault (fetchMissed s (whoContext s i r.prog) r.pc) i r { cause := 0x04, addr := r.pc })
      | some (w, s) =>
        match decode .col w with
        | .ok n => .word n { s with cur := some (.context i) }
        | .error _ => .done (takeContextFault s i r { cause := if w.getLsbD 25 then 0x01 else 0x02 })

/-- What a turn performs: an event is performed as it is; a word of an agent is fetched (log 1). -/
def fetchTurn (s : State) : Turn → Fetched
  | .event e => if classOf e = .event then .word e s else .done s
  | .stream b c t => fetchStream s b c t
  | .context i => fetchContext s i

/-- A step is over: nothing is being performed, and one more step is counted (log 1, log 2). -/
def finish : Out → Out
  | .next s => .next { s with cur := none, ticks := s.ticks + 1 }
  | o => o

/-! ### Where the first word of a run is placed -/

/-- An entry of a translation table: a valid table pointer, or a valid leaf with RD, WR and EX (Table 08.4). -/
def tableEntry (leaf : Bool) (pa : Nat) : Nat := pa + (if leaf then 0x1F else 0x01)

/-- Address of the root table, of the second table, of the word, and of the record that `withFetchWord` places. -/
def placeRoot : Nat := 0x10000
/-- Address of the second table. -/
def placeNext : Nat := 0x11000
/-- Address of the word. -/
def placeWord : Nat := 0x20000

/-- Memory with the first GiB mapped to itself, and a word. -/
def placedMem (m : List Host.Cell) (w : Nat) : List Host.Cell :=
  let m := Memory.write m placeRoot 8 (tableEntry false placeNext)
  let m := Memory.write m placeNext 8 (tableEntry true 0)
  Memory.write m placeWord 4 w

/-- A gang with one stream of core 0 running at the word (R30, R31). -/
def placedGang (t : StreamId) : Gang :=
  let st (u : Fin 4) : Stream := if u = t.toFin then { status := .running, pc := BitVec.ofNat 64 placeWord } else {}
  let k : Core := { streams := Vector.replicate 4 {} }
  { record := 0x30000, vf := 0, part := 0, tenant := 0, vcount := 32, pb1 := 4, pb2 := 46, pb3 := 48
    root := BitVec.ofNat 64 placeRoot
    cores := Vector.ofFn fun c => if c = 0 then { k with streams := Vector.ofFn st } else k }

/-- A collective program at the word (R301). -/
def placedRun : ColRun :=
  { newRun { num := 1, part := 0, vf := 0, tenant := 0, bench := 0, run := 0, root := BitVec.ofNat 64 placeRoot
             addr := BitVec.ofNat 64 placeWord, args := 0 } with loaded := true }

/-- A word placed where the next step fetches it: mapped memory, an agent of the format in which the word is an
instruction, and its turn (log 16). -/
def placeFor (s : State) (f : Format) (w : Nat) : State :=
  let s := (({ s with mem := placedMem s.mem w, cur := none }).updVf 0 fun v => { v with
    root := BitVec.ofNat 36 (placeRoot / 2 ^ 12), s2root := BitVec.ofNat 36 (placeRoot / 2 ^ 12), s2en := true })
  let stream (t : StreamId) : State :=
    { s.setGang 0 (some (placedGang t)) with agenda := [.stream 0 0 t] }
  match f with
  | .sc => stream 0
  | .ld => stream 1
  | .cp => stream 2
  | .st => stream 3
  | .col => { s.setRun 0 placedRun with agenda := [.context 0] }

end Sys2Proof.Machine
end

