-- ==== Sys2Proof/Machine/Step.lean ====
section
/-! DEFINITION. One step of the device, and where a run's first word is placed. -/

namespace Sys2Proof.Machine

/-- One step: the agent whose turn it is performs its next word, or an event happens (log 1). -/
def step (s : State) : Host.Outcome State Fault Refusal :=
  let (t, s) := nextTurn s
  match fetchTurn s t with
  | .word i s => finish (exec i s)
  | .done s => finish (.next s)

/-- A state whose next step fetches and runs a word of the table (log 16). -/
def State.withFetchWord (s : State) (nbits w : Nat) : State :=
  if nbits = 32 then
    match decodeFirst (BitVec.ofNat 32 w) (tableFormats (BitVec.ofNat 32 w)) with
    | some (f, _) => placeFor s f (w % 2 ^ 32)
    | none => placeFor s .sc (w % 2 ^ 32)
  else s

end Sys2Proof.Machine
end

