-- ==== Sys2Proof/Safety.lean ====
section
/-! DEFINITION. The terms in which the claims are stated: an agent that performs a word, how a stream and a context go on
after it, the canonical form of memory, the well-formed words of a format. -/

namespace Sys2Proof.Machine

/-! ### Streams -/

/-- A stream performs this step, and it may issue a word (R28, R29). -/
abbrev State.performs (s : State) (b : BenchId) (c : CoreId) (t : StreamId) : Prop :=
  s.cur = some (.stream b c t) ∧ s.canIssue b c t = true

/-- A stream performs a word that belongs to no longer bundle: CP holds no earlier word of a bundle (R155). -/
abbrev State.alone (s : State) (b : BenchId) (c : CoreId) (t : StreamId) : Prop :=
  s.performs b c t ∧ (t = 2 → (s.stream b c 2).bundle = [] ∧ (s.stream b c 2).sxOnly = false)

/-- Where a word that is alone is performed: a bundle of one word in CP, in a slot (R155, Table 18.2); slot 0 elsewhere. -/
def State.issuing (s : State) (b : BenchId) (c : CoreId) (t : StreamId) (slot : Nat) : Ctx :=
  let pc := (s.stream b c t).pc
  { b := b, c := c, t := t, pc := pc, next := pc + 4, slot := if t = 2 then slot else 0, word := pc
    rings := if t = 2 then some (s.core b c) else none }

/-- What a performed word leaves before the stream goes on: in CP its bundle is over, and each ring entry is pushed. -/
def Ctx.closed (x : Ctx) (s : State) (pushes : List (Nat × Option Tile) := []) : State :=
  if x.t = 2 then x.updCore (x.upd s Stream.cleared) fun k => pushes.foldl pushRing k else s

/-- The stream goes on: at the next word, or where the end of a loop body sends it (R183). -/
def Ctx.wentOn (x : Ctx) (s : State) (pushes : List (Nat × Option Tile) := []) : State :=
  x.upd (x.closed s pushes) fun _ => (x.st (x.closed s pushes)).advance x.next

/-- A stream that a word leaves for `next`, or for the body of a loop, comes to a word that can be fetched (R152). -/
def Ctx.leadsOn (x : Ctx) (s : State) (next : Word) (st : Stream) : Prop :=
  st.onward = next ∨ st.onward = x.pc ∨ fetchable s (whoStream s x.b x.c) st.onward = true

/-- The stream may go on: no end of a loop body sends it to a word that is not fetchable (R152). -/
def Ctx.goesOn (x : Ctx) (s : State) (pushes : List (Nat × Option Tile) := []) : Prop :=
  x.leadsOn (x.closed s pushes) x.next ((x.st (x.closed s pushes)).advance x.next)

/-- Where it may go on, a word that is a bundle of its own is performed: `exec` answers the state that its effect leaves,
each ring entry pushed and the stream gone on at its next word. -/
def State.does (s : State) (b : BenchId) (c : CoreId) (t : StreamId) (slot : Nat) (i : Instr) (s' : State)
    (pushes : List (Nat × Option Tile) := []) : Prop :=
  (s.issuing b c t slot).goesOn s' pushes → exec i s = .next ((s.issuing b c t slot).wentOn s' pushes)

/-- A word that is a bundle of its own takes a fault in a state, which has the word's accesses to device memory and nothing
else of it: the stream stops at the word (R11, R90, R132). -/
def State.trapsIn (s : State) (b : BenchId) (c : CoreId) (t : StreamId) (slot : Nat) (i : Instr) (s' : State) (f : Trap) : Prop :=
  exec i s = .next (takeFault s' b c t (s.issuing b c t slot).slot (s.stream b c t).pc f)

/-- A word that is a bundle of its own takes a fault at issue: nothing of it is performed, and the stream stops at it
(R11, R132). -/
abbrev State.traps (s : State) (b : BenchId) (c : CoreId) (t : StreamId) (slot : Nat) (i : Instr) (f : Trap) : Prop :=
  s.trapsIn b c t slot i s f

/-- A word that is a bundle of its own waits: nothing changes but what the stream waits for (R29, R156). -/
def State.waits (s : State) (b : BenchId) (c : CoreId) (t : StreamId) (i : Instr) (w : Wait) : Prop :=
  exec i s = .next (s.updStream b c t fun st => { st with wait := w })

/-- A word of CP that is alone and that nothing at issue refuses: its operands are permitted, and its group is neither
masked nor absent (R140, R157, R168). -/
abbrev State.aloneInCp (s : State) (b : BenchId) (c : CoreId) (slot : Nat) (i : Instr) : Prop :=
  s.alone b c 2 ∧ specOk (s.gang b).vcount i = true ∧ groupStop (s.issuing b c 2 slot) s i = none

/-- The step at which the TWAIT that a stream waits at issued, where it waits for a token of a core (R193). -/
def Wait.tokenOf : Wait → CoreId → Option Nat
  | .token q n, u => if q = u then some n else Option.none
  | _, _ => Option.none

/-! ### Copies -/

/-- A copy word may take its number: there is a place among 32 copies, and no copy of the stream is replayed (R137, R235). -/
def State.roomFor (s : State) (b : BenchId) (c : CoreId) (t : StreamId) : Prop :=
  (s.core b c).copies.length < 32 ∧ ∀ y ∈ (s.core b c).copies, y.stream = t → y.state ≠ .replaying

/-- A copy begins: it takes its stream's next number, joins the open batch, and is the youngest of its core (R115, R235,
R244). -/
def State.begin (s : State) (b : BenchId) (c : CoreId) (t : StreamId) (k : Copy) : State :=
  (s.updStream b c t fun st =>
    { st with issued := st.issued + 1, openBatch := (st.issued + 1) :: st.openBatch }).updCore b c fun y =>
      { y with copies := y.copies ++ [{ k with num := (s.stream b c t).issued + 1 }] }

/-! ### Collective contexts and events -/

/-- A context performs this step, and its program may perform a command (R301). -/
abbrev State.commands (s : State) (i : BitVec 2) (r : ColRun) : Prop :=
  s.cur = some (.context i) ∧ s.colRun i = some r ∧ r.ready = true

/-! ### Memory -/

/-- HBM is held in its canonical form: addresses rising, no zero listed. -/
def State.memWf (s : State) : Prop := Memory.wf s.mem = true

/-- Two states whose device memory reads alike, HBM and format aperture. -/
def State.sameMemory (s s' : State) : Prop := ∀ pa, physByte s' pa = physByte s pa

/-! ### Tiles -/

/-- A tile holds in every element of `z` bytes what a function gives, and its lanes hold the function's flags, each
element's in the lane of its first byte (R46, R57, Table 04.2). -/
def elementwise (z : Nat) (f : Nat → Nat × XFlags) (t : Tile) (l : Lanes) : Prop :=
  (∀ e, e < 4096 / z → tileElem t z e = (f e).1 % 2 ^ (8 * z)) ∧
  (∀ n, n < 1024 → l.extractLsb' (5 * n) 5 =
    ((List.range (4096 / z)).filter fun e => laneOf z e == n).foldl (fun y e => y ||| (f e).2) 0)

/-! ### Words -/

/-- The formats in which an instruction word of a class is read (R153, R303). -/
def Class.formats : Class → List Format
  | .common => [.sc, .ld, .cp, .st]
  | .sc => [.sc]
  | .ld => [.ld]
  | .st => [.st]
  | .m => [.ld, .st]
  | .c => [.cp]
  | .n => [.col]
  | .event => []

end Sys2Proof.Machine
end

