-- ==== Sys2Proof/Values.lean ====
section
/-! DEFINITION. The terms in which the claims about numbers are stated: what a code is worth, what a rounding of a real
number is, what a value delivered to a format must be (R59-R72). Nothing of the machine rests on this file. -/

namespace Sys2Proof.Machine

/-- What a finite value is worth; 0 for the others. -/
def Num.value : Num → ℚ
  | .fin neg m e => (if neg then -1 else 1) * m * 2 ^ e
  | _ => 0

/-- Is a value less than another; no NaN is (R59, R252)? -/
def Num.Less : Num → Num → Prop
  | .inf true, .inf false => True
  | .inf true, .fin _ _ _ => True
  | .fin _ _ _, .inf false => True
  | .fin n m e, .fin n' m' e' => (Num.fin n m e).value < (Num.fin n' m' e').value
  | _, _ => False

/-- Is a number below another, -0 below +0 (R251)? -/
def Num.Below (u v : Num) : Prop := u.Less v ∨ ((∃ e, u = .fin true 0 e) ∧ ∃ e, v = .fin false 0 e)

/-- The integers to which a mode rounds a real number: there is one (Table 06.2). -/
def RMode.Rounds (rm : RMode) (y : ℝ) (n : ℤ) : Prop :=
  match rm with
  | .rne => |y - n| ≤ 1 / 2 ∧ (|y - n| = 1 / 2 → Even n)
  | .rtz => |(n : ℝ)| ≤ |y| ∧ |y| < |(n : ℝ)| + 1 ∧ 0 ≤ n * y
  | .rdn => (n : ℝ) ≤ y ∧ y < n + 1
  | .rup => y ≤ n ∧ (n : ℝ) - 1 < y
  | .rmm => |y - n| ≤ 1 / 2 ∧ (|y - n| = 1 / 2 → |y| ≤ |(n : ℝ)|)

/-- The largest finite value of a binary floating format (Table 06.1, R63, R64). -/
def FShape.largest (s : FShape) : ℚ := if s.noInf then 448 else (2 - 2 ^ (-(s.fb : ℤ))) * 2 ^ s.bias

/-- Does a result that overflows become the largest finite value of its sign, and no infinity (R62, R63)? -/
def FShape.saturates (s : FShape) (rm : RMode) (neg : Bool) : Bool :=
  s.noInf || rm == .rtz || (rm == .rdn && !neg) || (rm == .rup && neg)

/-- A code and its flags are what an overflow delivers (R62, R63). -/
def FShape.Overflowed (s : FShape) (rm : RMode) (neg : Bool) (r : Nat × XFlags) : Prop :=
  r.2 = fOF ||| fNX ∧
  (s.saturates rm neg = true →
    (∃ m e, s.read r.1 = .fin neg m e) ∧ (s.read r.1).value = if neg then -s.largest else s.largest) ∧
  (s.saturates rm neg = false → s.read r.1 = .inf neg)

/-- A code and its flags are the nonzero real number `±x` rounded once to a binary floating format: to a multiple of the
spacing that the format has at `x`, or on overflow as R62 and R63 say; UF where the value rounded with an unbounded
exponent lies below the smallest normal one (R62, log 7). -/
def FShape.Rounded (s : FShape) (rm : RMode) (neg : Bool) (x : ℝ) (r : Nat × XFlags) : Prop :=
  let v : ℝ := if neg then -x else x
  let step (e : ℤ) : ℝ := 2 ^ (e - s.fb)
  let emin : ℤ := 1 - s.bias
  let g := step (max (Int.log 2 x) emin)
  r.1 < 2 ^ s.width ∧ ∃ n : ℤ, rm.Rounds (v / g) n ∧
    ((s.largest : ℝ) < |n * g| → s.Overflowed rm neg r) ∧
    (|n * g| ≤ (s.largest : ℝ) →
      (∃ m e, s.read r.1 = .fin neg m e) ∧ ((s.read r.1).value : ℝ) = n * g ∧
      (n * g = v → r.2 = 0) ∧
      (n * g ≠ v → ∃ k : ℤ, rm.Rounds (v / step (Int.log 2 x)) k ∧
        (|k * step (Int.log 2 x)| < 2 ^ emin → r.2 = fUF ||| fNX) ∧
        (2 ^ emin ≤ |k * step (Int.log 2 x)| → r.2 = fNX)))

/-- The magnitude of the LG8 value of log `l`, or of the zero that stands below the least, `base` (R66, R71). -/
def lgMagnitude (base l : ℤ) : ℚ := if l < base then 0 else lgt (l % 4).toNat * 2 ^ (l / 4 - 14)

/-- A code and its flags are the nonzero number `±x` rounded to LG8 (R71). -/
def lgRounded (rm : RMode) (neg : Bool) (x : ℚ) (r : Nat × XFlags) : Prop :=
  let base : ℤ := if neg then -63 else -64
  let v := lgMagnitude base
  let code (l : ℤ) : Nat := if l < base then 0xC0 else (if neg then 128 else 0) + (l % 128).toNat
  (v 63 < x → r = (code 63, fOF ||| fNX)) ∧
  (∀ l, base ≤ l → l ≤ 63 → x = v l → r = (code l, 0)) ∧
  ∀ l, base - 1 ≤ l → l < 63 → v l < x → x < v (l + 1) →
    let up : Prop := match rm with
      | .rne => v l + v (l + 1) < 2 * x ∨ (v l + v (l + 1) = 2 * x ∧ base ≤ l ∧ l % 2 = 1)
      | .rtz => False
      | .rdn => neg = true
      | .rup => neg = false
      | .rmm => v l + v (l + 1) ≤ 2 * x
    (up → r.1 = code (l + 1)) ∧ (¬ up → r.1 = code l) ∧ r.2 = if l < base then fUF ||| fNX else fNX

/-- A code and its flags are a number converted to an integer format: rounded first, then held to the range (R72,
Tables 06.5 and 06.6). -/
def intRounded (rm : RMode) (signed : Bool) (k : Nat) (v : ℚ) (r : Nat × XFlags) : Prop :=
  let w := 8 * 2 ^ k
  let lo : ℤ := if signed then -(2 ^ (w - 1)) else 0
  let hi : ℤ := if signed then 2 ^ (w - 1) - 1 else 2 ^ w - 1
  let code (n : ℤ) : Nat := (n % 2 ^ w).toNat
  ∃ n : ℤ, rm.Rounds v n ∧ (n < lo → r = (code lo, fNV)) ∧ (hi < n → r = (code hi, fNV)) ∧
    (lo ≤ n → n ≤ hi → r = (code n, if (n : ℚ) = v then 0 else fNX))

/-- A code and its flags are a value delivered to a format (R70 to R72, Table 06.6). -/
def Fmt.Delivered (f : Fmt) (rm : RMode) (v : Num) (r : Nat × XFlags) : Prop :=
  match f.shape with
  | some s =>
    match v with
    | .nan sg => r = (s.qNaN, if sg then fNV else 0)
    | .inf neg => if s.noInf then r = ((if neg then 0xFE else 0x7E), fOF ||| fNX)
        else r.1 < 2 ^ s.width ∧ s.read r.1 = .inf neg ∧ r.2 = 0
    | .fin neg 0 _ => r = (if neg then 2 ^ (s.width - 1) else 0, 0)
    | .fin neg m e => s.Rounded rm neg (m * 2 ^ e) r
  | none =>
    match f with
    | .int sg k =>
      match v with
      | .nan _ => r = (0, fNV)
      | .inf neg =>
        let w := 8 * 2 ^ k
        r = (if sg then (if neg then 2 ^ (w - 1) else 2 ^ (w - 1) - 1) else (if neg then 0 else 2 ^ w - 1), fNV)
      | .fin neg m e => intRounded rm sg k (Num.fin neg m e).value r
    | _ =>
      match v with
      | .nan _ => r = (0xC0, fNV)
      | .inf neg => r = (if neg then 0xBF else 0x3F, fOF ||| fNX)
      | .fin _ 0 _ => r = (0xC0, 0)
      | .fin neg m e => lgRounded rm neg (m * 2 ^ e) r

/-- A code and its flags are the minimum or maximum of two codes of a format, or minimumNumber or maximumNumber (`num`):
the canonical NaN, or one of the two (R251). -/
def Fmt.MinMax (f : Fmt) (isMax num : Bool) (x y : Nat) (r : Nat × XFlags) : Prop :=
  let a := f.read x
  let b := f.read y
  let nan := (f.shape.map FShape.qNaN).getD 0
  ((a = .nan true ∨ b = .nan true) → r.2 = fNV) ∧ (a ≠ .nan true → b ≠ .nan true → r.2 = 0) ∧
  (a.isNaN = true → b.isNaN = true → r.1 = nan) ∧
  (a.isNaN = true → b.isNaN = false → r.1 = if num then y else nan) ∧
  (a.isNaN = false → b.isNaN = true → r.1 = if num then x else nan) ∧
  (a.isNaN = false → b.isNaN = false →
    (a.Below b → r.1 = if isMax then y else x) ∧ (b.Below a → r.1 = if isMax then x else y) ∧
    (¬ a.Below b → ¬ b.Below a → r.1 = x))

end Sys2Proof.Machine
end

