-- ==== Sys2Proof/Certificates/Slice0/Obligations.lean ====
section
/-! DEFINITION. The statements for the provers. -/

open Sys2Proof Sys2Proof.Machine

/-! ### The common scalar group (R158, R172 to R194) -/

/-- ALU in every stream: the sixteen functions of Table 20.1 on 64 bits, and on 32 bits sign-extended; a word whose flag
predicate is false writes nothing (R158, R172, R173).

ALU2 in every stream: the twelve functions of Table 20.2; in SEL the flag predicate selects the operand, and the word
always writes (R158, R174).

The immediate forms on 64 bits: ADDI, LOGI and SHI (R175).

CMP and CMPI set a flag by the ten conditions of Table 18.5; CMP with a false predicate writes nothing (R177). -/
def Obligations.ScalarArithmetic : Prop :=
  (∀ (s : State) (b : BenchId) (c : CoreId) (t : StreamId) (d p r : BitVec 5) (w : BitVec 2) (q : BitVec 4),
    s.alone b c t → w.toNat < 2 →
    let x := s.issuing b c t 1
    let st := s.stream b c t
    let a := st.sreg p
    let v := st.sreg r
    let a' : BitVec 32 := a.setWidth 32
    let v' : BitVec 32 := v.setWidth 32
    let n := v.toNat % 64
    let n' := v.toNat % 32
    let gives (i : Instr) (full : Word) (half : BitVec 32) : Prop :=
      s.does b c t 1 i
        (if st.pred q then x.upd s fun y => y.setS d (if w = 0 then full else half.signExtend 64) else s)
    gives (.aluAdd 1 d p r w q) (a + v) (a' + v') ∧
    gives (.aluSub 1 d p r w q) (a - v) (a' - v') ∧
    gives (.aluMul 1 d p r w q) (a * v) (a' * v') ∧
    gives (.aluMulh 1 d p r w q) ((a.signExtend 128 * v.signExtend 128).extractLsb' 64 64)
      ((a'.signExtend 64 * v'.signExtend 64).extractLsb' 32 32) ∧
    gives (.aluMulhu 1 d p r w q) ((a.setWidth 128 * v.setWidth 128).extractLsb' 64 64)
      ((a'.setWidth 64 * v'.setWidth 64).extractLsb' 32 32) ∧
    gives (.aluDiv 1 d p r w q) (if v = 0 then -1 else BitVec.ofInt 64 (a.toInt.tdiv v.toInt))
      (if v' = 0 then -1 else BitVec.ofInt 32 (a'.toInt.tdiv v'.toInt)) ∧
    gives (.aluDivu 1 d p r w q) (if v = 0 then -1 else a / v) (if v' = 0 then -1 else a' / v') ∧
    gives (.aluRem 1 d p r w q) (BitVec.ofInt 64 (a.toInt.tmod v.toInt)) (BitVec.ofInt 32 (a'.toInt.tmod v'.toInt)) ∧
    gives (.aluRemu 1 d p r w q) (a % v) (a' % v') ∧
    gives (.aluAnd 1 d p r w q) (a &&& v) (a' &&& v') ∧
    gives (.aluOr 1 d p r w q) (a ||| v) (a' ||| v') ∧
    gives (.aluXor 1 d p r w q) (a ^^^ v) (a' ^^^ v') ∧
    gives (.aluAndn 1 d p r w q) (a &&& ~~~v) (a' &&& ~~~v') ∧
    gives (.aluShl 1 d p r w q) (a <<< n) (a' <<< n') ∧
    gives (.aluShr 1 d p r w q) (a >>> n) (a' >>> n') ∧
    gives (.aluSar 1 d p r w q) (a.sshiftRight n) (a'.sshiftRight n')) ∧
  (∀ (s : State) (b : BenchId) (c : CoreId) (t : StreamId) (d p r : BitVec 5) (w : BitVec 2) (q : BitVec 4),
    s.alone b c t → w.toNat < 2 →
    let x := s.issuing b c t 1
    let st := s.stream b c t
    let a := st.sreg p
    let v := st.sreg r
    let a' : BitVec 32 := a.setWidth 32
    let v' : BitVec 32 := v.setWidth 32
    let writes (full : Word) (half : BitVec 32) : State :=
      x.upd s fun y => y.setS d (if w = 0 then full else half.signExtend 64)
    let gives (i : Instr) (full : Word) (half : BitVec 32) : Prop :=
      s.does b c t 1 i (if st.pred q then writes full half else s)
    gives (.alu2Min 1 d p r w q) (if a.toInt ≤ v.toInt then a else v) (if a'.toInt ≤ v'.toInt then a' else v') ∧
    gives (.alu2Max 1 d p r w q) (if a.toInt ≤ v.toInt then v else a) (if a'.toInt ≤ v'.toInt then v' else a') ∧
    gives (.alu2Minu 1 d p r w q) (if a.toNat ≤ v.toNat then a else v) (if a'.toNat ≤ v'.toNat then a' else v') ∧
    gives (.alu2Maxu 1 d p r w q) (if a.toNat ≤ v.toNat then v else a) (if a'.toNat ≤ v'.toNat then v' else a') ∧
    gives (.alu2Clz 1 d p w q) a.clz a'.clz ∧
    gives (.alu2Ctz 1 d p w q) a.reverse.clz a'.reverse.clz ∧
    gives (.alu2Popc 1 d p w q) (BitVec.ofNat 64 ((List.range 64).filter a.getLsbD).length)
      (BitVec.ofNat 32 ((List.range 32).filter a'.getLsbD).length) ∧
    gives (.alu2Brev 1 d p w q) a.reverse a'.reverse ∧
    gives (.alu2Bswap 1 d p w q)
      (a.extractLsb' 0 8 ++ (a.extractLsb' 8 8 ++ (a.extractLsb' 16 8 ++ (a.extractLsb' 24 8 ++ (a.extractLsb' 32 8 ++
        (a.extractLsb' 40 8 ++ (a.extractLsb' 48 8 ++ a.extractLsb' 56 8)))))))
      (a'.extractLsb' 0 8 ++ (a'.extractLsb' 8 8 ++ (a'.extractLsb' 16 8 ++ a'.extractLsb' 24 8))) ∧
    s.does b c t 1 (.alu2Sel 1 d p r w q) (writes (if st.pred q then a else v) (if st.pred q then a' else v')) ∧
    gives (.alu2Rol 1 d p r w q) (a.rotateLeft (v.toNat % 64)) (a'.rotateLeft (v.toNat % 32)) ∧
    gives (.alu2Ror 1 d p r w q) (a.rotateRight (v.toNat % 64)) (a'.rotateRight (v.toNat % 32))) ∧
  (∀ (s : State) (b : BenchId) (c : CoreId) (t : StreamId) (d p : BitVec 5) (i15 : BitVec 15) (i13 : BitVec 13)
    (n : BitVec 6),
    s.alone b c t →
    let x := s.issuing b c t 1
    let a := (s.stream b c t).sreg p
    let gives (i : Instr) (v : Word) : Prop := s.does b c t 1 i (x.upd s fun y => y.setS d v)
    gives (.addi 1 d p i15) (a + i15.signExtend 64) ∧
    gives (.logiAndi 1 d p i13) (a &&& i13.signExtend 64) ∧
    gives (.logiOri 1 d p i13) (a ||| i13.signExtend 64) ∧
    gives (.logiXori 1 d p i13) (a ^^^ i13.signExtend 64) ∧
    gives (.shiShl 1 d p n) (a <<< n.toNat) ∧
    gives (.shiShr 1 d p n) (a >>> n.toNat) ∧
    gives (.shiSar 1 d p n) (a.sshiftRight n.toNat) ∧
    gives (.shiRor 1 d p n) (a.rotateRight n.toNat)) ∧
  (∀ (s : State) (b : BenchId) (c : CoreId) (t : StreamId) (f : BitVec 3) (k : BitVec 4) (p r : BitVec 5) (i : BitVec 13)
    (q : BitVec 4),
    s.alone b c t → k.toNat < 10 →
    let x := s.issuing b c t 1
    let st := s.stream b c t
    let holds (a v : Word) : Bool :=
      match k.toNat with
      | 0 => decide (a = v)
      | 1 => decide (a ≠ v)
      | 2 => decide (a.toInt < v.toInt)
      | 3 => decide (a.toInt ≤ v.toInt)
      | 4 => decide (v.toInt < a.toInt)
      | 5 => decide (v.toInt ≤ a.toInt)
      | 6 => decide (a.toNat < v.toNat)
      | 7 => decide (a.toNat ≤ v.toNat)
      | 8 => decide (v.toNat < a.toNat)
      | _ => decide (v.toNat ≤ a.toNat)
    s.does b c t 1 (.cmp 1 f k p r q)
      (if st.pred q then x.upd s fun y => y.setF f (holds (st.sreg p) (st.sreg r)) else s) ∧
    s.does b c t 1 (.cmpi 1 f k p i) (x.upd s fun y => y.setF f (holds (st.sreg p) (i.signExtend 64))))

/-- LI and LIH build constants: LI writes its sign-extended immediate; LIH writes its own, sign-extended to 44 bits and
shifted left by 20, over bits 19:0 of the register; LI of bits 19:0 and then LIH of bits 39:20 leave any value of at least
-2^39 and below 2^39 in a register; the two worked words are LI s4 and LIH s4 (R176). -/
def Obligations.ConstantsBuilt : Prop :=
  (∀ (s : State) (b : BenchId) (c : CoreId) (t : StreamId) (d : BitVec 5) (i : BitVec 20),
    s.alone b c t →
    let x := s.issuing b c t 1
    let low : BitVec 20 := ((s.stream b c t).sreg d).extractLsb' 0 20
    s.does b c t 1 (.li 1 d i) (x.upd s fun y => y.setS d (i.signExtend 64)) ∧
    s.does b c t 1 (.lih 1 d i) (x.upd s fun y => y.setS d (i.signExtend 44 ++ low : BitVec 64))) ∧
  (∀ (s s1 s2 : State) (b : BenchId) (c : CoreId) (t : StreamId) (d : BitVec 5) (v : Word),
    d ≠ 0 → -(2 ^ 39 : Int) ≤ v.toInt → v.toInt < 2 ^ 39 → s.alone b c t → s1.alone b c t →
    (s.issuing b c t 1).goesOn ((s.issuing b c t 1).upd s fun y => y.setS d ((v.extractLsb' 0 20).signExtend 64)) →
    exec (.li 1 d (v.extractLsb' 0 20)) s = .next s1 →
    (s1.issuing b c t 1).goesOn ((s1.issuing b c t 1).upd s1 fun y =>
      y.setS d (((v.extractLsb' 20 20).signExtend 44) ++ (v.extractLsb' 0 20) : BitVec 64)) →
    exec (.lih 1 d (v.extractLsb' 20 20)) s1 = .next s2 → (s2.stream b c t).sreg d = v) ∧
  decode .sc 0x1A46789A#32 = .ok (.li 1 4 0x6789A) ∧ decode .sc 0x1E412345#32 = .ok (.lih 1 4 0x12345)

/-- FOP writes a flag by its seven functions; a word of FOP with a bit set in 12:0, or with fb in NOT, or with fa or fb in
SET or CLR, is no instruction (R178). -/
def Obligations.FlagFunctions : Prop :=
  (∀ (s : State) (b : BenchId) (c : CoreId) (t : StreamId) (d p r : BitVec 3),
    s.alone b c t →
    let x := s.issuing b c t 1
    let st := s.stream b c t
    let u := st.flag p.toNat
    let v := st.flag r.toNat
    let gives (i : Instr) (f : Bool) : Prop := s.does b c t 1 i (x.upd s fun y => y.setF d f)
    gives (.fopAnd 1 d p r) (u && v) ∧
    gives (.fopOr 1 d p r) (u || v) ∧
    gives (.fopXor 1 d p r) (u != v) ∧
    gives (.fopAndn 1 d p r) (u && !v) ∧
    gives (.fopNot 1 d p) (!u) ∧
    gives (.fopSet 1 d) true ∧
    gives (.fopClr 1 d) false) ∧
  (∀ (w : IWord) (f : Format), f ≠ .col → (fld w 26 6).toNat = 0x0A →
    (fld w 0 13 ≠ 0 ∨ (fld w 13 3 = 4 ∧ fld w 16 3 ≠ 0) ∨ ((fld w 13 3 = 5 ∨ fld w 13 3 = 6) ∧ fld w 16 6 ≠ 0)) →
    decode f w = .error .reserved)

/-- BF works on bits pos + len - 1 down to pos: BFX sign-extends them, BFXU zero-extends them, BFI replaces them (R179).

Registers read back what was written, and only the one named changes; s0 reads zero, f0 reads true, and a write of
either is discarded (R45). -/
def Obligations.RegistersHold : Prop :=
  (∀ (s : State) (b : BenchId) (c : CoreId) (t : StreamId) (d a : BitVec 5) (p n : BitVec 6),
    s.alone b c t → p.toNat + n.toNat + 1 ≤ 64 →
    let x := s.issuing b c t 1
    let v := (s.stream b c t).sreg a
    let old := (s.stream b c t).sreg d
    let len := n.toNat + 1
    let gives (i : Instr) (r : Word) : Prop := s.does b c t 1 i (x.upd s fun y => y.setS d r)
    gives (.bfBfx 1 d a p n) ((v <<< (64 - p.toNat - len)).sshiftRight (64 - len)) ∧
    gives (.bfBfxu 1 d a p n) ((v <<< (64 - p.toNat - len)) >>> (64 - len)) ∧
    ∃ r : Word,
      (∀ k, k < 64 → r.getLsbD k =
        if p.toNat ≤ k ∧ k < p.toNat + len then v.getLsbD (k - p.toNat) else old.getLsbD k) ∧
      gives (.bfBfi 1 d a p n) r) ∧
  (∀ (st : Stream) (d e : BitVec 5) (f g : BitVec 3) (v : Word) (u : Bool),
    st.sreg 0 = 0 ∧ st.flag 0 = true ∧ st.setS 0 v = st ∧ st.setF 0 u = st ∧
    (st.setS d v).sreg e = (if d = e ∧ d ≠ 0 then v else st.sreg e) ∧
    (st.setF f u).flag g.toNat = (if f = g ∧ f ≠ 0 then u else st.flag g.toNat) ∧
    (st.setB f v).breg g = (if f = g then v else st.breg g))

/-- PBR and MOVB load a branch-target register and check nothing in it: PBR from the address of its own word, or from a
register; MOVB from a register, and of a number above 7 raises illegal-operand (R180, R187).

BR where no loop is active, and BRL to an address that does not end the innermost body: a false predicate does nothing; a
taken one goes to its register's value, and BRL puts the address of the next word into s31; a target that is not fetchable
raises fetch-range at the branch (R152, R181).

A taken BR that stands inside the innermost active body: to an address of the body it goes there; to the address just
past the body it ends the iteration as the body's last word does; to any other address it raises illegal-operand where the
body is a KLOOP's, and ends the loop where it is a LOOP's: then the next enclosing body is looked at in the same way. A BRL to
the address just past the body ends the iteration too; so does a BR of called code, which to any other address leaves every
loop active (R185; that called code ends an iteration so is the model's reading, log 65). The end of an iteration that leads
to a word that cannot be fetched is a fault of the branch (R152). -/
def Obligations.Branches : Prop :=
  (∀ (s : State) (b : BenchId) (c : CoreId) (t : StreamId) (n : BitVec 3) (i : BitVec 21) (r y : BitVec 5),
    s.alone b c t →
    let x := s.issuing b c t 1
    let st := s.stream b c t
    s.does b c t 1 (.pbr 1 n i) (x.upd s fun z => z.setB n (st.pc + 4 * i.signExtend 64)) ∧
    s.does b c t 1 (.pbrReg 1 n r) (x.upd s fun z => z.setB n (st.sreg r)) ∧
    (y.toNat < 8 → s.does b c t 1 (.xmovMovb 1 y r) (x.upd s fun z => z.setB (y.setWidth 3) (st.sreg r))) ∧
    (8 ≤ y.toNat → s.traps b c t 1 (.xmovMovb 1 y r) { cause := 0x03 })) ∧
  (∀ (s : State) (b : BenchId) (c : CoreId) (t : StreamId) (n : BitVec 3) (q : BitVec 4),
    s.alone b c t →
    let x := s.issuing b c t 1
    let st := s.stream b c t
    let a := st.breg n
    let linked := x.upd s fun y => y.setS 31 (st.pc + 4)
    (st.pred q = false → s.does b c t 1 (.br 1 n q) s ∧ s.does b c t 1 (.brl 1 n q) s) ∧
    (st.pred q = true → fetchable (x.closed s) (whoStream (x.closed s) b c) a = true → st.loops = [] →
      exec (.br 1 n q) s = .next (x.upd (x.closed s) fun y => { y with pc := a, wait := .none, loops := [] })) ∧
    (st.pred q = true → fetchable (x.closed linked) (whoStream (x.closed linked) b c) a = true →
      (∀ f ∈ st.loops.head?, a ≠ f.last) →
      exec (.brl 1 n q) s = .next (x.upd (x.closed linked) fun y => { y with pc := a, wait := .none })) ∧
    (st.pred q = true → fetchable (x.closed s) (whoStream (x.closed s) b c) a = false →
      s.traps b c t 1 (.br 1 n q) { cause := 0x04, addr := a }) ∧
    (st.pred q = true → fetchable (x.closed linked) (whoStream (x.closed linked) b c) a = false →
      s.traps b c t 1 (.brl 1 n q) { cause := 0x04, addr := a })) ∧
  (∀ (s : State) (b : BenchId) (c : CoreId) (t : StreamId) (n : BitVec 3) (q : BitVec 4) (f : LoopFrame)
    (r : List LoopFrame),
    s.alone b c t → (s.stream b c t).pred q = true → (s.stream b c t).loops = f :: r →
    let x := s.issuing b c t 1
    let a := (s.stream b c t).breg n
    let linked := x.upd s fun y => y.setS 31 ((s.stream b c t).pc + 4)
    let within (g : LoopFrame) (a : Word) : Prop := g.first.toNat ≤ a.toNat ∧ a.toNat < g.last.toNat
    let beyond (g : LoopFrame) : Prop := a.toNat < g.first.toNat ∨ g.last.toNat < a.toNat
    let ends (s' : State) (l : List LoopFrame) : Stream := ({ x.st s' with wait := .none }).endIter a false l
    let endsBody (i : Instr) (s' : State) (l : List LoopFrame) : Prop :=
      (x.leadsOn s' a (ends s' l) → exec i s = .next (x.upd s' fun _ => ends s' l)) ∧
      (¬ x.leadsOn s' a (ends s' l) → s.traps b c t 1 i { cause := 0x04, addr := (ends s' l).onward })
    let goes (l : List LoopFrame) : Prop :=
      exec (.br 1 n q) s = .next (x.upd (x.closed s) fun y => { y with pc := a, wait := .none, loops := l })
    (fetchable (x.closed linked) (whoStream (x.closed linked) b c) a = true → a = f.last →
      endsBody (.brl 1 n q) (x.closed linked) (f :: r)) ∧
    (fetchable (x.closed s) (whoStream (x.closed s) b c) a = true →
      (a = f.last → endsBody (.br 1 n q) (x.closed s) (f :: r)) ∧
      (a ≠ f.last → ¬ within f (s.stream b c t).pc → goes (f :: r)) ∧
      (within f a → goes (f :: r)) ∧
      (within f (s.stream b c t).pc → beyond f →
        (f.kloop = true → s.traps b c t 1 (.br 1 n q) { cause := 0x03 }) ∧
        (f.kloop = false →
          (r = [] → goes []) ∧
          (∀ g l, r = g :: l →
            (a = g.last → endsBody (.br 1 n q) (x.closed s) r) ∧
            (within g a → goes r) ∧
            (within g (s.stream b c t).pc → beyond g → g.kloop = true →
              s.traps b c t 1 (.br 1 n q) { cause := 0x03 }) ∧
            (within g (s.stream b c t).pc → beyond g → g.kloop = false →
              (l = [] → goes []) ∧ (∀ h, l.head? = some h → within h a → goes l) ∧
              (∀ h, l.head? = some h → within h (s.stream b c t).pc → beyond h → h.kloop = true →
                s.traps b c t 1 (.br 1 n q) { cause := 0x03 })))))))

/-! ### Loops (R40, R162, R183, R184) -/

/-- LOOP: with a count of zero the stream goes on past the body; else the body runs that many times. A third LOOP inside two,
and a body that ends past the end of a body that holds the word, raise illegal-operand; in CP a body whose last word has L = 0
is malformed, and reading that word passes its home slice (R90, R162, R183; log 20; its SLOT, that of the loop word, is the
model's choice: log 22). A skip that ends an enclosing body leads to words that can be fetched, or is a fault of the word
(R152).

KLOOP without .P: it starts with k0 alone true and the stage flags f1 to fS as the stage predicates; a KLOOP inside a
KLOOP raises illegal-operand, and a body that CP finds not closed malformed-bundle (R40, R162, R183, R184; logs 20 and 22).

KLOOP.P: KDESC with no descriptor raises illegal-operand; else the eight doublewords at its address are read, and the
loop starts where the bits that have no meaning are zero (R145). -/
def Obligations.LoopsStart : Prop :=
  (∀ (s : State) (b : BenchId) (c : CoreId) (t : StreamId) (r : BitVec 5) (n : BitVec 14),
    s.alone b c t →
    let x := s.issuing b c t 1
    let st := s.stream b c t
    let cnt := (st.sreg r).toNat
    let f : LoopFrame :=
      { kloop := false, flips := false, pre := false, stages := 0, word := st.pc, first := st.pc + 4
        last := st.pc + 4 + 4 * n.setWidth 64, n := cnt, norig := cnt, iter := 0 }
    let deep : Prop := 2 ≤ (st.loops.filter fun y => !y.kloop).length
    let crosses : Prop := ∃ g ∈ st.loops,
      g.first.toNat ≤ st.pc.toNat ∧ st.pc.toNat < g.last.toNat ∧ g.last.toNat < f.last.toNat
    (deep ∨ crosses → s.traps b c t 1 (.loop 1 r n) { cause := 0x03 }) ∧
    let seen := closedLook x s f
    (¬ deep → ¬ crosses → bodyClosed x s f = false → s.trapsIn b c t 1 (.loop 1 r n) seen { cause := 0x02 }) ∧
    let past := (x.st (x.closed seen)).advance f.last
    (¬ deep → ¬ crosses → bodyClosed x s f = true → cnt = 0 →
      (x.leadsOn (x.closed seen) f.last past → exec (.loop 1 r n) s = .next (x.upd (x.closed seen) fun _ => past)) ∧
      (¬ x.leadsOn (x.closed seen) f.last past →
        s.traps b c t 1 (.loop 1 r n) { cause := 0x04, addr := past.onward })) ∧
    (¬ deep → ¬ crosses → bodyClosed x s f = true → 0 < cnt →
      s.does b c t 1 (.loop 1 r n) (x.upd seen fun y => { y with loops := f :: y.loops }))) ∧
  (∀ (s : State) (b : BenchId) (c : CoreId) (t : StreamId) (fl : BitVec 1) (g : BitVec 3) (r : BitVec 5) (n : BitVec 14),
    s.alone b c t → (s.stream b c t).rem = none →
    let x := s.issuing b c t 1
    let st := s.stream b c t
    let cnt := (st.sreg r).toNat
    let f : LoopFrame :=
      { kloop := true, flips := fl == 1, pre := false, stages := g.toNat + 1, word := st.pc, first := st.pc + 4
        last := st.pc + 4 + 4 * n.setWidth 64, n := cnt, norig := cnt, iter := 0 }
    let fits : Prop := ∀ g ∈ st.loops,
      g.first.toNat ≤ st.pc.toNat → st.pc.toNat < g.last.toNat → f.last.toNat ≤ g.last.toNat
    ((∃ g ∈ st.loops, g.kloop = true) → s.traps b c t 1 (.kloop 1 fl 0 g r n) { cause := 0x03 }) ∧
    let seen := closedLook x s f
    ((∀ g ∈ st.loops, g.kloop = false) → fits → bodyClosed x s f = false →
      s.trapsIn b c t 1 (.kloop 1 fl 0 g r n) seen { cause := 0x02 }) ∧
    let past := (x.st (x.closed seen)).advance f.last
    ((∀ g ∈ st.loops, g.kloop = false) → fits → bodyClosed x s f = true → cnt = 0 →
      (x.leadsOn (x.closed seen) f.last past → exec (.kloop 1 fl 0 g r n) s = .next (x.upd (x.closed seen) fun _ => past)) ∧
      (¬ x.leadsOn (x.closed seen) f.last past →
        s.traps b c t 1 (.kloop 1 fl 0 g r n) { cause := 0x04, addr := past.onward })) ∧
    ((∀ g ∈ st.loops, g.kloop = false) → fits → bodyClosed x s f = true → 0 < cnt →
      ∃ e : BitVec 8,
        (∀ j, j < 8 → e.getLsbD j = if 1 ≤ j ∧ j ≤ g.toNat + 1 then decide (j = 1) else st.f.getLsbD j) ∧
        s.does b c t 1 (.kloop 1 fl 0 g r n) (x.upd seen fun y => { y with k := 1, f := e, loops := f :: y.loops }))) ∧
  (∀ (s : State) (b : BenchId) (c : CoreId) (t : StreamId) (fl : BitVec 1) (g : BitVec 3) (r : BitVec 5) (n : BitVec 14),
    s.alone b c t → (s.stream b c t).loops = [] →
    let x := s.issuing b c t 1
    let st := s.stream b c t
    let cnt := st.rem.getD (st.sreg r).toNat
    let f : LoopFrame :=
      { kloop := true, flips := fl == 1, pre := true, stages := g.toNat + 1, word := st.pc, first := st.pc + 4
        last := st.pc + 4 + 4 * n.setWidth 64, n := cnt, norig := cnt, iter := 0 }
    bodyClosed x s f = true →
    (st.kdesc.getLsbD 63 = true → s.trapsIn b c t 1 (.kloop 1 fl 1 g r n) (closedLook x s f) { cause := 0x03 }) ∧
    (st.kdesc.getLsbD 63 = false → ∀ s1 d0 d1 d2 d3 d4 d5 d6 d7,
      readDoublewords (closedLook x s f) x st.kdesc 8 = .ok ([d0, d1, d2, d3, d4, d5, d6, d7], s1) →
      let y := x.upd s1 fun y => { y with rem := none, carry := #v[d0, d1, d2, d3, d4, d5] }
      (d1.extractLsb' 32 32 ≠ 0 ∨ d6 ≠ 0 ∨ d7 ≠ 0 →
        s.trapsIn b c t 1 (.kloop 1 fl 1 g r n) s1 { cause := 0x03 }) ∧
      (d1.extractLsb' 32 32 = 0 → d6 = 0 → d7 = 0 → cnt = 0 →
        exec (.kloop 1 fl 1 g r n) s = .next (x.upd (x.closed y) fun y => y.advance f.last)) ∧
      (d1.extractLsb' 32 32 = 0 → d6 = 0 → d7 = 0 → 0 < cnt →
        s.does b c t 1 (.kloop 1 fl 1 g r n) (x.upd y fun y => { y.startIter f with loops := f :: y.loops }))))

/-- The last word of a loop's body, here a NOP: another iteration goes back to the first word, and in a KLOOP k_j is true
exactly when j is below S and the iteration less j is from 0 to N - 1; after the last iteration of the only loop the stream
goes on past the body, every k false after a KLOOP; at the end of a KLOOP.F iteration it arrives at the flip, with its program
counter at the body's first word while iterations are left, and else just past the body (R40, R183; that program counter is
the model's choice: log 20). A first word that cannot be fetched is a fault of the last one, in CP with the slot of its
bundle's last word (R152, Table 18.2; which slot that is in a longer bundle is the model's choice: log 22). -/
def Obligations.LoopIterations : Prop :=
  ∀ (s : State) (b : BenchId) (c : CoreId) (t : StreamId) (f : LoopFrame) (r : List LoopFrame),
    s.alone b c t → (s.stream b c t).loops = f :: r → (s.stream b c t).pc + 4 = f.last →
    (f.kloop = true → 1 ≤ f.stages) →
    (s.stream b c t).wait = .none →
    let x := s.issuing b c t 1
    let total := if f.kloop then (if f.n = 0 then 0 else f.n + f.stages - 1) else f.n
    let f' := { f with iter := f.iter + 1 }
    let s' := x.closed s
    (fetchable s' (whoStream s' b c) f.first = true → f.iter + 1 < total →
      (f.kloop = false →
        exec (.nop 1) s = .next (x.upd s' fun y => { y with pc := f.first, loops := f' :: r })) ∧
      (f.kloop = true → f.flips = false → ∃ k : BitVec 8, ∃ e : BitVec 8,
        (∀ j, j < 8 → k.getLsbD j = decide (j < f.stages ∧ j ≤ f.iter + 1 ∧ f.iter + 1 - j < f.n)) ∧
        (∀ j, j < 8 → e.getLsbD j =
          if 1 ≤ j ∧ j ≤ f.stages then k.getLsbD (j - 1) else (s.stream b c t).f.getLsbD j) ∧
        exec (.nop 1) s = .next (x.upd s' fun y => { y with pc := f.first, loops := f' :: r, k := k, f := e })) ∧
      (f.kloop = true → f.flips = true →
        exec (.nop 1) s =
          .next (x.upd s' fun y => { y with pc := f.first, loops := f :: r, wait := .flip true f.last }))) ∧
    (fetchable s' (whoStream s' b c) f.first = false → f.iter + 1 < total → f.first ≠ f.last →
      f.first ≠ (s.stream b c t).pc → s.traps b c t 1 (.nop 1) { cause := 0x04, addr := f.first }) ∧
    (total ≤ f.iter + 1 → (∀ g ∈ r.head?, g.last ≠ f.last) → (f.kloop && f.flips) = false →
      exec (.nop 1) s = .next (x.upd s' fun y =>
        { y with pc := f.last, loops := r, k := if f.kloop then 0 else y.k })) ∧
    (total ≤ f.iter + 1 → (f.kloop && f.flips) = true → x.goesOn s →
      exec (.nop 1) s = .next (x.upd s' fun y => { y with pc := f.last, loops := f :: r, wait := .flip true f.last }))

/-! ### Scalar loads and stores (R83, R86, R89, R93 to R97, R186) -/

/-- LDS and STS in scratch: an address out of range, or of another core, raises scratch-scope, one not a multiple of the size
alignment, one that no declared set of the stream permits scratch-scope again; else LDS loads the bytes sign-extended or, with
U, zero-extended, and STS writes the low bytes of its register (R83, R86, R186). -/
def Obligations.ScratchLoadsAndStores : Prop :=
  ∀ (s : State) (b : BenchId) (c : CoreId) (t : StreamId) (d r : BitVec 5) (z : BitVec 2) (u : BitVec 1) (o : BitVec 11),
    s.alone b c t →
    let x := s.issuing b c t 1
    let st := s.stream b c t
    let n := 2 ^ z.toNat
    let ea := st.sreg r + o.setWidth 64 * BitVec.ofNat 64 n
    let a := ea.toNat
    let inRange : Prop := a < 2 ^ 26 ∧ a % 2 ^ 24 + n ≤ (s.gang b).scratchSize ∧ a / 2 ^ 24 = c.toNat
    let reads : Prop := ∃ i : Fin 16, (st.sets[i]).holds a n = true
    let writes : Prop := ∃ i : Fin 16, 4 ≤ i.val ∧ i.val < 8 ∧ (st.sets[i]).holds a n = true
    let v := Memory.read (s.core b c).scratch (a % 2 ^ 24) n
    (¬ inRange → s.traps b c t 1 (.lds 1 d r z u 1 o) { cause := 0x06, addr := ea } ∧
      s.traps b c t 1 (.sts 1 d r z 1 o) { cause := 0x06, addr := ea }) ∧
    (inRange → a % n ≠ 0 → s.traps b c t 1 (.lds 1 d r z u 1 o) { cause := 0x05, addr := ea } ∧
      s.traps b c t 1 (.sts 1 d r z 1 o) { cause := 0x05, addr := ea }) ∧
    (inRange → a % n = 0 → ¬ reads → s.traps b c t 1 (.lds 1 d r z u 1 o) { cause := 0x06, addr := ea }) ∧
    (inRange → a % n = 0 → ¬ writes → s.traps b c t 1 (.sts 1 d r z 1 o) { cause := 0x06, addr := ea }) ∧
    (inRange → a % n = 0 → reads → s.does b c t 1 (.lds 1 d r z u 1 o) (x.upd s fun y =>
      y.setS d (if u = 1 then BitVec.ofNat 64 v else (BitVec.ofNat (8 * n) v).signExtend 64))) ∧
    (inRange → a % n = 0 → writes → s.does b c t 1 (.sts 1 d r z 1 o) (s.updCore b c fun k =>
      { k with scratch := Memory.write k.scratch (a % 2 ^ 24) n (st.sreg d).toNat }))

/-- LDS from device memory where the first-level cache does not hold the line: the bytes come from the home slice, and the
line enters the cache, which keeps no more lines than its region of the pool holds; a misaligned address raises alignment
(R82, R89, R90, R94, R186; log 2).

STS to device memory: the low bytes of its register are performed at the home slice, at the address that the access
translates to, and the core's own first-level cache follows; a misaligned address raises alignment (R89, R97, R186).

The faults of an aligned device access of LDS and STS, in the state in which the access has read its tables and, of a race,
the shadow: in SC, LD and ST a page fault makes the stream wait for REPLAY with its replayable record written, where the queue
has room; in CP it is a protection fault after the bundle's other words; a protection fault and a race stop the stream with
their codes (R94, R111, R139, R335). In CP a body's end that leads to a word not fetchable is a fault at issue, before any
access (R152, R335; log 22).

Translation: a page fault for a nonzero bit in VA[63:48]; a TLB entry of the unit and the roots; else the walk of stage 1,
whose table addresses and leaf stage 2 translates, with the permissions of both. A walk reads one entry a level and faults with
it at an entry that is bad, a leaf not permitted there or misaligned, and a pointer at level 3 (R93, R94; what the fault of
VA[63:48] reports: log 63).

An access without the permission, or that no memory backs, is protection; so is one to a checked page outside SHLO to SHHI;
else its granule is checked (R90, R91, R94, R95).

The check of an access of a bench to a granule of a checked page: a writer, or for a write a reader, that is not ordered
before the access is a race with its entry; so is a write where readers have overflowed. Else the shadow records the access: a
write its bench and clock, alone; a read in its reader slot, or as an overflow (R95, R110; which slot and which reader of
several: log 83). -/
def Obligations.DeviceAccesses : Prop :=
  (∀ (s : State) (b : BenchId) (c : CoreId) (t : StreamId) (d r : BitVec 5) (z : BitVec 2) (u : BitVec 1) (o : BitVec 11),
    s.alone b c t →
    let x := s.issuing b c t 1
    let n := 2 ^ z.toNat
    let ea := (s.stream b c t).sreg r + o.setWidth 64 * BitVec.ofNat 64 n
    (ea.toNat % n ≠ 0 → s.traps b c t 1 (.lds 1 d r z u 0 o) { cause := 0x05, addr := ea }) ∧
    (ea.toNat % n = 0 → ∀ pa s1, access s (whoStream s b c) ea .read false = .ok (pa, s1) →
      (s.core b c).l1.all (fun e => e.1 != lineOf pa) = true →
      let s2 := llcServe (watch s1 .read pa n) (some (s.gang b).part) (128 * lineOf pa) 128
      let v := physRead s2 pa n
      let lines := (96 - (s.gang b).pb3.toNat) * 512
      ∃ kept : List (Nat × BitVec 1024), kept.length < max lines 1 ∧ (∀ e ∈ kept, e ∈ (s.core b c).l1) ∧
        s.does b c t 1 (.lds 1 d r z u 0 o) (x.upd
          (s2.updCore b c fun k => { k with l1 := if lines = 0 then [] else (lineOf pa, physLine s2 (lineOf pa)) :: kept })
          fun y => y.setS d (if u = 1 then BitVec.ofNat 64 v else (BitVec.ofNat (8 * n) v).signExtend 64)))) ∧
  (∀ (s : State) (b : BenchId) (c : CoreId) (t : StreamId) (d r : BitVec 5) (z : BitVec 2) (o : BitVec 11),
    s.alone b c t →
    let n := 2 ^ z.toNat
    let ea := (s.stream b c t).sreg r + o.setWidth 64 * BitVec.ofNat 64 n
    let v := ((s.stream b c t).sreg d).toNat
    (ea.toNat % n ≠ 0 → s.traps b c t 1 (.sts 1 d r z 0 o) { cause := 0x05, addr := ea }) ∧
    (ea.toNat % n = 0 → ∀ pa s1, homeAccess s (whoStream s b c) ea n .write false = .ok (pa, s1) →
      s.does b c t 1 (.sts 1 d r z 0 o) ((physWrite s1 pa n v).updCore b c fun k => k.storeL1 pa n v))) ∧
  (∀ (s : State) (b : BenchId) (c : CoreId) (t : StreamId) (d r : BitVec 5) (z : BitVec 2) (u : BitVec 1) (o : BitVec 11),
    s.alone b c t →
    let x := s.issuing b c t 1
    let n := 2 ^ z.toNat
    let ea := (s.stream b c t).sreg r + o.setWidth 64 * BitVec.ofNat 64 n
    let tried (s : State) (raced : Bool) : State := missed s (whoStream s b c) ea raced
    let late (raced : Bool) (f : Trap) : State :=
      if t = 2 then takeFault (x.upd (tried (x.closed s) raced) fun st => { st with sxOnly := true }) b c 2 1 x.pc f
      else takeFault (tried s raced) b c t 0 x.pc f
    let meets (f : MemFault) : State :=
      match f with
      | .page stage level =>
        if t = 2 then late false { cause := 0x11, addr := ea, aux0 := BitVec.ofNat 64 (stage * 2 ^ 63 + level) }
        else takePageFault (tried s false) x ea stage level
      | .prot => late false { cause := 0x11, addr := ea }
      | .race e => late true { cause := 0x0B, addr := ea, aux0 := e }
    let comes (i : Instr) (f : MemFault) : Prop :=
      ((t = 2 → x.goesOn s) → exec i s = .next (meets f)) ∧
      (t = 2 → ¬ x.goesOn s →
        s.traps b c 2 1 i { cause := 0x04, addr := ((x.st (x.closed s)).advance x.next).onward })
    ea.toNat % n = 0 →
    (∀ f, access s (whoStream s b c) ea .read false = .error f → comes (.lds 1 d r z u 0 o) f) ∧
    (∀ f, access s (whoStream s b c) ea .write false = .error f → comes (.sts 1 d r z 0 o) f)) ∧
  ((∀ (rd : State → Nat → Walked Word) (entry : Nat → Word) (s : State) (stage va : Nat) (T : Nat → Nat) (lv : Nat),
    stage < 2 → lv < 4 → (∀ s a, (rd s a).1 = .ok (entry a)) →
    let lo (n : Nat) : Nat := if n = 0 then 39 else if n = 1 then 30 else if n = 2 then 21 else 16
    let e (n : Nat) : Word := entry (T n + 8 * (va / 2 ^ lo n % (if n = 3 then 32 else 512)))
    let addr (n : Nat) : Nat := ((e n).extractLsb' 8 44).toNat * 2 ^ 8
    let leaf (n : Nat) : Prop := (e n).getLsbD 1 = true
    let bad (n : Nat) : Prop := (e n).getLsbD 0 = false ∨ (e n).extractLsb' 52 12 ≠ 0 ∨ (e n).extractLsb' 6 2 ≠ 0 ∨
      (e n).extractLsb' 40 12 ≠ 0 ∨ ((e n).getLsbD 5 = true ∧ (stage = 1 ∨ ¬ leaf n))
    let found := (walk rd stage va s (T 0) walkLevels).1
    (∀ n < 3, T (n + 1) = addr n) → (∀ n < lv, ¬ bad n ∧ ¬ leaf n) →
    (bad lv ∨ (leaf lv ∧ (lv = 0 ∨ addr lv % 2 ^ lo lv ≠ 0)) ∨ (¬ leaf lv ∧ lv = 3) → found = .error (.page stage lv)) ∧
    (¬ bad lv → leaf lv → lv ≠ 0 → addr lv % 2 ^ lo lv = 0 → found = .ok
      { pa := addr lv + va % 2 ^ lo lv, rd := (e lv).getLsbD 2, wr := (e lv).getLsbD 3, ex := (e lv).getLsbD 4
        chk := (e lv).getLsbD 5 })) ∧
  (∀ (s s1 s2 : State) (w : Who) (va r : Word) (f : MemFault) (l l1 l2 : Leaf) (t : TlbEntry),
    w.root1 = some r → w.en2 = true →
    let page := va.toNat / 2 ^ 16
    let mine (t : TlbEntry) : Prop := t.unit = w.unit ∧ t.root1 = r ∧ t.root2 = w.root2 ∧ t.vpage = page
    let first := walk (guestTableRead w) 0 va.toNat s r.toNat walkLevels
    let both : Leaf := { pa := l2.pa, rd := l1.rd && l2.rd, wr := l1.wr && l2.wr, ex := l1.ex && l2.ex, chk := l1.chk }
    let entry : TlbEntry := { unit := w.unit, root1 := r, root2 := w.root2, vpage := page, ppage := both.pa / 2 ^ 16
                              rd := both.rd, wr := both.wr, ex := both.ex, chk := both.chk }
    (∀ a, stage2 s w a = walk (tableRead w.part) 1 a s w.root2.toNat walkLevels) ∧
    (∀ a, tableRead w.part s a = if physExists s a then
        (.ok (BitVec.ofNat 64 (physRead (atHome s w.part .read a 8) a 8)), atHome s w.part .read a 8) else (.error .prot, s)) ∧
    (∀ a, stage2 s w a = (.ok l, s1) →
      guestTableRead w s a = if l.rd then tableRead w.part s1 l.pa else (.error .prot, s1)) ∧
    (∀ a, stage2 s w a = (.error f, s1) → guestTableRead w s a = (.error f, s1)) ∧
    (2 ^ 48 ≤ va.toNat → translation s w va = (.error (.page 0 0), s)) ∧
    (va.toNat < 2 ^ 48 →
      (s.tlb.head? = some t → mine t → translation s w va =
        (.ok { pa := t.ppage * 2 ^ 16 + va.toNat % 2 ^ 16, rd := t.rd, wr := t.wr, ex := t.ex, chk := t.chk }, s)) ∧
      ((∀ t ∈ s.tlb, ¬ mine t) →
        (first = (.error f, s1) → translation s w va = (.error f, s1)) ∧
        (first = (.ok l1, s1) → stage2 s1 w l1.pa = (.error f, s2) → translation s w va = (.error f, s2)) ∧
        (first = (.ok l1, s1) → stage2 s1 w l1.pa = (.ok l2, s2) →
          translation s w va = (.ok both, { s2 with tlb := entry :: s2.tlb }))))) ∧
  (∀ (s s1 : State) (w : Who) (va : Word) (k : AccKind) (at' : Bool) (l : Leaf) (f : MemFault) (p : PartId),
    let may : Prop := match k with
      | .read => l.rd = true
      | .write => l.wr = true
      | .update => l.rd = true ∧ l.wr = true
      | .fetch => l.ex = true
    let checked : Prop := l.chk = true ∧ k ≠ .fetch
    let within : Prop := (s1.part p).shlo.toNat ≤ l.pa / 2 ^ 16 ∧ l.pa / 2 ^ 16 ≤ (s1.part p).shhi.toNat
    let got := access s w va k at'
    (translation s w va = (.error f, s1) → got = .error f ∧ ∀ raced, missed s w va raced = s1) ∧
    (translation s w va = (.ok l, s1) →
      (¬ may ∨ physExists s1 l.pa = false → got = .error .prot) ∧
      missed s w va false = s1 ∧
      (may → physExists s1 l.pa = true →
        (w.part = none ∨ ¬ checked → got = .ok (l.pa, s1)) ∧
        (w.part = some p → checked → ¬ within → got = .error .prot) ∧
        (w.part = some p → checked → within → w.unraced = true → got = .ok (l.pa, s1)) ∧
        (w.part = some p → checked → within → w.unraced = false →
          (∀ e, raceCheck s1 p w.bench l.pa k.writes at' = .error e → got = .error (.race e)) ∧
          (∀ s2, raceCheck s1 p w.bench l.pa k.writes at' = .ok s2 → got = .ok (l.pa, s2))))))) ∧
  (∀ (s : State) (p : PartId) (b : BenchId) (pa i : Nat) (write : Bool),
    s.memWf → 2 ^ 16 * (s.part p).shlo.toNat ≤ pa → i < 4 →
    let q := s.part p
    let at' := 2 ^ 12 * q.shbase.toNat + (pa / 128 * 128 - 2 ^ 16 * q.shlo.toNat) / 4
    let old : BitVec 256 := BitVec.ofNat 256 (Memory.read s.mem at' 32)
    let sh : BitVec 256 := if old.extractLsb' 165 16 = q.gen then old else 0
    let clock := s.clocks[b.toFin]
    let ord (o : BenchId) (k : BitVec 24) : Prop := o = b ∨ (k.toNat < 2 ^ 24 - 1 ∧ k.toNat ≤ (clock[o.toFin]).toNat)
    let writer : Prop := sh.getLsbD 30 = true → ord (sh.extractLsb' 24 6) (sh.extractLsb' 0 24)
    let slot (sh : BitVec 256) (n : Nat) : BitVec 32 := sh.extractLsb' (32 + 32 * n) 32
    let valid (n : Nat) : Prop := sh.getLsbD (160 + n) = true
    let ordered (n : Nat) : Prop := ord ((slot sh n).extractLsb' 26 6) ((slot sh n).extractLsb' 0 24)
    let mine (n : Nat) : Prop := valid n ∧ (slot sh n).extractLsb' 26 6 = b
    let first (ok : Nat → Prop) : Prop := ok i ∧ ∀ n < i, ¬ ok n
    let chosen : Prop := first mine ∨ ((∀ n < 4, ¬ mine n) ∧ first fun n => ¬ valid n) ∨
      ((∀ n < 4, valid n ∧ ¬ mine n) ∧ first ordered)
    let none' : Prop := ∀ n < 4, valid n ∧ ¬ mine n ∧ ¬ ordered n
    let readers : Prop := ∀ n < 4, valid n → ordered n
    let r := raceCheck s p (some b) pa write false
    let records (ok : BitVec 256 → Prop) : Prop :=
      ∃ t, r = .ok t ∧ t.clocks = s.clocks ∧ t.benches = s.benches ∧
        ok (BitVec.ofNat 256 (Memory.read t.mem at' 32)) ∧
        (BitVec.ofNat 256 (Memory.read t.mem at' 32)).extractLsb' 165 16 = q.gen
    let kept (new : BitVec 256) : Prop := new.extractLsb' 0 32 = sh.extractLsb' 0 32
    (¬ writer → r = .error ((sh.extractLsb' 0 32).setWidth 64)) ∧
    (writer → write = true →
      (first (fun n => valid n ∧ ¬ ordered n) → r = .error ((slot sh i).setWidth 64)) ∧
      (readers → sh.getLsbD 164 = true → ∃ e, r = .error e) ∧
      (readers → sh.getLsbD 164 = false → records fun new => new.getLsbD 30 = true ∧ new.extractLsb' 24 6 = b ∧
        new.extractLsb' 0 24 = clock[b.toFin] ∧ new.extractLsb' 160 5 = 0)) ∧
    (writer → write = false →
      (chosen → records fun new => kept new ∧ slot new i = b ++ (0#2 ++ clock[b.toFin]) ∧ new.getLsbD (160 + i) = true ∧
        new.getLsbD 164 = sh.getLsbD 164 ∧
        ∀ n < 4, n ≠ i → slot new n = slot sh n ∧ new.getLsbD (160 + n) = sh.getLsbD (160 + n)) ∧
      (none' → records fun new => kept new ∧ new.getLsbD 164 = true ∧ ∀ n < 4, slot new n = slot sh n ∧
        new.getLsbD (160 + n) = true)))

/-! ### Moves, status registers (R187, R188, Tables 20.3, 20.4) -/

/-- MOVC reads the visible face of a cross scalar; MOVTC writes the hidden face at once, marks the register written with the
word as its writer, and where another writer has written it in the phase raises double-write; of a number above 7 either
raises illegal-operand (R50, R187).

RDSR reads the thirteen status registers of Table 20.3; of any other number it raises illegal-operand (R187, R188).

WRSR writes FRM and KDESC; a value above 4 for FRM, a value with a bit set in 62:48 or 5:0 for KDESC, and any other number
raise illegal-operand (R61, R187, Table 20.4). -/
def Obligations.MovesAndStatus : Prop :=
  (∀ (s : State) (b : BenchId) (c : CoreId) (t : StreamId) (r y : BitVec 5),
    s.alone b c t →
    let x := s.issuing b c t 1
    let st := s.stream b c t
    let i : BitVec 3 := y.setWidth 3
    let f := (s.core b c).c[i.toFin]
    (8 ≤ y.toNat → s.traps b c t 1 (.xmovMovc 1 r y) { cause := 0x03 } ∧
      s.traps b c t 1 (.xmovMovtc 1 y r) { cause := 0x03 }) ∧
    (y.toNat < 8 → s.does b c t 1 (.xmovMovc 1 r y) (x.upd s fun z => z.setS r f.vis)) ∧
    (y.toNat < 8 → f.written = true → (f.tag.async = true ∨ f.tag.stream ≠ t) →
      s.traps b c t 1 (.xmovMovtc 1 y r)
        { cause := 0x08, aux0 := f.tag.pc
          aux1 := BitVec.ofNat 64 ((40 + i.toNat) * 2 ^ 8 + (if f.tag.async then 4 else 0) + f.tag.stream.toNat) }) ∧
    (y.toNat < 8 → (f.written = false ∨ (f.tag.async = false ∧ f.tag.stream = t)) →
      s.does b c t 1 (.xmovMovtc 1 y r) (s.updCore b c fun k => { k with
        c := k.c.set i.toFin { f with
          hid := st.sreg r, written := true
          tag := if f.written then f.tag else { stream := t, async := false, pc := st.pc } } }))) ∧
  (∀ (s : State) (b : BenchId) (c : CoreId) (t : StreamId) (d : BitVec 5) (r : BitVec 12),
    s.alone b c t →
    let x := s.issuing b c t 1
    let st := s.stream b c t
    let k := s.core b c
    let g := s.gang b
    let queue (q : Queue) : Word :=
      BitVec.ofNat 64 (q.cfg.toNat + 2 ^ 32 * ((q.entries.filter (·.landed)).length % 32))
    let reads (n : Nat) (v : Word) : Prop := r.toNat = n → s.does b c t 1 (.xmovRdsr 1 d r) (x.upd s fun y => y.setS d v)
    reads 0x000 (BitVec.ofNat 64 (c.toNat + 4 * b.toNat + 2 ^ 8 * (b.toNat / 8 % 2))) ∧
    reads 0x001 (BitVec.ofNat 64 (k.phase.toNat + 2 ^ 32 * k.rb.toNat)) ∧
    reads 0x002 (st.frm.setWidth 64) ∧
    reads 0x003 st.kdesc ∧
    reads 0x004 (BitVec.ofNat 64 (((st.loops.find? (·.kloop)).map (·.iter)).getD 0)) ∧
    reads 0x008 0x5A01000000000001 ∧
    reads 0x010 (queue k.q[0]) ∧ reads 0x011 (queue k.q[1]) ∧ reads 0x012 (queue k.q[2]) ∧ reads 0x013 (queue k.q[3]) ∧
    reads 0x018 (g.pb1.setWidth 64) ∧ reads 0x019 (g.pb2.setWidth 64) ∧ reads 0x01A (g.pb3.setWidth 64) ∧
    (r.toNat ∉ [0x000, 0x001, 0x002, 0x003, 0x004, 0x008, 0x010, 0x011, 0x012, 0x013, 0x018, 0x019, 0x01A] →
      s.traps b c t 1 (.xmovRdsr 1 d r) { cause := 0x03 })) ∧
  (∀ (s : State) (b : BenchId) (c : CoreId) (t : StreamId) (a : BitVec 5) (r : BitVec 12),
    s.alone b c t →
    let x := s.issuing b c t 1
    let v := (s.stream b c t).sreg a
    let bad : Prop := v.extractLsb' 48 15 ≠ 0 ∨ v.extractLsb' 0 6 ≠ 0
    (r = 2 → v.toNat < 5 → s.does b c t 1 (.xmovWrsr 1 a r) (x.upd s fun y => { y with frm := v.setWidth 3 })) ∧
    (r = 2 → 5 ≤ v.toNat → s.traps b c t 1 (.xmovWrsr 1 a r) { cause := 0x03 }) ∧
    (r = 3 → ¬ bad → s.does b c t 1 (.xmovWrsr 1 a r) (x.upd s fun y => { y with kdesc := v })) ∧
    (r = 3 → bad → s.traps b c t 1 (.xmovWrsr 1 a r) { cause := 0x03 }) ∧
    (r ≠ 2 → r ≠ 3 → s.traps b c t 1 (.xmovWrsr 1 a r) { cause := 0x03 }))

/-! ### SYNC and SYS (R32, R33, R40, R84, R115, R190 to R194) -/

/-- FLIP arrives at the flip and stays at its word, in a KLOOP.F body it is illegal; END ends LD, CP or ST, leaves every loop,
and is illegal in SC (R33, R40, R190;
log 20).

NOP does nothing; TRAP and BRK stop the stream after they are performed, at the next word, with software-trap and
breakpoint; as the last word of a loop's body they stop it just past the body, and the end of the iteration waits for RESUME
(R132, R194; that the end waits so is the model's reading, log 65). -/
def Obligations.StreamControl : Prop :=
  (∀ (s : State) (b : BenchId) (c : CoreId) (t : StreamId),
    s.alone b c t →
    let x := s.issuing b c t 1
    ((∃ f ∈ (s.stream b c t).loops, f.flips = true) → s.traps b c t 1 (.flip 1) { cause := 0x01 }) ∧
    ((∀ f ∈ (s.stream b c t).loops, f.flips = false) →
      exec (.flip 1) s = .next (x.upd (x.closed s) fun st => { st with wait := .flip false x.next })) ∧
    (t = 0 → s.traps b c t 1 (.endStream 1) { cause := 0x01 }) ∧
    (t ≠ 0 → exec (.endStream 1) s = .next (x.upd (x.closed s) fun st =>
      { st with status := .ended, loops := [], k := 0, pc := x.next, wait := .none }))) ∧
  (∀ (s : State) (b : BenchId) (c : CoreId) (t : StreamId) (n : BitVec 16),
    s.alone b c t →
    let x := s.issuing b c t 1
    let last := (s.stream b c t).loops.head?.any fun f => f.last == x.next
    let stops (f : Trap) : State :=
      x.upd (takeFault (x.closed s) b c t x.slot x.next f) fun st => { st with wait := if last then .bodyEnd else .none }
    s.does b c t 1 (.nop 1) s ∧
    exec (.trap 1 n) s = .next (stops { cause := 0x20 }) ∧
    exec (.brk 1 n) s = .next (stops { cause := 0x21 }))

/-- PDECL declares slot s of class c for the next phase; a base with a bit above 25 set, of another core, or a range past the
end of the scratchpad raises illegal-operand (R84, R85, R191).

TLWAIT waits until the timeline counter reaches its number, and is then an acquire at SYS; TLRD reads the counter. A
stream id below 1024 must name a bench of the partition, else protection is raised; one of a bench from which the gang has
migrated is taken as that of its bench; an id that names no timeline is illegal. The counter of a stream is one less than its
oldest outstanding operation, all of those issued where none is outstanding, and 0 on a bench with no node; that of a
collective context likewise over its programs, that of a system copy context over its copy in work (R89, R115, R129, R192,
R330; log 61).

TSIG adds a token of its core at the target, and waits while that counter holds 255; TWAIT takes a token of the source core
and is then an acquire at BENCH; it waits where the counter is 0, or while another stream of the core has waited for the same
token for longer (R193;
log 61). -/
def Obligations.SetsTimelinesTokens : Prop :=
  (∀ (s : State) (b : BenchId) (c : CoreId) (t : StreamId) (cl sl : BitVec 2) (r n : BitVec 5),
    s.alone b c t →
    let x := s.issuing b c t 1
    let base := ((s.stream b c t).sreg r).toNat
    let len := ((s.stream b c t).sreg n).toNat
    let core := base / 2 ^ 24 % 4
    let bad : Prop := 2 ^ 26 ≤ base ∨ (core ≠ 0 ∧ core ≠ c.toNat) ∨ (s.gang b).scratchSize < base % 2 ^ 24 + len
    (bad → s.traps b c t 1 (.pdecl 1 cl sl r n) { cause := 0x03 }) ∧
    (¬ bad → s.does b c t 1 (.pdecl 1 cl sl r n) (x.upd s fun y => { y with
      next := y.next.set (4 * cl.toNat + sl.toNat)
        { base := BitVec.ofNat 32 (c.toNat * 2 ^ 24 + base % 2 ^ 24), len := BitVec.ofNat 32 len }
        (by have := cl.isLt; have := sl.isLt; omega) }))) ∧
  (∀ (s : State) (b : BenchId) (c : CoreId) (t : StreamId) (i n d : BitVec 5),
    s.alone b c t →
    let x := s.issuing b c t 1
    let st := s.stream b c t
    let id := (st.sreg i).toNat
    let p := s.part (s.gang b).part
    let at' : BenchId := if BitVec.ofNat 6 (id / 16) ∈ (s.gang b).former then b else BitVec.ofNat 6 (id / 16)
    let least (v issued : Nat) (open' : List Nat) : Prop :=
      (open' = [] → v = issued) ∧ (∀ n ∈ open', v ≤ n - 1) ∧ (open' ≠ [] → ∃ n ∈ open', v = n - 1)
    (∀ v, counterOf x s (st.sreg i) = .ok v →
      s.does b c t 1 (.tlrd 1 d i) (x.upd s fun y => y.setS d (BitVec.ofNat 64 v)) ∧
      ((st.sreg n).toNat ≤ v → s.does b c t 1 (.tlwait 1 i n) (s.updCore b c fun k => { k with l1 := [] })) ∧
      (v < (st.sreg n).toNat → s.waits b c t (.tlwait 1 i n) st.wait)) ∧
    (∀ f, counterOf x s (st.sreg i) = .error f →
      s.traps b c t 1 (.tlrd 1 d i) f ∧ s.traps b c t 1 (.tlwait 1 i n) f) ∧
    (id < 1024 → p.bench.getLsbD at'.toNat = false → counterOf x s (st.sreg i) = .error { cause := 0x11 }) ∧
    (id < 1024 → p.bench.getLsbD at'.toNat = true →
      (s.gang? at' = none → counterOf x s (st.sreg i) = .ok 0) ∧
      (∀ g, s.gang? at' = some g → ∃ v, counterOf x s (st.sreg i) = .ok v ∧
        let k := g.cores[(BitVec.ofNat 2 (id / 4)).toFin]
        least v (k.streams[(BitVec.ofNat 2 id).toFin]).issued
          ((k.copies.filter fun y => y.stream == BitVec.ofNat 2 id).map (·.num)))) ∧
    (∀ n : Fin 4, id = 1024 + n.val → ∃ v, counterOf x s (st.sreg i) = .ok v ∧
      let k := s.ctxs[n]
      least v k.issued (k.run.toList.map (·.prog.num) ++ (k.pend.toList.map (·.num) ++ k.saved.map (·.prog.num)))) ∧
    (∀ n : Fin 4, id = 1028 + n.val →
      counterOf x s (st.sreg i) = .ok (if (s.scx[n]).busy then (s.scx[n]).num - 1 else (s.scx[n]).num)) ∧
    (1152 ≤ id → counterOf x s (st.sreg i) = .error { cause := 0x03 }) ∧
    ((1032 ≤ id ∧ id < 1088) → counterOf x s (st.sreg i) = .error { cause := 0x03 }) ∧
    (1088 ≤ id → id < 1152 → counterOf x s (st.sreg i) = .ok (p.windows[(BitVec.ofNat 6 (id - 1088)).toFin]).arrivals)) ∧
  (∀ (s : State) (b : BenchId) (c u : CoreId) (t : StreamId),
    s.alone b c t → ((s.stream b c t).wait = .none ∨ ((s.stream b c t).wait.tokenOf u).isSome) →
    let there := (s.core b u).tok[c.toFin]
    let here := (s.core b c).tok[u.toFin]
    let since := ((s.stream b c t).wait.tokenOf u).getD s.ticks
    let first : Prop := ∀ v : Fin 4, v ≠ t.toFin → ∀ n ∈ ((s.core b c).streams[v]).wait.tokenOf u,
      since < n ∨ (since = n ∧ t.toNat < v.val)
    (there ≠ 255 → s.does b c t 1 (.tsig 1 u)
      (s.updCore b u fun k => { k with tok := k.tok.set c.toFin (there + 1) })) ∧
    (there = 255 → s.waits b c t (.tsig 1 u) (s.stream b c t).wait) ∧
    (here ≠ 0 → first → s.does b c t 1 (.twait 1 u)
      (s.updCore b c fun k => { k with tok := k.tok.set u.toFin (here - 1), l1 := [] })) ∧
    (here = 0 ∨ ¬ first → s.waits b c t (.twait 1 u) (.token u since)))

/-! ### Bundles and words out of place (R153 to R157, R247) -/

/-- A word of SC, LD or ST with L = 0 is a malformed bundle; one of another stream is an illegal instruction, in CP as well
(R153, R155, R157).

CP collects the words of a bundle up to the one with L = 1: a word with L = 0 that begins one, PSEL among them, is kept with
its address, and nothing else changes (R155, R156).

A bundle of PSEL and one VMOVE.IMM to a v register: with V and a false stage predicate nothing is written; else, without Z,
the bytes that the predicate selects (with U; all of them without) take the immediate and the others keep what the register's
hidden face will hold, and with Z they become zero (R47, R166, R247).

What a PSEL prefix selects, for every word. A bundle of PSEL and one word of slot VA, VB, MX or SF comes to that word's
effect under the selection; with V and a false stage predicate the word is not performed, pops and pushes nothing and
pushes no ring entry. The elements that the predicate does not select keep what a w register holds and become zero in a
queue, in ZR or with Z; the bits of a compare keep their predicate or become zero with Z. VTRG, VSORT, PRED and CKSPLIT select
nothing (R47, R52, R166, R247). -/
def Obligations.BundlesForm : Prop :=
  (∀ (s : State) (b : BenchId) (c : CoreId) (t : StreamId) (i : Instr),
    s.performs b c t → classOf i ≠ .event →
    (t ≠ 2 → (rawOf i).getLsbD 25 = false → s.traps b c t 1 i { cause := 0x02 }) ∧
    (t ≠ 2 → (rawOf i).getLsbD 25 = true → (classOf i).fits t = false → s.traps b c t 1 i { cause := 0x01 }) ∧
    (t = 2 → (classOf i).fits 2 = false → s.traps b c 2 0 i { cause := 0x01 })) ∧
  (∀ (s : State) (b : BenchId) (c : CoreId) (i : Instr) (u v z : BitVec 1) (k n : BitVec 3),
    s.alone b c 2 →
    let collects (i : Instr) : Prop := exec i s = .next (s.updStream b c 2 fun st =>
      { st with bundle := [{ addr := st.pc, raw := rawOf i, instr := some i }] })
    ((classOf i).fits 2 = true → (rawOf i).getLsbD 25 = false → collects i) ∧ collects (.psel n u k v z)) ∧
  (∀ (s : State) (b : BenchId) (c : CoreId) (p k d : BitVec 3) (u v z : BitVec 1) (i : BitVec 12),
    s.performs b c 2 → 24 ≤ (s.gang b).vcount →
    let st := s.stream b c 2
    let psel : Instr := .psel p u k v z
    let imm : Instr := .vmoveImm 1 (d.setWidth 6) i
    st.bundle = [{ addr := st.pc, raw := rawOf psel, instr := some psel }] → st.sxOnly = false →
    let x := { s.issuing b c 2 2 with next := st.pc + 8 }
    let core := s.core b c
    let reg : Reg := .v (d.setWidth 5)
    let mask : Pred := if u = 1 then spread 4 (core.p[p.toFin]).vis else BitVec.allOnes 4096
    let t : Tile := splat 4 (i.signExtend 32).toNat
    (v = 1 → st.k.getLsbD k.toNat = false → x.goesOn s → exec imm s = .next (x.wentOn s)) ∧
    ((v = 0 ∨ st.k.getLsbD k.toNat = true) → (core.v[(d.setWidth 5 : BitVec 5).toFin]).written = false →
      (∀ y ∈ core.results, ∀ w ∈ y.writes, w.reg ≠ reg) →
      let old := (core.v[(d.setWidth 5 : BitVec 5).toFin]).vis
      let new : Tile := if z = 1 then t &&& byteMask mask else blend mask t old
      let s' := s.updCore b c fun k => { k with
        v := k.v.set (d.setWidth 5 : BitVec 5).toFin
          ((core.v[(d.setWidth 5 : BitVec 5).toFin]).mark { stream := 2, async := false, pc := st.pc + 4 })
        results := k.results ++
          [{ writes := [{ reg := reg, data := new, mask := BitVec.allOnes 4096 }], flags := 0, slot := 2 }] }
      x.goesOn s' [(2, some new)] → exec imm s = .next (x.wentOn s' [(2, some new)]))) ∧
  ((∀ (s : State) (b : BenchId) (c : CoreId) (p k : BitVec 3) (u v z : BitVec 1) (i : Instr),
    s.performs b c 2 → classOf i = .c → (rawOf i).getLsbD 25 = true → (∀ l a, i ≠ .mred l a) →
    let n := slotClaim (rawOf i)
    2 ≤ n → n ≤ 5 → specOk (s.gang b).vcount i = true → specOk (s.gang b).vcount (.psel p u k v z) = true →
    let st := s.stream b c 2
    let psel : Instr := .psel p u k v z
    st.bundle = [{ addr := st.pc, raw := rawOf psel, instr := some psel }] → st.sxOnly = false →
    let sel : Sel :=
      { blocked := v == 1 && !st.k.getLsbD k.toNat
        pred := if u = 1 then some ((s.core b c).p[p.toFin]).vis else none
        zero := z == 1 }
    let x : Ctx := { s.issuing b c 2 n with next := st.pc + 8, word := st.pc + 4, sel := sel }
    groupStop x s i = none →
    (sel.blocked = true → wordEffect i x s = .ok s) ∧
    (∀ s', wordEffect i x s = .ok s' → x.goesOn s' → exec i s = .next (x.wentOn s')) ∧
    (∀ s' e, wordEffect i x s = .ring s' e → x.goesOn s' [(n, e)] →
      exec i s = .next (x.wentOn s' [(n, e)]))) ∧
  (∀ (s : State) (x : Ctx) (d : BitVec 6) (z : Nat) (t : Tile) (f : Lanes),
    let mask : Pred := match x.sel.pred with
      | some p => spread z p
      | none => BitVec.allOnes 4096
    let merged (old : Tile) : Tile := if x.sel.zero then t &&& byteMask mask else blend mask t old
    (∀ n : Fin 8, d.toNat = 32 + n.val →
      deliverTile x s d z t f = .ring (x.updCore s fun k => { k with
        w := k.w.set n (merged (x.core s).w[n])
        results := k.results ++ [{ writes := [], flags := f, slot := x.slot }] }) (some (merged (x.core s).w[n]))) ∧
    (d.toNat = 63 → deliverTile x s d z t f = .ring (x.updCore s fun k => { k with
      results := k.results ++ [{ writes := [], flags := f, slot := x.slot }] }) (some (merged 0))) ∧
    (∀ n : Fin 4, (d = 54 ∧ n = 2) ∨ (d = 55 ∧ n = 3) →
      let q := (x.core s).q[n]
      q.refused = false → q.entries.length < q.depth → (s.gang? x.b).isSome = true →
      deliverTile x s d z t f = .ring (x.updCore s fun k => { k with
        q := k.q.set n { q with entries := q.entries ++ [{ landed := false, tile := merged 0, id := (x.core s).entries }] }
        entries := k.entries + 1
        results := k.results ++ [{ writes := [], flags := f, entry := some (n, (x.core s).entries), slot := x.slot }] })
        (some (merged 0))) ∧
    (∀ (n : BitVec 3) (r : Pred), d = n.setWidth 6 → ((x.core s).p[n.toFin]).written = false →
      deliverPred x s d z r f true = .ring (x.updCore s fun k => { k with
        p := k.p.set n.toFin (((x.core s).p[n.toFin]).mark (x.tag false))
        results := k.results ++ [{
          writes := [{ reg := .p n
                       data := (if x.sel.zero then r &&& mask else r).setWidth 32768
                       mask := if x.sel.zero then BitVec.allOnes 4096 else mask }]
          flags := f }] }) none)) ∧
  (∀ (s : State) (x : Ctx) (i : Instr), x.sel.blocked = false →
    (match i with
      | .vtrg _ _ _ | .vsort _ _ _ _ _ | .pred _ _ _ _ _ | .cksplit _ _ _ _ _ => True
      | _ => False) →
    wordEffect i x s = wordEffect i { x with sel := {} } s))

/-! ### Stream control (R31 to R33, R203) -/

/-- FORK: where a named stream is not IDLE it raises illegal-operand, else where the entry of one fails the checks of R152
fetch-range with the entry of the lowest such stream in ADDR (log 79), and no stream starts; else each named stream starts at
its entry with s1 and s2 of SC, all else of its registers cleared (R31; log 3).

NEXIT and NYIELD wait as JOIN does, and then until the core has no asynchronous operation; then the core retires with the
operand, its SC is IDLE and its token counts are discarded (R33, R193, R203; log 24).

A core that has not drained keeps NEXIT and NYIELD waiting, its ENDED streams IDLE (R33, R203; log 24). -/
def Obligations.StreamsStartCoresRetire : Prop :=
  (∀ (s : State) (b : BenchId) (c : CoreId) (m : BitVec 3),
    s.alone b c 0 →
    let x := s.issuing b c 0 0
    let sc := s.stream b c 0
    let streams := (s.core b c).streams
    let named (t : Fin 4) : Bool := decide (t ≠ 0) && m.getLsbD (t.val - 1)
    let entry (t : Fin 4) : Word := sc.b[t.val]
    let fetches (t : Fin 4) : Bool := fetchable s (whoStream s b c) (entry t)
    ((∃ t, named t = true ∧ (streams[t]).status ≠ .idle) → s.traps b c 0 0 (.fork m) { cause := 0x03 }) ∧
    ((∀ t, named t = true → (streams[t]).status = .idle) →
      (∀ t, named t = true → fetches t = false → (∀ u, named u = true → fetches u = false → t ≤ u) →
        s.traps b c 0 0 (.fork m) { cause := 0x04, addr := entry t }) ∧
      ((∀ t, named t = true → fetches t = true) →
        s.does b c 0 0 (.fork m) (x.updCore s fun k => { k with
          streams := Vector.ofFn fun t => if named t then
              { streams[t] with
                status := .running, pc := entry t
                s := Vector.ofFn fun r => if r = 1 then sc.sreg 1 else if r = 2 then sc.sreg 2 else 0
                f := 0, b := Vector.replicate 8 0x8000000000000000, k := 0, frm := 0, kdesc := 0x8000000000000000
                loops := [], wait := .none, bundle := [], sxOnly := false }
            else streams[t] })))) ∧
  (∀ (s : State) (b : BenchId) (c : CoreId) (r : BitVec 5),
    s.alone b c 0 →
    let x := s.issuing b c 0 0
    let runs : Prop := ∃ t : Fin 4, t ≠ 0 ∧ ((s.core b c).streams[t]).status = .running
    let joined (k : Core) : Core := { k with
      streams := k.streams.map fun st => if st.status = .ended then { st with status := .idle } else st }
    let retired (yields : Bool) : State := (x.upd (s.updCore b c joined) fun st =>
      { st with status := .idle, wait := .none }).updCore b c fun k =>
        { k with retired := some { yields := yields, operand := (s.stream b c 0).sreg r }
                 tok := #v[0, 0, 0, 0] }
    (runs → s.waits b c 0 (.nexit r) .join ∧ s.waits b c 0 (.nyield r) .join) ∧
    (¬ runs → (s.core b c).drained = true →
      exec (.nexit r) s = .next (retired false) ∧ exec (.nyield r) s = .next (retired true))) ∧
  (∀ (s : State) (b : BenchId) (c : CoreId) (r : BitVec 5),
    s.alone b c 0 → (∀ t : Fin 4, t ≠ 0 → ((s.core b c).streams[t]).status ≠ .running) →
    (s.core b c).drained = false →
    let x := s.issuing b c 0 0
    let s' := x.upd (s.updCore b c fun k => { k with
      streams := k.streams.map fun st => if st.status = .ended then { st with status := .idle } else st }) fun st =>
        { st with wait := .join }
    exec (.nexit r) s = .next s' ∧ exec (.nyield r) s = .next s')

/-- JOIN waits while a stream of the core other than SC is RUNNING; then every ENDED stream becomes IDLE, and JOIN with no
stream running completes at once (R32). -/
def Obligations.JoinWaits : Prop :=
  ∀ (s : State) (b : BenchId) (c : CoreId),
    s.alone b c 0 →
    let runs : Prop := ∃ t : Fin 4, t ≠ 0 ∧ ((s.core b c).streams[t]).status = .running
    (runs → s.waits b c 0 .join .join) ∧
    (¬ runs → s.does b c 0 0 .join (s.updCore b c fun k => { k with
      streams := k.streams.map fun st => if st.status = .ended then { st with status := .idle } else st }))

/-! ### Atomics and ordered accesses (R105 to R109, R196 to R201) -/

/-- AMO, CAS, LDA and STRL at an address that is aligned, translated and permitted: the value read is the one at the home slice;
AMO writes its function of it, CAS its data where the comparison holds, STRL its register; ORD bit 0 makes the word an acquire
and bit 1 a release, CAS a release only where it writes; LDA is an acquire and STRL a release; a present line of the core's
first-level cache takes the bytes that were read or written (R89, R98, R196 to R199;
log 17).

The functions of AMO (R197).

Atomic words of every size at a misaligned address raise alignment, at an address of the format aperture or without the
permissions that they need protection, after the reads of the page walk; a sixteen-byte CAS with an odd register illegal-operand
(R196, R198, R199).

FENCE as an acquire at a scope above CORE empties the first-level cache; BARB counts once, waits until the SC of every core
has counted as many, and is then an acquire at BENCH, clocks unchanged (R89, R106, R200, R201;
log 4). -/
def Obligations.AtomicsAndOrdering : Prop :=
  (∀ (s : State) (b : BenchId) (c : CoreId) (f : BitVec 4) (z o sc : BitVec 2) (d r m q : BitVec 5)
    (i : BitVec 10) (pa : Nat) (l : Leaf) (s0 : State),
    s.alone b c 0 → f.toNat < 9 →
    let x := s.issuing b c 0 0
    let st := s.stream b c 0
    let who := whoStream s b c
    let performed (n : Nat) (s1 : State) (acq rel : Bool) (new : Option Nat) : State :=
      let s2 := if acq then acquireAt s1 x sc.toNat pa else s1
      let s3 := match new with
        | some v => (physWrite s2 pa n v).updCore b c fun k => k.refreshL1 pa n v
        | none => s2.updCore b c fun k => k.refreshL1 pa n (physRead s2 pa n)
      if rel then releaseAt s3 b sc.toNat pa else s3
    let maps (va : Word) : Prop := translate s who va = .ok (l, s0) ∧ l.pa = pa ∧ pa < apertureBase
    (∀ s1, (st.sreg r).toNat % 8 = 0 → maps (st.sreg r) → l.rd = true → l.wr = true →
      homeAccess s who (st.sreg r) 8 .update true = .ok (pa, s1) →
      let old := BitVec.ofNat 64 (physRead s pa 8)
      s.does b c 0 0 (.amo f 3 o sc d r q) (x.upd
        (performed 8 s1 (o.getLsbD 0) (o.getLsbD 1) (some (amoFn f.toNat old (st.sreg q)).toNat))
        fun y => y.setS d old)) ∧
    (∀ s1, (st.sreg r).toNat % 4 = 0 → maps (st.sreg r) → l.rd = true → l.wr = true →
      homeAccess s who (st.sreg r) 4 .update true = .ok (pa, s1) →
      let old := BitVec.ofNat 32 (physRead s pa 4)
      s.does b c 0 0 (.amo f 2 o sc d r q) (x.upd
        (performed 4 s1 (o.getLsbD 0) (o.getLsbD 1) (some (amoFn f.toNat old ((st.sreg q).setWidth 32)).toNat))
        fun y => y.setS d (if f = 4 ∨ f = 5 then old.signExtend 64 else old.setWidth 64))) ∧
    (∀ s1, (st.sreg r).toNat % 8 = 0 → maps (st.sreg r) → l.rd = true → l.wr = true →
      let old := physRead s pa 8
      let same := old = (st.sreg m).toNat
      homeAccess s who (st.sreg r) 8 (if same then .update else .read) true = .ok (pa, s1) →
      s.does b c 0 0 (.cas 0 o sc d r m q) (x.upd
        (performed 8 s1 (o.getLsbD 0) (o.getLsbD 1 && decide same) (if same then some (st.sreg q).toNat else none))
        fun y => y.setS d (BitVec.ofNat 64 old))) ∧
    (∀ s1, d.getLsbD 0 = false → m.getLsbD 0 = false → q.getLsbD 0 = false →
      (st.sreg r).toNat % 16 = 0 → maps (st.sreg r) → l.rd = true → l.wr = true →
      let old := physRead s pa 16
      let pair (n : BitVec 5) : Nat := (st.sreg n).toNat + 2 ^ 64 * (st.sreg (n + 1)).toNat
      let same := old = pair m
      homeAccess s who (st.sreg r) 16 (if same then .update else .read) true = .ok (pa, s1) →
      s.does b c 0 0 (.cas 1 o sc d r m q) (x.upd
        (performed 16 s1 (o.getLsbD 0) (o.getLsbD 1 && decide same) (if same then some (pair q) else none))
        fun y => if d = 0 then y
          else (y.setS d (BitVec.ofNat 64 old)).setS (d + 1) (BitVec.ofNat 64 (old / 2 ^ 64)))) ∧
    (let n := 2 ^ z.toNat
     let va := st.sreg r + i.setWidth 64 * BitVec.ofNat 64 n
     va.toNat % n = 0 → maps va →
      (∀ s1, l.rd = true → homeAccess s who va n .read true = .ok (pa, s1) →
        s.does b c 0 0 (.lda z sc d r i) (x.upd (performed n s1 true false none) fun y =>
          y.setS d (BitVec.ofNat 64 (physRead s pa n)))) ∧
      (∀ s1, l.wr = true → homeAccess s who va n .write true = .ok (pa, s1) →
        s.does b c 0 0 (.strl z sc d r i)
          (performed n s1 false true (some ((st.sreg d).toNat % 2 ^ (8 * n))))))) ∧
  (∀ (w : Nat) (old v : BitVec w),
    amoFn 0 old v = old + v ∧ amoFn 1 old v = old &&& v ∧ amoFn 2 old v = old ||| v ∧ amoFn 3 old v = old ^^^ v ∧
    (amoFn 4 old v).toInt = min old.toInt v.toInt ∧ (amoFn 5 old v).toInt = max old.toInt v.toInt ∧
    (amoFn 6 old v).toNat = min old.toNat v.toNat ∧ (amoFn 7 old v).toNat = max old.toNat v.toNat ∧ amoFn 8 old v = v) ∧
  (∀ (s : State) (b : BenchId) (c : CoreId) (f : BitVec 4) (w : BitVec 1) (z o sc : BitVec 2) (d r m q : BitVec 5)
    (i : BitVec 10) (l : Leaf) (s0 : State),
    s.alone b c 0 →
    let base := (s.stream b c 0).sreg r
    let n := 2 ^ z.toNat
    let va := base + i.setWidth 64 * BitVec.ofNat 64 n
    let odd : Prop := d.getLsbD 0 = true ∨ m.getLsbD 0 = true ∨ q.getLsbD 0 = true
    let size : Nat := if w = 1 then 16 else 8
    let maps (va : Word) : Prop := translate s (whoStream s b c) va = .ok (l, s0)
    let bad : Prop := l.rd = false ∨ l.wr = false ∨ apertureBase ≤ l.pa
    let denied (i : Instr) (va : Word) : Prop := exec i s = .next
      (takeFault (missed s (whoStream s b c) va false) b c 0 0 (s.stream b c 0).pc { cause := 0x11, addr := va })
    (2 ≤ z.toNat → base.toNat % n ≠ 0 → s.traps b c 0 0 (.amo f z o sc d r q) { cause := 0x05, addr := base }) ∧
    (2 ≤ z.toNat → base.toNat % n = 0 → maps base → bad → denied (.amo f z o sc d r q) base) ∧
    (w = 1 → odd → s.traps b c 0 0 (.cas w o sc d r m q) { cause := 0x03 }) ∧
    ((w = 1 → ¬ odd) → base.toNat % size ≠ 0 →
      s.traps b c 0 0 (.cas w o sc d r m q) { cause := 0x05, addr := base }) ∧
    ((w = 1 → ¬ odd) → base.toNat % size = 0 → maps base → bad → denied (.cas w o sc d r m q) base) ∧
    (va.toNat % n ≠ 0 → s.traps b c 0 0 (.lda z sc d r i) { cause := 0x05, addr := va } ∧
      s.traps b c 0 0 (.strl z sc d r i) { cause := 0x05, addr := va }) ∧
    (va.toNat % n = 0 → maps va → (l.rd = false ∨ apertureBase ≤ l.pa) → denied (.lda z sc d r i) va) ∧
    (va.toNat % n = 0 → maps va → (l.wr = false ∨ apertureBase ≤ l.pa) → denied (.strl z sc d r i) va)) ∧
  (∀ (s : State) (b : BenchId) (c : CoreId) (k sc : BitVec 2),
    s.alone b c 0 →
    let empties (s : State) : State := s.updCore b c fun k => { k with l1 := [] }
    s.does b c 0 0 (.fence k sc) (if k.getLsbD 0 = true ∧ sc ≠ 0 then empties s else s) ∧
    (let s' := if (s.stream b c 0).wait = .barrier then s else s.updCore b c fun k => { k with barbs := k.barbs + 1 }
     let all : Prop := ∀ q : CoreId, (s'.core b c).barbs ≤ (s'.core b q).barbs
     (all → s.does b c 0 0 .barb (empties s')) ∧
     (¬ all → exec .barb s = .next (s'.updStream b c 0 fun st => { st with wait := .barrier }))))

/-! ### Futures and nodes (R126, R127, R202, R203) -/

/-- The future words raise alignment where F is not a multiple of 8; FUTINIT writes EMPTY with no waiters, and on a word with
ST 3, or EMPTY with waiters counted, raises future-bad-state; FUTRES and FUTFAIL resolve the word and go on once the nodes made
ready have their places; the core's first-level cache drops the line, and a fault of the word leaves the access that found it
(R90, R126, R127, R202; logs 18 and 82).

An access to the word of a future at an address that translates is an update of the word where the instruction changes it,
and a read where it does not: a registration or a resolution changes a well-formed EMPTY word, FUTINIT every word but one of
ST 3 or EMPTY with waiters counted; the word is well formed as Table 14.5 has it. A registration updates the record but where
nothing of it changes: its STATE is not 00, the word is not well formed or not translated, or it is RESOLVED and PEND is 0
(R110, R127, R202; log 18).

Resolving a future: a word that is no legal future raises future-bad-state, one already resolved future-resolved; else the
word takes its new state and code, to which the bench's clock is joined, and the nodes of its waiter list whose count reaches
zero are made ready (R127; logs 17 and 21).

FUTREG: a misaligned F or N raises alignment, F first, and an N whose STATE is not 00 future-bad-state, each with that
address; a protection fault on the record names F, and leaves the table reads of the record's walk; on an EMPTY future the
record goes to the head of its waiter list and the waiters are counted, up to 255; on a resolved future the word is an
acquire, and the record's count falls by one (R127, R202; logs 18, 56 and 63). -/
def Obligations.Futures : Prop :=
  (∀ (s : State) (b : BenchId) (c : CoreId) (f r : BitVec 5) (pa : Nat) (w : Word) (s1 : State),
    s.alone b c 0 → (∀ l, (s.stream b c 0).wait ≠ .place l) →
    let x := s.issuing b c 0 0
    let a := (s.stream b c 0).sreg f
    let word (kind : Word → AccKind) : Prop := futureAccess s (whoStream s b c) a kind = .ok (pa, w, s1)
    let s2 := s1.updCore b c fun k => k.dropLine (lineOf pa)
    (a.toNat % 8 ≠ 0 → s.traps b c 0 0 (.futinit f) { cause := 0x05, addr := a } ∧
      s.traps b c 0 0 (.futres f r) { cause := 0x05, addr := a } ∧
      s.traps b c 0 0 (.futfail f r) { cause := 0x05, addr := a }) ∧
    (a.toNat % 8 = 0 → (word fun w => if initBad w then .read else .update) →
      (initBad w = true → s.trapsIn b c 0 0 (.futinit f) s2 { cause := 0x0D, addr := a }) ∧
      (initBad w = false → s.does b c 0 0 (.futinit f) (physWrite s2 pa 8 0))) ∧
    (a.toNat % 8 = 0 → word futureKind →
      (∀ k : Fin 2, let i : Instr := if k = 0 then .futres f r else .futfail f r
        let code := ((s.stream b c 0).sreg r).toNat % 2 ^ 32
        let v := (s.gang b).vf
        let sp := (s.gang b).space
        (∀ t, resolveBy s2 b sp a pa (k.val + 1) code = .error t → s.trapsIn b c 0 0 i s2 t) ∧
        (∀ s3 nodes s4, resolveBy s2 b sp a pa (k.val + 1) code = .ok (s3, nodes) →
          placeAll x s3 (nodes.map fun n => (n, v, true)) = .ok s4 → s.does b c 0 0 i s4)))) ∧
  (∀ (s t : State) (w : Who) (f y : Word) (kind : Word → AccKind) (l : Leaf),
    let st := y.toNat / 2 ^ 62
    (translate s w f = .ok (l, t) →
      futureAccess s w f kind = (homeAccess s w f 8 (kind (BitVec.ofNat 64 (physRead t l.pa 8))) false).map
        fun z => (z.1, BitVec.ofNat 64 (physRead z.2 z.1 8), z.2)) ∧
    (∀ e, translate s w f = .error e → futureAccess s w f kind = .error e) ∧
    (futureOk y = true ↔ st ≠ 3 ∧ y.toNat / 2 ^ 56 % 2 ^ 6 = 0 ∧ (st = 0 → y.toNat % 2 ^ 7 = 0)) ∧
    futureKind y = (if futureOk y = true ∧ st = 0 then .update else .read) ∧
    (initBad y = true ↔ st = 3 ∨ (st = 0 ∧ y.toNat / 2 ^ 48 % 256 ≠ 0)) ∧
    (∀ (n : Word) (m : Leaf) (u : State), translate s w n = .ok (m, u) → translate s w f = .ok (l, t) →
      let v := BitVec.ofNat 64 (physRead t l.pa 8)
      let writes : Prop := physRead u (m.pa + 112) 8 < 2 ^ 62 ∧ futureOk v = true ∧
        (v.toNat / 2 ^ 62 = 1 → physRead u (m.pa + 16) 4 ≠ 0)
      registerKind s w f n = if writes then .update else .read) ∧
    (∀ (n : Word) (e : MemFault), translate s w n = .error e ∨ translate s w f = .error e → registerKind s w f n = .read)) ∧
  (∀ (s : State) (b : BenchId) (sp : Space) (a : Word) (pa st code : Nat),
    1 ≤ st → st ≤ 2 → code < 2 ^ 32 →
    let w := BitVec.ofNat 64 (physRead s pa 8)
    (futureOk w = false → resolveBy s b sp a pa st code = .error { cause := 0x0D, addr := a }) ∧
    (futureOk w = true → 2 ^ 62 ≤ w.toNat → resolveBy s b sp a pa st code = .error { cause := 0x0C, addr := a }) ∧
    (futureOk w = true → w.toNat < 2 ^ 62 →
      let s1 := releaseAt (physWrite s pa 8 (st * 2 ^ 62 + code)) b 3 pa
      ((w.toNat / 2 ^ 7 % 2 ^ 41 = 0) → resolveBy s b sp a pa st code = .ok (s1, [])) ∧
      resolveBy s b sp a pa st code = .ok (releaseWaiters s1 (s.gang b).part sp a (st == 2) s.clocks[b.toFin]
        (waiters s sp drainFuel (w.toNat / 2 ^ 7 % 2 ^ 41 * 2 ^ 7))))) ∧
  (∀ (s : State) (b : BenchId) (c : CoreId) (f r : BitVec 5) (npa pa : Nat) (s1 s2 : State) (w : Word),
    s.alone b c 0 → (∀ l, (s.stream b c 0).wait ≠ .place l) →
    let x := s.issuing b c 0 0
    let a := (s.stream b c 0).sreg f
    let n := (s.stream b c 0).sreg r
    let v := (s.gang b).vf
    let sp := (s.gang b).space
    let k := registerKind s (whoStream s b c) a n
    (a.toNat % 8 ≠ 0 → s.traps b c 0 0 (.futreg f r) { cause := 0x05, addr := a }) ∧
    (a.toNat % 8 = 0 → n.toNat % 128 ≠ 0 → s.traps b c 0 0 (.futreg f r) { cause := 0x05, addr := n }) ∧
    (a.toNat % 8 = 0 → n.toNat % 128 = 0 → recordAt x s n k = .error .prot →
      s.trapsIn b c 0 0 (.futreg f r) (missed s (whoStream s b c) n false) { cause := 0x11, addr := a }) ∧
    (a.toNat % 8 = 0 → n.toNat % 128 = 0 → recordAt x s n k = .ok (npa, s1) →
      (2 ^ 62 ≤ physRead s1 (npa + 112) 8 → s.trapsIn b c 0 0 (.futreg f r) s1 { cause := 0x0D, addr := n }) ∧
      (physRead s1 (npa + 112) 8 < 2 ^ 62 → futureAt x s1 a futureKind = .ok (pa, w, s2) →
        (futureOk w = false → s.trapsIn b c 0 0 (.futreg f r) s2 { cause := 0x0D, addr := a }) ∧
        (futureOk w = true → w.toNat < 2 ^ 62 →
          let head := w.toNat / 2 ^ 7 % 2 ^ 41
          let s3 := physWrite s2 (npa + 32) 8 (if head = 0 then 0 else head * 2 ^ 7 + v.toNat)
          s.does b c 0 0 (.futreg f r) (physWrite s3 pa 8
            (setBits (setBits w 7 41 (n.toNat / 2 ^ 7 % 2 ^ 41)) 48 8 (min (w.toNat / 2 ^ 48 % 256 + 1) 255)).toNat)) ∧
        (futureOk w = true → 2 ^ 62 ≤ w.toNat →
          let s3 := if w.toNat / 2 ^ 62 = 2 then setFI s2 sp n.toNat else s2
          let y := decrement (acquireAt s3 x 3 pa) (s.gang b).part sp n.toNat a
            ((carried s3 (s.gang b).part (lineOf pa)).getD Clock.zero)
          (y.2 = false → s.does b c 0 0 (.futreg f r) y.1) ∧
          (y.2 = true → ∀ s4, placeAll x y.1 [(n.toNat, v, true)] = .ok s4 → s.does b c 0 0 (.futreg f r) s4)))))

/-- NSPAWN: a misaligned record raises alignment; a record with PEND takes STATE 00 and waits; with PEND 0 it takes STATE 01,
and the word goes on once the node is placed; bits 61:32 of D14 become zero; the word is a release at SYS to the record, whose
vector it begins. NSELF reads the node's record address (R109, R121, R122, R123, R203; log 18).

A word of SC that waits for places for nodes it has made ready goes on once every one of them has its place, and else waits
for those that have none (R123).

A node that becomes ready is checked in the order of R122: its function's partition, reserved fields and ENTRY, pools,
queues and default sets, a failed input, the need of an extended bench. The first check that fails gives the code of Table 14.4:
STATE 11 with that code, a record for 0x1A, and the future resolved FAILED with it. One that passes takes the partition's next
ready number and STATE 01, and is placed with that number. A word that made nodes ready waits for those without a place (R122,
R123).

A ready node enters the pool with its ready number where it is completion-critical and the pool has an entry, or where more
than 256 are free and neither the spoil queue nor the deferred list holds one before it; else it goes to the tail of the spoil
ring, else its agent waits, and one that never waits has it put at the tail of the deferred list; its number is kept. Heads of
the ring and of the list move up while there is room (R123, R124). -/
def Obligations.NodesSubmitted : Prop :=
  (∀ (s : State) (b : BenchId) (c : CoreId) (r : BitVec 5) (pa : Nat) (s1 : State),
    s.alone b c 0 → (∀ l, (s.stream b c 0).wait ≠ .place l) →
    let x := s.issuing b c 0 0
    let n := (s.stream b c 0).sreg r
    let v := (s.gang b).vf
    s.does b c 0 0 (.nself r) (x.upd s fun y => y.setS r (s.gang b).record) ∧
    (n.toNat % 128 ≠ 0 → s.traps b c 0 0 (.nspawn r) { cause := 0x05, addr := n }) ∧
    (n.toNat % 128 = 0 → recordAt x s n .update = .ok (pa, s1) →
      let s2 := releaseAt (clearCarried s1 (s.gang b).part (lineOf pa)) b 3 pa
      let s3 (st : Nat) := physWrite s2 (pa + 112) 8 (physRead s2 (pa + 112) 8 % 2 ^ 32 + st * 2 ^ 62)
      (physRead s1 (pa + 16) 4 ≠ 0 →
        s.does b c 0 0 (.nspawn r) (submitWaiting (s3 0) v n.toNat)) ∧
      (physRead s1 (pa + 16) 4 = 0 → ∀ s4, placeAll x (s3 1) [(n.toNat, v, true)] = .ok s4 →
        s.does b c 0 0 (.nspawn r) s4))) ∧
  (∀ (s : State) (b : BenchId) (c : CoreId) (f r : BitVec 5) (l : List (Nat × VfId × Nat)),
    s.alone b c 0 → (s.stream b c 0).wait = .place l →
    let y := placeRest s l
    ∀ i ∈ [Instr.nspawn r, .futreg f r, .futres f r, .futfail f r],
      (y.2 = [] → s.does b c 0 0 i y.1) ∧
      (y.2 ≠ [] → exec i s = .next (y.1.updStream b c 0 fun st => { st with wait := .place y.2 }))) ∧
  (∀ (s : State) (v : VfId) (node fuel : Nat) (waits : Bool) (d : List Word) (r : List (Nat × VfId × Bool)),
    readRecord s (s.space v) node = some d →
    let p := (s.vf v).part
    let sp := s.space v
    let part : Prop := (s.vf v).partEn = true
    let field (i lo n : Nat) : Nat := (d[i]!).toNat / 2 ^ lo % 2 ^ n
    let reserved : Prop := ∀ y ∈ [(0, 48, 16), (0, 0, 2), (2, 40, 24), (3, 48, 16), (3, 0, 3), (4, 48, 16), (5, 30, 34), (5, 2, 7),
      (6, 50, 14), (6, 18, 14), (7, 50, 14), (7, 18, 14), (8, 48, 16), (8, 0, 9), (13, 16, 48)], field y.1 y.2.1 y.2.2 = 0
    let pb (n : Nat) : Nat := field 5 (2 + 7 * n) 7
    let depth (q : Nat) : Nat := field (6 + q / 2) (32 * (q % 2) + 13) 5
    let rm (q : Nat) : Nat := field (6 + q / 2) (32 * (q % 2) + 8) 3
    let pools : Prop := field 5 0 2 + 1 ≤ pb 1 ∧ pb 1 ≤ pb 2 ∧ pb 2 + (depth 0 + depth 1 + depth 2 + depth 3 + 15) / 16 ≤ pb 3 ∧
      (96 - pb 3) ∈ [12, 16, 20, 24, 28, 32, 36, 40, 44, 48] ∧
      ∀ q, q < 4 → 2 ≤ depth q ∧ depth q ≤ 16 ∧ (rm q ≤ 4 ∨ rm q = 7)
    ∀ s0 s1 : State, s0 = vfTouch s sp node 128 .read →
    (part ∧ reserved ∧ pools → s1 = (setsTouch s0 sp d).updPart p fun q =>
      { q with waiting := q.waiting.filter fun e => !(e == (node, v)) }) →
    (¬ (part ∧ reserved ∧ pools) → s1 = s0.updPart p fun q =>
      { q with waiting := q.waiting.filter fun e => !(e == (node, v)) }) →
    let sets : Prop := ∃ l, defaultSets s1 sp d 0 = some l ∧ setsConflict l = none ∧
      ∀ t i (ht : t < 4) (hi : i < 16), (l[t])[i].base.toNat < 2 ^ 24
    let failed : Prop := (d[2]!).getLsbD 38 = true ∧ (d[2]!).getLsbD 39 = false
    let bound : Prop := ((d[2]!).getLsbD 32 = true ∨ (d[2]!).getLsbD 36 = true) ∧ ∀ b ∈ partBenches s1 p, isLean b = true
    let fails (code : Nat) : Prop :=
      let t := updRecord s1 sp node 14 fun _ => BitVec.ofNat 64 (3 * 2 ^ 62 + code)
      let t := if code = 0x1A then
        (trapRecord t p { cause := 0x1A, unit := 3, addr := BitVec.ofNat 64 node, aux0 := 0, aux1 := 0 }).1 else t
      let y := dispatcherResolve t p sp node ((d[3]!) &&& 0xFFFFFFFFFFF8#64) code
      makeReady (fuel + 1) s ((node, v, waits) :: r) = makeReady fuel y.1 (y.2.map (fun m => (m, v, false)) ++ r)
    (¬ part → fails 5) ∧
    (part → ¬ reserved → fails 2) ∧
    (part → reserved → ¬ (pools ∧ sets) → fails 3) ∧
    (part → reserved → pools → sets → failed → fails 4) ∧
    (part → reserved → pools → sets → ¬ failed → bound → fails 0x1A) ∧
    (part → reserved → pools → sets → ¬ failed → ¬ bound →
      let num := (s1.part p).readyCount
      let y := placeNode s1 p v node num waits
      let z := makeReady fuel (updRecord (y.1.updPart p fun q => { q with readyCount := num + 1 }) sp node 14
        fun w => BitVec.ofNat 64 (2 ^ 62 + w.toNat % 2 ^ 32)) r
      makeReady (fuel + 1) s ((node, v, waits) :: r) = (z.1, if y.2 then z.2 else (node, v, num) :: z.2)) ∧
    (∀ (t t1 : State) (fut w : Word) (code pa : Nat), fut ≠ 0 → futureAccess t (whoVf t sp) fut futureKind = .ok (pa, w, t1) →
      let noted (cause : Nat) (aux : Word) : Prop := dispatcherResolve t p sp node fut code =
        ((trapRecord t1 p { cause := cause, unit := 3, addr := fut, aux0 := BitVec.ofNat 64 node, aux1 := aux }).1, [])
      (futureOk w = false → noted 0x0D w) ∧
      (futureOk w = true → 2 ^ 62 ≤ w.toNat → noted 0x0C w) ∧
      (futureOk w = true → w.toNat < 2 ^ 62 → dispatcherResolve t p sp node fut code =
        releaseWaiters (physWrite t1 pa 8 (2 ^ 63 + code)) p sp fut true Clock.zero
          (waiters t1 sp drainFuel (w.toNat / 2 ^ 7 % 2 ^ 41 * 2 ^ 7)))) ∧
    (∀ (x : Ctx) (t : State) (nodes : List (Nat × VfId × Bool)),
      let y := makeReady readyFuel t nodes
      placeAll x t nodes = if y.2 = [] then .ok y.1 else .stay (x.upd y.1 fun st => { st with wait := .place y.2 }))) ∧
  (∀ (s : State) (p : PartId) (v : VfId) (node num fuel : Nat) (waits : Bool) (d2 : Word),
    vfRead s (s.space v) (node + 16) = some d2 →
    let q := s.part p
    let free := 4096 - q.pool.length
    let ringFull : Prop := q.spoilCap.toNat ≤ q.spoilCount.toNat
    let listEmpty : Prop := q.defHead = 0
    let slot (i : Nat) : Nat := q.spoilBase.toNat * 2 ^ 12 + 8 * (i % q.spoilCap.toNat)
    let name : Word := BitVec.ofNat 64 (node + v.toNat)
    let entry (node num : Nat) (v : VfId) (d2 : Word) : PoolEntry :=
      { node := node, vf := v, ready := num, prio := d2.toNat / 2 ^ 34 % 4, passes := 0, ext := d2.getLsbD 32 || d2.getLsbD 36 }
    let pooled : Prop := (d2.getLsbD 37 = true ∧ 1 ≤ free) ∨ (256 < free ∧ q.spoilCount = 0 ∧ listEmpty)
    let keeps (s : State) : State := s.updPart p fun q => { q with numbers := (node, v, num) :: q.numbers }
    let rings (s : State) (node : Nat) (v : VfId) : State :=
      (devWrite s (some p) (slot (q.spoilHead + q.spoilCount.toNat)) 8 (node + v.toNat)).updPart p
        fun q => { q with spoilCount := q.spoilCount + 1 }
    let s1 := vfWrite s (s.space v) (node + 32) 0
    let tail : VfId := q.defTail.extractLsb' 0 7
    (pooled → placeNode s p v node num waits =
      (s.updPart p fun q => { q with pool := q.pool ++ [entry node num v d2] }, true)) ∧
    (¬ pooled → ¬ ringFull → listEmpty → placeNode s p v node num waits = (keeps (rings s node v), true)) ∧
    (¬ pooled → (ringFull ∨ ¬ listEmpty) → waits = true → placeNode s p v node num waits = (s, false)) ∧
    (¬ pooled → ringFull → listEmpty → waits = false → placeNode s p v node num waits =
      (keeps (s1.updPart p fun q => { q with defHead := name, defTail := name }), true)) ∧
    (¬ pooled → ¬ listEmpty → waits = false → placeNode s p v node num waits =
      (keeps ((vfWrite s1 (s1.space tail) (q.defTail.toNat / 2 ^ 7 % 2 ^ 41 * 2 ^ 7 + 32) name).updPart p
        fun q => { q with defTail := name }), true)) ∧
    (∀ l, let z := placeNode (vfTouch s (s.space v) (node + 16) 8 .read) (s.vf v).part v node num true
      let y := placeRest z.1 l
      placeRest s ((node, v, num) :: l) = (y.1, if z.2 then y.2 else (node, v, num) :: y.2)) ∧
    (256 < free → q.spoilCount ≠ 0 →
      let e := BitVec.ofNat 64 (physRead s (slot q.spoilHead) 8)
      let n := e.toNat / 2 ^ 7 % 2 ^ 41 * 2 ^ 7
      let u : VfId := e.extractLsb' 0 7
      let num := ((q.numbers.find? fun e => e.1 == n && e.2.1 == u).map (·.2.2)).getD q.readyCount
      let t := vfTouch (atHome s (some p) .read (slot q.spoilHead) 8) (s.space u) (n + 16) 8 .read
      drainSpoil p (fuel + 1) s = drainSpoil p fuel (t.updPart p fun y => { y with
        pool := y.pool ++ [entry n num u ((vfRead t (t.space u) (n + 16)).getD 0)]
        spoilHead := (y.spoilHead + 1) % y.spoilCap.toNat, spoilCount := y.spoilCount - 1
        numbers := y.numbers.filter fun e => !(e.1 == n && e.2.1 == u) })) ∧
    (¬ (256 < free ∧ q.spoilCount ≠ 0) → ¬ ringFull → ¬ listEmpty →
      let n := q.defHead.toNat / 2 ^ 7 % 2 ^ 41 * 2 ^ 7
      let u : VfId := q.defHead.extractLsb' 0 7
      let next := ((vfRead s (s.space u) (n + 32)).getD 0) &&& 0xFFFFFFFFFFFF#64
      let t := vfTouch s (s.space u) (n + 32) 8 .read
      drainSpoil p (fuel + 1) s = drainSpoil p fuel ((spoilAppend t p u n).updPart p fun y => { y with
        defHead := if y.defHead = y.defTail then 0 else next
        defTail := if y.defHead = y.defTail then 0 else y.defTail })) ∧
    (¬ (256 < free ∧ q.spoilCount ≠ 0) → (ringFull ∨ listEmpty) → drainSpoil p (fuel + 1) s = s))

/-! ### Collectives and system queries (R204, R205, R301, R313, R327) -/

/-- COLGO takes the context's next number and waits as the context's pending program; where another program is pending, the word
waits while that one must wait for an earlier one, and else the context takes that one up; where the group is masked for the
function the gang stops with masked-feature, as it does at COLQ (R140, R204, R301; logs 23 and 36).

The status word of a collective context: with no program running, only a pending program, a saved one, the last cause and
FLG show; of a running one, its command's word index, its partition and its flags (R313, Table 34.4).

CAPQ reads the groups that the function may use, group D only where the partition has an extended die, and the partition's
benches of either kind; PERMQ reads the permits; BOOST asks for a step of 0 to 2, else raises illegal-operand; SNAP fires its
trigger where it is enabled and merges with none in flight, and reads the sequence number (R205, R326, R327; log 66). -/
def Obligations.ProgramsAndQueries : Prop :=
  (∀ (s : State) (b : BenchId) (c : CoreId) (n : BitVec 2) (p a d : BitVec 5),
    s.alone b c 0 →
    let x := s.issuing b c 0 0
    let st := s.stream b c 0
    let g := s.gang b
    let k := s.ctxs[n.toFin]
    let masked : Prop := (s.vf g.vf).feat.getLsbD 2 = true
    let prog : ColProg :=
      { num := k.issued + 1, part := g.part, vf := g.vf, tenant := g.tenant, bench := b, run := g.run, root := g.root
        addr := st.sreg p, args := st.sreg a }
    (masked → exec (.colgo n p a d) s = .next (takeMasked s x 0 2) ∧ exec (.colq n d) s = .next (takeMasked s x 0 2)) ∧
    (¬ masked → ∀ p0, k.pend = some p0 →
      let held : Prop := k.run.isSome = true ∨ ∃ y ∈ k.saved, y.prog.vf = p0.vf ∨
        ((s.part y.prog.part).granted = some y.prog.vf ∧ (s.part y.prog.part).halt = .none)
      (held → s.waits b c 0 (.colgo n p a d) st.wait) ∧
      (¬ held → s.does b c 0 0 (.colgo n p a d)
        (x.upd (tick { s with ctxs := s.ctxs.set n.toFin { k with
            pend := some prog, issued := k.issued + 1, flg := 0
            run := some { newRun p0 with halted := decide ((s.part p0.part).halt = .raised ∨ (s.part p0.part).halt = .reached) } } } b)
          fun y => y.setS d (BitVec.ofNat 64 (k.issued + 1))))) ∧
    (¬ masked → k.pend = none → s.does b c 0 0 (.colgo n p a d)
      (x.upd (tick { s with ctxs := s.ctxs.set n.toFin { k with pend := some prog, issued := k.issued + 1 } } b)
        fun y => y.setS d (BitVec.ofNat 64 (k.issued + 1)))) ∧
    (¬ masked → s.does b c 0 0 (.colq n d) (x.upd s fun y => y.setS d (k.status)))) ∧
  (∀ (k : ColCtx),
    let b (v : Bool) : Nat := if v then 1 else 0
    (k.run = none → k.status.toNat =
      2 ^ 62 * b k.pend.isSome + 2 ^ 61 * b (!k.saved.isEmpty) + 2 ^ 48 * k.cause.toNat + 2 ^ 40 * k.flg.toNat) ∧
    (∀ r, k.run = some r → k.status.toNat =
      2 ^ 63 + 2 ^ 62 * b k.pend.isSome + 2 ^ 61 * b r.halted + 2 ^ 60 * b (r.wait == .residency) + 2 ^ 48 * k.cause.toNat +
        2 ^ 40 * r.flg.toNat + 2 ^ 32 * r.prog.part.toNat + r.pcw.toNat)) ∧
  (∀ (s : State) (b : BenchId) (c : CoreId) (r : BitVec 5),
    s.alone b c 0 →
    let x := s.issuing b c 0 0
    let p := (s.gang b).part
    let feat := (s.vf (s.gang b).vf).feat
    let v := (s.stream b c 0).sreg r
    let ext := ((partBenches s p).filter fun b => !isLean b).length
    let lean := ((partBenches s p).filter isLean).length
    let reads (i : Instr) (s : State) (v : Word) : Prop := s.does b c 0 0 i (x.upd s fun y => y.setS r v)
    reads (.capq r) s (BitVec.ofNat 64
      ((if feat.getLsbD 0 = false ∧ 0 < ext then 1 else 0) + (if feat.getLsbD 1 then 0 else 2) +
        (if feat.getLsbD 2 then 0 else 4) + 2 ^ 8 * ext + 2 ^ 16 * lean)) ∧
    reads (.permq r) s (BitVec.ofNat 64 (s.part p).permits) ∧
    (v.toNat ≤ 2 → s.does b c 0 0 (.boost r) (s.updPart p fun q => { q with step := v.setWidth 2 })) ∧
    (2 < v.toNat → s.traps b c 0 0 (.boost r) { cause := 0x03 }) ∧
    s.does b c 0 0 (.snap r) (x.upd (fireTrigger s 0) fun y =>
      y.setS r (BitVec.ofNat 64 (s.dev.snapSeq.toNat + (if s.dev.snapEn.getLsbD 0 && !s.snapInFlight then 1 else 0)) % 2 ^ 32)))

/-! ### Copies of LD and ST (R115, R231 to R244) -/

/-- The box of a shape group: its extents, strides and TFMT are where Table 24.3 puts them; element (i0, i1, i2, i3) lies at the
base plus its index in each dimension times the element size or the stride, and meets the tile in row i1 + e1 · (i2 + e2 · i3),
column i0 (R233, R234). -/
def Obligations.BoxAddresses : Prop :=
  ∀ (st : Stream) (g : BitVec 5) (base : Word) (z zt i0 i1 i2 i3 : Nat),
    g.toNat ≤ 28 →
    let d := (st.sreg g).toNat
    let e0 := d % 2 ^ 16
    let e1 := d / 2 ^ 16 % 2 ^ 16
    let e2 := d / 2 ^ 32 % 2 ^ 16
    let h := (readBoxGroup st g).1
    let e := i0 + e0 * (i1 + e1 * (i2 + e2 * i3))
    (readBoxGroup st g).2.toNat = d / 2 ^ 60 ∧ h.count = e0 * e1 * e2 * (d / 2 ^ 48 % 2 ^ 12) ∧
    (i0 < e0 → i1 < e1 → i2 < e2 →
      h.addr base z e = base + BitVec.ofNat 64 (i0 * z) + BitVec.ofNat 64 i1 * st.sreg (g + 1) +
        BitVec.ofNat 64 i2 * st.sreg (g + 2) + BitVec.ofNat 64 i3 * st.sreg (g + 3) ∧
      h.tileIndex z zt e = (i1 + e1 * (i2 + e2 * i3)) * cols zt + i0)

/-- VLD, VLDS, SPLD and GATHER with operands that their checks permit: the register's face is marked as the copy's and, with .Z,
cleared; the copy takes the next number and begins. A face written before in the phase raises double-write (R50, R235, R238,
R241).

VST, VSTS, SPST, SCATTER and SCATTER.ADD with operands that their checks permit: the values are those of the register's
visible face at issue, VSTS converts them and holds their flags until the flip, and the copy takes the next number and begins
(R231, R235, R238, R241). -/
def Obligations.TileCopies : Prop :=
  (∀ (s : State) (b : BenchId) (c : CoreId) (v : BitVec 5) (a g : BitVec 5) (f : BitVec 4) (zf : BitVec 1) (sl : BitVec 4),
    s.alone b c 1 → s.roomFor b c 1 → v.toNat < (s.gang b).vcount → g.toNat ≤ 28 →
    let x := s.issuing b c 1 0
    let st := s.stream b c 1
    let core := s.core b c
    let r := core.physV v
    let face := core.v[r.toFin]
    let z := (Fmt.ofCode f).size
    let base := st.sreg a
    let h := (readBoxGroup st g).1
    let tf := (readBoxGroup st g).2
    let marked : State := s.updCore b c fun k => { k with
      v := k.v.set r.toFin { vis := face.vis, hid := if zf = 1 then 0 else face.vis, written := true, pending := true
                             tag := { stream := 1, async := true, pc := st.pc } } }
    let copy (q : BitVec 4) (far : CopyEnd) (h : CopyShape) (data : List Nat) : Copy :=
      { stream := 1, num := 0, pc := st.pc, slack := sl.toNat, kind := .toFace r f q, far := far, base := base, shape := h
        z := z, frm := st.frm, data := data, todo := [(0, h.count)], inPhase := true }
    let gives (i : Instr) (k : Copy) : Prop :=
      (face.written = false → s.does b c 1 0 i (marked.begin b c 1 k)) ∧
      (face.written = true → s.traps b c 1 0 i
        { cause := 0x08, aux0 := face.tag.pc
          aux1 := BitVec.ofNat 64 (r.toNat * 2 ^ 8 + (if face.tag.async then 4 else 0) + face.tag.stream.toNat) })
    let t : BitVec 6 := v.setWidth 6
    (h.count ≠ 0 → tf = 0 → f ≠ 15 → h.fits z = true → h.aligned z base = true →
      gives (.vld t a g f zf sl) (copy f .device h [])) ∧
    (h.count ≠ 0 → noConversion f tf = false → h.fits (Fmt.ofCode tf).size = true → h.aligned z base = true →
      gives (.vlds t a g f zf sl) (copy tf .device h [])) ∧
    (h.count ≠ 0 → tf = 0 → h.fits z = true → boxInScratch (s.gang b) c h base z false = true → h.aligned z base = true →
      boxInSets x s h base z false = true →
      gives (.spld t a g f zf sl) (copy f .scratch h
        ((List.range h.count).map fun i => scratchRead s b (h.addr base z i).toNat z))) ∧
    (let n := (st.sreg (g + 1)).toNat
     let arr := (st.sreg g).toNat
     let idx := CopyShape.indexed ((List.range n).map fun i => BitVec.ofNat 32 (scratchRead s b (arr + 4 * i) 4))
     0 < n → n ≤ 16 * cols z → st.sreg (g + 2) = 0 → st.sreg (g + 3) = 0 → scratchRange (s.gang b) c arr (4 * n) false = true →
      arr % 4 = 0 → base.toNat % z = 0 → (packed n).allAddrs (st.sreg g) 4 (fun e => st.mayRead e.toNat 4) = true →
      gives (.gather t a g f zf sl) (copy f .device idx []))) ∧
  (∀ (s : State) (b : BenchId) (c : CoreId) (v : BitVec 5) (a g : BitVec 5) (f sl : BitVec 4),
    s.alone b c 3 → s.roomFor b c 3 → v.toNat < (s.gang b).vcount → g.toNat ≤ 28 →
    let x := s.issuing b c 3 0
    let st := s.stream b c 3
    let core := s.core b c
    let tile := (core.v[(core.physV v).toFin]).vis
    let z := (Fmt.ofCode f).size
    let base := st.sreg a
    let h := (readBoxGroup st g).1
    let tf := (readBoxGroup st g).2
    let values (h : CopyShape) (zt : Nat) : List Nat :=
      (List.range h.count).map fun i => tileElem tile zt (h.tileIndex z zt i)
    let copy (kind : CopyKind) (far : CopyEnd) (h : CopyShape) (data : List Nat) (inPhase : Bool) : Copy :=
      { stream := 3, num := 0, pc := st.pc, slack := sl.toNat, kind := kind, far := far, base := base, shape := h
        z := z, frm := st.frm, data := data, todo := [(0, h.count)], inPhase := inPhase }
    let t : BitVec 6 := v.setWidth 6
    (h.count ≠ 0 → tf = 0 → f ≠ 15 → h.fits z = true → h.aligned z base = true →
      s.does b c 3 0 (.vst t a g f sl) (s.begin b c 3 (copy .toFar .device h (values h z) false))) ∧
    (h.count ≠ 0 → noConversion f tf = false → h.fits (Fmt.ofCode tf).size = true → h.aligned z base = true →
      let zt := (Fmt.ofCode tf).size
      let out := (values h zt).map fun n =>
        if tf = f then (n, 0) else convert (Fmt.ofCode tf) (Fmt.ofCode f) (RMode.ofCode 7 st.frm) n
      ∃ l : Lanes,
        (∀ m, m < 1024 → l.extractLsb' (5 * m) 5 =
          ((List.range h.count).filter fun i => h.tileIndex z zt i * zt / 4 == m).foldl
            (fun y i => y ||| (out[i]?.getD (0, 0)).2) 0) ∧
        s.does b c 3 0 (.vsts t a g f sl)
          ((s.updCore b c fun k => { k with held := k.held ||| l }).begin b c 3
            (copy .toFar .device h (out.map (·.1)) false))) ∧
    (h.count ≠ 0 → tf = 0 → h.fits z = true → boxInScratch (s.gang b) c h base z false = true → h.aligned z base = true →
      boxInSets x s h base z true = true →
      s.does b c 3 0 (.spst t a g f sl) (s.begin b c 3 (copy .toFar .scratch h (values h z) true))) ∧
    (let n := (st.sreg (g + 1)).toNat
     let arr := (st.sreg g).toNat
     let idx := CopyShape.indexed ((List.range n).map fun i => BitVec.ofNat 32 (scratchRead s b (arr + 4 * i) 4))
     0 < n → n ≤ 16 * cols z → st.sreg (g + 2) = 0 → st.sreg (g + 3) = 0 → scratchRange (s.gang b) c arr (4 * n) false = true →
      arr % 4 = 0 → base.toNat % z = 0 → (packed n).allAddrs (st.sreg g) 4 (fun e => st.mayRead e.toNat 4) = true →
      s.does b c 3 0 (.scatter t a g f sl) (s.begin b c 3 (copy .toFar .device idx (values idx z) false)) ∧
      (11 ≤ f.toNat → f.toNat ≤ 14 →
        s.does b c 3 0 (.scatterAdd t a g f sl) (s.begin b c 3 (copy .addFar .device idx (values idx z) false)))))

/-- QLD reserves the youngest entry of an input queue that has room, and its copy fills it; QST takes the oldest entry of an
output queue, converted where the queue's formats differ, and stores it. With 32 copies outstanding the word waits, and keeps
the reserved entry or the one taken. A full queue, or an empty one, makes the word wait, or trap where the queue's policy says
so or every other stream has arrived at the flip; an output entry not yet landed makes it wait. Another format than the
queue's raises illegal-operand; so do formats that R56 refuses, at the push or the pop of a word whose earlier checks hold: a
misaligned end raises alignment before (R38, R55, R56, R235, R239).

SPCP, in LD and in ST: a box of scratch to packed scratch, in the order of its elements; a source in the core itself, or one
that overlaps the destination, is read in full at issue, and one in another core unit by unit; it keeps the flip waiting where
its destination is the core's own. PREF: a copy that leaves nothing behind (R35, R240, R243;
log 28).

PUT and GET through a window of the partition that permits them: the put's values are read at issue, and the copy takes the
next transfer tag; a window that does not permit them, or an element past its span, raises window (R242, R296, R297;
log 30). -/
def Obligations.OtherCopies : Prop :=
  (∀ (s : State) (b : BenchId) (c : CoreId) (n : Fin 2) (a g : BitVec 5) (f : BitVec 4) (sp : BitVec 1) (sl : BitVec 4),
    g.toNat ≤ 28 →
    let z := (Fmt.ofCode f).size
    let core := s.core b c
    let copy (st : Stream) (t : StreamId) (kind : CopyKind) (data : List Nat) (inPhase : Bool) : Copy :=
      { stream := t, num := 0, pc := st.pc, slack := sl.toNat, kind := kind, far := if sp = 1 then .scratch else .device
        base := st.sreg a, shape := (readBoxGroup st g).1, z := z, frm := st.frm, data := data
        todo := [(0, (readBoxGroup st g).1.count)], inPhase := inPhase }
    let shaped (st : Stream) : Prop :=
      let h := (readBoxGroup st g).1
      h.count ≠ 0 ∧ (readBoxGroup st g).2 = 0 ∧ h.fits z = true
    let fine (st : Stream) (x : Ctx) (write : Bool) : Prop :=
      let h := (readBoxGroup st g).1
      shaped st ∧ h.aligned z (st.sreg a) = true ∧
      (sp = 1 → boxInScratch (s.gang b) c h (st.sreg a) z false = true ∧ boxInSets x s h (st.sreg a) z write = true)
    let full : Prop := 32 ≤ core.copies.length
    (let st := s.stream b c 1
     let q := core.q[n.val]
     let h := (readBoxGroup st g).1
     let i : Instr := .qld (if n = 0 then 52 else 53) a g f sp sl
     let pushed : State := s.updCore b c fun k => { k with
       q := k.q.set n.val { q with entries := q.entries ++ [{ landed := false, tile := 0, id := k.entries }] }
       entries := k.entries + 1 }
     let fills (id : Nat) : Copy := copy st 1 (.toQueue (if n = 0 then 0 else 1) id)
       (if sp = 1 then (List.range h.count).map fun i => scratchRead s b (h.addr (st.sreg a) z i).toNat z else []) false
     s.alone b c 1 →
      (q.sfmt ≠ f → s.traps b c 1 0 i { cause := 0x03 }) ∧
      (q.sfmt = f → shaped st → ∀ id, st.wait = .reserved id → s.roomFor b c 1 →
        s.does b c 1 0 i (s.begin b c 1 (fills id))) ∧
      (q.sfmt = f → shaped st → sp = 0 → h.aligned z (st.sreg a) = false → (∀ id, st.wait ≠ .reserved id) →
        s.traps b c 1 0 i { cause := 0x05, addr := st.sreg a }) ∧
      (q.sfmt = f → q.refused = true → fine st (s.issuing b c 1 0) false → (∀ id, st.wait ≠ .reserved id) →
        s.traps b c 1 0 i { cause := 0x03 }) ∧
      (q.sfmt = f → q.refused = false → fine st (s.issuing b c 1 0) false → (∀ id, st.wait ≠ .reserved id) →
        (q.entries.length < q.depth → s.roomFor b c 1 → s.does b c 1 0 i (pushed.begin b c 1 (fills core.entries))) ∧
        (q.entries.length < q.depth → full →
          exec i s = .next (pushed.updStream b c 1 fun y => { y with wait := .reserved core.entries })) ∧
        (q.depth ≤ q.entries.length → (q.fpol = true ∨ core.othersArrived 1 = true) →
          s.traps b c 1 0 i { cause := 0x0A }) ∧
        (q.depth ≤ q.entries.length → q.fpol = false → core.othersArrived 1 = false → s.waits b c 1 i st.wait))) ∧
    (let st := s.stream b c 3
     let q := core.q[2 + n.val]
     let h := (readBoxGroup st g).1
     let i : Instr := .qst (if n = 0 then 54 else 55) a g f sp sl
     let stores (y : Tile) : Copy :=
       copy st 3 .toFar ((List.range h.count).map fun i => tileElem y z (h.tileIndex z z i)) (sp == 1)
     s.alone b c 3 →
      (∀ y l, st.wait = .popped y l → s.roomFor b c 3 → s.does b c 3 0 i
        ((s.updCore b c fun k => { k with held := k.held ||| l }).begin b c 3 (stores y))) ∧
      ((∀ y l, st.wait ≠ .popped y l) →
        (q.kfmt ≠ f → s.traps b c 3 0 i { cause := 0x03 }) ∧
        (q.kfmt = f → shaped st → sp = 0 → h.aligned z (st.sreg a) = false →
          s.traps b c 3 0 i { cause := 0x05, addr := st.sreg a }) ∧
        (q.kfmt = f → q.refused = true → fine st (s.issuing b c 3 0) true → s.traps b c 3 0 i { cause := 0x03 }) ∧
        (q.kfmt = f → q.refused = false → fine st (s.issuing b c 3 0) true →
          (q.entries = [] → (q.epol = true ∨ core.othersArrived 3 = true) → s.traps b c 3 0 i { cause := 0x09 }) ∧
          (q.entries = [] → q.epol = false → core.othersArrived 3 = false → s.waits b c 3 i st.wait) ∧
          (∀ e r, q.entries = e :: r →
            let y : Tile × Lanes := if q.sfmt = q.kfmt then (e.tile, 0)
              else convertTile (Fmt.ofCode q.sfmt) (Fmt.ofCode q.kfmt) (RMode.ofCode q.rm st.frm) none e.tile
            let popped (l : Lanes) : State := s.updCore b c fun k => { k with
              q := k.q.set (2 + n.val) { q with entries := r }, held := k.held ||| l }
            (e.landed = false → s.waits b c 3 i st.wait) ∧
            (e.landed = true → s.roomFor b c 3 → s.does b c 3 0 i ((popped y.2).begin b c 3 (stores y.1))) ∧
            (e.landed = true → full →
              exec i s = .next ((popped 0).updStream b c 3 fun z => { z with wait := .popped y.1 y.2 }))))))) ∧
  (∀ (s : State) (b : BenchId) (c : CoreId) (t : StreamId) (v : BitVec 5) (a g : BitVec 5) (f sl : BitVec 4),
    s.alone b c t → (t = 1 ∨ t = 3) → s.roomFor b c t → g.toNat ≤ 28 →
    let x := s.issuing b c t 0
    let st := s.stream b c t
    let z := (Fmt.ofCode f).size
    let src := st.sreg a
    let dst := st.sreg v
    let h := (readBoxGroup st g).1
    let p := packed h.count
    let own (e : Word) : Prop := e.toNat / 2 ^ 24 % 4 = c.toNat
    let copy (kind : CopyKind) (far : CopyEnd) (data : List Nat) (inPhase : Bool) : Copy :=
      { stream := t, num := 0, pc := st.pc, slack := sl.toNat, kind := kind, far := far, base := src, shape := h
        z := z, frm := st.frm, data := data, todo := [(0, h.count)], inPhase := inPhase }
    h.count ≠ 0 → (readBoxGroup st g).2 = 0 → h.aligned z src = true →
    (boxInScratch (s.gang b) c h src z true = true → boxInScratch (s.gang b) c p dst z true = true → dst.toNat % z = 0 →
      (own src → boxInSets x s h src z false = true) → (own dst → boxInSets x s p dst z true = true) →
      let meets : Prop := ∃ i, i < h.count ∧ dst.toNat < (h.addr src z i).toNat + z ∧
        (h.addr src z i).toNat < dst.toNat + h.count * z
      ∃ early : Bool, (early = true ↔ own src ∨ meets) ∧
      s.does b c t 0 (.spcp (v.setWidth 6) a g f sl) (s.begin b c t
        { copy (.toScratch (dst.setWidth 32)) .scratch
            (if early then (List.range h.count).map fun i => scratchRead s b (h.addr src z i).toNat z else [])
            (decide (own dst)) with
          reads := if own src then [] else [(0, h.count)] })) ∧
    (t = 1 → s.does b c 1 0 (.pref a g f sl) (s.begin b c 1 (copy .prefetch .device [] false)))) ∧
  (∀ (s : State) (b : BenchId) (c : CoreId) (v : BitVec 5) (a g : BitVec 5) (f : BitVec 4) (sp : BitVec 1) (sl : BitVec 4),
    g.toNat ≤ 28 →
    let z := (Fmt.ofCode f).size
    let core := s.core b c
    let fine (t : StreamId) (put : Bool) : Prop :=
      let st := s.stream b c t
      let h := (readBoxGroup st g).1
      let near := st.sreg v
      s.alone b c t ∧ s.roomFor b c t ∧ h.count ≠ 0 ∧ (readBoxGroup st g).2 = 0 ∧ (st.sreg a).toNat < 2 ^ 54 ∧
      h.aligned z (st.sreg a &&& 0xFFFFFFFFFFFF) = true ∧
      (sp = 0 → h.fits z = true ∧ v.toNat < (s.gang b).vcount) ∧
      (sp = 1 → boxInScratch (s.gang b) c (packed h.count) near z false = true ∧ near.toNat % z = 0 ∧
        boxInSets (s.issuing b c t 0) s (packed h.count) near z (!put) = true)
    let copy (t : StreamId) (kind : CopyKind) (data : List Nat) (inPhase : Bool) : Copy :=
      let st := s.stream b c t
      { stream := t, num := 0, pc := st.pc, slack := sl.toNat, kind := kind
        far := .window ((st.sreg a).extractLsb' 48 6), base := st.sreg a &&& 0xFFFFFFFFFFFF, shape := (readBoxGroup st g).1
        z := z, frm := st.frm, data := data, todo := [(0, (readBoxGroup st g).1.count)], inPhase := inPhase
        xfer := s.links.tags }
    let tagged : State := { s with links := { s.links with tags := s.links.tags + 1 } }
    let permits (t : StreamId) (put : Bool) : Prop :=
      windowEnd (s.issuing b c t 0) s put ((s.stream b c t).sreg a) (readBoxGroup (s.stream b c t) g).1 z = true
    let r := core.physV v
    let face := core.v[r.toFin]
    (fine 3 true → permits 3 true →
      let st := s.stream b c 3
      let h := (readBoxGroup st g).1
      s.does b c 3 0 (.put (v.setWidth 6) a g f sp sl) (tagged.begin b c 3 (copy 3 .toFar
        ((List.range h.count).map fun i => if sp = 1 then scratchRead s b (st.sreg v + BitVec.ofNat 64 (i * z)).toNat z
          else tileElem face.vis z (h.tileIndex z z i)) false))) ∧
    (fine 1 false → permits 1 false → sp = 1 →
      s.does b c 1 0 (.get (v.setWidth 6) a g f sp sl) (tagged.begin b c 1
        { copy 1 (.toScratch (((s.stream b c 1).sreg v).setWidth 32)) [] true with
          reads := [(0, (readBoxGroup (s.stream b c 1) g).1.count)] })) ∧
    (fine 1 false → permits 1 false → sp = 0 → face.written = false →
      s.does b c 1 0 (.get (v.setWidth 6) a g f sp sl) ((tagged.updCore b c fun k => { k with
        v := k.v.set r.toFin { face with hid := face.vis, written := true, pending := true
                                         tag := { stream := 1, async := true, pc := (s.stream b c 1).pc } } }).begin b c 1
          (copy 1 (.toFace r f f) [] true))) ∧
    (fine 3 true → ¬ permits 3 true → s.traps b c 3 0 (.put (v.setWidth 6) a g f sp sl) { cause := 0x12 }) ∧
    (fine 1 false → ¬ permits 1 false → s.traps b c 1 0 (.get (v.setWidth 6) a g f sp sl) { cause := 0x12 }))

/-- CBATCH closes the open batch; where it would make seventeen outstanding it waits. TLWAIT.OUT closes the open batch, waits
until at most N are outstanding, and is then an acquire at SYS that observes the completed ones (R244).

A copy word whose box, or index list, has no element takes its number and is complete, its fields checked, QLD and QST on
a queue whose formats R56 refuses too; a group register above s28, and a register that is no v register of the node, raise
illegal-operand; a copy word that could issue with no copy outstanding waits with 32 outstanding, the queue copies as
QueueCopies says (R115, R233, R235; logs 27 and 68). -/
def Obligations.CopiesIssue : Prop :=
  (∀ (s : State) (b : BenchId) (c : CoreId) (t : StreamId) (n : BitVec 6),
    s.alone b c t → (t = 1 ∨ t = 3) →
    let st := s.stream b c t
    let out (y : List Nat) : Bool := (s.core b c).copies.any fun k => k.stream == t && y.contains k.num
    let full : Prop := 16 ≤ (st.closed.filter out).length ∧ out st.openBatch = true
    let closed := if st.openBatch = [] then st.closed else st.closed ++ [st.openBatch]
    (full → s.waits b c t .cbatch st.wait ∧ s.waits b c t (.tlwaitOut n) st.wait) ∧
    (¬ full → s.does b c t 0 .cbatch (s.updStream b c t fun y => { y with openBatch := [], closed := closed })) ∧
    (¬ full → (closed.filter out).length ≤ n.toNat → s.does b c t 0 (.tlwaitOut n)
      ((s.updStream b c t fun y => { y with openBatch := [], closed := closed.filter out }).updCore b c fun k =>
        { k with l1 := [] })) ∧
    (¬ full → n.toNat < (closed.filter out).length →
      exec (.tlwaitOut n) s = .next (s.updStream b c t fun y => { y with openBatch := [], closed := closed }))) ∧
  (∀ (s : State) (b : BenchId) (c : CoreId) (u : StreamId) (t : BitVec 6) (a g : BitVec 5) (f : BitVec 4)
    (x sp : BitVec 1) (sl : BitVec 4),
    let boxes (u : StreamId) : List Instr :=
      if u = 1 then [.vld t a g f x sl, .vlds t a g f x sl, .spld t a g f x sl, .get t a g f 0 sl]
      else [.vst t a g f sl, .vsts t a g f sl, .spst t a g f sl, .put t a g f 0 sl]
    let indexed (u : StreamId) : List Instr :=
      if u = 1 then [.gather t a g f x sl] else [.scatter t a g f sl, .scatterAdd t a g f sl]
    let queue (u : StreamId) : Instr := if u = 1 then .qld t a g f sp sl else .qst t a g f sp sl
    let window (u : StreamId) : Instr := if u = 1 then .get t a g f 1 sl else .put t a g f 1 sl
    let st := s.stream b c u
    let h := (readBoxGroup st g).1
    let tf := (readBoxGroup st g).2
    let z := (Fmt.ofCode f).size
    let n : Nat := if u = 1 then 52 else 54
    let q : Queue := (s.core b c).q[if u = 1 then (if t = 52 then 0 else 1) else if t = 54 then 2 else 3]!
    let fmt : BitVec 4 := if u = 1 then q.sfmt else q.kfmt
    let empties : State := s.updStream b c u fun st =>
      { st with issued := st.issued + 1, openBatch := (st.issued + 1) :: st.openBatch }
    s.alone b c u → (u = 1 ∨ u = 3) → (∀ y l, st.wait ≠ .popped y l) →
    (28 < g.toNat → ∀ i ∈ queue u :: window u :: boxes u ++ indexed u ++ [.spcp t a g f sl],
      s.traps b c u 0 i { cause := 0x03 }) ∧
    (g.toNat ≤ 28 → (32 ≤ t.toNat ∨ (s.gang b).vcount ≤ t.toNat) → ∀ i ∈ boxes u ++ indexed u,
      s.traps b c u 0 i { cause := 0x03 }) ∧
    (g.toNat ≤ 28 → t.toNat ≠ n → t.toNat ≠ n + 1 → s.traps b c u 0 (queue u) { cause := 0x03 }) ∧
    (g.toNat ≤ 28 → 32 ≤ t.toNat → s.traps b c u 0 (window u) { cause := 0x03 } ∧
      s.traps b c u 0 (.spcp t a g f sl) { cause := 0x03 }) ∧
    (g.toNat ≤ 28 → h.count = 0 → s.roomFor b c u → t.toNat < 32 → t.toNat < (s.gang b).vcount →
      (tf = 0 → h.fits z = true → s.does b c u 0 (if u = 1 then .spld t a g f x sl else .spst t a g f sl) empties ∧
        s.does b c u 0 (if u = 1 then .get t a g f 0 sl else .put t a g f 0 sl) empties) ∧
      (tf = 0 → f ≠ 15 → h.fits z = true →
        s.does b c u 0 (if u = 1 then .vld t a g f x sl else .vst t a g f sl) empties) ∧
      (noConversion f tf = false → h.fits (Fmt.ofCode tf).size = true →
        s.does b c u 0 (if u = 1 then .vlds t a g f x sl else .vsts t a g f sl) empties)) ∧
    (g.toNat ≤ 28 → h.count = 0 → s.roomFor b c u → tf = 0 →
      (t.toNat < 32 → s.does b c u 0 (window u) empties ∧ s.does b c u 0 (.spcp t a g f sl) empties) ∧
      (u = 1 → s.does b c 1 0 (.pref a g f sl) empties) ∧
      ((t.toNat = n ∨ t.toNat = n + 1) → h.fits z = true → fmt = f → s.does b c u 0 (queue u) empties)) ∧
    (g.toNat ≤ 28 → st.sreg (g + 1) = 0 → s.roomFor b c u → t.toNat < 32 → t.toNat < (s.gang b).vcount →
      (u = 1 → s.does b c u 0 (.gather t a g f x sl) empties) ∧
      (u = 3 → s.does b c u 0 (.scatter t a g f sl) empties) ∧
      (u = 3 → 11 ≤ f.toNat → f.toNat ≤ 14 → s.does b c u 0 (.scatterAdd t a g f sl) empties)) ∧
    (32 ≤ (s.core b c).copies.length → ∀ i ∈ window u :: boxes u ++ indexed u ++ [.spcp t a g f sl] ++
        (if u = 1 then [.pref a g f sl] else []), ∀ s',
      wordEffect i (s.issuing b c u 0) (s.updCore b c fun k => { k with copies := [] }) = .ok s' → s.waits b c u i st.wait))

/-! ### Vector words of CP (R45 to R58, R245 to R265) -/

/-- What a word reads and where its result goes. A source is the visible face of a v register under its current name, a w
register, a ring entry as it was before the bundle (illegal-operand where it is none; waited for until its word has
completed), a cross scalar in every element, or the oldest landed entry of an input queue, which it takes; a conversion's
flags accrue for the whole entry (log 67; R41, R48, R52, R55, R246). A result goes to the hidden face of a v register not
written before in the phase, as the youngest outstanding write; at once to a w register; nowhere for specifier 63; or to the
youngest place of an output queue that has room, which it reserves, and which lands when the result does (R49, R55, R247,
R249; log 25). A full output queue is waited for, or is queue-full where its policy or R38 says so (R38, R55). -/
def Obligations.OperandsAndResults : Prop :=
  ∀ (s : State) (b : BenchId) (c : CoreId) (n : Nat) (a d : BitVec 6) (z : Nat) (wide : Bool) (t : Tile) (f : Lanes),
    (s.gang? b).isSome = true →
    let x := s.issuing b c 2 n
    let k := s.core b c
    let v := a.toNat
    let reads (t : Tile) : Prop := readSource x s a z wide = .ok (t, s)
    let ring (l : Vector (Option Tile) 4) (slot i : Nat) : Prop :=
      readSource x s a z wide = match l.toList[i]?.getD none with
        | some t => if k.results.any fun y => y.slot == slot && y.depth == i + 1 then .error (.stay s) else .ok (t, s)
        | none => .error illegalOperand
    (v < 32 → reads (k.v[(k.physV (a.setWidth 5)).toFin]).vis) ∧
    (32 ≤ v → v < 40 → reads (k.w.toList[v - 32]?.getD 0)) ∧
    (40 ≤ v → v < 44 → ring k.za 2 (v - 40)) ∧ (44 ≤ v → v < 48 → ring k.zb 3 (v - 44)) ∧
    (48 ≤ v → v < 52 → ring k.zf 5 (v - 48)) ∧
    (56 ≤ v → let w := (k.c.toList[v - 56]?.map (·.vis.toNat)).getD 0
      reads (if wide then splat 8 w else splat z w)) ∧
    ((v = 52 ∨ v = 53) → let qi : Fin 4 := if a = 52 then 0 else 1
      let q := k.q[qi]
      (∀ e r, q.refused = false → q.entries = e :: r → e.landed = true → q.sfmt = q.kfmt →
        readSource x s a z wide = .ok (e.tile, s.updCore b c fun y =>
          { y with q := y.q.set qi { q with entries := r } })) ∧
      (q.refused = true → readSource x s a z wide = .error illegalOperand) ∧
      (∀ e r, q.refused = false → q.entries = e :: r → e.landed = false → readSource x s a z wide = .error (.stay s)) ∧
      (∀ e r, q.refused = false → q.entries = e :: r → e.landed = true → q.sfmt ≠ q.kfmt →
        let o := convertTile (Fmt.ofCode q.sfmt) (Fmt.ofCode q.kfmt) (RMode.ofCode q.rm (s.stream b c 2).frm) none e.tile
        readSource x s a z wide = .ok (o.1, s.updCore b c fun y =>
          { y with q := y.q.set qi { q with entries := r }, xf := y.xf ||| o.2 })) ∧
      (q.refused = false → q.entries = [] → readSource x s a z wide = .error
        (if q.epol || k.othersArrived 2 then .trap { cause := 0x09 } else .stay s))) ∧
    (let m := d.toNat
     let r := k.physV (d.setWidth 5)
     let face := k.v[r.toFin]
     (m < 32 → face.written = false →
      deliverTile x s d z t f = .ring (s.updCore b c fun k => { k with
        v := k.v.set r.toFin { face with hid := face.vis, written := true, tag := { stream := 2, async := false, pc := x.word } }
        results := k.results ++
          [{ writes := [{ reg := .v r, data := t, mask := BitVec.allOnes 4096 }], flags := f, slot := n }] }) (some t)) ∧
     (m < 32 → face.written = true → (face.tag.async = true ∨ face.tag.stream ≠ 2) →
      deliverTile x s d z t f = .trap
        { cause := 0x08, aux0 := face.tag.pc
          aux1 := BitVec.ofNat 64 (r.toNat * 2 ^ 8 + (if face.tag.async then 4 else 0) + face.tag.stream.toNat) }) ∧
     (∀ i : Fin 8, m = 32 + i.val →
      deliverTile x s d z t f = .ring (s.updCore b c fun k => { k with
        w := k.w.set i.val t, results := k.results ++ [{ writes := [], flags := f, slot := n }] }) (some t)) ∧
     (m = 63 → deliverTile x s d z t f = .ring (s.updCore b c fun k => { k with
        results := k.results ++ [{ writes := [], flags := f, slot := n }] }) (some t)) ∧
     (∀ i : Fin 2, m = 54 + i.val → let q := k.q[2 + i.val]
      q.refused = false → q.entries.length < q.depth →
      deliverTile x s d z t f = .ring (s.updCore b c fun k => { k with
        q := k.q.set (2 + i.val) { q with entries := q.entries ++ [{ landed := false, tile := t, id := k.entries }] }
        entries := k.entries + 1
        results := k.results ++ [{ writes := [], flags := f
                                   entry := some (BitVec.ofNat 2 (2 + i.val), k.entries), slot := n }] }) (some t)) ∧
     (∀ i : Fin 2, m = 54 + i.val → let q := k.q[2 + i.val]
      (q.refused = true → deliverTile x s d z t f = illegalOperand) ∧
      (q.refused = false → q.depth ≤ q.entries.length →
        deliverTile x s d z t f = if q.fpol || k.othersArrived 2 then .trap { cause := 0x0A } else .stay s)))

/-- VF32, VF64, VF16, VBF16, VI32, VI16, VI8, VI64, VLOGIC, VCVT and SF32: each element of the result is the function's of the
elements of the operands, and of the destination's where the word reads it; its flags go to the lane of its first byte; the
result is delivered and is the entry that the slot's ring receives (R52, R57, R245 to R256, R278 to R282). -/
def Obligations.VectorArithmetic : Prop :=
  ∀ (s s1 : State) (b : BenchId) (c : CoreId) (d a q : BitVec 6) (f : BitVec 4) (r : BitVec 3) (u sat : BitVec 1)
    (src dst : BitVec 4) (ta tb : Tile),
    let gives (n : Nat) (i : Instr) (z : Nat) (fn : Nat → Nat × XFlags) : Prop :=
      ∃ T F, elementwise z fn T F ∧ ∀ s2 e, deliverTile (s.issuing b c 2 n) s1 d z T F = .ring s2 e →
        s.does b c 2 n i s2 [(n, e)]
    let x := s.issuing b c 2 2
    let rm := RMode.ofCode r (s.stream b c 2).frm
    let rm1 := RMode.ofCode r (s1.stream b c 2).frm
    (∀ y ∈ [((Instr.vf32 1 d a q f r, Fmt.f32, shapeF32) : Instr × Fmt × FShape), (.vf64 1 d a q f r, .f64, shapeF64),
        (.vf16 1 d a q f r, .f16, shapeF16), (.vbf16 1 d a q f r, .bf16, shapeBF16)],
      s.aloneInCp b c 2 y.1 →
      let z := y.2.1.size
      (vfUnary f = false → readTwo x s a q z false = .ok (ta, tb, s1) → gives 2 y.1 z fun e =>
        vfElem y.2.1 y.2.2 f.toNat rm (tileElem ta z e) (tileElem tb z e)
          (if 3 ≤ f.toNat ∧ f.toNat ≤ 5 then tileElem (readDest x s1 d) z e else 0)) ∧
      (vfUnary f = true → readSource x s a z false = .ok (ta, s1) → gives 2 y.1 z fun e =>
        vfElem y.2.1 y.2.2 f.toNat rm (tileElem ta z e) 0 0)) ∧
    (∀ y ∈ [((Instr.vi32 1 d a q f u sat, 4) : Instr × Nat), (.vi16 1 d a q f u sat, 2), (.vi8 1 d a q f u sat, 1),
        (.vi64 1 d a q f u sat, 8)],
      s.aloneInCp b c 2 y.1 →
      let z := y.2
      (f ≠ 12 → f ≠ 13 → readTwo x s a q z false = .ok (ta, tb, s1) → gives 2 y.1 z fun e =>
        (viElem f.toNat (u == 1) (sat == 1) (8 * z) (tileElem ta z e) (tileElem tb z e)
          (if f = 4 then tileElem (readDest x s1 d) z e else 0), 0)) ∧
      ((f = 12 ∨ f = 13) → readSource x s a z false = .ok (ta, s1) → gives 2 y.1 z fun e =>
        (viElem f.toNat (u == 1) (sat == 1) (8 * z) (tileElem ta z e) 0 0, 0))) ∧
    (let i : Instr := .vlogic 1 d a q f
     s.aloneInCp b c 2 i → f.toNat < 6 → readTwo x s a q 1 true = .ok (ta, tb, s1) →
      let t : Tile := match f.toNat with
        | 0 => ta &&& tb
        | 1 => ta ||| tb
        | 2 => ta ^^^ tb
        | 3 => ta &&& ~~~tb
        | 4 => ta ||| ~~~tb
        | _ => ~~~(ta ^^^ tb)
      ∀ s2 e, deliverTile x s1 d 1 t 0 = .ring s2 e → s.does b c 2 2 i s2 [(2, e)]) ∧
    (let i : Instr := .vlogic 1 d a q 6
     s.aloneInCp b c 2 i → readSource x s a 1 true = .ok (ta, s1) →
      ∀ s2 e, deliverTile x s1 d 1 (~~~ta) 0 = .ring s2 e → s.does b c 2 2 i s2 [(2, e)]) ∧
    (let i : Instr := .vcvt 1 d a src dst r
     let fs := Fmt.ofCode src
     let fd := Fmt.ofCode dst
     s.aloneInCp b c 2 i → readSource x s a fs.size false = .ok (ta, s1) →
      ∃ T F, (∀ e, e < 4096 / fd.size →
          let row := e / cols fd.size
          let col := e % cols fd.size
          tileElem T fd.size e = if col < cols (max fs.size fd.size)
            then (convert fs fd rm1 (tileElem ta fs.size (row * cols fs.size + col))).1 % 2 ^ (8 * fd.size) else 0) ∧
        (let z := max fs.size fd.size
         ∀ n, n < 1024 → F.extractLsb' (5 * n) 5 = ((List.range (4096 / z)).filter fun e => laneOf z e == n).foldl
          (fun y e => y ||| (convert fs fd rm1 (tileElem ta fs.size (e / cols z * cols fs.size + e % cols z))).2) 0) ∧
        ∀ s2 e, deliverTile x s1 d fd.size T F = .ring s2 e → s.does b c 2 2 i s2 [(2, e)]) ∧
    (let i : Instr := .sf32 1 d a f r
     let x := s.issuing b c 2 5
     s.aloneInCp b c 5 i → readSource x s a 4 false = .ok (ta, s1) →
      gives 5 i 4 fun e => sfElem false shapeF32 f.toNat rm (tileElem ta 4 e))

/-- VFCMP, VICMP, PRED and CK.INBOX write the predicate register that D names, all bits of each element alike; a face not
written in the phase takes the word's tag (R47, R49, R252, R253, R264, R288). -/
def Obligations.Predicates : Prop :=
  ∀ (s s1 : State) (b : BenchId) (c : CoreId) (d : BitVec 3) (a q : BitVec 6) (f : BitVec 4) (t x3 : BitVec 3) (ta tb : Tile),
    let x := s.issuing b c 2 2
    let d6 : BitVec 6 := d.setWidth 6
    let face (s : State) := (s.core b c).p[d.toFin]
    let writes (n : Nat) (i : Instr) (s1 : State) (p : Pred) (l : Lanes) : Prop :=
      s.does b c 2 n i (s1.updCore b c fun k => { k with
        p := k.p.set d.toFin ((face s1).mark { stream := 2, async := false, pc := (s.stream b c 2).pc })
        results := k.results ++ [{ writes := [{ reg := .p d, data := p.setWidth 32768, mask := BitVec.allOnes 4096 }]
                                   flags := l }] }) [(n, none)]
    let compares (i : Instr) (z : Nat) (holds : Nat → Nat → Bool × XFlags) : Prop :=
      s.aloneInCp b c 2 i → readTwo x s a q z false = .ok (ta, tb, s1) → (face s1).written = false →
      ∃ p l,
        (∀ n, n < 4096 → p.getLsbD n = (holds (tileElem ta z (n / z)) (tileElem tb z (n / z))).1) ∧
        (∀ n, n < 1024 → l.extractLsb' (5 * n) 5 =
          ((List.range (4096 / z)).filter fun e => laneOf z e == n).foldl
            (fun y e => y ||| (holds (tileElem ta z e) (tileElem tb z e)).2) 0) ∧
        writes 2 i s1 p l
    compares (.vfcmp 1 d6 a q f t) (vfcmpFmt t).size (vfCompare (vfcmpFmt t) f.toNat) ∧
    compares (.vicmp 1 d6 a q f t) (2 ^ (t.toNat % 4)) (fun m n =>
      (viCompare f.toNat (!t.getLsbD 2) (8 * 2 ^ (t.toNat % 4)) m n, 0)) ∧
    (s.aloneInCp b c 2 (.pred 1 d6 a q f) → (face s).written = false →
      let p (r : BitVec 6) : Pred := ((s.core b c).p[(r.setWidth 3 : BitVec 3).toFin]).vis
      let pa := p a
      let pb := p q
      let gives (v : Pred) : Prop := writes 2 (.pred 1 d6 a q f) s v 0
      (f = 0 → gives (pa &&& pb)) ∧ (f = 1 → gives (pa ||| pb)) ∧ (f = 2 → gives (pa ^^^ pb)) ∧ (f = 3 → gives (~~~pa)) ∧
      (f = 4 → gives (pa &&& ~~~pb)) ∧ (f = 5 → gives (BitVec.allOnes 4096)) ∧ (f = 6 → gives 0) ∧
      (7 ≤ f.toNat → gives (predFn f.toNat pa pb (2 ^ q.toNat % 256)))) ∧
    (let i : Instr := .ckInbox 1 d6 a q x3
     let x := s.issuing b c 2 3
     s.aloneInCp b c 3 i → readSource x s a 8 false = .ok (ta, s1) → (face s1).written = false →
      let box := readBox x s1 q
      ∃ p, (∀ n, n < 4096 → p.getLsbD n =
          inBox (ckAxes x3) (tileElem ta 8 (n / 8)) (tileElem box.1 8 (n / 8)) (tileElem box.2 8 (n / 8))) ∧
        writes 3 i s1 p 0)

/-- VMOVE, VROT, VBC and VPERM: MOV copies a tile; SEL chooses byte by byte; IMM fills every 32-bit element; element (i, j) of
IOTA is 64 i + j; XTR puts one 64-bit element into every one, INS one element into one; VROT and VBC move 32-bit elements
within rows and columns; VPERM picks within a row, 0 where the index is 64 or more (R257 to R260). -/
def Obligations.VectorMoves : Prop :=
  ∀ (s s1 : State) (b : BenchId) (c : CoreId) (d a q : BitVec 6) (f : BitVec 4) (p : BitVec 3) (i12 : BitVec 12) (ta tb : Tile),
    let x := s.issuing b c 2 2
    let core := s1.core b c
    let cross : Word := (core.c.toList[q.toNat - 56]?.map (·.vis)).getD 0
    let delivers (i : Instr) (s1 : State) (z : Nat) (ok : Tile → Prop) : Prop :=
      ∃ T, ok T ∧ ∀ s2 e, deliverTile x s1 d z T 0 = .ring s2 e → s.does b c 2 2 i s2 [(2, e)]
    let words (g : Nat → Nat → Nat) (T : Tile) : Prop :=
      ∀ i j, i < 16 → j < 64 → tileElem T 4 (64 * i + j) = g i j % 2 ^ 32
    let one (z : Nat) (wide : Bool) (i : Instr) : Prop := s.aloneInCp b c 2 i ∧ readSource x s a z wide = .ok (ta, s1)
    let two (z : Nat) (wide : Bool) (i : Instr) : Prop := s.aloneInCp b c 2 i ∧ readTwo x s a q z wide = .ok (ta, tb, s1)
    (one 1 true (.vmoveMov 1 d a) → delivers (.vmoveMov 1 d a) s1 1 fun T => T = ta) ∧
    (two 1 true (.vmoveSel 1 d a q p) → delivers (.vmoveSel 1 d a q p) s1 1 fun T =>
      ∀ n, n < 4096 → tileElem T 1 n = if (core.p[p.toFin]).vis.getLsbD n then tileElem ta 1 n else tileElem tb 1 n) ∧
    (s.aloneInCp b c 2 (.vmoveImm 1 d i12) → delivers (.vmoveImm 1 d i12) s 4 (words fun _ _ => (i12.signExtend 32).toNat)) ∧
    (s.aloneInCp b c 2 (.vmoveIota 1 d) → delivers (.vmoveIota 1 d) s 4 (words fun i j => 64 * i + j)) ∧
    (one 8 false (.vmoveXtr 1 d a q) → delivers (.vmoveXtr 1 d a q) s1 8 fun T =>
      ∀ e, e < 512 → tileElem T 8 e = tileElem ta 8 (cross.toNat % 512)) ∧
    (one 8 false (.vmoveIns 1 d a q) → delivers (.vmoveIns 1 d a q) s1 8 fun T =>
      ∀ e, e < 512 → tileElem T 8 e =
        if e = cross.toNat % 512 then tileElem ta 8 0 else tileElem (readDest x s1 d) 8 e) ∧
    (one 4 false (.vrot 1 d a q f) → f.toNat < 8 →
      let n : Int := if 4 ≤ f.toNat then cross.toInt else q.toInt
      delivers (.vrot 1 d a q f) s1 4 (words fun i j =>
        match f.toNat % 4 with
        | 0 => tileElem ta 4 (64 * i + (((j : Int) - n) % 64).toNat)
        | 1 => tileElem ta 4 (64 * (((i : Int) - n) % 16).toNat + j)
        | 2 => if 0 ≤ (j : Int) - n ∧ (j : Int) - n < 64 then tileElem ta 4 (64 * i + ((j : Int) - n).toNat) else 0
        | _ => if 0 ≤ (i : Int) - n ∧ (i : Int) - n < 16 then tileElem ta 4 (64 * ((i : Int) - n).toNat + j) else 0)) ∧
    (one 4 false (.vbc 1 d a q f) → delivers (.vbc 1 d a q f) s1 4 (words fun i j =>
      if f = 0 then tileElem ta 4 (64 * i + q.toNat) else tileElem ta 4 (64 * q.toNat + j))) ∧
    (two 4 false (.vperm 1 d a q) → delivers (.vperm 1 d a q) s1 4 (words fun i j =>
      let k := tileElem tb 4 (64 * i + j)
      if k < 64 then tileElem ta 4 (64 * i + k) else 0))

/-- VRED delivers the reductions or scans of its format; VTRG writes the eight transposed tiles to eight registers; XF.RD, after
every earlier result, delivers the lane flags as 32-bit elements, and XF.CLR and XF.SET clear and set those named by bits 4:0 of
each element (R80, R261, R262, R265). -/
def Obligations.ReductionsTransposesFlags : Prop :=
  ∀ (s s1 : State) (b : BenchId) (c : CoreId) (d a : BitVec 6) (e f : BitVec 4) (r : BitVec 3) (g : BitVec 2) (ta : Tile),
    let x := s.issuing b c 2 2
    let k := s.core b c
    (s.aloneInCp b c 2 (.vred 1 d a e f r) → readSource x s a (Fmt.ofCode e).size false = .ok (ta, s1) →
      let o := redTile (Fmt.ofCode e) f.toNat (RMode.ofCode r (s1.stream b c 2).frm) {} ta
      ∀ s2 y, deliverTile x s1 d (Fmt.ofCode e).size o.1 o.2 = .ring s2 y → s.does b c 2 2 (.vred 1 d a e f r) s2 [(2, y)]) ∧
    (let i : Instr := .vtrg 1 (8 * g.setWidth 6) f
     let reg (n : Nat) : BitVec 5 := k.physV (BitVec.ofNat 5 (8 * g.toNat + n))
     let face (n : Nat) : Face Tile := k.v[(reg n).toFin]
     let z := if f = 0 then 4 else if f = 1 then 2 else 1
     let cell (t : Nat → Tile) (row col : Nat) : Nat := tileElem (t (row / 16)) z (cols z * (row % 16) + col)
     s.aloneInCp b c 2 i → f.toNat < 3 → (∀ n, n < 8 → (face n).written = false) →
      ∃ out : Nat → Tile, ∃ s2,
        (∀ row col, row < 128 → col < cols z → cell out row col =
          match f.toNat with
          | 0 => cell (fun n => (face n).vis) (64 * (row / 64) + col) (row % 64)
          | 1 => cell (fun n => (face n).vis) col row
          | _ => cell (fun n => (face n).vis) (col % 128) (128 * (col / 128) + row)) ∧
        (s2.core b c).results = k.results ++ [{
          writes := (List.range 8).map fun n => { reg := .v (reg n), data := out n, mask := BitVec.allOnes 4096 }
          flags := 0 }] ∧
        (∀ n, n < 8 → (s2.core b c).v[(reg n).toFin] =
          (face n).mark { stream := 2, async := false, pc := (s.stream b c 2).pc }) ∧
        s.does b c 2 2 i s2 [(2, none)]) ∧
    (let s' := s.updCore b c Core.performAll
     (s.aloneInCp b c 2 (.xfRd 1 d) → ∃ T, (∀ n, n < 1024 → tileElem T 4 n = ((s'.core b c).xf.extractLsb' (5 * n) 5).toNat) ∧
      ∀ s2 y, deliverTile x s' d 4 T 0 = .ring s2 y → s.does b c 2 2 (.xfRd 1 d) s2 [(2, none)]) ∧
     (readSource x s' a 4 false = .ok (ta, s1) → ∃ l : Lanes,
      (∀ n, n < 1024 → l.extractLsb' (5 * n) 5 = BitVec.ofNat 5 (tileElem ta 4 n)) ∧
      (s.aloneInCp b c 2 (.xfClr 1 a) →
        s.does b c 2 2 (.xfClr 1 a) (s1.updCore b c fun k => { k with xf := k.xf &&& ~~~l }) [(2, none)]) ∧
      (s.aloneInCp b c 2 (.xfSet 1 a) →
        s.does b c 2 2 (.xfSet 1 a) (s1.updCore b c fun k => { k with xf := k.xf ||| l }) [(2, none)])))

/-! ### Long operations, curve words, matrix words of CP (R73 to R80, R169 to R171, R263, R266 to R292) -/

/-- The long operations wait while one of their kind has not landed; else each marks its destinations as an asynchronous
writer does and begins, with what it will write: VSORT sorts the 32 keys of each row with their payloads, stably; SF64 its
function of each element; MCHE the chain closed to its format, the accumulator IDLE at once; CKSPLIT the first 256 runs of
keys of its box, their number and the cursor (R170, R171, R263, R274, R279, R290, R291). -/
def Obligations.LongOperations : Prop :=
  ∀ (s s1 : State) (b : BenchId) (c : CoreId) (d : BitVec 5) (a q : BitVec 6) (o : BitVec 1) (f : BitVec 4) (r x3 : BitVec 3)
    (acc i0 i1 : BitVec 3) (ta tb : Tile),
    let x := s.issuing b c 2 2
    let k := s.core b c
    let busy (g : LongKind) : Prop := ∃ y ∈ k.longs, y.kind = g
    let reg (n : Nat) : BitVec 5 := k.physV (BitVec.ofNat 5 (d.toNat + n))
    let unwritten (n : Nat) : Prop := (k.v[(reg n).toFin]).written = false
    let tag : Tag := { stream := 2, async := true, pc := (s.stream b c 2).pc }
    let d6 : BitVec 6 := d.setWidth 6
    let marked (l : List Nat) (k : Core) : Core := { k with
      v := l.foldl (fun v n => v.set (reg n).toFin ((v[(reg n).toFin]).mark tag)) k.v }
    let all : Pred := BitVec.allOnes 4096
    (∀ y ∈ [((Instr.vsort 1 d6 a q o, LongKind.vsort, 2) : Instr × LongKind × Nat), (.sf64 1 d6 a f r, .sf64, 5),
        (.cksplit 1 d6 a q x3, .cksplit, 3)],
      s.aloneInCp b c y.2.2 y.1 → busy y.2.1 → s.waits b c 2 y.1 (s.stream b c 2).wait) ∧
    (let i : Instr := .vsort 1 d6 a q o
     s.aloneInCp b c 2 i → ¬ busy .vsort → readTwo x s a q 8 false = .ok (ta, tb, s1) → d.toNat + 1 < 32 → unwritten 0 →
      unwritten 1 →
      ∃ keys pay : Tile,
        (∀ row, row < 16 →
          let pairs (t u : Tile) := (List.range 32).map fun j => (tileElem t 8 (32 * row + j), tileElem u 8 (32 * row + j))
          (pairs keys pay).Perm (pairs ta tb) ∧
          (pairs keys pay).Pairwise (fun m n => if o = 1 then n.1 ≤ m.1 else m.1 ≤ n.1) ∧
          (∀ key, (pairs keys pay).filter (fun y => y.1 == key) = (pairs ta tb).filter fun y => y.1 == key)) ∧
        s.does b c 2 2 i (s1.updCore b c fun k => { marked [0, 1] k with
          longs := k.longs ++ [{ kind := .vsort, flags := 0
                                 writes := [{ reg := .v (reg 0), data := keys, mask := all },
                                            { reg := .v (reg 1), data := pay, mask := all }] }] }) [(2, none)]) ∧
    (let sf (dst : BitVec 6) (g : Tile → Lanes → Core → Core) : Prop :=
       let i : Instr := .sf64 1 dst a f r
       s.aloneInCp b c 5 i → ¬ busy .sf64 → readSource (s.issuing b c 2 5) s a 8 false = .ok (ta, s1) →
       ∃ T F, elementwise 8 (fun e =>
           sfElem true shapeF64 f.toNat (RMode.ofCode r (s.stream b c 2).frm) (tileElem ta 8 e)) T F ∧
         s.does b c 2 5 i (s1.updCore b c (g T F)) [(5, none)]
     (unwritten 0 → sf d6 fun T F k => { marked [0] k with
       longs := k.longs ++ [{ kind := .sf64, flags := F, writes := [{ reg := .v (reg 0), data := T, mask := all }] }] }) ∧
     sf 63 (fun _ F k => { k with longs := k.longs ++ [{ kind := .sf64, flags := F, writes := [] }] }) ∧
     (∀ j : Fin 2, let u (s : State) : Queue := (s.core b c).q[2 + j.val]
       (u s).refused = false → (u s).entries.length < (u s).depth →
       sf (54 + BitVec.ofNat 6 j.val) fun T F k => { k with
         q := k.q.set (2 + j.val) { k.q[2 + j.val] with
           entries := k.q[2 + j.val].entries ++ [{ landed := false, tile := 0, id := k.entries }] }
         entries := k.entries + 1
         longs := k.longs ++ [{ kind := .sf64, flags := F, writes := []
                                entry := some (2 + BitVec.ofNat 2 j.val, k.entries, T) }] })) ∧
    (let i : Instr := .mche 1 acc d6 f r
     let ac := k.acc[acc.toFin]
     s.aloneInCp b c 4 i → k.accBusy acc = false →
      ((ac = .idle ∨ (f = 11 ∧ ac.isInt = false)) → s.traps b c 2 4 i { cause := 0x03 }) ∧
      (ac ≠ .idle → (f = 11 → ac.isInt = true) → busy .mche → s.waits b c 2 i (s.stream b c 2).wait) ∧
      (ac ≠ .idle → (f = 11 → ac.isInt = true) → ¬ busy .mche → unwritten 0 →
        let fmt := Fmt.ofCode f
        ∃ T F, elementwise fmt.size (fun e =>
            if e % cols fmt.size < 64 then
              ac.close fmt (RMode.ofCode r (s.stream b c 2).frm) (64 * (e / cols fmt.size) + e % cols fmt.size)
            else (0, 0)) T F ∧
          s.does b c 2 4 i (s.updCore b c fun k => { marked [0] k with
            acc := k.acc.set acc.toFin .idle
            longs := k.longs ++ [{ kind := .mche, flags := F, writes := [{ reg := .v (reg 0), data := T, mask := all }] }] }))) ∧
    (let i : Instr := .cksplit 1 d6 (56 + i0.setWidth 6) (56 + i1.setWidth 6) x3
     let n := ckAxes x3
     let cr (i : BitVec 3) : Face Word := k.c[i.toFin]
     let runs := ckRuns n (cr i0).vis.toNat (cr (i0 + 1)).vis.toNat 257 (cr i1).vis.toNat
     s.aloneInCp b c 3 i → ¬ busy .cksplit → unwritten 0 → unwritten 1 → (cr i1).written = false →
      (cr (i1 + 1)).written = false →
      ∃ lo hi : Tile,
        (∀ e, e < 512 → let run := if e < 256 then runs[e]?.getD (2 ^ 64 - 1, 2 ^ 64 - 1) else (2 ^ 64 - 1, 2 ^ 64 - 1)
          tileElem lo 8 e = run.1 % 2 ^ 64 ∧ tileElem hi 8 e = run.2 % 2 ^ 64) ∧
        s.does b c 2 3 i (s.updCore b c fun k => { marked [0, 1] k with
          c := (k.c.set i1.toFin ((cr i1).mark tag)).set (i1 + 1).toFin ((cr (i1 + 1)).mark tag)
          longs := k.longs ++ [{ kind := .cksplit, flags := 0
                                 writes := [{ reg := .v (reg 0), data := lo, mask := all },
                                            { reg := .v (reg 1), data := hi, mask := all },
                                            { reg := .c (i1 + 1), data := BitVec.ofNat 32768 (min runs.length 256), mask := all },
                                            { reg := .c i1, mask := all
                                              data := BitVec.ofNat 32768 (if 256 < runs.length
                                                then (runs[255]?.getD (0, 0)).2 + 1 else 2 ^ 64 - 1) }] }] }) [(3, none)])

/-- The curve words on every 64-bit element: ENC and DEC between the axes side by side and the key that interleaves their
bits, with no bit above the coordinates; NEXT the next key in the box, all ones where there is none; ADD and SUB axis by axis
modulo the axis, with the mask of axes that left their range and no bit above it, to a pair of registers (R69, R285 to R289). -/
def Obligations.CurveWords : Prop :=
  ∀ (s s1 : State) (b : BenchId) (c : CoreId) (d a q : BitVec 6) (x3 : BitVec 3) (ta tb : Tile),
    let x := s.issuing b c 2 3
    let n := ckAxes x3
    let m := ckBits n
    let delivers (i : Instr) (ok : Tile → Prop) : Prop :=
      ∃ T, ok T ∧ ∀ s2 e, deliverTile x s1 d 8 T 0 = .ring s2 e → s.does b c 2 3 i s2 [(3, e)]
    (s.aloneInCp b c 3 (.ckEnc 1 d a x3) → readSource x s a 8 false = .ok (ta, s1) →
      delivers (.ckEnc 1 d a x3) fun T => ∀ e, e < 512 → tileElem T 8 e < 2 ^ (n * m) ∧ ∀ j y, j < m → y < n →
        (tileElem T 8 e).testBit (j * n + y) = (tileElem ta 8 e).testBit (y * m + j)) ∧
    (s.aloneInCp b c 3 (.ckDec 1 d a x3) → readSource x s a 8 false = .ok (ta, s1) →
      delivers (.ckDec 1 d a x3) fun T => ∀ e, e < 512 → tileElem T 8 e < 2 ^ (n * m) ∧ ∀ j y, j < m → y < n →
        (tileElem T 8 e).testBit (y * m + j) = (tileElem ta 8 e).testBit (j * n + y)) ∧
    (s.aloneInCp b c 3 (.ckNext 1 d a q x3) → readSource x s a 8 false = .ok (ta, s1) →
      let box := readBox x s1 q
      delivers (.ckNext 1 d a q x3) fun T => ∀ e, e < 512 → tileElem T 8 e =
        (ckNextKey n (tileElem ta 8 e) (tileElem box.1 8 e) (tileElem box.2 8 e)).getD (2 ^ 64 - 1) % 2 ^ 64) ∧
    (∀ sub : Bool,
      let i : Instr := if sub then .ckSub 1 d a q x3 else .ckAdd 1 d a q x3
      let k := s1.core b c
      let r (n : Nat) : BitVec 5 := k.physV (BitVec.ofNat 5 (d.toNat + n))
      let axisOf (t : Tile) (e y : Nat) : Int := axis n (tileElem t 8 e) y
      let sum (e y : Nat) : Int := if sub then axisOf ta e y - axisOf tb e y else axisOf ta e y + axisOf tb e y
      let keys (T0 T1 : Tile) : Prop := ∀ e, e < 512 → tileElem T0 8 e < 2 ^ (n * m) ∧ tileElem T1 8 e < 2 ^ n ∧ ∀ y, y < n →
        (axis n (tileElem T0 8 e) y : Int) = sum e y % 2 ^ m ∧
        ((tileElem T1 8 e).testBit y = true ↔ (sum e y < 0 ∨ 2 ^ m ≤ sum e y))
      s.aloneInCp b c 3 i → readTwo x s a q 8 false = .ok (ta, tb, s1) →
      ∃ T0 T1, keys T0 T1 ∧
        (d.toNat < 31 → (k.v[(r 0).toFin]).written = false → (k.v[(r 1).toFin]).written = false →
          let tag : Tag := { stream := 2, async := false, pc := (s.stream b c 2).pc }
          let all : Pred := BitVec.allOnes 4096
          s.does b c 2 3 i (s1.updCore b c fun y => { y with
            v := (y.v.set (r 0).toFin ((k.v[(r 0).toFin]).mark tag)).set (r 1).toFin ((k.v[(r 1).toFin]).mark tag)
            results := y.results ++ [{ writes := [{ reg := .v (r 0), data := T0, mask := all },
                                                  { reg := .v (r 1), data := T1, mask := all }], flags := 0, slot := 3 }] })
            [(3, some T0)]) ∧
        (∀ j : Fin 7, d.toNat = 32 + j.val →
          s.does b c 2 3 i (s1.updCore b c fun y => { y with
            w := (y.w.set j.val T0).set (j.val + 1) T1 }) [(3, some T0)]))

/-- The words on accumulators wait for an MRED of the accumulator to land. MCHB opens a chain, MZERO ends one, MLDA begins an
ordered chain from a tile; MMA and MMAQ on a chain that is IDLE, or of the other kind, raise illegal-operand; else MMA adds
the products of A with the block of scratch, and MMAQ those with the queue's oldest tiles, which it takes. The checks of the
block come in the order of R270: an address above 26 bits, or of another core without MC, is out of scope; one not a multiple
of 64 is misaligned; a block that passes the end of the scratchpad, or that lies in no one range of CP's R, W, I or X sets of
its own core, or of the X sets of another, is out of scope (R83, R86, R267 to R273, Table 28.2).

What a multiplication adds to a chain: each element of an exact chain gains the exact sum of its K products, and clamps;
each element of an ordered one takes the products in groups of eight, in increasing k (R73, R74, R77, R271). -/
def Obligations.MatrixWordsAndSums : Prop :=
  (∀ (s s1 : State) (b : BenchId) (c : CoreId) (acc : BitVec 3) (a : BitVec 6) (r : BitVec 5) (f : BitVec 3) (kx : BitVec 4)
    (t m q : BitVec 1) (ta : Tile),
    let x := s.issuing b c 2 4
    let core := s.core b c
    let ac := core.acc[acc.toFin]
    let sets (s : State) (a : Acc) : State := s.updCore b c fun y => { y with acc := y.acc.set acc.toFin a }
    let mma : Instr := .mma 1 acc a r f kx t m
    let mmaq : Instr := .mmaq 1 acc a q f kx
    let k := mmaK f kx
    let z := mmaSize f
    let bad : Prop := ac = .idle ∨ (f.toNat < 2 ∧ ac.state = 2) ∨ (2 ≤ f.toNat ∧ ac.state = 3)
    (∀ (bs : Word) (n : Nat) (mc : Bool),
      let at' := bs.toNat
      let o : CoreId := BitVec.ofNat 2 (at' / 2 ^ 24)
      let check := mmaCheck x s bs n mc
      let names : Prop := at' < 2 ^ 26 ∧ (mc = true ∨ o = c)
      let fits : Prop := at' % 2 ^ 24 + n ≤ (s.gang b).scratchSize
      let own : Prop := ∃ i : Fin 16, ((s.stream b c 2).sets[i]).holds at' n = true
      let exported : Prop := ∃ (u : StreamId) (i : Fin 16), 12 ≤ i.val ∧ ((s.stream b o u).sets[i]).holds at' n = true
      (¬ names → check = some { cause := 0x06, addr := bs }) ∧
      (names → at' % 64 ≠ 0 → check = some { cause := 0x05, addr := bs }) ∧
      (names → at' % 64 = 0 → (¬ fits ∨ (o = c ∧ ¬ own) ∨ (o ≠ c ∧ ¬ exported)) →
        check = some { cause := 0x06, addr := bs }) ∧
      (names → at' % 64 = 0 → fits → (o = c → own) → (o ≠ c → exported) → check = none)) ∧
    (∀ i ∈ [Instr.mchb 1 acc, .mzero 1 acc, .mlda 1 acc a, mma, mmaq],
      s.aloneInCp b c 4 i → core.accBusy acc = true → s.waits b c 2 i (s.stream b c 2).wait) ∧
    (core.accBusy acc = false →
      (s.aloneInCp b c 4 (.mchb 1 acc) → s.does b c 2 4 (.mchb 1 acc) (sets s .opened)) ∧
      (s.aloneInCp b c 4 (.mzero 1 acc) → s.does b c 2 4 (.mzero 1 acc) (sets s .idle)) ∧
      (s.aloneInCp b c 4 (.mlda 1 acc a) → readSource x s a 4 false = .ok (ta, s1) →
        s.does b c 2 4 (.mlda 1 acc a) (sets s1 (.ordered ((List.range 1024).map fun e =>
          (BitVec.ofNat 32 (tileElem ta 4 e), 0))))) ∧
      (bad → (s.aloneInCp b c 4 mma → s.traps b c 2 4 mma { cause := 0x03 }) ∧
        (s.aloneInCp b c 4 mmaq → s.traps b c 2 4 mmaq { cause := 0x03 })) ∧
      (s.aloneInCp b c 4 mma → ¬ bad → sourceBad x s a = false →
        let bs := (s.stream b c 2).sreg r
        (∀ u, mmaCheck x s bs (64 * k * z) (m == 1) = some u → s.traps b c 2 4 mma u) ∧
        (mmaCheck x s bs (64 * k * z) (m == 1) = none → readSource x s a z false = .ok (ta, s1) →
          let el (n : Nat) : Nat := scratchRead s1 b (bs.toNat + z * n) z
          s.does b c 2 4 mma (sets s1 (ac.mma f k (fun i j => tileElem ta z (cols z * i + j))
            (fun j n => if t = 1 then el (k * n + j) else el (64 * j + n)))))) ∧
      (s.aloneInCp b c 4 mmaq → ¬ bad → sourceBad x s a = false →
        let qa : BitVec 6 := if q = 0 then 52 else 53
        let queue := core.q[if q = 0 then (0 : Fin 4) else 1]
        let n := (k + 64 / z - 1) / (64 / z)
        sourceBad x s qa = false → queue.kfmt = mmaCode f → n ≤ queue.depth → readSource x s a z false = .ok (ta, s1) →
        ∀ l s2, popMany x qa n s1 = .ok (l, s2) →
          s.does b c 2 4 mmaq (sets s2 (ac.mma f k (fun i j => tileElem ta z (cols z * i + j))
            (fun j e => tileElem (l[j / (64 / z)]!) z (64 * (j % (64 / z)) + e))))))) ∧
  (∀ (acc : Acc) (f : BitVec 3) (k : Nat) (a g : Nat → Nat → Nat) (e : Nat),
    e < 1024 → acc.clash (decide (f.toNat < 2)) = false →
    (∀ i l, acc = .exact i l → l.length = 1024) → (∀ l, acc = .ordered l → l.length = 1024) →
    let x := (acc.exacts[e]?).getD { val := 0, sat := false, nvs := false }
    let products := (List.range k).map fun j => exactProduct (mmaFmt f) (a (e / 64) j) (g j (e % 64))
    (2 ≤ f.toNat → ∃ i l, acc.mma f k a g = .exact i l ∧ l.length = 1024 ∧
      ∃ y, l[e]? = some y ∧
        y.nvs = (x.nvs || products.any Option.isNone) ∧
        (x.sat = true → y.sat = true ∧ y.val = x.val) ∧
        (x.sat = false →
          let sum := x.val.toInt + (products.map fun p => p.getD 0).sum
          (y.sat = true ↔ (sum < -(2 ^ 111) ∨ 2 ^ 111 ≤ sum)) ∧
          y.val.toInt = max (-(2 ^ 111)) (min (2 ^ 111 - 1) sum))) ∧
    (f.toNat < 2 → ∃ l, acc.mma f k a g = .ordered l ∧ l.length = 1024 ∧
      l[e]? = some (ordGroups (fun j => numMul ((mmaFmt f).read (a (e / 64) j)) ((mmaFmt f).read (g j (e % 64)))) (k / 8) 0
        ((acc.ordereds[e]?).getD (0, 0)))))

/-- MRED waits for one of its core that has not landed, and then until the CP of every core of the gang has reached issue at
one; then every named accumulator takes the value of the sum over the bench, and each MRED is a long operation that has not
landed. Where an accumulator is IDLE the least such core's MRED raises illegal-operand; where none is, the least core's whose
chain is of another kind than core 0's (R76, R79, R170, R275; log 35).

The sum over the bench: of an exact chain the exact integer sum of the four values, range-checked once, with SAT the OR of
the four SAT bits and of that check and NVS the OR of the four; INT stays where all four have it. Of an ordered chain ((core 0
+ core 1) + (core 2 + core 3)), each an F32 addition rounded RNE, with the OR of the flags of the four and of the three
additions. Of OPEN chains an OPEN one (R62, R76, R79; log 80). -/
def Obligations.MredMeets : Prop :=
  (∀ (s : State) (b : BenchId) (c : CoreId) (acc : BitVec 3) (names : Vector (BitVec 3) 4),
    let i : Instr := .mred 1 acc
    s.aloneInCp b c 4 i → (s.stream b c 2).wait ≠ .reduced → (s.issuing b c 2 4).goesOn s →
    (∀ q : CoreId, q ≠ c → (s.atRendezvous b q).isSome = true → atIssue s b q = true) →
    let accOf (q : CoreId) : Acc := (s.core b q).acc[(names[q.toFin]).toFin]
    let accs := (List.range 4).map fun q => accOf (BitVec.ofNat 2 q)
    let faulty (q : CoreId) : Prop := accOf q = .idle ∧ ∀ u : CoreId, u.toNat < q.toNat → accOf u ≠ .idle
    let other (q : CoreId) : Prop := (∀ u : CoreId, accOf u ≠ .idle) ∧ (accOf q).state ≠ (accOf 0).state ∧
      ∀ u : CoreId, u.toNat < q.toNat → (accOf u).state = (accOf 0).state
    ((s.core b c).busy .mred = true → s.waits b c 2 i (s.stream b c 2).wait) ∧
    ((s.core b c).busy .mred = false →
      ((∃ q : CoreId, q ≠ c ∧ ∀ n, (s.stream b q 2).wait ≠ .rendezvous n) → s.waits b c 2 i (.rendezvous acc)) ∧
      ((∀ q : CoreId, q ≠ c → (s.stream b q 2).wait = .rendezvous names[q.toFin]) → names[c.toFin] = acc →
        ((∀ y ∈ accs, y ≠ .idle ∧ y.state = (accs.headD .idle).state) →
          ∃ t, exec i s = .next t ∧ ∀ q : CoreId,
            (t.core b q).acc[(names[q.toFin]).toFin] = Acc.bench accs ∧
            (t.core b q).longs = (s.core b q).longs ++
              [{ kind := .mred, writes := [], flags := 0, acc := names[q.toFin] }] ∧
            (t.core b q).mreds = (s.core b q).mreds + 1 ∧
            (q ≠ c → (t.stream b q 2).wait = .reduced)) ∧
        (faulty c ∨ other c → s.traps b c 2 4 i { cause := 0x03 }) ∧
        (∀ q : CoreId, q ≠ c → faulty q ∨ other q →
          exec i s = .next ((takeFault (s.updStream b c 2 fun st => { st with wait := .rendezvous acc }) b q 2 4
            (s.stream b q 2).pc { cause := 0x03 }).updStream b c 2 fun st => { st with bundle := [] }))))) ∧
  ((∀ (n : Fin 4 → Bool) (e : Fin 4 → List ExactElem), ∃ out,
    Acc.bench [.exact (n 0) (e 0), .exact (n 1) (e 1), .exact (n 2) (e 2), .exact (n 3) (e 3)] =
      .exact (n 0 && n 1 && n 2 && n 3) out ∧ out.length = 1024 ∧
    ∀ (i : Nat) (x : Fin 4 → ExactElem), i < 1024 → (∀ q, (e q)[i]? = some (x q)) → ∃ y, out[i]? = some y ∧
      let sum := ∑ q, (x q).val.toInt
      (y.sat = true ↔ (∃ q, (x q).sat = true) ∨ sum < -(2 ^ 111) ∨ 2 ^ 111 ≤ sum) ∧
      (y.nvs = true ↔ ∃ q, (x q).nvs = true) ∧
      y.val.toInt = max (-(2 ^ 111)) (min (2 ^ 111 - 1) sum)) ∧
  (∀ (e : Fin 4 → List OrdElem), ∃ out,
    Acc.bench [.ordered (e 0), .ordered (e 1), .ordered (e 2), .ordered (e 3)] = .ordered out ∧ out.length = 1024 ∧
    ∀ (i : Nat) (x : Fin 4 → OrdElem), i < 1024 → (∀ q, (e q)[i]? = some (x q)) →
      let adds (a b : Nat) (r : Nat × XFlags) : Prop :=
        let v := numAdd .rne (Fmt.f32.read a) (Fmt.f32.read b)
        ∃ d, Fmt.f32.Delivered .rne v.1 d ∧ r = (d.1, d.2 ||| v.2)
      ∃ u v w, adds (x 0).1.toNat (x 1).1.toNat u ∧ adds (x 2).1.toNat (x 3).1.toNat v ∧ adds u.1 v.1 w ∧
        out[i]? = some (BitVec.ofNat 32 w.1, (x 0).2 ||| (x 1).2 ||| (x 2).2 ||| (x 3).2 ||| u.2 ||| v.2 ||| w.2)) ∧
  Acc.bench [.opened, .opened, .opened, .opened] = .opened)

/-! ### Commands of the collective engine (R301 to R314) -/

/-- CWAIT waits for a timeline's counter or a doubleword to reach its number; CSIG stores its register at SYS; CLOOP begins a
loop over the next words, whose fetches it performs, or goes past them where the count is 0; CEND ends the program and keeps its
flags; CRV waits until the peers of the windows that its mask names are resident, and names those windows; CBW sets a share;
CNOP does nothing (R307 to R312; logs 52, 57 and 63).

CCOPY, CRED and CSEND perform their elements or units one after another: a step performs the next one, and the last one
completes the command, with ADV adding the length: of CSEND and CCOPY to the two address registers, of CRED to one after the
other. CCOPY copies 8 bytes; CRED combines an element of the source into one of the destination and joins the flags; CSEND reads
8 bytes and sends them to the window's peer as one unit of its transfer, or raises link-down where no link reaches the peer. A
length of zero or not a multiple raises illegal-operand, a misaligned address alignment with that address (a window offset
with none), overlapping ranges of CCOPY illegal-operand; an access that fails is a fault of the command in the state that the
accesses before it leave (R304 to R306, R293, R299, R314; logs 30 and 94). -/
def Obligations.CollectiveCommands : Prop :=
  (∀ (s : State) (i : BitVec 2) (r : ColRun) (a n : BitVec 4) (sh : Byte) (res : BitVec 2) (len : BitVec 13),
    s.commands i r →
    let next (r : ColRun) : State := s.setRun i (r.advance 1)
    let ga := r.reg a
    let gn := r.reg n
    let who := whoContext s i r.prog
    let looked := (List.range len.toNat).foldl (fun s j => fetchLook s who (r.pc + 4 + BitVec.ofNat 64 (4 * j))) s
    exec .cnop s = .next (next r) ∧
    exec (.cbw sh res) s = .next (next { r with share := r.share.setIfInBounds res.toNat sh }) ∧
    exec .cend s = .next { s with ctxs := s.ctxs.set i.toFin { s.ctxs[i.toFin] with run := none, flg := r.flg } } ∧
    (maskResident s r.prog ga = true →
      exec (.crv a) s = .next (next { r with rv := r.rv ||| ga, lastRv := some ga })) ∧
    (maskResident s r.prog ga = false → exec (.crv a) s = .next (s.setRun i { r with wait := .residency })) ∧
    (∀ v, colCounter s r.prog ga = .ok v →
      exec (.cwait 1 a n) s = .next (if gn.toNat ≤ v then next r else s.setRun i { r with wait := .count })) ∧
    (ga.toNat % 8 ≠ 0 → exec (.cwait 0 a n) s = .next (takeContextFault s i r { cause := 0x05, addr := ga }) ∧
      exec (.csig a n) s = .next (takeContextFault s i r { cause := 0x05, addr := ga })) ∧
    (ga.toNat % 8 = 0 → ∀ pa s1, homeAccess s who ga 8 .read false = .ok (pa, s1) →
      exec (.cwait 0 a n) s = .next (if gn.toNat ≤ physRead s1 pa 8 then s1.setRun i (r.advance 1)
        else s1.setRun i { r with wait := .count })) ∧
    (ga.toNat % 8 = 0 → ∀ pa s1, homeAccess s who ga 8 .write false = .ok (pa, s1) →
      exec (.csig a n) s = .next ((physWrite s1 pa 8 gn.toNat).setRun i (r.advance 1))) ∧
    (bodyHolds s who (r.pc + 4) len.toNat = true →
      exec (.cloop a len) s = .next (takeContextFault looked i r { cause := 0x03 })) ∧
    (bodyHolds s who (r.pc + 4) len.toNat = false → ga = 0 →
      exec (.cloop a len) s = .next (looked.setRun i (r.advance (1 + len.toNat)))) ∧
    (bodyHolds s who (r.pc + 4) len.toNat = false → ga ≠ 0 →
      exec (.cloop a len) s = .next (looked.setRun i
        { r.advance 1 with loop := some (r.pcw.toNat + 1, len.toNat, ga.toNat) }))) ∧
  (∀ (s s1 s2 s3 : State) (i : BitVec 2) (r : ColRun) (d g l t : BitVec 4) (o : BitVec 2) (v : BitVec 1) (rm : BitVec 3)
    (w : BitVec 6) (p1 p2 p3 : Nat),
    s.commands i r →
    let who := whoContext s i r.prog
    let n := (r.reg l).toNat
    let k := r.done
    let dst := r.reg d
    let src := r.reg g
    let after (units : Nat) (a b : BitVec 4) (s' : State) (r : ColRun) : Out :=
      .next (if k + 1 < units then s'.setRun i { r with done := k + 1 }
        else s'.setRun i ((if v = 1 then
            let m := r.setReg a (r.reg a + r.reg l)
            if a = b then m else m.setReg b (r.reg b + r.reg l)
          else r).advance 1))
    let afterRed (units : Nat) (s' : State) (r : ColRun) : Out :=
      .next (if k + 1 < units then s'.setRun i { r with done := k + 1 }
        else s'.setRun i ((if v = 1 then
            let m := r.setReg d (r.reg d + r.reg l)
            m.setReg g (m.reg g + m.reg l)
          else r).advance 1))
    let faults (i' : Instr) (f : Trap) : Prop := exec i' s = .next (takeContextFault s i r f)
    let fails (i' : Instr) (t : State) (va : Word) (f : MemFault) : Prop := exec i' s = .next (takeContextMem t i r va f)
    (let c : Instr := .ccopy d g l v
     let bad : Prop := n = 0 ∨ n % 8 ≠ 0
     (bad → faults c { cause := 0x03 }) ∧
     (¬ bad → dst.toNat % 8 ≠ 0 → faults c { cause := 0x05, addr := dst }) ∧
     (¬ bad → dst.toNat % 8 = 0 → src.toNat % 8 ≠ 0 → faults c { cause := 0x05, addr := src }) ∧
     (¬ bad → dst.toNat % 8 = 0 → src.toNat % 8 = 0 →
      (dst.toNat < src.toNat + n ∧ src.toNat < dst.toNat + n → faults c { cause := 0x03 }) ∧
      (¬ (dst.toNat < src.toNat + n ∧ src.toNat < dst.toNat + n) →
        homeAccess s who (src + BitVec.ofNat 64 (8 * k)) 8 .read false = .ok (p1, s1) →
        homeAccess s1 who (dst + BitVec.ofNat 64 (8 * k)) 8 .write false = .ok (p2, s2) →
        exec c s = after (n / 8) d g (physWrite s2 p2 8 (physRead s2 p1 8)) r) ∧
      (¬ (dst.toNat < src.toNat + n ∧ src.toNat < dst.toNat + n) → ∀ f,
        let sa := src + BitVec.ofNat 64 (8 * k)
        let da := dst + BitVec.ofNat 64 (8 * k)
        (homeAccess s who sa 8 .read false = .error f → fails c s sa f) ∧
        (homeAccess s who sa 8 .read false = .ok (p1, s1) → homeAccess s1 who da 8 .write false = .error f →
          fails c s1 da f)))) ∧
    (let c : Instr := .cred d g l t o v rm
     let fmt := Fmt.ofCode t
     let z := fmt.size
     let bad : Prop := n = 0 ∨ n % z ≠ 0 ∨ n % 8 ≠ 0
     (bad → faults c { cause := 0x03 }) ∧
     (¬ bad → dst.toNat % z ≠ 0 → faults c { cause := 0x05, addr := dst }) ∧
     (¬ bad → dst.toNat % z = 0 → src.toNat % z ≠ 0 → faults c { cause := 0x05, addr := src }) ∧
     (¬ bad → dst.toNat % z = 0 → src.toNat % z = 0 →
      homeAccess s who (dst + BitVec.ofNat 64 (z * k)) z .read false = .ok (p1, s1) →
      homeAccess s1 who (src + BitVec.ofNat 64 (z * k)) z .read false = .ok (p2, s2) →
      homeAccess s2 who (dst + BitVec.ofNat 64 (z * k)) z .write false = .ok (p3, s3) →
      let x := physRead s3 p1 z
      let y := physRead s3 p2 z
      let e := if o = 0 then redAdd fmt (RMode.ofCode rm 0) x y else redMinMax fmt (o == 2) x y
      exec c s = afterRed (n / z) (physWrite s3 p1 z e.1) { r with flg := r.flg ||| e.2 })) ∧
    (let c : Instr := .csend g d w l v
     let off := dst.toNat
     let win := (s.part r.prog.part).windows[w.toFin]
     let bad : Prop := n = 0 ∨ n % 8 ≠ 0 ∨ 2 ^ 32 ≤ n
     let shut : Prop := k = 0 ∧ (r.rv.getLsbD w.toNat = false ∨ win.permits true r.prog.tenant r.prog.bench = false ∨
      win.size < off + n)
     let aligned : Prop := src.toNat % 8 = 0 ∧ off % 8 = 0
     (bad → faults c { cause := 0x03 }) ∧
     (¬ bad → src.toNat % 8 ≠ 0 → faults c { cause := 0x05, addr := src }) ∧
     (¬ bad → src.toNat % 8 = 0 → off % 8 ≠ 0 → faults c { cause := 0x05 }) ∧
     (¬ bad → aligned → shut → faults c { cause := 0x12 }) ∧
     (¬ bad → aligned → ¬ shut → s.resident win r.prog.tenant = false →
      exec c s = .next (s.setRun i { r with wait := .residency })) ∧
     (¬ bad → aligned → ¬ shut → s.resident win r.prog.tenant = true →
      s.links.reaches (win.peer.getLsbD 8) (win.peer.extractLsb' 0 8) = false → faults c { cause := 0x2A }) ∧
     (¬ bad → aligned → ¬ shut → s.resident win r.prog.tenant = true →
      s.links.reaches (win.peer.getLsbD 8) (win.peer.extractLsb' 0 8) = true →
      let r' : ColRun := { r with wait := .none, xfer := if k = 0 then s.links.tags else r.xfer }
      let s' : State := if k = 0 then { s with links := { s.links with tags := s.links.tags + 1 } } else s
      homeAccess s' who (src + BitVec.ofNat 64 (8 * k)) 8 .read false = .ok (p1, s1) →
      exec c s = after (n / 8) g d (sendUnit s1 (.context i r.prog.part r.prog.num r.pc) (win.peer.getLsbD 8)
        (win.peer.extractLsb' 0 8) (windowUnit s1 win true r.prog.tenant
          (((List.range 8).map fun j => off + 8 * k + j).zip (bytesOf (physRead s1 p1 8) 8)) r'.xfer (n / 8))
        (BitVec.ofNat 64 (off + 8 * k))) r')))

/-! ### Events of cores: results that land, copies, the flip (R34 to R37, R58, R115, R169, R171, R236, Table 24.4) -/

/-- CP_RESULT_WRITE performs the oldest synchronous result, and the queue entry that it pushed lands; LONG_OP_LAND one long
operation, every write of it, whose flags wait for the flip and whose destinations are no longer pending; COPY_UNIT units of
the copy with the least slack, the earliest among equals: an element that goes to device memory, or is added there, is
accessed in its aligned 8 bytes, elements added at one location together; one that comes from device memory or from scratch
lands in its face, converted, with its flags held for the flip, or in its queue entry; one that goes to scratch is written
there; COPY_COMPLETE takes a copy with nothing left away, its face no longer pending or its queue entry landed (R51, R55, R58,
R169, R171, R236, R241; log 26). -/
def Obligations.ResultsLand : Prop :=
  ∀ (s s1 : State) (b : BenchId) (c : CoreId) (g : Gang) (n pick j pa : Nat) (k : Copy),
    s.dev.off = false → s.gang? b = some g →
    let y := s.core b c
    let free (k : Copy) : Bool := (k.state == .active || k.state == .replaying) && todoCount k.open != 0 && sendable s b k
    (∀ r rest, y.results = r :: rest → exec (.cpResultWrite b c) s = .next (s.updCore b c fun y =>
      let y := { r.writes.foldl Core.land y with results := rest, xf := y.xf ||| r.flags }
      match r.entry with
      | none => y
      | some (q, id) => { y with q := y.q.set q.toFin { y.q[q.toFin] with
          entries := (y.q[q.toFin]).entries.map fun e => if e.id = id then { e with landed := true } else e } })) ∧
    (∀ o, y.longs[n]? = some o → ∃ t, exec (.longOpLand b c n) s = .next t ∧
      (t.core b c).longs = y.longs.eraseIdx n ∧ (t.core b c).held = y.held ||| o.flags ∧ (t.core b c).xf = y.xf ∧
      (∀ r data, o.writes = [{ reg := .v r, data := data, mask := BitVec.allOnes 4096 }] →
        (t.core b c).v = y.v.set r.toFin { y.v[r.toFin] with hid := data, pending := false }) ∧
      ((∀ w ∈ o.writes, w.mask = BitVec.allOnes 4096) → (o.writes.map (·.reg)).Nodup →
        (∀ w ∈ o.writes, ∀ r : BitVec 5, w.reg = .v r →
          (t.core b c).v[r.toFin] = { y.v[r.toFin] with hid := w.data, pending := false }) ∧
        (∀ w ∈ o.writes, ∀ r : BitVec 3, w.reg = .c r →
          (t.core b c).c[r.toFin] = { y.c[r.toFin] with hid := w.data.setWidth 64, pending := false }) ∧
        (∀ r : BitVec 5, (∀ w ∈ o.writes, w.reg ≠ .v r) → (t.core b c).v[r.toFin] = y.v[r.toFin]) ∧
        (∀ r : BitVec 3, (∀ w ∈ o.writes, w.reg ≠ .c r) → (t.core b c).c[r.toFin] = y.c[r.toFin])) ∧
      (∀ q id data, o.writes = [] → o.entry = some (q, id, data) →
        (t.core b c).q = y.q.set q.toFin { y.q[q.toFin] with entries := (y.q[q.toFin]).entries.map fun e =>
          if e.id = id then { e with landed := true, tile := data } else e })) ∧
    (∀ l r, y.copies = l ++ k :: r → free k = true → (∀ o ∈ l, free o = true → k.slack < o.slack) →
      (∀ o ∈ r, free o = true → k.slack ≤ o.slack) →
      exec (.copyUnit b c pick) s = .next (workOn s b c 16 pick k)) ∧
    (k.state = .active → k.fault = none → k.reads = [] → k.todo = [(j, 1)] → k.far = .device →
      let u : Word := BitVec.ofNat 64 ((k.addr j).toNat / 8 * 8)
      let at' : Nat := pa + (k.addr j).toNat % 8
      let written (v : Nat) : Prop := (s1.part (s1.gang b).part).halt = .none →
        workOn s b c 16 pick k = setCopy ((physWrite s1 at' k.z (v % 2 ^ (8 * k.z))).updCore b c fun y =>
          y.dropLine (lineOf pa)) b c { k with todo := [] }
      (k.kind = .toFar → homeAccess s (whoStream s b c) u 8 .write false = .ok (pa, s1) → written (k.value j)) ∧
      (k.kind = .addFar → homeAccess s (whoStream s b c) u 8 .update false = .ok (pa, s1) →
        written (physRead s1 at' k.z + k.value j))) ∧
    (k.state = .active → k.fault = none → k.reads = [] → k.todo = [(j, 2)] → k.far = .device → k.kind = .addFar →
      k.addr (j + 1) = k.addr j → (s1.part (s1.gang b).part).halt = .none →
      homeAccess s (whoStream s b c) (BitVec.ofNat 64 ((k.addr j).toNat / 8 * 8)) 8 .update false = .ok (pa, s1) →
      let at' : Nat := pa + (k.addr j).toNat % 8
      workOn s b c 16 pick k = setCopy
        ((physWrite s1 at' k.z ((physRead s1 at' k.z + (k.value j + k.value (j + 1))) % 2 ^ (8 * k.z))).updCore b c fun y =>
          y.dropLine (lineOf pa)) b c { k with todo := [] }) ∧
    (k.state = .active → k.fault = none → k.reads = [] → k.todo = [(j, 1)] →
      let lands (s0 : State) (v : Nat) : Prop :=
        let becomes (f : Core → Core) : Prop := workOn s b c 16 pick k = setCopy (s0.updCore b c f) b c { k with todo := [] }
        let put (z e v : Nat) (t u : Tile) : Prop :=
          ∀ n, n < 4096 / z → tileElem u z n = if n = e then v % 2 ^ (8 * z) else tileElem t z n
        (s0.part (s0.gang b).part).halt = .none →
        (∀ r from' to', k.kind = .toFace r from' to' →
          let z := (Fmt.ofCode to').size
          let e := k.shape.tileIndex k.z z j
          let o := if from' = to' then (v, 0) else convert (Fmt.ofCode from') (Fmt.ofCode to') (RMode.ofCode 7 k.frm) v
          let f := (s0.core b c).v[r.toFin]
          ∃ (u : Tile) (l : Lanes), put z e o.1 f.hid u ∧
            (∀ n, n < 1024 → l.extractLsb' (5 * n) 5 = if n = e * z / 4 then o.2 else 0) ∧
            becomes fun y => { y with v := y.v.set r.toFin { f with hid := u }, held := y.held ||| l }) ∧
        (∀ q id, k.kind = .toQueue q id → ∃ into : Tile → Tile,
          (∀ t, put k.z (k.shape.tileIndex k.z k.z j) v t (into t)) ∧
          becomes fun y => { y with q := y.q.set q.toFin { y.q[q.toFin] with
            entries := (y.q[q.toFin]).entries.map fun n => if n.id = id then { n with tile := into n.tile } else n } })
      let stores (a : Nat) : Prop := (s.part (s.gang b).part).halt = .none →
        workOn s b c 16 pick k = setCopy (s.updCore b (BitVec.ofNat 2 (a / 2 ^ 24)) fun y =>
          { y with scratch := Memory.write y.scratch (a % 2 ^ 24) k.z (k.value j) }) b c { k with todo := [] }
      (k.far = .device →
        homeAccess s (whoStream s b c) (BitVec.ofNat 64 ((k.addr j).toNat / 8 * 8)) 8 .read false = .ok (pa, s1) →
        lands (s1.updCore b c fun y => y.refreshL1 pa 8 (physRead s1 pa 8)) (physRead s1 (pa + (k.addr j).toNat % 8) k.z)) ∧
      (k.far = .scratch → lands s (k.value j)) ∧
      (k.far = .scratch → k.kind = .toFar → stores (k.addr j).toNat) ∧
      (∀ d : BitVec 32, k.far = .scratch → k.kind = .toScratch d →
        let a := d.toNat + j * k.z
        (a / 2 ^ 24 % 4 = c.toNat ∨ (s.core b (BitVec.ofNat 2 (a / 2 ^ 24))).inbound a k.z = true) → stores a)) ∧
    (y.copies[n]? = some k → todoCount k.todo = 0 → k.asked = [] → (k.state = .active ∨ k.state = .replaying) →
      ∃ t, exec (.copyComplete b c n) s = .next t ∧
        (t.core b c).copies = y.copies.filter (fun o => !(o.stream == k.stream && o.num == k.num)) ∧
        (∀ r f d, k.kind = .toFace r f d → (t.core b c).v = y.v.set r.toFin { y.v[r.toFin] with pending := false }) ∧
        (∀ q id, k.kind = .toQueue q id → (t.core b c).q = y.q.set q.toFin { y.q[q.toFin] with
          entries := (y.q[q.toFin]).entries.map fun e => if e.id = id then { e with landed := true } else e }) ∧
        ((k.kind = .toFar ∨ k.kind = .addFar ∨ k.kind = .prefetch) → (t.core b c).v = y.v ∧ (t.core b c).q = y.q))

/-- FLIP_COMPLETE, once every stream that is not IDLE has arrived, one at its FLIP, and what the flip waits for has landed,
which a push of CP to a queue is not: each register written in the phase exchanges its faces and every W, P and tag is
cleared, the rings are emptied, the tiles rotate at the end of a KLOOP.F iteration of a gang of 32 registers, the phase number
rises, the flags that waited are recorded, slacks fall by one, and the sets of the next phase take effect. A stream at its
FLIP word goes on at the next word, and where that ends a body, as the loop has it; one at the end of a KLOOP.F iteration
begins the next, with its stage predicates and stage flags, or leaves the loop. In a forced epilogue a preemptible loop in its
iteration i has its trip count N lowered to i + 1, and stops past its body with the rest of its trips; other streams wait on
(R34, R35, R37, R40, R41, R48, R52, R55, R58, R144, R183, R184).

A pair of declared sets of the next phase that conflicts stops the flip: its higher stream takes set-overlap with the two
ranges, and still waits at its FLIP (R36, R87; logs 22
and 41). -/
def Obligations.FlipsComplete : Prop :=
  (∀ (s : State) (b : BenchId) (c : CoreId) (g : Gang),
    s.dev.off = false → s.gang? b = some g → g.halted = false → g.stop = .none →
    let k := s.core b c
    let flips (t : StreamId) (loopEnd : Bool) (a : Word) : Prop :=
      (s.stream b c t).status = .running ∧ (s.stream b c t).wait = .flip loopEnd a
    let there (t : StreamId) : Prop := (s.stream b c t).status = .idle ∨ (s.stream b c t).status = .ended ∨
      (∃ l a, (s.stream b c t).wait = .flip l a) ∨ (t = 0 ∧ (s.stream b c t).wait = .join) ∨
      ∃ w m, (s.stream b c t).wait = .epilogue w m
    let turned {α : Type} (f g : Face α) : Prop :=
      g.vis = (if f.written then f.hid else f.vis) ∧ g.hid = (if f.written then f.vis else f.hid) ∧
        g.written = false ∧ g.pending = false ∧ g.tag = ⟨0, false, 0⟩
    let total (f : LoopFrame) : Nat := if f.kloop then (if f.n = 0 then 0 else f.n + f.stages - 1) else f.n
    (∀ u, there u) → (∃ u l a, flips u l a) →
    (∀ r ∈ k.results, r.writes = [] ∧ r.entry.isSome = true) → k.longs = [] → (∀ u, (s.stream b c u).fault = none) →
    (∀ f ∈ k.v.toList, f.pending = false) → (∀ f ∈ k.c.toList, f.pending = false) → (∀ f ∈ k.p.toList, f.pending = false) →
    (∀ y ∈ k.copies, y.inPhase = false) →
    (∀ o : CoreId, ∀ y ∈ (s.core b o).copies, ∀ d, y.kind = .toScratch d → d.toNat / 2 ^ 24 % 4 ≠ c.toNat) →
    setsConflict (k.streams.map (·.next)) = none →
    ∃ s', exec (.flipComplete b c) s = .next s' ∧
      let k' := s'.core b c
      (∀ i : Fin 32, turned k.v[i] k'.v[i]) ∧ (∀ i : Fin 8, turned k.c[i] k'.c[i]) ∧ (∀ i : Fin 8, turned k.p[i] k'.p[i]) ∧
      k'.za = Vector.replicate 4 none ∧ k'.zb = Vector.replicate 4 none ∧ k'.zf = Vector.replicate 4 none ∧
      ((g.vcount = 32 ∧ ∃ u a, flips u true a) → k'.rb = k.rb + 1) ∧
      ((g.vcount ≠ 32 ∨ ¬ ∃ u a, flips u true a) → k'.rb = k.rb) ∧
      k'.results = k.results ∧ k'.phase = k.phase + 1 ∧ k'.xf = k.xf ||| k.held ∧ k'.held = 0 ∧
      k'.copies = k.copies.map (fun y => { y with slack := y.slack - 1 }) ∧
      (∀ u, (s'.stream b c u).sets = (s.stream b c u).next ∧ (s'.stream b c u).next = (s.stream b c u).next ∧
        (s'.stream b c u).s = (s.stream b c u).s) ∧
      k'.w = k.w ∧ k'.acc = k.acc ∧ k'.q = k.q ∧ k'.tok = k.tok ∧ k'.scratch = k.scratch ∧
      ∀ u,
        let st := s.stream b c u
        let st' := s'.stream b c u
        let on : Stream := { st with sets := st.next, wait := .none }
        let again (f : LoopFrame) (r : List LoopFrame) : Prop := ∃ k e : BitVec 8,
          (f.kloop = false → k = st.k ∧ e = st.f) ∧
          (f.kloop = true →
            (∀ j, j < 8 → k.getLsbD j = decide (j < f.stages ∧ j ≤ f.iter + 1 ∧ f.iter + 1 - j < f.n)) ∧
            (∀ j, j < 8 → e.getLsbD j = if 1 ≤ j ∧ j ≤ f.stages then k.getLsbD (j - 1) else st.f.getLsbD j)) ∧
          st' = { on with pc := f.first, loops := { f with iter := f.iter + 1 } :: r, k := k, f := e }
        let ends (f : LoopFrame) (r : List LoopFrame) (a : Word) : Prop :=
          (f.iter + 1 < total f → again f r) ∧
          (total f ≤ f.iter + 1 → (∀ h ∈ r.head?, h.last ≠ a) →
            st' = { on with pc := a, loops := r, k := if f.kloop then 0 else st.k })
        ((¬ ∃ l a, flips u l a) → st' = { st with sets := st.next }) ∧
        (∀ a, flips u false a →
          (st.loops = [] → st' = { on with pc := a }) ∧
          ∀ f r, st.loops = f :: r →
            (f.last ≠ a → st' = { on with pc := a }) ∧ (f.last = a → (f.kloop && f.flips) = false → ends f r a)) ∧
        (∀ a f r, flips u true a → st.loops = f :: r → f.last = a →
          (g.epilogue = false ∨ f.pre = false → ends f r a) ∧
          (g.epilogue = true → f.pre = true →
            let n := if f.iter + 1 < f.n then f.iter + 1 else f.n
            (f.iter + 1 < total { f with n := n } → again { f with n := n } r) ∧
            (total { f with n := n } ≤ f.iter + 1 →
              st' = { on with pc := a, loops := r, k := 0, wait := .epilogue f.word (f.norig - n) })))) ∧
  (∀ (s : State) (b : BenchId) (c : CoreId) (g : Gang) (lo hi : Nat × Nat × Range),
    s.dev.off = false → s.gang? b = some g → g.halted = false → g.stop = .none →
    let k := s.core b c
    k.gathered = true → flipLanded g c = true → (∀ u, (s.stream b c u).fault = none) →
    setsConflict (k.streams.map (·.next)) = some (lo, hi) →
    let t : StreamId := BitVec.ofNat 2 hi.1
    let aux (r : Nat × Nat × Range) : Word := BitVec.ofNat 64
      (r.2.1 * 2 ^ 62 + r.1 * 2 ^ 60 + (r.2.2.len.toNat % 2 ^ 28) * 2 ^ 32 + r.2.2.base.toNat)
    exec (.flipComplete b c) s = .next
      ((takeFault s b c t 0 (s.stream b c t).pc { cause := 0x07, aux0 := aux lo, aux1 := aux hi }).updStream b c t
        fun st => { st with wait := (s.stream b c t).wait }))

/-! ### Events of nodes: start, dispatch, migration, retirement, launch (R30, R33, R109, R118 to R130, R203) -/

/-- NODE_RETIRE, when the four cores of a gang have retired: after NYIELD of core 0 the record's ENTRY is replaced and the node
is made ready again; after NEXIT the record holds the result code with STATE 11, the future, if any, is resolved with the code,
its waiters become ready, and the bench is free; a future that is not EMPTY, or that the access faults on, stops core 0's SC at
its NEXIT, which a page fault makes wait there for REPLAY instead (R33, R127, R139, R203; of a record that can no longer be read
FUT counts as 0: log 88). -/
def Obligations.NodesRetire : Prop :=
  ∀ (s s1 s2 : State) (b : BenchId) (g : Gang) (r : Retire) (pa : Nat) (w : Word) (f : Trap) (nodes : List Nat),
    s.dev.off = false → s.gang? b = some g → (∀ c : CoreId, (s.core b c).retired.isSome = true) →
    (s.part g.part).halt = .none → (s.core b 0).retired = some r →
    let node := g.record.toNat
    let code := r.operand.toNat % 2 ^ 32
    let fut : Word := ((vfRead s g.space (node + 24)).getD 0) &&& 0xFFFFFFFFFFF8#64
    let s0 := vfTouch s g.space (node + 24) 8 .read
    let done (s : State) : State := (updRecord s g.space node 14 fun _ => BitVec.ofNat 64 (3 * 2 ^ 62 + code)).retire b
    let again (s : State) (nodes : List Nat) : State := (makeReady readyFuel s (nodes.map fun n => (n, g.vf, false))).1
    let who := whoStream s0 b 0
    let returns (t : State) : State :=
      (t.updCore b 0 fun k => { k with retired := none }).updStream b 0 0 fun st => { st with status := .running }
    let stops (t : State) (f : Trap) : State := takeFault (returns t) b 0 0 0 ((returns t).stream b 0 0).pc f
    (∀ s : State, (s.retire b).gang? b = none) ∧
    (r.yields = true → exec (.nodeRetire b) s = .next
      (again ((vfWrite (joinStart s g.part g.space node s.clocks[b.toFin]) g.space node r.operand).retire b) [node])) ∧
    (r.yields = false → fut = 0 → exec (.nodeRetire b) s = .next (done (releaseOnly s0 b 3))) ∧
    (r.yields = false → fut ≠ 0 → futureAccess s0 who fut futureKind = .ok (pa, w, s1) →
      (resolveBy s1 b g.space fut pa 1 code = .ok (s2, nodes) → exec (.nodeRetire b) s = .next (again (done s2) nodes)) ∧
      (resolveBy s1 b g.space fut pa 1 code = .error f → exec (.nodeRetire b) s = .next (stops s1 f))) ∧
    (r.yields = false → fut ≠ 0 → futureAccess s0 who fut futureKind = .error .prot →
      exec (.nodeRetire b) s = .next (stops (missed s0 who fut false) { cause := 0x11, addr := fut })) ∧
    (∀ e, r.yields = false → fut ≠ 0 → futureAccess s0 who fut futureKind = .error (.race e) →
      exec (.nodeRetire b) s = .next (stops (missed s0 who fut true) { cause := 0x0B, addr := fut, aux0 := e })) ∧
    (∀ stage level, r.yields = false → fut ≠ 0 → futureAccess s0 who fut futureKind = .error (.page stage level) →
      let t := returns (missed s0 who fut false)
      let y := trapRecord t (t.gang b).part { streamRecord (t.core b 0) b 0 0 0
        { cause := 0x10, slot := 0, pc := (t.stream b 0 0).pc, addr := fut
          aux0 := BitVec.ofNat 64 (stage * 2 ^ 63 + level), aux1 := 0 } with
        replay := true, seq := haltSeq t (t.gang b).part }
      exec (.nodeRetire b) s =
        .next (if y.2 then y.1.updStream b 0 0 fun st => { st with wait := .pageFault } else t))

/-- DISPATCH takes the entry of the granted function with the highest effective priority, then the lowest ready number, among
those that a free bench can run, and starts it on a lean bench where it can, preferring the quadrant that homes most of its
operands. The record is found through the committed root, or through that of the node's saved gang. At node start SC of each
core runs at ENTRY with s1 the argument pointer and s2 the record, the other streams are IDLE, registers are zero, and the
bench's own clock entry has grown by one (R30, R109, R125, R150, Table 02.4; logs 54, 85, 92 and 95).

A node whose record names a saved image resumes from it: its gang stands on the bench as it was saved, after a full stop
with every register and pc, after a forced epilogue with what was carried over the state of node start; the bench has the gang's
clock, its own entry past both, the windows owned by the bench that it left follow it, RESUME becomes zero and STATE 10. A grant
brings the pre-empted nodes back into the pool with their ready numbers and the roots of their gangs (R129, R147, R150; logs 54
and 92).

GANG_MIGRATE moves a gang whose word needs an extended bench, once its operations have completed, to a free one, its own
quadrant first: the gang goes on there, its old bench is free, and the new bench's clock entry is past both; where the partition
has none, the CP of the core that asked takes no-capable-bench; a halt of the partition discards the move (R128 to R130, R321,
Table 14.7; logs 22, 54 and 95). -/
def Obligations.NodesPlaced : Prop :=
  (∀ (s : State) (p : PartId) (v : VfId) (e : PoolEntry) (d : List Word) (b : BenchId),
    s.dev.off = false → s.dev.ready = true → (s.part p).halt = .none → (s.part p).barrier = false →
    (s.part p).granted = some v → e.vf = v → e ∈ (s.part p).pool →
    let free := freeBenches s p
    let runs (y : PoolEntry) (n : BenchId) : Prop := y.ext = false ∨ isLean n = false
    let able (y : PoolEntry) : Prop := y.vf = v ∧ ∃ n ∈ free, runs y n
    let root : Word := e.own.getD (((s.vf v).root.setWidth 64) <<< 12)
    let sp : Space := { vf := v, root := root }
    let s1 := homedLook s sp d
    let homed (n : BenchId) : Nat := homedBytes s1 sp d (n.extractLsb' 4 2)
    let fits (n : BenchId) : Prop := n ∈ free ∧ runs e n
    able e →
    (∀ y ∈ (s.part p).pool, able y → y = e ∨ y.prio < e.prio ∨ (y.prio = e.prio ∧ e.ready < y.ready)) →
    readRecord s sp e.node = some d → fits b →
    ((∃ n, fits n ∧ isLean n = true) → isLean b = true) →
    (∀ n, fits n → isLean n = isLean b → homed n < homed b ∨ (homed n = homed b ∧ b.toNat ≤ n.toNat)) →
    exec (.dispatch p) s = .next (dispatchTo s1 p b e d) ∧
    (savedOf s v e.node d = none →
      let t := dispatchTo s1 p b e d
      (∀ c : CoreId,
        let k := t.core b c
        let sc := t.stream b c 0
        sc.status = .running ∧ sc.pc = d[0]! ∧ sc.sreg 1 = d[1]! ∧ sc.sreg 2 = BitVec.ofNat 64 e.node ∧
        (∀ i : BitVec 5, 3 ≤ i.toNat → sc.sreg i = 0) ∧
        (∀ u : StreamId, (u ≠ 0 → (t.stream b c u).status = .idle) ∧ (t.stream b c u).f = 0 ∧ (t.stream b c u).k = 0 ∧
          (∀ i : BitVec 3, ((t.stream b c u).breg i).getLsbD 63 = true)) ∧
        (∀ i : Fin 32, k.v[i] = { vis := 0, hid := 0 }) ∧ (∀ i : Fin 8, k.c[i] = { vis := 0, hid := 0 }) ∧
        (∀ i : Fin 8, k.p[i] = { vis := 0, hid := 0 }) ∧ (∀ i : Fin 8, k.w[i] = 0 ∧ k.acc[i] = .idle) ∧
        k.scratch = [] ∧ k.xf = 0 ∧ k.phase = 0 ∧ k.rb = 0 ∧ (∀ i : Fin 4, (k.q[i]).entries = [])) ∧
      (t.gang b).record = BitVec.ofNat 64 e.node ∧ (t.gang b).vf = v ∧ (t.gang b).part = p ∧
      (t.gang b).root = root ∧ (t.gang b).ready = e.ready ∧ (t.gang b).run = s.ticks ∧ (t.gang b).pre = (d[2]!).getLsbD 33 ∧
      (t.clocks[b.toFin])[b.toFin] = clockInc (s.clocks[b.toFin])[b.toFin])) ∧
  (∀ (s : State) (p : PartId) (b : BenchId) (e : PoolEntry) (d : List Word) (y : SavedGang),
    e.vf.toNat < 96 → (d[15]!).toNat / 2 ^ 62 ≠ 0 → y ∈ (s.vf e.vf).saved →
    y.addr = (d[15]!).toNat / 2 ^ 7 % 2 ^ 41 * 2 ^ 7 → y.gang.record.toNat = e.node →
    (∀ z ∈ (s.vf e.vf).saved, z.addr = y.addr → z = y) →
    let sp := s.entrySpace e
    let t := dispatchTo s p b e d
    let left : Prop := y.bench ≠ b
    (∃ s2, t = drainSpoil p drainFuel (updRecord (vfWrite s2 sp (e.node + 120) 0) sp e.node 14
        fun w => BitVec.ofNat 64 (2 * 2 ^ 62 + w.toNat % 2 ^ 32)) ∧
      (s2.vf e.vf).saved = (s.vf e.vf).saved.filter fun z => z.addr != y.addr) ∧
    (left → t.gang? b = some { y.gang with former := y.bench :: y.gang.former }) ∧
    (¬ left → t.gang? b = some y.gang) ∧
    (∀ m, m ≠ b → t.gang? m = s.gang? m) ∧
    (∀ m : Fin 64, m.val ≠ b.toNat → (t.clocks[b.toFin])[m] = y.clock[m]) ∧
    (t.clocks[b.toFin])[b.toFin] = clockInc (BitVec.ofNat 24 (max (max (s.clocks[b.toFin])[b.toFin].toNat
      y.clock[b.toFin].toNat) y.clock[y.bench.toFin].toNat)) ∧
    (∀ i : Fin 64,
      let w := (s.part y.gang.part).windows[i]
      let moves : Prop := left ∧ w.ctl.getLsbD 63 = true ∧ w.ctl.getLsbD 58 = true ∧ w.ctl.extractLsb' 52 6 = y.bench
      (moves → (t.part y.gang.part).windows[i] =
        { w with ctl := (w.ctl &&& ~~~(0x3F#64 <<< 52)) ||| (b.setWidth 64 <<< 52) }) ∧
      (¬ moves → (t.part y.gang.part).windows[i] = w)) ∧
    (∀ v : VfId, (s.vf v).saved = [y] → (∀ z ∈ (s.part p).pool, ¬ (z.node = e.node ∧ z.vf = v)) →
      (∀ z ∈ (s.part p).numbers, ¬ (z.1 = e.node ∧ z.2.1 = v)) →
      let own : Space := { vf := v, root := y.gang.root }
      let t := vfTouch s { vf := y.gang.vf, root := y.gang.root } (e.node + 16) 8 .read
      let d2 := (vfRead t own (e.node + 16)).getD 0
      returnSaved s p v = t.updPart p fun q => { q with pool := q.pool ++
        [{ node := e.node, vf := v, ready := y.gang.ready, prio := d2.toNat / 2 ^ 34 % 4, passes := 0
           ext := d2.getLsbD 32 || d2.getLsbD 36, own := some y.gang.root }] })) ∧
  (∀ (s : State) (b n : BenchId) (g : Gang) (c : CoreId) (slot : Nat),
    s.dev.off = false → s.gang? b = some g → g.stop = .migrate c slot → g.halted = false → g.leaving = false →
    (s.part g.part).halt = .none →
    (∀ q : CoreId, (s.core b q).results = [] ∧ (s.core b q).longs = [] ∧ (s.core b q).copies = []) →
    let quad (n : BenchId) : BitVec 2 := n.extractLsb' 4 2
    let free (n : BenchId) : Prop := n ∈ partBenches s g.part ∧ s.gang? n = none ∧ isLean n = false ∧
      (s.quads[(quad n).toFin]).pwr ≠ 2
    ((∀ n ∈ partBenches s g.part, isLean n = true) → exec (.gangMigrate b) s = .next
      (takeFault (s.updGang b fun g => { g with stop := .none }) b c 2 slot (s.stream b c 2).pc { cause := 0x1A })) ∧
    ((∃ n ∈ partBenches s g.part, isLean n = false) → (∀ n, ¬ free n) → exec (.gangMigrate b) s = .next s) ∧
    (free n → (∀ m, free m → (quad m = quad b → quad n = quad b) ∧
        ((quad m = quad b ↔ quad n = quad b) → n.toNat ≤ m.toNat)) →
      ∃ t, exec (.gangMigrate b) s = .next t ∧ t.gang? b = none ∧
        t.gang? n = some { g with stop := .none, former := b :: g.former, cores := g.cores.map fun k => { k with l1 := [] } } ∧
        (∀ m : Fin 64, m.val ≠ n.toNat → (t.clocks[n.toFin])[m] = (s.clocks[b.toFin])[m]) ∧
        (t.clocks[n.toFin])[n.toFin] = clockInc (BitVec.ofNat 24 (max (max (s.clocks[n.toFin])[n.toFin].toNat
          (s.clocks[b.toFin])[n.toFin].toNat) (s.clocks[b.toFin])[b.toFin].toNat))) ∧
    (∀ s0 : State, s0 = s.updPart g.part (fun q => { q with halt := .raised }) → exec (.gangMigrate b) s0 = .next s0))

/-- A doorbell moves LQTAIL, or reports an overrun, once the layout of the functions' BARs is there (READY); the dispatcher
takes the records in order: a malformed one, or one that cannot be read or whose node record cannot, is skipped and LQERR names
it; an accepted one submits its node, which waits while its pending count is not 0 and else is made ready; one whose node finds
no place is not consumed (R118, R119, R122, R123; before READY nothing: R318 with Table 36.1, log 48; log 46).

A launch request that the launch-validation table and the window admit enters the launch queue of its function; any other
that arrives at a port that is up is dropped and counted; the entries up to the one that matches are read (R120, R300, R325; log
46). -/
def Obligations.Launches : Prop :=
  (∀ (s : State) (v : VfId) (x : Word) (l d : List Word),
    s.dev.off = false → v.toNat < 96 →
    let f := s.vf v
    let tail : BitVec 32 := x.extractLsb' 0 32
    let sets (s : State) (f : Vf → Vf) : State := s.updVf v f
    let taken (f : Vf) : Vf := { f with lq := { f.lq with head := f.lq.head + 1 }, launching := [] }
    let head := 2 ^ 12 * f.lq.base.toNat + 64 * (f.lq.head.toNat % 2 ^ f.lq.log2n)
    let s0 := vfTouch s (s.space v) head 64 .read
    let sp := s.space v
    let rejected (t : State) (reason : Byte) (seq : BitVec 16) : State :=
      sets t fun f => taken { f with lqErr := true, lqReason := reason, lqSeq := seq }
    let record := launchRecord s v head
    let node := bits (l[0]!) 7 41 * 2 ^ 7
    let seq : BitVec 16 := (l[1]!).extractLsb' 0 16
    let ring : Prop := s.dev.ready = true ∧ f.lqEn = true ∧ f.launching = [] ∧ f.requests = [] ∧ f.lq.head ≠ f.lq.tail
    (s.dev.ready = true → (tail - f.lq.head).toNat ≤ 2 ^ f.lq.log2n →
      exec (.launchDoorbell v x) s = .next (sets s fun f => { f with lq := { f.lq with tail := tail } })) ∧
    (s.dev.ready = false → exec (.launchDoorbell v x) s = .next s) ∧
    (s.dev.ready = true → 2 ^ f.lq.log2n < (tail - f.lq.head).toNat →
      exec (.launchDoorbell v x) s = .next (sets s fun f => { f with lqErr := true, lqReason := 3, lqSeq := 0 })) ∧
    (ring → record = none → exec (.launchRecordConsume v) s = .next (rejected s0 2 0)) ∧
    (ring → record = some l → launchOk l = false → exec (.launchRecordConsume v) s = .next (rejected s0 1 seq)) ∧
    (ring → record = some l → launchOk l = true → readRecord s0 sp node = none →
      exec (.launchRecordConsume v) s = .next (rejected (vfMissed s0 sp node) 2 seq)) ∧
    (ring → record = some l → launchOk l = true → readRecord s0 sp node = some d →
      let s0 := vfTouch s0 sp node 128 .read
      let s1 := if (l[1]!).getLsbD 24 then vfWrite s0 sp (node + 8) (l[2]!) else s0
      let s2 := match vfAddr s1 sp node .read with
        | some pa => clearCarried s1 (vfPart s v) (lineOf pa)
        | none => s1
      (bits (d[2]!) 0 32 ≠ 0 → exec (.launchRecordConsume v) s =
        .next (sets (submitWaiting (setState s2 sp node 0) v node) taken)) ∧
      (bits (d[2]!) 0 32 = 0 → ∀ s3 rest, makeReady readyFuel s2 [(node, v, true)] = (s3, rest) →
        exec (.launchRecordConsume v) s =
          .next (if rest = [] then sets s3 taken else sets s3 fun f => { f with launching := rest })))) ∧
  (∀ (s : State) (port : BitVec 5) (tenant : BitVec 16) (win : BitVec 6) (node : Word) (v : VfId),
    s.dev.off = false →
    let i : Instr := .launchRequest port tenant win node
    let up : Prop := if port.toNat < 16 then s.links.tilrak.getLsbD port.toNat = true
      else s.links.eth.getLsbD (port.toNat - 16) = true
    let entry (n : Nat) : Nat → Word := fun j => BitVec.ofNat 64 (physRead s (2 ^ 9 * s.dev.lvtBase.toNat + 512 * n + 8 * j) 8)
    let valid (n : Nat) : Prop := (entry n 0).getLsbD 63 = true ∧ (entry n 0).extractLsb' 0 16 = tenant ∧
      (entry n 0).extractLsb' 16 40 = 0 ∧ ((entry n 0).extractLsb' 56 7).toNat < 96 ∧ (entry n 1).toNat ≤ 16 ∧
      ∀ j, j < 30 → entry n (34 + j) = 0
    let admits (v : VfId) (n : Nat) : Prop := n < 64 ∧ valid n ∧ (∀ m, m < n → ¬ valid m) ∧ (entry n 0).extractLsb' 56 7 = v ∧
      (∃ j, j < (entry n 1).toNat ∧ (entry n (2 + 2 * j)).toNat ≤ node.toNat ∧ node.toNat ≤ (entry n (3 + 2 * j)).toNat) ∧
      (s.vf v).partEn = true ∧
      let w := (s.part (s.vf v).part).windows[win.toFin]
      w.ctl.getLsbD 63 = true ∧ w.ctl.getLsbD 59 = true ∧ w.ctl.extractLsb' 32 16 = tenant
    let looked (n : Nat) : State := (List.range n).foldl
      (fun s m => atHome s none .read (2 ^ 9 * s.dev.lvtBase.toNat + 512 * m) 512) s
    let drops (t : State) (h : port.toNat < 28) : Prop := exec i s = .next { t with links := { t.links with
      refusedLaunches := t.links.refusedLaunches.set port.toNat (t.links.refusedLaunches[port.toNat] + 1) } }
    (∀ n, up → s.dev.lvtEn = true → admits v n →
      exec i s = .next ((looked (n + 1)).updVf v fun f => { f with requests := f.requests ++ [(f.lq.tail, node)] })) ∧
    (up → s.dev.lvtEn = false → ∀ h : port.toNat < 28, drops s h) ∧
    (up → s.dev.lvtEn = true → (∀ v n, ¬ admits v n) → ∀ h : port.toNat < 28,
      ∃ n, 1 ≤ n ∧ n ≤ 64 ∧ (∀ m, m + 1 < n → ¬ valid m) ∧ (n < 64 → valid (n - 1)) ∧ drops (looked n) h))

/-! ### Events of halts and slices (R112, R132 to R149, R315) -/

/-- HALT_LINE: the line raised in a partition reaches its gangs, which stop with what they issued completed and their records
written; no other partition is touched, but for the vectors that lines displaced by the records' writes may lose. COPY_ABANDON
then abandons a copy that has units left. COL_CONTEXT_STOP stops a context at a command boundary, or at a page fault, for the
halt, or, at the end of its function's slice, to be resumed later, also one that a halt has stopped (R132, R133, R315; logs 38
and 40). -/
def Obligations.HaltsStopUnits : Prop :=
  ∀ (s : State) (p : PartId) (b : BenchId) (c : CoreId) (n : Nat) (k : Copy) (i : BitVec 2) (r : ColRun),
    s.dev.off = false →
    let own (b : BenchId) : Prop := ∃ g, s.gang? b = some g ∧ g.part = p
    let records := (haltRecords ((gangBenches s p).foldl
      (fun s b => s.updGang b fun g => { g with cores := g.cores.map Core.completeIssued }) s) p).length
    ((s.part p).halt = .raised → ∃ t, exec (.haltLine p) s = .next t ∧
      (t.part p).halt = .reached ∧
      (∀ q, q ≠ p → { t.part q with spillLost := 0 } = { s.part q with spillLost := 0 }) ∧ (∀ b, ¬ own b → t.gang? b = s.gang? b) ∧
      ((s.part p).tq.used + records ≤ 2 ^ (s.part p).tq.log2n → (s.part p).tq.log2n < 32 →
        (t.part p).tq.tail = (s.part p).tq.tail + BitVec.ofNat 32 records ∧ (t.part p).lost = (s.part p).lost) ∧
      (∀ b, own b → (t.gang b).halted = true ∧ (t.gang b).record = (s.gang b).record ∧
        (t.gang b).haltCause = (s.gang b).haltCause ∧
        ∀ c : CoreId,
          (t.core b c).results = [] ∧ (t.core b c).longs = [] ∧ (t.core b c).w = (s.core b c).w ∧
          (t.core b c).scratch = (s.core b c).scratch ∧
          ∀ u : StreamId, (t.stream b c u).fault = none ∧ (t.stream b c u).bundle = [] ∧
            (t.stream b c u).pc = (s.stream b c u).pc ∧ (t.stream b c u).s = (s.stream b c u).s ∧
            (t.stream b c u).status = (s.stream b c u).status)) ∧
    ((s.core b c).copies[n]? = some k → (s.gang b).halted = true → (k.state = .active ∨ k.state = .replaying) →
      (todoCount k.todo ≠ 0 ∨ k.asked ≠ []) →
      let again := k.asked.map fun y => (y.1, 1)
      ((∀ d, k.kind ≠ .toScratch d) → exec (.copyAbandon b c n) s = .next (setCopy s b c { k with
        state := .abandoned, todo := k.todo ++ again, asked := [] })) ∧
      (∀ d, k.kind = .toScratch d → exec (.copyAbandon b c n) s = .next (setCopy s b c { k with
        state := .abandoned, reads := k.reads ++ again, asked := [] }))) ∧
    (s.colRun i = some r → r.prog.part = p → r.halted = true → r.fault = none →
      (s.part p).granted ≠ some r.prog.vf → exec (.colContextStop i) s = .next
        (s.updCtx i fun c => { c with run := none, flg := r.flg, saved := c.saved ++
          [{ r with wait := if r.wait = .pageFault then .pageFault else .none }] })) ∧
    (s.colRun i = some r → r.prog.part = p → (r.done = 0 ∨ r.wait = .pageFault) → r.halted = false → r.fault = none →
      let w : ColWait := if r.wait = .pageFault then .pageFault else .none
      ((s.part p).halt = .reached → exec (.colContextStop i) s = .next
        ((trapRecord s p { cause := 0x30, unit := 2, bench := i.setWidth 6, pc := r.pc, seq := (s.part p).hseq }).1.setRun i
          { r with halted := true, wait := w })) ∧
      ((s.part p).halt = .none → (s.part p).granted ≠ some r.prog.vf → exec (.colContextStop i) s = .next
        (s.updCtx i fun c => { c with run := none, flg := r.flg, saved := c.saved ++ [{ r with wait := w }] })))

/-- PCTL: RESUME, where no copy was abandoned, clears HALT and lets every gang that the halt stopped go on where it stopped,
and outside a halt resumes a gang stopped by masked-feature, whose record not yet written the device keeps; an abandoned copy
is replayed before HALT clears; ABORT retires a gang with code 0x100 + C, where C is the cause of its earliest fault in the
halt, and of one stopped by masked-feature 0x19 (log 104), places the nodes that its words have made ready and wait to place,
and resolves its future FAILED, its waiters made ready; REPLAY resumes what waits on a page fault; STOP saves a gang whose
operations have completed in the lowest slot at whose address no image lies, with records of cause 0x31, and stops but does
not save one while a halt lasts; BARRIER asks for a partition barrier (R112, R127, R132, R137 to R140, R142, R146, R147; logs
39, 65, 69, 72, 81, 90, 93 and 104). -/
def Obligations.PartitionCommands : Prop :=
  ∀ (s : State) (p : PartId) (x : Word) (r : ColRun) (k : Copy) (n : Nat),
    s.dev.off = false →
    let b : BenchId := x.extractLsb' 54 6
    let c : CoreId := x.extractLsb' 52 2
    let u : StreamId := x.extractLsb' 50 2
    let kind : BitVec 2 := x.extractLsb' 48 2
    let i : BitVec 2 := b.extractLsb' 0 2
    let g := s.gang b
    let own (b : BenchId) : Prop := ∃ g, s.gang? b = some g ∧ g.part = p
    let masked : Prop := ∃ c t i w, g.stop = .masked c t i w
    let fut : Word := ((vfRead s g.space (g.record.toNat + 24)).getD 0) &&& 0xFFFFFFFFFFF8#64
    ((s.part p).halt = .reached → (∀ b, own b → ∀ q : CoreId, ∀ y ∈ (s.core b q).copies, y.state ≠ .abandoned ∧ y.state ≠ .replaying) →
      ∃ t, exec (.pctlResume p x) s = .next t ∧ (t.part p).halt = .none ∧
        (∀ b, own b → t.gang? b = some { s.gang b with
          halted := false, haltCause := none
          cores := (s.gang b).cores.map fun k => { k with streams := k.streams.map fun st =>
            if st.wait = .bodyEnd then ({ st with wait := .none }).endIter st.pc false st.loops else st } }) ∧
        (∀ b, ¬ own b → t.gang? b = s.gang? b)) ∧
    ((s.part p).halt = .none → own b → ∀ c t i, (g.stop = .masked c t i true →
        exec (.pctlResume p x) s = .next (s.updGang b fun g => { g with stop := .none })) ∧
      (g.stop = .masked c t i false → ∃ u, exec (.pctlResume p x) s = .next u ∧ (u.gang b).stop = .none ∧
        ∃ rec, u.dev.held = s.dev.held ++ [rec] ∧ rec.extractLsb' 56 8 = BitVec.ofNat 8 i.cause)) ∧
    (kind = 0 → own b → ((s.part p).halt = .reached ∨ ((s.part p).halt = .none ∧ masked)) → fut = 0 →
      ∀ cause, ((masked ∧ cause = 0x19) ∨ (¬ masked ∧ (g.haltCause = some cause ∨ (g.haltCause = none ∧ cause = 0x30)))) →
      ∃ t, exec (.pctlAbort p x) s = .next t ∧ t.gang? b = none ∧
        (g.stranded = [] → t.mem = (updRecord (vfTouch (keepRecord s b) g.space (g.record.toNat + 24) 8 .read)
            g.space g.record.toNat 14 fun _ =>
          BitVec.ofNat 64 (3 * 2 ^ 62 + (0x100 + cause))).mem)) ∧
    (kind = 0 → own b → ((s.part p).halt = .reached ∨ ((s.part p).halt = .none ∧ masked)) → fut ≠ 0 →
      ∀ cause, ((masked ∧ cause = 0x19) ∨ (¬ masked ∧ (g.haltCause = some cause ∨ (g.haltCause = none ∧ cause = 0x30)))) →
      let s1 := (updRecord (vfTouch (keepRecord s b) g.space (g.record.toNat + 24) 8 .read) g.space g.record.toNat 14 fun _ =>
        BitVec.ofNat 64 (3 * 2 ^ 62 + (0x100 + cause))).retire b
      ∀ s2 pa w, futureAccess (placeStranded s1 g.stranded) (whoVf (placeStranded s1 g.stranded) g.space) fut futureKind =
          .ok (pa, w, s2) →
        futureOk w = true → w.toNat < 2 ^ 62 →
        let y := releaseWaiters (physWrite s2 pa 8 (2 * 2 ^ 62 + (0x100 + cause))) p g.space fut true (Vector.replicate 64 0)
          (waiters s2 g.space drainFuel (w.toNat / 2 ^ 7 % 2 ^ 41 * 2 ^ 7))
        exec (.pctlAbort p x) s =
          .next (settleResume (makeReady readyFuel y.1 (y.2.map fun n => (n, g.vf, false))).1 p)) ∧
    (∀ (j pa : Nat) (s1 : State), (s.part p).halt = .reached → (∀ n, own n ↔ n = b) →
      (∀ q : CoreId, q ≠ c → (s.core b q).copies = []) → (s.core b c).copies = [k] → k.state = .abandoned → k.fault = none →
      k.kind = .toFar → k.far = .device → k.reads = [] → k.asked = [] → k.todo = [(j, 1)] →
      let replayed (k : Core) : Core := { k with
        copies := k.copies.map fun y => if y.state = .abandoned then { y with state := .replaying } else y }
      let contexts (s : State) : State := allCores.foldl (fun s i => match s.colRun i with
        | some r => if r.prog.part = p then s.setRun i { r with halted := false } else s
        | none => s) s
      let s0 := (contexts (s.updGang b fun g => { g with haltCause := none, cores := g.cores.map replayed })).updPart p fun q =>
        { q with halt := .resuming }
      homeAccess s0 (whoStream s0 b c) (BitVec.ofNat 64 ((k.addr j).toNat / 8 * 8)) 8 .write false = .ok (pa, s1) →
      ∃ t, exec (.pctlResume p x) s = .next t ∧ (t.part p).halt = .none ∧ (t.gang b).halted = false ∧
        (t.core b c).copies = [{ k with state := .active, todo := [] }] ∧
        t.mem = (physWrite s1 (pa + (k.addr j).toNat % 8) k.z (k.value j % 2 ^ (8 * k.z))).mem) ∧
    ((kind ≠ 0 ∨ ¬ own b ∨ ((s.part p).halt = .none ∧ ¬ masked)) → exec (.pctlAbort p x) s = .next s) ∧
    (kind = 0 → own b → (s.stream b c u).wait = .pageFault →
      exec (.pctlReplay p x) s = .next (s.updStream b c u fun st => { st with wait := .none })) ∧
    (kind = 1 → own b → (s.core b c).copies = [k] → k.stream = u → BitVec.ofNat 32 k.num = x.extractLsb' 0 32 → k.state = .paused →
      exec (.pctlReplay p x) s = .next (setCopy s b c { k with state := .active })) ∧
    (kind = 2 → s.colRun i = some r → r.prog.part = p → r.wait = .pageFault →
      exec (.pctlReplay p x) s = .next (s.setRun i { r with wait := .none })) ∧
    (kind = 2 → s.colRun i = none → ∃ t, exec (.pctlReplay p x) s = .next t ∧
      (t.ctxs[i.toFin]).saved = (s.ctxs[i.toFin]).saved.map fun r =>
        if r.prog.part = p ∧ r.wait = .pageFault then { r with wait := .none } else r) ∧
    (kind = 3 → (s.scx[i.toFin]).part = p → (s.scx[i.toFin]).busy = true → (s.scx[i.toFin]).paused = true →
      exec (.pctlReplay p x) s = .next (s.updScx i fun y => { y with paused := false })) ∧
    let slotAt (m : Nat) : Nat := 2 ^ 25 * (s.vf g.vf).saveBase.toNat + 2 ^ 25 * m
    (kind = 0 → own b → g.halted = false → (s.part p).halt = .none →
      (∀ q : CoreId, (s.core b q).results = [] ∧ (s.core b q).longs = [] ∧ (s.core b q).copies = []) →
      n < (s.vf g.vf).saveCount.toNat → (∀ y ∈ (s.vf g.vf).saved, y.addr ≠ slotAt n) →
      (∀ m, m < n → ∃ y ∈ (s.vf g.vf).saved, y.addr = slotAt m) → g.vf.toNat < 96 →
      ∃ t y, exec (.pctlStop p x) s = .next t ∧ t.gang? b = none ∧ (t.vf g.vf).saved = (s.vf g.vf).saved ++ [y] ∧
        y.slot = n ∧ y.addr = slotAt n ∧ y.full = true ∧ (∀ r ∈ y.records, r.extractLsb' 56 8 = 0x31) ∧ y.bench = b ∧
        y.clock = s.clocks[b.toFin] ∧ y.gang.record = g.record ∧ y.gang.ready = g.ready ∧
        ∀ (q : CoreId) (t : StreamId), ((y.gang.cores[q.toFin]).streams[t.toFin]).s = (s.stream b q t).s ∧
          ((y.gang.cores[q.toFin]).streams[t.toFin]).pc = (s.stream b q t).pc ∧
          (y.gang.cores[q.toFin]).v = (s.core b q).v ∧ (y.gang.cores[q.toFin]).scratch = (s.core b q).scratch) ∧
    (kind = 0 → own b → (s.part p).halt ≠ .none → n < (s.vf g.vf).saveCount.toNat →
      (∀ y ∈ (s.vf g.vf).saved, y.addr ≠ slotAt n) → ∃ t, exec (.pctlStop p x) s = .next t ∧
        (t.gang? b).isSome = true ∧ (t.gang b).leaving = true ∧ (t.gang b).record = g.record) ∧
    (kind = 0 → own b → (∀ m, m < (s.vf g.vf).saveCount.toNat → ∃ y ∈ (s.vf g.vf).saved, y.addr = slotAt m) →
      exec (.pctlStop p x) s = .next s) ∧
    exec (.pctlBarrier p x) s = .next (s.updPart p fun q => { q with barrier := true })

/-- Turns of the virtual functions: a free partition is granted the next function with work, whose tenants are then resident,
which the peers of their windows are told; a slice end zeroes BUCKET and gives the partition up where another function waits,
and else is a new grant (the model's clause: log 43); the granted function's pre-empted nodes return to its pool; BUCKET grows
while a function has no work. After a slice end a forced epilogue is asked of an eligible gang, and what it carries is saved
once it has drained; with no free slot, or where its function has been granted again, it goes on at its KLOOP words; a full
stop saves the gang as it stands, but for its first-level caches (log 100); while a halt lasts no gang leaves its bench (R132,
R142 to R149, R311; logs 42, 43, 45, 71, 72 and 92).

PARTITION_BARRIER, once asked for, with no gang running or saved: the clocks of the partition's benches are zero, and so is
the start vector of every node that is submitted and has not started; other lines keep their vectors; GEN advances by one, and
dispatch goes on; past 0xFFFF every shadow entry is cleared first. The records' addresses are translated, and a shadow entry
cleared, by accesses of the partition at the home slices, which leave what they leave (R90, R112; log 44). -/
def Obligations.SlicesAndBarriers : Prop :=
  (∀ (s : State) (p : PartId) (v : VfId) (b : BenchId) (g : Gang) (n : Nat) (d : List Word),
    s.dev.off = false → v.toNat < 96 →
    let f := s.vf v
    let slotAt (m : Nat) : Nat := 2 ^ 25 * f.saveBase.toNat + 2 ^ 25 * m
    let turn (w : VfId) : Nat := match (s.part p).lastVf with
      | some u => (w.toNat + 191 - u.toNat) % 96
      | none => w.toNat
    (s.dev.ready = true → (s.part p).granted = none → hasWork s p v = true →
      (∀ u ∈ (s.part p).lastVf, u.toNat < 96) →
      (∀ w : VfId, w.toNat < 96 → hasWork s p w = true → turn v ≤ turn w) →
      let s' := s.updPart p fun q => { q with granted := some v, lastVf := some v }
      let looked := if s.dev.lvtEn then (List.range 64).foldl
        (fun s n => atHome s none .read (2 ^ 9 * s.dev.lvtBase.toNat + 512 * n) 512) s' else s'
      exec (.vfGrant p) s = .next (returnSaved (reside looked p (tenantsOf looked v)) p v)) ∧
    ((s.part p).granted = some v →
      let s1 := s.updVf v fun f => { f with bucket := 0 }
      let others : Prop := ∃ w : VfId, w.toNat < 96 ∧ w ≠ v ∧ hasWork s1 p w = true
      (others → exec (.sliceEnd p) s = .next (reside (s1.updPart p fun q => { q with granted := none }) p [])) ∧
      (¬ others → exec (.sliceEnd p) s = .next (returnSaved s1 p v))) ∧
    (∀ now : List (BitVec 16), let t := reside s p now
      (∀ q n, (q, n) ∈ t.links.own ↔ if q = p then n ∈ now else (q, n) ∈ s.links.own) ∧
      ∀ (q : PartId) (n : BitVec 16), ∀ w ∈ (s.part q).windows.toList, w.ctl.getLsbD 63 = true → w.ctl.extractLsb' 32 16 = n →
        let report (on : Bool) := (w.peer.getLsbD 8, w.peer.extractLsb' 0 8, p, n, on)
        (n ∈ now → (p, n) ∉ s.links.own → report true ∈ t.links.reports) ∧
        (n ∉ now → (p, n) ∈ s.links.own → report false ∈ t.links.reports)) ∧
    (f.partEn = true → f.lq.head = f.lq.tail → f.requests = [] → f.launching = [] → hasNodes s v = false →
      exec (.bucketAccrual v) s =
        .next (if f.bucket.toNat < f.slice.toNat then s.updVf v fun f => { f with bucket := f.bucket + 1 } else s)) ∧
    (s.gang? b = some g → g.vf = v → g.halted = false → g.stop = .none → g.leaving = false →
      (s.part g.part).granted ≠ some v →
      n < f.saveCount.toNat → (∀ y ∈ f.saved, y.addr ≠ slotAt n) → (∀ m, m < n → ∃ y ∈ f.saved, y.addr = slotAt m) →
      ((s.part g.part).halt ≠ .none → exec (.epilogueSave b) s = .next s ∧ exec (.fullStop b) s = .next s) ∧
      (g.pre = true →
        ((∀ c : CoreId, (s.stream b c 0).status = .running ∧ (s.stream b c 0).wait = .join ∧
            ∀ u : StreamId, u ≠ 0 → (s.stream b c u).status = .idle ∨ (s.stream b c u).status = .ended ∨
              ∃ l ∈ (s.stream b c u).loops, l.pre = true) →
          exec (.forcedEpilogue b) s = .next (s.updGang b fun g => { g with epilogue := true })) ∧
        ((s.part g.part).halt = .none →
          (∀ q : CoreId, (s.core b q).results = [] ∧ (s.core b q).longs = [] ∧ (s.core b q).copies = []) →
          ∃ t y, exec (.fullStop b) s = .next t ∧ t.gang? b = none ∧ (t.vf v).saved = f.saved ++ [y] ∧ y.slot = n ∧
            y.addr = slotAt n ∧ y.full = true ∧ y.bench = b ∧ y.clock = s.clocks[b.toFin] ∧
            y.gang = { g with cores := g.cores.map fun k => { k with
              l1 := [], streams := k.streams.map fun st => { st with bundle := [] } } })) ∧
      (g.epilogue = true → (s.part g.part).halt = .none → readRecord s g.space g.record.toNat = some d →
        (∀ q : CoreId, (s.core b q).results = [] ∧ (s.core b q).longs = [] ∧ (s.core b q).copies = [] ∧
          ∀ u : StreamId, (s.stream b q u).status = .idle ∨ (s.stream b q u).status = .ended ∨
            (∃ w m, (s.stream b q u).wait = .epilogue w m) ∨ (u = 0 ∧ (s.stream b q u).wait = .join)) →
        ∃ t y, exec (.epilogueSave b) s = .next t ∧ t.gang? b = none ∧ (t.vf v).saved = f.saved ++ [y] ∧ y.slot = n ∧
          y.addr = slotAt n ∧ y.full = false ∧ y.bench = b ∧ y.clock = s.clocks[b.toFin] ∧
          y.gang.record = g.record ∧ y.gang.ready = g.ready ∧ y.gang.root = g.root ∧
          (∀ q : CoreId,
            let k := y.gang.cores[q.toFin]
            let old := s.core b q
            let carry (h : Vector Word 6 → Prop) : Prop := ∃ u w m, (s.stream b q u).wait = .epilogue w m ∧ h (s.stream b q u).carry
            let named (i n : Nat) : Prop := carry fun h => (h[i]!).getLsbD n = true
            let within (a : Nat) (h : Word) : Prop :=
              h.toNat % 2 ^ 24 ≤ a ∧ a < h.toNat % 2 ^ 24 + h.toNat / 2 ^ 32
            (∀ i : Fin 32, (named 0 (32 + i.val) → k.v[i] = old.v[(old.physV (BitVec.ofNat 5 i.val)).toFin]) ∧
              (¬ named 0 (32 + i.val) → k.v[i] = { vis := 0, hid := 0 })) ∧
            (∀ i : Fin 8, (named 1 i.val → k.c[i] = old.c[i]) ∧ (¬ named 1 i.val → k.c[i] = { vis := 0, hid := 0 }) ∧
              (named 1 (8 + i.val) → k.p[i] = old.p[i]) ∧ (¬ named 1 (8 + i.val) → k.p[i] = { vis := 0, hid := 0 }) ∧
              (named 1 (16 + i.val) → k.w[i] = old.w[i]) ∧ (¬ named 1 (16 + i.val) → k.w[i] = 0) ∧
              (named 1 (24 + i.val) → k.acc[i] = old.acc[i]) ∧ (¬ named 1 (24 + i.val) → k.acc[i] = .idle)) ∧
            (∀ z, z ∈ k.scratch ↔ z ∈ old.scratch ∧ carry fun h => ∃ i ∈ [2, 3, 4, 5], within z.1 (h[i]!)) ∧
            k.xf = old.xf ∧ k.phase = 0 ∧ k.rb = 0 ∧ (∀ i : Fin 4, k.za[i] = none ∧ k.zb[i] = none ∧ k.zf[i] = none ∧
              (k.q[i]).entries = []) ∧ ∀ u : StreamId, (k.streams[u.toFin]).status = (s.stream b q u).status) ∧
          ∀ (q : CoreId) (u : StreamId) (w : Word) (m : Nat), (s.stream b q u).wait = .epilogue w m →
            let st := (y.gang.cores[q.toFin]).streams[u.toFin]
            st.pc = w ∧ st.rem = some m ∧ st.f = (s.stream b q u).f ∧ st.b = (s.stream b q u).b ∧ st.frm = (s.stream b q u).frm ∧
            ∀ j : Fin 32, st.s[j] = if ((s.stream b q u).carry[0]).getLsbD j.val then (s.stream b q u).s[j] else
              if u = 0 ∧ j.val = 1 then d[1]! else if u = 0 ∧ j.val = 2 then g.record else 0)) ∧
    (s.gang? b = some g → g.vf = v → g.halted = false → g.stop = .none → g.leaving = false → g.epilogue = true →
      (s.part g.part).halt = .none →
      ((∀ m, m < f.saveCount.toNat → ∃ y ∈ f.saved, y.addr = slotAt m) ∨ (s.part g.part).granted = some v) →
      (∀ q : CoreId, (s.core b q).results = [] ∧ (s.core b q).longs = [] ∧ (s.core b q).copies = [] ∧
        ∀ u : StreamId, (s.stream b q u).status = .idle ∨ (s.stream b q u).status = .ended ∨
          (∃ w m, (s.stream b q u).wait = .epilogue w m) ∨ (u = 0 ∧ (s.stream b q u).wait = .join)) →
      ∃ t, exec (.epilogueSave b) s = .next t ∧ (t.gang b).epilogue = false ∧
        ∀ (q : CoreId) (u : StreamId) (w : Word) (m : Nat), (s.stream b q u).wait = .epilogue w m →
          t.stream b q u = { s.stream b q u with pc := w, rem := some m, wait := .none })) ∧
  (∀ (s : State) (p : PartId),
    s.dev.off = false → s.memWf → (s.part p).barrier = true →
    (∀ b g, s.gang? b = some g → g.part ≠ p) → (∀ f ∈ s.vfs.toList, ∀ y ∈ f.saved, y.gang.part ≠ p) →
    let q := s.part p
    let waits (y : Nat × VfId) : Prop := y ∈ q.waiting ∨ (∃ e ∈ q.pool, y = (e.node, e.vf)) ∨ ∃ e ∈ q.numbers, y = (e.1, e.2.1)
    let starts (l : Nat) : Prop := ∃ y pa, waits y ∧ vfAddr s (s.space y.2) y.1 .read = some pa ∧ l = lineOf pa
    let within (lo n a : Nat) : Prop := lo ≤ a ∧ a < lo + n
    let shadow (a : Nat) : Prop := within (2 ^ 12 * q.shbase.toNat) (2 ^ 14 * (q.shhi.toNat + 1 - q.shlo.toNat)) a
    let spills (a : Nat) : Prop := within (2 ^ 12 * q.spillBase.toNat) (256 * 2 ^ q.spillLog) a
    let nodes := q.waiting ++ (q.pool.map (fun e => (e.node, e.vf)) ++ q.numbers.map fun e => (e.1, e.2.1))
    let seen := nodes.foldl (fun s n => vfMissed s (s.space n.2) n.1) s
    let touched := (List.range (128 * (q.shhi.toNat + 1 - q.shlo.toNat))).foldl
      (fun s i => atHome s (some p) .write (2 ^ 12 * q.shbase.toNat + 128 * i) 128) s
    ∃ t, exec (.partitionBarrier p) s = .next t ∧ (t.part p).barrier = false ∧ (t.part p).gen = (s.part p).gen + 1 ∧
      (∀ b : BenchId, t.clocks[b.toFin] = if (s.part p).bench.getLsbD b.toNat then Vector.replicate 64 0 else s.clocks[b.toFin]) ∧
      (q.gen ≠ 0xFFFF → nodes = [] → t.mem = s.mem ∧ t.llc = s.llc) ∧
      (q.gen ≠ 0xFFFF → ∀ l, (starts l → carried t p l = none) ∧ (¬ starts l → carried t p l = carried seen p l)) ∧
      (q.gen ≠ 0xFFFF → ∀ a, ¬ spills a → Memory.get t.mem a = Memory.get seen.mem a) ∧
      (q.gen = 0xFFFF → ∀ a, shadow a → Memory.get t.mem a = 0) ∧
      (q.gen = 0xFFFF → nodes = [] → ∀ a, ¬ shadow a → Memory.get t.mem a = Memory.get touched.mem a))

/-! ### Events of registers, windows and links (R91, R136, R141, R148, R150, R293 to R299, R311, R326, R328) -/

/-- Writes of registers with rules of their own. VFCTX, whose page of a function is there once the device is READY: ROOT sets
PEND, COMMIT makes the pending root the one of later nodes; PBENCH takes effect only in an idle partition, and is refused for a
bench that is disabled or another partition's; where it leaves no extended bench, a ready node that needs one fails with code
0x1A, a pre-empted one with its image, and a record says so; WINCTL: while EN is set only EN may be cleared, and setting it is
refused for an empty span or one past 2^48; FMTCFG likewise, for a region that breaks a condition; TQHEAD and HTQHEAD free
entries, into which held records go; SNAPCTL fires a trigger that is enabled, none being in flight (R91, R122, R136, R141, R148,
R150, R296, R318, R326). The model's own, not the rules': that a root which the hypervisor restores with PEND = 0 is committed
(log 74), that a refused WINCTL or FMTCFG write stores its other fields and EN = 0 clears no ERR (log 75), that a pool entry
shows what D2 held as it entered (log 85), that FIRE is judged by LOCK and EN of the same write, and when a trigger is in flight
(logs 66 and 76).

A register write reaches the register at the offset: an offset that the tables do not name ignores it and reads zero; a
register with an event of its own behaves as the event; the block of a function is there once the device is READY; a field
that software may write reads back, a reserved one reads zero (R323, R328, Tables 16.5, 36.4 to 36.11; logs 5, 15, 48 and 89).
Of VFCTX one write sets ROOT or commits (log 74); VFSAVE.COUNT holds at most 64 (log 78); a write of VFBUD leaves BUCKET (log
107). -/
def Obligations.HostRegisters : Prop :=
  (∀ (s : State) (v : VfId) (p : PartId) (q : QuadId) (n : BitVec 6) (m : BitVec 4) (x : Word) (hyp : Bool),
    s.dev.off = false → v.toNat < 96 →
    let f := s.vf v
    let root : BitVec 36 := x.extractLsb' 12 36
    let win := (s.part p).windows[n.toFin]
    let region := (s.quads[q.toFin]).fmt[m.toFin]
    let setWin (w : Window) : State := s.updPart p fun y => { y with windows := y.windows.set n.toFin w }
    let setRegion (r : FmtRegion) : State := { s with quads := s.quads.set q.toFin { s.quads[q.toFin] with
      fmt := (s.quads[q.toFin]).fmt.set m.toFin r } }
    let tooFar : Prop := x.extractLsb' 0 32 = 0 ∨
      2 ^ 48 < 2 ^ 16 * ((win.base.extractLsb' 16 32).toNat + (x.extractLsb' 0 32).toNat)
    let fields : Word := x &&& 0x3FF0FFFFFFFFFFFF#64
    (hyp = false → exec (.vfctxRootWrite v hyp x) s = .next (if s.dev.ready then
      s.updVf v fun f => { f with ctxRoot := root, ctxPend := true } else s)) ∧
    (hyp = true → exec (.vfctxRootWrite v hyp x) s = .next (s.updVf v fun f => { f with
      ctxRoot := root, ctxPend := x.getLsbD 63, root := if x.getLsbD 63 then f.root else root })) ∧
    exec (.vfctxCommit v x) s = .next (if s.dev.ready = true ∧ x.getLsbD 62 = true ∧ f.ctxPend = true then
      s.updVf v fun f => { f with root := f.ctxRoot, ctxPend := false } else s) ∧
    exec (.tqheadWrite p x) s = .next (s.updPart p fun y => { y with tq := { y.tq with head := x.extractLsb' 0 32 } }) ∧
    ((∀ b g, s.gang? b = some g → ∀ c t i, g.stop ≠ .masked c t i false) →
      let s' : State := { s with dev := { s.dev with htq := { s.dev.htq with head := x.extractLsb' 0 32 } } }
      (s.dev.held = [] → exec (.htqheadWrite x) s = .next s') ∧
      (∀ rec, s.dev.held = [rec] →
        (s'.dev.htq.used < 2 ^ s'.dev.htq.log2n → ∃ t, exec (.htqheadWrite x) s = .next t ∧ t.dev.held = [] ∧
          t.dev.htq.tail = s.dev.htq.tail + 1 ∧ t.mem = (ringPut s' none s'.dev.htq rec).mem) ∧
        (2 ^ s'.dev.htq.log2n ≤ s'.dev.htq.used → exec (.htqheadWrite x) s = .next s'))) ∧
    (partIdle s p = false → exec (.pbenchWrite p x) s = .next s) ∧
    (partIdle s p = true →
      ((∃ i, i < 64 ∧ x.getLsbD i = true ∧ (s.dev.benchmap.getLsbD i = false ∨
          ∃ o : PartId, o ≠ p ∧ (s.part o).bench.getLsbD i = true)) →
        exec (.pbenchWrite p x) s = .next (s.updPart p fun y => { y with perr := true })) ∧
      ((∀ i, i < 64 → x.getLsbD i = true → s.dev.benchmap.getLsbD i = true ∧
          ∀ o : PartId, o ≠ p → (s.part o).bench.getLsbD i = false) →
        (∃ b : BenchId, x.getLsbD b.toNat = true ∧ b.getLsbD 3 = false) →
        exec (.pbenchWrite p x) s = .next (s.updPart p fun y => { y with bench := x })) ∧
      ((∀ i, i < 64 → x.getLsbD i = true → s.dev.benchmap.getLsbD i = true ∧
          ∀ o : PartId, o ≠ p → (s.part o).bench.getLsbD i = false) →
        (∀ b : BenchId, x.getLsbD b.toNat = true → b.getLsbD 3 = true) → (s.part p).spoilCount = 0 → (s.part p).defHead = 0 →
        ((∀ e ∈ (s.part p).pool, e.ext = false) → ∃ t, exec (.pbenchWrite p x) s = .next t ∧ (t.part p).bench = x ∧
          (t.part p).pool = (s.part p).pool ∧ t.benches = s.benches ∧ t.vfs = s.vfs) ∧
        (∀ e, (s.part p).pool = [e] → (s.part p).numbers = [] → e.ext = true →
          let sp := s.entrySpace e
          let s1 := s.updPart p fun y => { y with
            bench := x, pool := [], spoilHead := 0, spoilCount := 0, defHead := 0, defTail := 0 }
          ((vfRead s1 sp (e.node + 24)).getD 0) &&& 0xFFFFFFFFFFF8#64 = 0 →
          let s2 := updRecord s1 sp e.node 14 fun _ => BitVec.ofNat 64 (3 * 2 ^ 62 + 0x1A)
          let s3 := (trapRecord s2 p { cause := 0x1A, unit := 3, addr := BitVec.ofNat 64 e.node }).1
          let s4 := vfTouch s3 sp (e.node + 24) 8 .read
          ∃ t, exec (.pbenchWrite p x) s = .next t ∧ t.mem = s4.mem ∧ t.parts = s4.parts ∧ t.benches = s4.benches ∧
            (t.part p).pool = [] ∧ (t.part p).bench = x ∧
            (t.vf e.vf).saved = (s.vf e.vf).saved.filter fun y => y.gang.record.toNat != e.node))) ∧
    (win.ctl.getLsbD 63 = true → exec (.winctlWrite p n x) s =
      .next (setWin (if x.getLsbD 63 then win else { win with ctl := win.ctl &&& ~~~(1#64 <<< 63) }))) ∧
    (win.ctl.getLsbD 63 = false → x.getLsbD 63 = false →
      exec (.winctlWrite p n x) s = .next (setWin { win with ctl := fields ||| (win.ctl &&& (1#64 <<< 62)) })) ∧
    (win.ctl.getLsbD 63 = false → x.getLsbD 63 = true → tooFar →
      exec (.winctlWrite p n x) s = .next (setWin { win with ctl := fields ||| (1#64 <<< 62) })) ∧
    (win.ctl.getLsbD 63 = false → x.getLsbD 63 = true → ¬ tooFar →
      exec (.winctlWrite p n x) s = .next (setWin { win with ctl := fields ||| (1#64 <<< 63), arrivals := 0 })) ∧
    (region.en = true → exec (.fmtcfgWrite q m x) s = .next (setRegion { region with en := x.getLsbD 63 })) ∧
    (region.en = false →
      let r : FmtRegion := { region with store := x.extractLsb' 32 23, sigma := x.extractLsb' 8 5 }
      let last := r.store.toNat + 3 * (r.limit.toNat - r.base.toNat + 1) / 4 - 1
      let homed (g : Nat) : Prop := g / 2 ^ 21 = q.toNat
      let apart (a b c d : Nat) : Prop := b < c ∨ d < a
      let lastOf (o : FmtRegion) : Nat := o.store.toNat + 3 * (o.limit.toNat - o.base.toNat + 1) / 4 - 1
      let good : Prop := homed r.base.toNat ∧ homed r.limit.toNat ∧ r.base.toNat ≤ r.limit.toNat ∧
        (r.limit.toNat - r.base.toNat + 1) % 4 = 0 ∧ homed r.store.toNat ∧ homed last ∧ -12 ≤ r.sigma.toInt ∧ r.sigma.toInt ≤ 12 ∧
        ∀ k : Fin 16, k.val ≠ m.toNat → let o := (s.quads[q.toFin]).fmt[k]
          o.en = true → apart r.base.toNat r.limit.toNat o.base.toNat o.limit.toNat ∧
            apart r.store.toNat last o.store.toNat (lastOf o)
      (x.getLsbD 63 = false → exec (.fmtcfgWrite q m x) s = .next (setRegion r)) ∧
      (x.getLsbD 63 = true → good → exec (.fmtcfgWrite q m x) s = .next (setRegion { r with en := true, err := false })) ∧
      (x.getLsbD 63 = true → ¬ good → exec (.fmtcfgWrite q m x) s = .next (setRegion { r with err := true }))) ∧
    (let d := { s.dev with snapLock := x.getLsbD 63, snapEn := x.extractLsb' 32 4 }
     let s' : State := { s with dev := d }
     let fires : Prop := x.getLsbD 36 = true ∧ x.getLsbD 33 = true ∧ s'.snapInFlight = false
     (¬ fires → exec (.snapctlFire x) s = .next s') ∧
     (fires → exec (.snapctlFire x) s = .next { s with dev := { d with
       snapSeq := s.dev.snapSeq + 1
       snapAt := some s.ticks
       snap := if x.getLsbD 63 then s.dev.snap else some (takeSnapshot s' (s.dev.snapSeq + 1)) } }))) ∧
  (∀ (s : State) (bar : Bar) (v : VfId) (p : PartId) (q : QuadId) (o : Nat) (x : Word),
    s.dev.off = false → v.toNat < 96 →
    let part := 0x200000 + 0x10000 * p.toNat
    let quad := 0x600000 + 0x10000 * q.toNat
    let vf := 0x800000 + 0x1000 * v.toNat
    let reg (o : Nat) : Instr := .registerWrite .pf0 o x
    let holds (o : Nat) (w : Word) : Prop := ∃ t, exec (reg o) s = .next t ∧ readBar t .pf0 o = w
    let low (n : Nat) : Word := x &&& BitVec.ofNat 64 (2 ^ n - 1)
    (regAt bar o = none → exec (.registerWrite bar o x) s = .next s ∧ readBar s bar o = 0) ∧
    (s.dev.ready = true → exec (.registerWrite (.vf0 v) 0x1000 x) s = exec (.launchDoorbell v x) s) ∧
    (s.dev.ready = false → exec (.registerWrite (.vf0 v) o x) s = .next s) ∧
    exec (reg part) s = exec (.pbenchWrite p x) s ∧
    exec (reg (part + 0x108)) s = exec (.tqheadWrite p x) s ∧
    exec (reg 0x108) s = exec (.htqheadWrite x) s ∧
    exec (reg (quad + 0x08)) s = exec (.fmtcfgWrite q 0 x) s ∧
    exec (reg (quad + 0x408)) s = exec (.qpwrReq q x) s ∧
    exec (reg 0x30) s = exec (.snapctlFire x) s ∧
    ((x.extractLsb' 60 4).toNat = 1 → exec (reg (part + 0x120)) s = exec (.pctlResume p x) s) ∧
    ((x.extractLsb' 60 4).toNat = 2 → exec (reg (part + 0x120)) s = exec (.pctlAbort p x) s) ∧
    ((x.extractLsb' 60 4).toNat = 3 → exec (reg (part + 0x120)) s = exec (.pctlReplay p x) s) ∧
    ((x.extractLsb' 60 4).toNat = 4 → exec (reg (part + 0x120)) s = exec (.pctlBarrier p x) s) ∧
    ((x.extractLsb' 60 4).toNat = 5 → exec (reg (part + 0x120)) s = exec (.pctlStop p x) s) ∧
    holds (part + 0x08) (low 16) ∧ holds (part + 0x18) (low 8) ∧ holds (part + 0x48) (low 6) ∧ holds (part + 0x80) (low 16) ∧
    holds 0x38 (low 8) ∧
    holds 0x48 (if s.dev.kind = .zm480 ∧ 3000 < x.toNat % 2 ^ 16 then 3000 else low 16) ∧
    (s.dev.ready = true → exec (.registerWrite (.vf0 v) 0x2000 x) s =
      if x.getLsbD 62 then exec (.vfctxCommit v x) s else exec (.vfctxRootWrite v false x) s) ∧
    exec (reg (vf + 0x18)) s = exec (.vfctxRootWrite v true x) s ∧
    (∃ t, exec (reg (vf + 0x10)) s = .next t ∧ (t.vf v).saveBase = x.extractLsb' 25 23 ∧
      (t.vf v).saveCount.toNat = min 64 (x.toNat % 2 ^ 7)) ∧
    holds (vf + 0x08) (low 3) ∧
    (∃ t, exec (reg vf) s = .next t ∧ (t.vf v).slice.toNat = max 100 (x.toNat % 2 ^ 16) ∧ (t.vf v).bucket = (s.vf v).bucket))

/-- A unit that arrives is refused where its window is closed to it, and, as the model has it, where the target cannot translate
its address; where the checked window finds a race the answer is the conflicting entry; a put is then not performed and not
counted, and what the access has read of the tables and of the shadow has been read. Else its bytes are written, or those read
go back, and the put counts in the window's arrival counter with its last unit, unless one was refused: a put refused in a unit
keeps its entry, so that no unit of it ever counts (R110, R297, R298; log 14). -/
def Obligations.UnitsArrive : Prop :=
  ∀ (s s1 : State) (u : UnitMsg) (o pa : Nat),
    s.dev.off = false → u.cells ≠ [] → (∀ c ∈ u.cells, c.1 / 8 = o) →
    let win := (s.part u.part).windows[u.win.toFin]
    let opens : Prop := win.ctl.getLsbD 63 = true ∧ win.ctl.getLsbD (if u.isPut then 61 else 60) = true ∧
      win.ctl.extractLsb' 32 16 = u.tenant ∧ ∀ c ∈ u.cells, c.1 < 2 ^ 16 * (win.ctl.extractLsb' 0 32).toNat
    let va : Word := BitVec.ofNat 64 ((win.base.extractLsb' 16 32).toNat * 2 ^ 16 + 8 * o)
    let mine (a : Arriving) : Bool := a.peer == u.peer && a.xfer == u.xfer && a.part == u.part && a.win == u.win
    let seen : Arriving := (s.links.arriving.find? mine).getD
      { peer := u.peer, xfer := u.xfer, part := u.part, win := u.win, got := 0, refused := false }
    let access (k : AccKind) := homeAccess s (whoWindow s u.part) va 8 k false
    let kind : AccKind := if u.isPut then .write else .read
    let never (t : State) : Prop := ∃ a, t.links.arriving.find? mine = some a ∧ a.refused = true
    let fails (s' : State) (r : UnitReply) : Prop :=
      ∃ t, exec (.windowUnitArrive u) s = .next t ∧ t.mem = s'.mem ∧ t.parts = s'.parts ∧ t.links.reply = r ∧
        (u.isPut = true → never t)
    (¬ opens → fails s .refused) ∧
    (opens → ∀ e, access kind = .error (.race e) → fails (missed s (whoWindow s u.part) va true) (.race e)) ∧
    (opens → ∀ f, access kind = .error f → (∀ e, f ≠ .race e) → fails (missed s (whoWindow s u.part) va false) .refused) ∧
    (opens → u.isPut = true → access .write = .ok (pa, s1) →
      ∃ t, exec (.windowUnitArrive u) s = .next t ∧
        let w := u.cells.foldl (fun s c => physSet s (pa + c.1 % 8) c.2) s1
        t.mem = w.mem ∧ t.quads = w.quads ∧ t.links.reply = .performed ∧
        (s1.links = s.links → s1.parts = s.parts →
          (seen.refused = true → never t) ∧
          (t.part u.part).windows[u.win.toFin] = { win with
            arrivals := if u.total ≤ seen.got + 1 ∧ seen.refused = false then win.arrivals + 1 else win.arrivals })) ∧
    (opens → u.isPut = false → access .read = .ok (pa, s1) →
      exec (.windowUnitArrive u) s = .next { s1 with
        links := { s1.links with reply := .performed }, out := u.cells.map fun c => physByte s1 (pa + c.1 % 8) })

/-- The links: retransmissions change nothing; credits are counted; a report sets or clears a residency; a port that comes up or
goes down changes the ports; an acknowledgement takes a unit of a put away; data that returns lands in the copy that asked (R293
to R299, R311; log 52).

A unit of a copy or of a CSEND that is refused at its target, or found to race there, or that no port takes to its peer,
or that is not acknowledged in time, is no more outstanding, and its sender takes window, race or link-failure: a copy is
abandoned with the unit's elements still to be performed, and the engine takes the fault where no copy of that transfer is
there; the gang is the one that sent the unit, on whatever bench it stands, and where it stands on none the record is written
at once; a race tells the unit's address and index; a context stops at its command, of a race with the unit's window offset.
Where the halt has reached the units already, the copy's further record is written at once (R110, R133, R134, R137, R237,
R295, R297, R299; logs 29, 30 and 47).

Which peer a link reaches, and where the halves of a window's path lie: a port that is up, of the path, and not set apart
from the peer reaches it (R295; log 29). -/
def Obligations.LinksAndFailures : Prop :=
  (∀ (s : State) (port : BitVec 4) (n tag : Nat) (peer : BitVec 8) (p : PartId) (tenant : BitVec 16) (eth : Bool) (data : List Byte)
    (b : BenchId) (c : CoreId) (k : Copy) (j : Nat),
    s.dev.off = false →
    let links (l : Links) : State := { s with links := l }
    let ports (l : Links) (eth up : Bool) : Nat → Bool := fun i =>
      if i = port.toNat then up else if eth then l.eth.getLsbD i else l.tilrak.getLsbD i
    let shows (t : State) (up : Bool) : Prop :=
      (∀ i, i < (if eth then 12 else 16) → (if eth then t.links.eth.getLsbD i else t.links.tilrak.getLsbD i) = ports s.links eth up i) ∧
      (if eth then t.links.tilrak = s.links.tilrak else t.links.eth = s.links.eth)
    exec (.flitRetransmit port) s = .next s ∧ exec (.udpRetransmit tag) s = .next s ∧
    exec (.creditFlit port n) s = .next (links { s.links with
      credits := s.links.credits.set port.toFin (s.links.credits[port.toFin] + n) }) ∧
    (∃ t, exec (.residencyReport ⟨eth, peer⟩ p tenant true) s = .next t ∧ (eth, peer, p, tenant) ∈ t.links.resident ∧
      ∀ e, e ≠ (eth, peer, p, tenant) → (e ∈ t.links.resident ↔ e ∈ s.links.resident)) ∧
    (∃ t, exec (.residencyReport ⟨eth, peer⟩ p tenant false) s = .next t ∧
      ∀ e, e ∈ t.links.resident ↔ (e ∈ s.links.resident ∧ e ≠ (eth, peer, p, tenant))) ∧
    exec (.arrivalAcknowledgement peer tag) s = .next (links { s.links with
      out := s.links.out.filter fun u => !(u.tag == tag && u.dest == peer && u.msg.isPut) }) ∧
    (∃ t, exec (.linkRetrain eth port true) s = .next t ∧ shows t true) ∧ exec (.linkRetrain eth port false) s = .next s ∧
    (s.links.out = [] → ∃ t, exec (.linkDown eth port) s = .next t ∧ shows t false) ∧
    (s.links.out = [] → (s.gang? b).isSome = true → (s.core b c).copies = [k] → k.asked = [(j, tag)] → k.state = .active →
      (∀ b' c', (b' ≠ b ∨ c' ≠ c) → ∀ y ∈ (s.core b' c').copies, ∀ a ∈ y.asked, a.2 ≠ tag) →
      (s.part (s.gang b).part).halt = .none →
      let v := valuesOf k.z data 0
      ((∀ d, k.kind ≠ .toScratch d) → exec (.getUnitReturn tag data) s =
        .next (setCopy (landElem s b c { k with asked := [] } j v) b c { k with asked := [] })) ∧
      (∀ d, k.kind = .toScratch d → k.todo = [(j, 1)] → k.reads = [] → k.got = [] → k.data = [] →
        exec (.getUnitReturn tag data) s = .next (setCopy (scratchWrite s b (d.toNat + j * k.z) k.z v) b c
          { k with asked := [], todo := [], got := [(j, v)] })))) ∧
  (∀ (s : State) (u : OutUnit) (b : BenchId) (c : CoreId) (t : StreamId) (g : Gang) (k : Copy) (i : BitVec 2) (r : ColRun) (num : Nat)
    (pc : Word) (port : BitVec 4) (e : Word) (b0 : BenchId) (run : Nat) (p : PartId),
    s.dev.off = false → s.links.out = [u] →
    let sent (n : BenchId) : Prop := ∃ h, s.gang? n = some h ∧ h.part = p ∧ h.run = run
    let copyOf (k : Copy) : Prop := k.stream = t ∧ k.num = num ∧ k.xfer = u.msg.xfer
    let gone (l : Links) : State := { s with links := { l with out := [] } }
    let down := s.links.setPort u.eth port false
    let cases : List (Instr × Nat × State) := [(.refusedUnit ⟨u.tag, none⟩, 0x12, gone s.links),
        (.refusedUnit ⟨u.tag, some e⟩, 0x0B, gone s.links)] ++
      (if u.eth then [(.udpUnitTimeout u.tag, 0x2A, gone s.links)] else []) ++
      (if down.reaches u.eth u.dest then [] else [(.linkDown u.eth port, 0x2A, gone down)])
    ∀ y ∈ cases,
      let entry : Word := if y.2.1 = 0x0B then e else 0
      let f : Trap := if y.2.1 = 0x0B then
          { cause := 0x0B, addr := u.addr, aux0 := e, aux1 := BitVec.ofNat 64 u.index }
        else { cause := y.2.1 }
      (u.origin = .context i p num pc → s.colRun i = some r → r.prog.num = num → r.halted = false → r.fault = none →
        exec y.1 s = .next (contextFaultAt y.2.2 i r pc f)) ∧
      (u.origin = .copy b0 c t num pc p run → s.gang? b = some g → (∀ n, sent n ↔ n = b) →
        (s.core b c).copies = [k] → copyOf k → k.state = .active →
        let els := (List.range k.shape.count).filter fun j => u.msg.cells.any fun a => a.1 == (k.addr j).toNat
        let again := els.map fun j => (j, 1)
        let left := k.asked.filter fun a => !els.contains a.1
        let stops (k : Copy) : Prop :=
          let f := takeCopyFault y.2.2 b c k f
          let f' := recordCopy f.1 b c f.2
          ((s.part g.part).halt ≠ .reached → exec y.1 s = .next (setCopy f.1 b c f.2)) ∧
          ((s.part g.part).halt = .reached → exec y.1 s = .next (setCopy f'.1 b c f'.2))
        ((∀ d, k.kind ≠ .toScratch d) → stops { k with todo := k.todo ++ again, asked := left }) ∧
        (∀ d, k.kind = .toScratch d → stops { k with reads := k.reads ++ again, asked := left })) ∧
      (u.origin = .copy b0 c t num pc p run → s.gang? b = some g → (∀ n, sent n ↔ n = b) →
        (∀ k ∈ (s.core b c).copies, ¬ copyOf k) → (s.part p).halt ≠ .reached →
        let h := raiseHalt y.2.2 p y.2.1 1 b c t
        exec y.1 s = .next ((h.1.updGang b fun g => { g with haltCause := g.haltCause.or (some y.2.1) }).updCore b c fun k =>
          { k with engineFaults := k.engineFaults ++ [(t,
            { first := h.2, cause := y.2.1, slot := 0, pc := pc, addr := f.addr, aux0 := entry, aux1 := f.aux1 })] })) ∧
      (u.origin = .copy b0 c t num pc p run → (∀ n, ¬ sent n) →
        let h := raiseHalt y.2.2 p y.2.1 1 b0 c t
        exec y.1 s = .next (trapRecord h.1 p { cause := y.2.1, unit := 1, stream := t, core := c, bench := b0, first := h.2
                                               pc := pc, addr := f.addr, aux0 := entry, aux1 := f.aux1
                                               seq := (h.1.part p).hseq }).1)) ∧
  (∀ (l : Links) (eth : Bool) (peer : BitVec 8),
    l.reaches eth peer = true ↔ ∃ n : BitVec 4, (if eth then n.toNat < 12 ∧ l.eth.getLsbD n.toNat = true
      else l.tilrak.getLsbD n.toNat = true) ∧ (eth, n, peer) ∉ l.apart)

/-! ### Events of the device (R92, R94, R114, R115, R131, R135, R301, R315 to R330) -/

/-- COLD_START, DEVCTL_WARM, DEVCTL_READY, RECGO and POWER_OFF complete in every state. With the package in P3 nothing happens
but COLD_START, which runs the start sequence to its sixth step, or stops in recovery with the reason, and an access of the
debug port, which then reads DBGSTAT with its PWR, and zero elsewhere, and writes nothing. A warm start, and RECGO with an image
that is accepted, reset partitions, way masks, format regions, windows, launch queues, contexts and memory as step 5 does, and
keep the rest: the device block with the system copy contexts, the hypervisor's registers of the functions, LLCMNT and the
requests of QPWR; a warm start of a Revoked device stops in recovery; READY is the seventh step, and moves the rollback counter
up; POWER_OFF enters P3 (R316 to R319, R321, R322, R331, Table 36.1; logs 5 and 48). -/
def Obligations.DeviceStarts : Prop :=
  ∀ (s : State) (e : Instr) (x : Word) (image flash : List Byte) (r : BitVec 4),
    let d := s.dev
    let code (image : List Byte) : BitVec 4 := if Config.imageCheck d.lc image ≠ 0 then Config.imageCheck d.lc image
      else if (Config.imageVersion image).toNat < d.rollback.toNat then 3 else 0
    let given := image.take d.recLen.toNat
    let fused (t : State) : Prop := t.dev.lc = d.lc ∧ t.dev.rollback = d.rollback ∧ t.dev.kind = d.kind ∧
      t.dev.fuses = d.fuses ∧ t.dev.benchmap = d.benchmap
    let bare (t : State) : Prop := t.mem = [] ∧ t.llc = [] ∧ t.tlb = [] ∧ t.ctxs = State.reset.ctxs ∧
      t.clocks = State.reset.clocks ∧ t.pools = State.reset.pools ∧
      t.atomicMarks = [] ∧ t.links.out = [] ∧ t.links.resident = [] ∧ (∀ b, t.gang? b = none)
    let empty (t : State) : Prop := bare t ∧ t.vfs = State.reset.vfs ∧ t.scx = State.reset.scx ∧ t.quads = State.reset.quads
    let stepFive (t : State) : Prop := bare t ∧ (∀ p : PartId, t.part p = { ({} : Part) with hseq := (s.part p).hseq }) ∧
      t.scx = s.scx ∧
      (∀ i : Fin 96, let f := s.vfs[i]
        t.vfs[i] = ({ slice := f.slice, bucket := f.bucket, feat := f.feat, saveBase := f.saveBase, saveCount := f.saveCount,
                      ctxPend := f.ctxPend, ctxRoot := f.ctxRoot, root := f.root, s2root := f.s2root, s2en := f.s2en,
                      partEn := f.partEn, part := f.part } : Vf)) ∧
      (∀ q : QuadId, let y := s.quads[q.toFin]
        t.quads[q.toFin] = { y with fmt := Vector.replicate 16 {}, pwr := if y.pwr = 2 then 0 else y.pwr })
    let port (o : Nat) (w : Word) (y : Byte) (a : BitVec 40) (b : BenchId) (c : CoreId) : Prop :=
      exec (.debugWindowAccess true (.reg o w) y) s = .next s ∧
      exec (.debugWindowAccess true (.mem a) y) s = .next s ∧ exec (.debugWindowAccess true (.pool b c o) y) s = .next s ∧
      exec (.debugWindowAccess false (.reg o w) y) s = .next { s with out := bytesOf (if o = 0x18 then 3 else 0) 8 } ∧
      exec (.debugWindowAccess false (.mem a) y) s = .next { s with out := [0] } ∧
      exec (.debugWindowAccess false (.pool b c o) y) s = .next { s with out := [0] }
    let recovers (i : Instr) (berr : BitVec 4) : Prop :=
      exec i s = .next { s with dev := { d with stage := 15, berr := berr, ready := false } }
    let stops (i : Instr) (berr : BitVec 4) : Prop :=
      ∃ t, exec i s = .next t ∧ t.dev.stage = 15 ∧ t.dev.berr = berr ∧ t.dev.ready = false ∧ fused t
    (d.off = true → classOf e = .event → e ≠ .coldStart → (∀ w t y, e ≠ .debugWindowAccess w t y) → exec e s = .next s) ∧
    (d.off = true → ∀ o w y a b c, port o w y a b c) ∧
    (d.lc = 2 → stops .coldStart 5) ∧
    (d.lc ≠ 2 → Config.flashImage s.ticks = none → stops .coldStart 4) ∧
    (d.lc ≠ 2 → Config.flashImage s.ticks = some flash → code flash ≠ 0 → stops .coldStart (code flash)) ∧
    (d.lc ≠ 2 → Config.flashImage s.ticks = some flash → code flash = 0 → ∃ t, exec .coldStart s = .next t ∧
      t.dev.stage = 6 ∧ t.dev.berr = 0 ∧ t.dev.ready = false ∧ t.dev.off = false ∧ t.dev.imageVersion = Config.imageVersion flash ∧
      t.dev.imageHash = Config.imageHash flash ∧ fused t ∧ empty t ∧ t.parts = State.reset.parts) ∧
    (d.off = false →
      (x.getLsbD 63 = true → d.lc = 2 → recovers (.devctlWarm x) 5) ∧
      (x.getLsbD 63 = true → d.lc ≠ 2 → d.stage ≠ 15 → Config.imageHash (Config.hbmImage s.ticks) = d.imageHash →
        ∃ t, exec (.devctlWarm x) s = .next t ∧ t.dev = { d with stage := 6, ready := false } ∧ stepFive t) ∧
      (x.getLsbD 63 = true → d.lc ≠ 2 → (d.stage = 15 ∨ Config.imageHash (Config.hbmImage s.ticks) ≠ d.imageHash) →
        exec (.devctlWarm x) s = exec .coldStart s) ∧
      (x.getLsbD 63 = false → exec (.devctlWarm x) s = .next s) ∧
      (x.getLsbD 62 = true → d.stage = 6 → exec (.devctlReady x) s = .next { s with dev := { d with
        stage := 7, ready := true
        rollback := if d.rollback.toNat < d.imageVersion.toNat then d.imageVersion else d.rollback } }) ∧
      ((x.getLsbD 62 = false ∨ d.stage ≠ 6) → exec (.devctlReady x) s = .next s) ∧
      (x.getLsbD 0 = true → d.stage = 15 → d.lc ≠ 2 →
        (2 ^ 26 < d.recLen.toNat → recovers (.recgo x image) 4) ∧
        (d.recLen.toNat ≤ 2 ^ 26 → code given = 0 → ∃ t, exec (.recgo x image) s = .next t ∧
          t.dev = { d with stage := 6, berr := 0, imageVersion := Config.imageVersion given, imageHash := Config.imageHash given } ∧
          stepFive t) ∧
        (d.recLen.toNat ≤ 2 ^ 26 → code given = r → r ≠ 0 → recovers (.recgo x image) r)) ∧
      ((x.getLsbD 0 = false ∨ d.stage ≠ 15 ∨ d.lc = 2) → exec (.recgo x image) s = .next s) ∧
      (∃ t, exec .powerOff s = .next t ∧ t.dev.off = true ∧ fused t ∧ empty t))

/-- The lifecycle moves forward only, on a signed request; the granted debug level is the lesser of the request and the
ceiling, which a valid token lifts in Secure, and the quadrants of a device that becomes Revoked stand in P0; every load of a
token issues a new nonce, and a write of DBGCTL that loads none takes the request alone. Through the debug window an observe
grant reads DEVSTAT and PSTAT, a Revoked device DEVSTAT alone, and DBGSTAT always shows the power state; a counter of an LLC
slice in retention reads zero and sets RET; an invasive grant stops a gang of a partition that it reaches, and sets watch
matches, and no other register is written; of pools and, at the home slice, memory it reads and writes only what the grant
reaches, and in a retained quadrant neither; the context window reads and writes only a stopped bench, its pools and images at
the addresses of R332, the mark that a bundle has issued but for its SX word among them, which another program counter clears
(R135, R319, R320, R322, R325, R332; what lies where in an image, and that a pool with no gang shows what it held, is the
model's: log 51; log 48). -/
def Obligations.DebugAccess : Prop :=
  ∀ (s : State) (lc : BitVec 2) (bytes : List Byte) (x : Word) (b : BenchId) (c : CoreId) (off : Nat) (y : Byte) (pa : BitVec 40)
    (p : PartId) (g : Gang) (i : BitVec 5) (t : StreamId) (v : Word) (tile : Tile) (on : Bool),
    s.dev.off = false →
    let d := s.dev
    let top (lc : BitVec 2) (tokv : Bool) : BitVec 2 := if lc = 0 ∨ (lc = 1 ∧ tokv = true) then 2 else 1
    let lesser (a b : BitVec 2) : BitVec 2 := if a.toNat < b.toNat then a else b
    let sets (d : Device) : State := { s with dev := d }
    let forward : Prop := lc.toNat ≤ 2 ∧ d.lc.toNat < lc.toNat ∧ d.lc.toNat < 2
    let asked : BitVec 2 := if x.extractLsb' 0 2 = (3 : BitVec 2) then 0 else x.extractLsb' 0 2
    let fresh := Config.nonce s.ticks
    (forward → Config.lifecycleSigned lc bytes = true → ∃ z, exec (.lifecycleAdvance lc bytes) s = .next z ∧
      (let z' := sets { d with lc := lc, dbg := lesser d.req (top lc d.tokv) }
       (lc ≠ 2 → z = z') ∧ (lc = 2 → z = { z' with quads := z.quads } ∧
         ∀ q : QuadId, z.quads[q.toFin] = { s.quads[q.toFin] with pwr := 0 }))) ∧
    ((¬ forward ∨ Config.lifecycleSigned lc bytes = false) → exec (.lifecycleAdvance lc bytes) s = .next s) ∧
    exec (.dbgctlReq x) s = .next (sets { d with req := asked, dbg := lesser asked (top d.lc d.tokv) }) ∧
    (x.getLsbD 63 = true →
      (bytes.length ≤ 4096 → Config.tokenMask d.nonce bytes = some v → exec (.dbgctlLoad x bytes) s = .next (sets { d with
        req := asked, tokv := true, tokMask := v, tokerr := false, nonce := fresh, dbg := lesser asked (top d.lc true) })) ∧
      ((4096 < bytes.length ∨ Config.tokenMask d.nonce bytes = none) → exec (.dbgctlLoad x bytes) s = .next (sets { d with
        req := asked, dbg := lesser asked (top d.lc d.tokv), tokerr := true, nonce := fresh }))) ∧
    (x.getLsbD 63 = false → exec (.dbgctlLoad x bytes) s = exec (.dbgctlReq x) s) ∧
    (let shows (o : Nat) (w : Word) : Prop :=
       exec (.debugWindowAccess false (.reg o) y) s = .next { s with out := bytesOf w.toNat 8 }
     let stores (o : Nat) (t : State) : Prop := exec (.debugWindowAccess true (.reg o v) y) s = .next t
     let m := (s.part p).bench
     let invades : Prop := d.dbg = 2 ∧ (d.lc = 0 ∨ (m ≠ 0 ∧ m &&& ~~~d.tokMask = 0))
     let gets : BenchId := v.extractLsb' 54 6
     let pctl := 0x200120 + 0x10000 * p.toNat
     (invades → v.extractLsb' 60 4 = (5 : BitVec 4) → stores pctl
       (pctlStop (s.updQuad (gets.extractLsb' 4 2) fun q => { q with pwr := if q.pwr = 1 then 0 else q.pwr }) p v)) ∧
     ((¬ invades ∨ v.extractLsb' 60 4 ≠ (5 : BitVec 4)) → stores pctl s) ∧
     (∀ n : Fin 4,
       stores (0x80 + 0x10 * n) (if d.dbg = 2 then sets { d with watchLo := d.watchLo.set n (v &&& 0xC00000FFFFFFFFFF#64) } else s) ∧
       stores (0x88 + 0x10 * n) (if d.dbg = 2 then sets { d with watchHi := d.watchHi.set n (v.extractLsb' 0 40) } else s)) ∧
     ((∀ r : PartId, off ≠ 0x200120 + 0x10000 * r.toNat) → (off < 0x80 ∨ 0xC0 ≤ off) → stores off s) ∧
     (let q : QuadId := b.extractLsb' 4 2
      let fhit := 0x2000A0 + 0x10000 * p.toNat + 8 * q.toNat
      d.dbg ≠ 0 → d.lc ≠ 2 →
      ((s.quads[q.toFin]).pwr = 2 →
        exec (.debugWindowAccess false (.reg fhit v) y) s = .next { sets { d with ret := true } with out := bytesOf 0 8 }) ∧
      ((s.quads[q.toFin]).pwr ≠ 2 → shows fhit ((s.part p).llcfhit[q.toFin]))) ∧
     shows 0x18 ((d.pwr).setWidth 64) ∧
     (d.dbg = 0 → shows 0 0) ∧ (d.dbg ≠ 0 → shows 0 (readBar s .pf0 0)) ∧
     (let pstat := 0x200118 + 0x10000 * p.toNat
      ((d.dbg = 0 ∨ d.lc = 2) → shows pstat 0) ∧ (d.dbg ≠ 0 → d.lc ≠ 2 → shows pstat (readBar s .pf0 pstat))) ∧
     shows 0x48 0) ∧
    (let reach : Prop := d.ready = true ∧ d.dbg = 2 ∧ (d.lc = 0 ∨ d.tokMask.getLsbD b.toNat = true)
     let quad := s.quads[(b.extractLsb' 4 2 : BitVec 2).toFin]
     let awake : State := s.updQuad (b.extractLsb' 4 2) fun q => { q with pwr := 0 }
     let stands : Prop := ∃ g, s.gang? b = some g ∧ off < g.scratchSize
     ((¬ reach ∨ (s.gang? b = none ∧ 6 * 2 ^ 20 ≤ off)) → exec (.debugWindowAccess true (.pool b c off) y) s = .next s ∧
       exec (.debugWindowAccess false (.pool b c off) y) s = .next { s with out := [0] }) ∧
     (reach → (stands ∨ (s.gang? b = none ∧ off < 6 * 2 ^ 20)) → quad.pwr = 2 →
       exec (.debugWindowAccess true (.pool b c off) y) s = .next (sets { d with ret := true }) ∧
       exec (.debugWindowAccess false (.pool b c off) y) s = .next { sets { d with ret := true } with out := [0] }) ∧
     (reach → s.gang? b = none → off < 6 * 2 ^ 20 → quad.pwr ≠ 2 →
       let pool := (s.pools[b.toFin])[c.toFin]
       exec (.debugWindowAccess false (.pool b c off) y) s = .next { awake with out := [Memory.get pool off] } ∧
       exec (.debugWindowAccess true (.pool b c off) y) s = .next { awake with
         pools := s.pools.set b.toFin ((s.pools[b.toFin]).set c.toFin (Memory.set pool off y)) }) ∧
     (reach → stands → quad.pwr ≠ 2 →
       exec (.debugWindowAccess false (.pool b c off) y) s = .next { awake with out := [Memory.get (s.core b c).scratch off] } ∧
       exec (.debugWindowAccess true (.pool b c off) y) s =
         .next (awake.updCore b c fun k => { k with scratch := Memory.set k.scratch off y }))) ∧
    (d.ready = true → d.dbg = 2 → d.lc = 0 → (s.quads[(homeQuad pa.toNat).toFin]).pwr = 0 →
      let seen := atHome s none .read pa.toNat 1
      exec (.debugWindowAccess false (.mem pa) y) s = .next { seen with out := [physByte seen pa.toNat] } ∧
      exec (.debugWindowAccess true (.mem pa) y) s = .next (physSet (atHome s none .write pa.toNat 1) pa.toNat y)) ∧
    (let at' := (s.part p).ctxsel
     let base := 2 ^ 38 + 2 ^ 26 * p.toNat
     let pool (o : Nat) : Word := BitVec.ofNat 64 (base + 2 ^ 23 * c.toNat + o)
     let image (o : Nat) : Word := BitVec.ofNat 64 (base + 2 ^ 25 + 2 ^ 20 * c.toNat + o)
     let does (write : Bool) (a : Word) (item : CtxItem) (s' : State) : Prop :=
       exec (.contextWindowAccess write a item) s = .next s'
     (s.gang? at' = some g → g.part = p → (g.halted = true ∨ ∃ c t k w, g.stop = .masked c t k w) →
       (∀ o, o < 2 ^ 20 →
         does true (image o) (.pc t v) (s.updStream at' c t fun st => if v = st.pc then st
           else { st with pc := v, wait := .none, sxOnly := false }) ∧
         does true (image o) (.issued on) (s.updStream at' c 2 fun st => { st with sxOnly := on }) ∧
         does false (image o) (.issued on) { s with out := bytesOf (s.stream at' c 2).sxOnly.toNat 1 } ∧
         does true (image o) (.sReg t i v) (s.updStream at' c t fun st => st.setS i v) ∧
         does false (image o) (.pc t v) { s with out := bytesOf (s.stream at' c t).pc.toNat 8 } ∧
         does false (image o) (.sReg t i v) { s with out := bytesOf ((s.stream at' c t).sreg i).toNat 8 } ∧
         does true (image o) (.vFace i true tile) s) ∧
       (∀ o, o < 6 * 2 ^ 20 →
         (i.toNat < g.vcount → does true (pool o) (.vFace i true tile)
           (s.updCore at' c fun k => { k with v := k.v.set i.toFin { k.v[i.toFin] with hid := tile } })) ∧
         does false (pool o) (.vFace i true tile) { s with out := bytesOf ((s.core at' c).v[i.toFin]).hid.toNat 4096 } ∧
         does true (pool o) (.pc t v) s ∧
         (∀ n, o = 2 ^ 16 * g.pb1.toNat + n → n < g.scratchSize →
           does true (pool o) (.scratch y) (s.updCore at' c fun k => { k with scratch := Memory.set k.scratch n y }) ∧
           does false (pool o) (.scratch y) { s with out := [Memory.get (s.core at' c).scratch n] }))) ∧
     ((∀ g, s.gang? at' = some g → g.part ≠ p ∨ (g.halted = false ∧ ∀ c t k w, g.stop ≠ .masked c t k w)) →
       ∀ o, o < 2 ^ 20 → does true (image o) (.pc t v) s ∧ does false (image o) (.pc t v) s))

/-- Power: retention is entered on request while no owner of the quadrant has a running gang, and left on request; a quadrant
with nothing to do gates its clock, and wakes. Boost: a quadrant that charges takes a permit of each owner, and one without
permits falls for a while; a partition charged nowhere refills, to 64; the step is the least claim of the owners. Above its
power limit a partition takes power-limit; above the package's every partition with a running gang does, each in a halt of its
own; a limit of 0 checks nothing (R321, R323, R324; logs 53 and 54). -/
def Obligations.PowerEvents : Prop :=
  ∀ (s : State) (q : QuadId) (x : Word) (p : PartId),
    s.dev.off = false →
    let quad := s.quads[q.toFin]
    let sets (y : Quad) : Out := .next { s with quads := s.quads.set q.toFin y }
    let asked : BitVec 2 := if x.extractLsb' 8 2 = (2 : BitVec 2) then 2 else 0
    let owns (p : PartId) (q : QuadId) : Prop := ∃ b : BenchId, (s.part p).bench.getLsbD b.toNat = true ∧
      s.dev.benchmap.getLsbD b.toNat = true ∧ b.extractLsb' 4 2 = q
    let runs (p : PartId) : Prop := ∃ b g, s.gang? b = some g ∧ g.part = p
    let charges (y : Quad) : Prop := y.step ≠ 0 ∧ y.fall = false
    exec (.qpwrReq q x) s = sets { quad with req := asked, pwr := if asked = 0 ∧ quad.pwr = 2 then 0 else quad.pwr } ∧
    (quad.req = 2 → s.dev.lc ≠ 2 → (∀ p, owns p q → ¬ runs p) → exec (.p2Entry q) s = sets { quad with pwr := 2 }) ∧
    ((quad.req ≠ 2 ∨ ∃ p, owns p q ∧ runs p) → exec (.p2Entry q) s = .next s) ∧
    (quad.pwr = 0 → s.dev.lc ≠ 2 → (∀ b : BenchId, b.extractLsb' 4 2 = q → s.gang? b = none) → (∀ i, s.colRun i = none) →
      exec (.p1Entry q) s = sets { quad with pwr := 1 }) ∧
    exec (.p1Wake q) s = sets (if quad.pwr = 1 then { quad with pwr := 0 } else quad) ∧
    (charges quad → (∀ p, owns p q → (s.part p).permits ≠ 1 ∧ (s.part p).permits ≠ 0) → ∃ t, exec (.permitCharge q) s = .next t ∧
      t.quads = s.quads ∧ ∀ p : PartId, (owns p q → t.part p = { s.part p with permits := (s.part p).permits - 1 }) ∧
        (¬ owns p q → t.part p = s.part p)) ∧
    (charges quad → owns p q → (s.part p).permits = 1 → ∃ t, exec (.permitCharge q) s = .next t ∧ (t.part p).permits = 0 ∧
      ∀ r : QuadId, owns p r → (s.quads[r.toFin]).step ≠ 0 → (t.quads[r.toFin]).step = 1 ∧ (t.quads[r.toFin]).fall = true) ∧
    ((∀ r : QuadId, owns p r → ¬ charges s.quads[r.toFin]) → exec (.permitRefill p) s =
      .next (s.updPart p fun y => { y with permits := min 64 (y.permits + 1) })) ∧
    exec (.boostFallEnd q) s = sets (if quad.fall then { quad with step := 0, fall := false } else quad) ∧
    (quad.fall = false → owns p q → (∀ r, owns r q → (s.part p).step.toNat ≤ (s.part r).step.toNat) →
      (quad.step ≠ 0 ∨ ∀ r, owns r q → 8 ≤ (s.part r).permits) →
      exec (.boostStepChange q) s = sets { quad with step := (s.part p).step }) ∧
    (let above (package : Nat) (l : List (PartId × Nat)) (p : PartId) : Prop :=
       (∃ w, (p, w) ∈ l ∧ (s.part p).pwrlim.toNat ≠ 0 ∧ (s.part p).pwrlim.toNat < w) ∨
         (s.dev.pkgpwr.toNat ≠ 0 ∧ s.dev.pkgpwr.toNat < package ∧ runs p)
     ∀ (package : Nat) (l : List (PartId × Nat)), (∀ p, above package l p → (s.part p).halt = .none) →
      ∃ t, exec (.powerWindowEnd package l) s = .next t ∧ t.benches = s.benches ∧ t.quads = s.quads ∧ t.mem = s.mem ∧
        ∀ p : PartId,
          (above package l p → t.part p = { s.part p with
            halt := .raised, hcause := 0x28, hunit := 4, hbench := 0, hcore := 0, hstream := 0, powerFault := true
            hseq := if (s.part p).hseq = 0xFFFFFFFF then 1 else (s.part p).hseq + 1 }) ∧
          (¬ above package l p → t.part p = s.part p))

/-- The system copy contexts: a GO with bad operands takes a number and sets ERR; else it sets BUSY, units are performed, and
completion clears it. Cache maintenance holds its command until every line of the range has been written back; TLB_INVALIDATE
drops every translation; once the verified image runs the host reads and writes bytes of memory, and before nothing (log 48); an
uncorrectable error stops its unit, but for a PREF, and at an LDS or STS of CP once the bundle's other words have issued and
nothing at issue faults; a pending collective program starts with its arguments (R92, R94, R114, R115, R131, R243, R301, R302,
R315, R318, R325, R329, R330, R335; logs 22, 36, 48 and 50). -/
def Obligations.EnginesAct : Prop :=
  ∀ (s s1 s2 : State) (i : BitVec 2) (x : Word) (q : QuadId) (pa : BitVec 40) (n : Nat) (y : Byte) (b : BenchId) (c : CoreId)
    (t : StreamId) (r r' : ColRun) (k : Copy) (prog : ColProg) (a1 a2 : Nat),
    s.dev.off = false →
    let ctx := s.scx[i.toFin]
    let setScx (z : Scx) : State := { s with scx := s.scx.set i.toFin z }
    let go : Scx := { ctx with
      part := x.extractLsb' 40 6, vf := x.extractLsb' 32 7, num := ctx.num + 1, err := ctx.err && !x.getLsbD 61 }
    let quad := s.quads[q.toFin]
    let bad : Prop := 96 ≤ go.vf.toNat ∧ go.vf.toNat ≠ 127
    let odd : Prop := ctx.src.toNat % 8 ≠ 0 ∨ ctx.dst.toNat % 8 ≠ 0 ∨ ctx.len.toNat % 8 ≠ 0
    (x.getLsbD 63 = true → ctx.busy = false →
      (bad → exec (.scxGo i x) s = .next (setScx { go with err := true, cause := 0x03 })) ∧
      (¬ bad → odd → exec (.scxGo i x) s = .next (setScx { go with err := true, cause := 0x05 })) ∧
      (¬ bad → ¬ odd → ctx.len = 0 → exec (.scxGo i x) s = .next (setScx go)) ∧
      (¬ bad → ¬ odd → ctx.len ≠ 0 → exec (.scxGo i x) s = .next (setScx { go with
        busy := true, paused := false, todo := [(0, ctx.len.toNat / 8)] }))) ∧
    (ctx.busy = true → exec (.scxGo i x) s = .next (setScx { ctx with err := ctx.err && !x.getLsbD 61 })) ∧
    (ctx.busy = true → ctx.paused = false → ctx.todo = [(n, 1)] →
      homeAccess s (whoScx s i) (ctx.src + BitVec.ofNat 64 (8 * n)) 8 .read false = .ok (a1, s1) →
      homeAccess s1 (whoScx s i) (ctx.dst + BitVec.ofNat 64 (8 * n)) 8 .write false = .ok (a2, s2) → s2.scx = s.scx →
      exec (.scxComplete i) s = .next { physWrite s2 a2 8 (physRead s2 a1 8) with
        scx := s.scx.set i.toFin { ctx with busy := false, todo := [] } }) ∧
    (quad.mnt = 0 → exec (.llcmntWriteback q x) s = .next { s with quads := s.quads.set q.toFin { quad with
        mnt := 1, mntLimit := x.extractLsb' 32 24, mntBase := x.extractLsb' 0 24 } } ∧
      exec (.llcmntWbInvalidate q x) s = .next { s with quads := s.quads.set q.toFin { quad with
        mnt := 2, mntLimit := x.extractLsb' 32 24, mntBase := x.extractLsb' 0 24 } }) ∧
    (quad.mnt ≠ 0 → exec (.llcmntWriteback q x) s = .next s ∧ exec (.llcmntWbInvalidate q x) s = .next s) ∧
    (quad.mnt = 2 → ∃ z, exec (.llcmntDone q) s = .next z ∧ (z.quads[q.toFin]).mnt = 0 ∧
      ∀ l ∈ z.llc, homeQuad (128 * l.line) = q → 128 * l.line / 2 ^ 16 < quad.mntBase.toNat ∨
        quad.mntLimit.toNat < 128 * l.line / 2 ^ 16) ∧
    (quad.mnt = 1 → ∃ z, exec (.llcmntDone q) s = .next z ∧ (z.quads[q.toFin]).mnt = 0 ∧
      ∀ l ∈ z.llc, homeQuad (128 * l.line) = q → l.dirty = true → 128 * l.line / 2 ^ 16 < quad.mntBase.toNat ∨
        quad.mntLimit.toNat < 128 * l.line / 2 ^ 16) ∧
    exec .tlbInvalidate s = .next { s with tlb := [] } ∧
    (let runs : Prop := s.dev.stage = 6 ∨ s.dev.ready = true
     let seen := atHome s none .read pa.toNat 1
     (runs → exec (.hostMemoryAccess false pa 1 []) s = .next { seen with out := [physByte seen pa.toNat] }) ∧
     (runs → exec (.hostMemoryAccess true pa n [y]) s = .next (physSet (atHome s none .write pa.toNat 1) pa.toNat y)) ∧
     (runs → ∃ z, exec (.hostMemoryAccess false pa n []) s = .next z ∧
       z.out = (List.range n).map fun j => physByte z (pa.toNat + j)) ∧
     (¬ runs → ∀ write data, exec (.hostMemoryAccess write pa n data) s = .next s)) ∧
    (s.moving b = true → (s.stream b c t).status = .running → (s.stream b c t).fault = none →
      let st := s.stream b c t
      ((t ≠ 2 ∨ st.wait ≠ .none ∨ eccBundle s b c = none) → exec (.uncorrectableEcc (.stream b c t)) s =
        .next ((takeFault s b c t 0 st.pc { cause := 0x29 }).updStream b c t fun z => { z with wait := st.wait })) ∧
      (∀ w, t = 2 → st.wait = .none → bundleFrom s (whoStream s b c) st.pc 6 = [w] → isAccess w = true →
        bundleDefect (s.gang b).vcount [w] = none →
        let look := lookWords (bundleCtx s b c [w]) s [(1, w)]
        (bundleCtx s b c [w]).goesOn s → look.waits = none → look.refused = [] →
        exec (.uncorrectableEcc (.stream b c t)) s = .next (takeFault (s.updStream b c 2 fun z =>
          { z with bundle := [], sxOnly := true }) b c 2 1 st.pc { cause := 0x29 }))) ∧
    ((s.gang? b).isSome = true → (s.part (s.gang b).part).halt ≠ .reached → (s.core b c).copies = [k] → k.state = .active →
      let f := takeCopyFault s b c k { cause := 0x29 }
      (k.kind ≠ .prefetch → exec (.uncorrectableEcc (.copy b c 0)) s = .next (setCopy f.1 b c f.2)) ∧
      (k.kind = .prefetch → exec (.uncorrectableEcc (.copy b c 0)) s = .next s)) ∧
    (s.colRun i = some r → r.halted = false → r.fault = none →
      exec (.uncorrectableEcc (.context i)) s = .next (takeContextFault s i r { cause := 0x29 })) ∧
    (ctx.busy = true → exec (.uncorrectableEcc (.scx i)) s = .next (s.scxFault i 0x29 0 0 0)) ∧
    (s.colRun i = none → (s.ctxs[i.toFin]).saved = [] → (s.ctxs[i.toFin]).pend = some prog →
      let taken (halted : Bool) : State := s.updCtx i fun c =>
        { c with pend := none, flg := 0, run := some { newRun prog with halted := halted } }
      (((s.part prog.part).halt = .raised ∨ (s.part prog.part).halt = .reached) →
        exec (.colProgramStart i) s = .next (taken true)) ∧
      (((s.part prog.part).halt = .none ∨ (s.part prog.part).halt = .resuming) → prog.args.toNat % 8 = 0 →
        loadArgs i (newRun prog) (taken false) 15 0 = .ok (r', s1) →
        exec (.colProgramStart i) s = .next (s1.setRun i { r' with loaded := true, wait := .none })))

/-! ### Taking a fault, frames, memory (R11, R96, R132 to R134, R157) -/

/-- Taking a context-stopping fault: the stream stops at the word with its fault to be recorded, the halt line of the
partition is raised with the fault in the halt summary and the next halt number where no halt is under way, or, as the model
has it, while a RESUME replays copies (log 39), the gang notes the cause of its earliest fault for an ABORT (R137), and
nothing else of the machine's registers or memory changes. A stop record lays its fields out as Table 16.2 (R11, R132 to
R134).

A fault of a command stops its context at the command with the fault to be recorded and raises the halt line of the
program's partition, which takes the next halt number where none was raised (R132, R133, R314). -/
def Obligations.FaultsTaken : Prop :=
  ((∀ (s : State) (b : BenchId) (c : CoreId) (t : StreamId) (slot : Nat) (pc : Word) (f : Trap) (g : Gang),
    s.gang? b = some g →
    let t' := takeFault s b c t slot pc f
    let old := s.part g.part
    let new := t'.part g.part
    let fresh : Prop := old.halt = .none ∨ old.halt = .resuming
    t'.stream b c t = { s.stream b c t with
      pc := pc, bundle := [], wait := .none
      fault := some { first := decide fresh, cause := f.cause, slot := slot, pc := pc, addr := f.addr, aux0 := f.aux0
                      aux1 := f.aux1 } } ∧
    (fresh → new = { old with
      halt := .raised, hcause := BitVec.ofNat 8 f.cause, hunit := 0, hbench := b, hcore := c, hstream := t
      hseq := if old.hseq = 0xFFFFFFFF then 1 else old.hseq + 1 }) ∧
    (¬ fresh → new = old) ∧
    (t'.gang b).haltCause = some (g.haltCause.getD f.cause) ∧
    (t'.gang b).halted = g.halted ∧ (t'.gang b).record = g.record ∧
    (∀ q, q ≠ g.part → t'.part q = s.part q) ∧ (∀ b', b' ≠ b → t'.gang? b' = s.gang? b') ∧
    (∀ (q : CoreId) (u : StreamId), (q ≠ c ∨ u ≠ t) → t'.stream b q u = s.stream b q u) ∧
    (∀ q : CoreId, { t'.core b q with streams := (s.core b q).streams } = s.core b q) ∧
    t'.mem = s.mem ∧ t'.llc = s.llc ∧ t'.quads = s.quads ∧ t'.clocks = s.clocks ∧ t'.vfs = s.vfs ∧ t'.ctxs = s.ctxs ∧
    t'.links = s.links) ∧
  (∀ r : StopRecord, r.cause < 256 → r.unit < 16 → r.slot < 8 →
    let w : BitVec 512 := r.toBits
    (w.extractLsb' 56 8).toNat = r.cause ∧ (w.extractLsb' 52 4).toNat = r.unit ∧ w.extractLsb' 50 2 = r.stream ∧
    w.extractLsb' 48 2 = r.core ∧ w.extractLsb' 42 6 = r.bench ∧ (w.extractLsb' 39 3).toNat = r.slot ∧
    w.getLsbD 38 = r.replay ∧ w.getLsbD 37 = r.first ∧ w.extractLsb' 32 5 = 0 ∧ w.extractLsb' 0 32 = r.seq ∧
    w.extractLsb' 64 64 = r.pc ∧ w.extractLsb' 128 64 = r.addr ∧ w.extractLsb' 224 32 = r.kiter ∧
    w.extractLsb' 192 32 = r.phase ∧ w.extractLsb' 256 64 = r.kn ∧ w.extractLsb' 320 64 = r.s5 ∧
    w.extractLsb' 384 64 = r.aux0 ∧ w.extractLsb' 448 64 = r.aux1)) ∧
  (∀ (s : State) (i : BitVec 2) (r : ColRun) (f : Trap),
    s.colRun i = some r → (s.part r.prog.part).halt = .none →
    let t := takeContextFault s i r f
    let p := t.part r.prog.part
    p.halt = .raised ∧ p.hcause = BitVec.ofNat 8 f.cause ∧ p.hunit = 2 ∧ p.hbench = i.setWidth 6 ∧
    p.hseq = (if (s.part r.prog.part).hseq = 0xFFFFFFFF then 1 else (s.part r.prog.part).hseq + 1) ∧
    (t.ctxs[i.toFin]).cause = BitVec.ofNat 8 f.cause ∧
    ∃ r', t.colRun i = some r' ∧ r'.pcw = r.pcw ∧ r'.g = r.g ∧ (r.wait ≠ .pageFault → r'.wait = .none) ∧
      r'.fault = some { first := true, cause := f.cause, slot := 0, pc := r.pc, addr := f.addr, aux0 := f.aux0, aux1 := f.aux1 })

/-- What a word of the common group that writes a register leaves as it was: whatever it comes to, device memory, every other
stream, every register of the core that is not the stream's; and, where it raises no fault and no loop is active, every register
of its stream but its destination (R11, R158, R172 to R181).

What the loads and stores of a stream leave as they were: a load, memory and scratch; a store to scratch, device memory and
every byte of scratch outside its bytes; a store or an atomic without order to device memory, every byte of HBM outside the
bytes at the address that the access translates to, and every other register (R97, R186, R198). -/
def Obligations.ScalarWordsFrame : Prop :=
  (∀ (s s' : State) (b : BenchId) (c : CoreId) (t : StreamId) (i : Instr),
    s.alone b c t →
    let sDest : Option (BitVec 5) := match i with
      | .aluAdd _ d _ _ _ _ | .aluSub _ d _ _ _ _ | .aluMul _ d _ _ _ _ | .aluMulh _ d _ _ _ _ | .aluMulhu _ d _ _ _ _
      | .aluDiv _ d _ _ _ _ | .aluDivu _ d _ _ _ _ | .aluRem _ d _ _ _ _ | .aluRemu _ d _ _ _ _ | .aluAnd _ d _ _ _ _
      | .aluOr _ d _ _ _ _ | .aluXor _ d _ _ _ _ | .aluAndn _ d _ _ _ _ | .aluShl _ d _ _ _ _ | .aluShr _ d _ _ _ _
      | .aluSar _ d _ _ _ _ | .alu2Min _ d _ _ _ _ | .alu2Max _ d _ _ _ _ | .alu2Minu _ d _ _ _ _ | .alu2Maxu _ d _ _ _ _
      | .alu2Clz _ d _ _ _ | .alu2Ctz _ d _ _ _ | .alu2Popc _ d _ _ _ | .alu2Brev _ d _ _ _ | .alu2Bswap _ d _ _ _
      | .alu2Sel _ d _ _ _ _ | .alu2Rol _ d _ _ _ _ | .alu2Ror _ d _ _ _ _ | .addi _ d _ _ | .logiAndi _ d _ _
      | .logiOri _ d _ _ | .logiXori _ d _ _ | .shiShl _ d _ _ | .shiShr _ d _ _ | .shiSar _ d _ _ | .shiRor _ d _ _
      | .li _ d _ | .lih _ d _ | .bfBfx _ d _ _ _ | .bfBfxu _ d _ _ _ | .bfBfi _ d _ _ _ => some d
      | _ => none
    let fDest : Option (BitVec 3) := match i with
      | .cmp _ d _ _ _ _ | .cmpi _ d _ _ _ | .fopAnd _ d _ _ | .fopOr _ d _ _ | .fopXor _ d _ _ | .fopAndn _ d _ _
      | .fopNot _ d _ | .fopSet _ d | .fopClr _ d => some d
      | _ => none
    let bDest : Option (BitVec 3) := match i with
      | .pbr _ d _ | .pbrReg _ d _ => some d
      | _ => none
    (sDest.isSome = true ∨ fDest.isSome = true ∨ bDest.isSome = true) → exec i s = .next s' →
    let old := s.stream b c t
    let new := s'.stream b c t
    s'.mem = s.mem ∧ s'.llc = s.llc ∧ s'.quads = s.quads ∧ s'.clocks = s.clocks ∧ s'.vfs = s.vfs ∧ s'.ctxs = s.ctxs ∧
    (∀ b', b' ≠ b → s'.gang? b' = s.gang? b') ∧
    (∀ (q : CoreId) (u : StreamId), (q ≠ c ∨ u ≠ t) → s'.stream b q u = s.stream b q u) ∧
    (∀ q : CoreId, { s'.core b q with streams := (s.core b q).streams } = s.core b q) ∧
    (old.fault = new.fault → old.loops = [] →
      (∀ j : BitVec 5, sDest ≠ some j → new.sreg j = old.sreg j) ∧
      (∀ j : BitVec 3, fDest ≠ some j → new.flag j.toNat = old.flag j.toNat) ∧
      (∀ j : BitVec 3, bDest ≠ some j → new.breg j = old.breg j) ∧
      new.k = old.k ∧ new.frm = old.frm ∧ new.kdesc = old.kdesc ∧ new.sets = old.sets ∧ new.next = old.next ∧
      new.status = old.status ∧ new.issued = old.issued ∧ new.loops = [])) ∧
  (∀ (s s' s1 : State) (b : BenchId) (c : CoreId) (t : StreamId) (d r q : BitVec 5) (z : BitVec 2) (u : BitVec 1) (o : BitVec 11)
    (f : BitVec 4) (sc : BitVec 2) (pa : Nat),
    s.alone b c t →
    let n := 2 ^ z.toNat
    let st := s.stream b c t
    let ea := st.sreg r + o.setWidth 64 * BitVec.ofNat 64 n
    let off := ea.toNat % 2 ^ 24
    let regs (s' : State) : Prop := ∀ (q : CoreId) (u : StreamId), (s'.stream b q u).s = (s.stream b q u).s ∧
      (s'.stream b q u).b = (s.stream b q u).b ∧ (s'.stream b q u).sets = (s.stream b q u).sets ∧
      ((s.stream b q u).loops = [] → (s'.stream b q u).f = (s.stream b q u).f)
    let tiles (s' : State) : Prop := ∀ q : CoreId, (s'.core b q).v = (s.core b q).v ∧ (s'.core b q).c = (s.core b q).c ∧
      (s'.core b q).p = (s.core b q).p ∧ (s'.core b q).w = (s.core b q).w ∧ (s'.core b q).q = (s.core b q).q ∧
      (s'.core b q).xf = (s.core b q).xf
    (exec (.lds 1 d r z u 1 o) s = .next s' → s'.mem = s.mem ∧ tiles s' ∧
      (∀ q : CoreId, (s'.core b q).scratch = (s.core b q).scratch) ∧
      (∀ (q : CoreId) (u : StreamId), (q ≠ c ∨ u ≠ t) → s'.stream b q u = s.stream b q u) ∧
      (∀ j : BitVec 5, j ≠ d → (s'.stream b c t).sreg j = st.sreg j)) ∧
    (exec (.sts 1 d r z 1 o) s = .next s' → s'.mem = s.mem ∧ s'.llc = s.llc ∧ s'.quads = s.quads ∧ regs s' ∧ tiles s' ∧
      ∀ (q : CoreId) (a : Nat), (q ≠ c ∨ a < off ∨ off + n ≤ a) →
        Memory.get (s'.core b q).scratch a = Memory.get (s.core b q).scratch a) ∧
    (homeAccess s (whoStream s b c) ea n .write false = .ok (pa, s1) → exec (.sts 1 d r z 0 o) s = .next s' →
      pa + n ≤ 2 ^ 39 → ea.toNat % n = 0 → (s1.stream b c t).fault = (s'.stream b c t).fault →
      regs s' ∧ tiles s' ∧ (∀ q : CoreId, (s'.core b q).scratch = (s.core b q).scratch) ∧
      ∀ a, a < 2 ^ 39 → (a < pa ∨ pa + n ≤ a) → physByte s' a = physByte s1 a) ∧
    (t = 0 → f.toNat < 9 → (z = 2 ∨ z = 3) → homeAccess s (whoStream s b c) (st.sreg r) n .update true = .ok (pa, s1) →
      pa + n ≤ 2 ^ 39 → (st.sreg r).toNat % n = 0 → exec (.amo f z 0 sc d r q) s = .next s' →
      (s1.stream b c 0).fault = (s'.stream b c 0).fault →
      tiles s' ∧ (∀ j : BitVec 5, j ≠ d → (s'.stream b c 0).sreg j = st.sreg j) ∧
      ∀ a, a < 2 ^ 39 → (a < pa ∨ pa + n ≤ a) → physByte s' a = physByte s1 a))

/-- Words of a bundle of CP that are no scalar words never touch device memory, scratch, tokens, clocks, other benches, or a
scalar, flag or branch register of any stream, whatever they come to (R9, R48, R58). -/
def Obligations.TileWordsFrame : Prop :=
  ∀ (s s' : State) (b : BenchId) (c : CoreId) (slot : Nat) (i : Instr),
    s.aloneInCp b c slot i → classOf i = .c → exec i s = .next s' →
    s'.mem = s.mem ∧ s'.llc = s.llc ∧ s'.tlb = s.tlb ∧ s'.quads = s.quads ∧ s'.clocks = s.clocks ∧ s'.vfs = s.vfs ∧
    s'.ctxs = s.ctxs ∧ (∀ b', b' ≠ b → s'.gang? b' = s.gang? b') ∧
    ∀ q : CoreId, (s'.core b q).scratch = (s.core b q).scratch ∧ (s'.core b q).tok = (s.core b q).tok ∧
      (s'.core b q).phase = (s.core b q).phase ∧ (s'.core b q).rb = (s.core b q).rb ∧
      ∀ u : StreamId, (s'.stream b q u).s = (s.stream b q u).s ∧ (s'.stream b q u).b = (s.stream b q u).b ∧
        (s'.stream b q u).sets = (s.stream b q u).sets ∧ (s'.stream b q u).next = (s.stream b q u).next ∧
        (s'.stream b q u).status = (s.stream b q u).status ∧
        ((s.stream b q u).loops = [] → (s'.stream b q u).f = (s.stream b q u).f)

/-- Device memory is bytes, least significant first (R5): what was written is read (R96), every other byte of HBM keeps its
value, and the written list keeps its canonical form; memories of that form that read alike are equal, which is the model's own
form; memory that nothing has written reads zero, as the model reads R316 (log 32). -/
def Obligations.MemoryReadsWrites : Prop :=
  (∀ (s : State) (pa n v : Nat), s.memWf → pa + n ≤ 2 ^ 39 →
    let t := physWrite s pa n v
    t.memWf ∧ physRead t pa n = v % 2 ^ (8 * n) ∧
    (∀ a, a < 2 ^ 39 → (a < pa ∨ pa + n ≤ a) → physByte t a = physByte s a) ∧
    (∀ j, j < n → (physByte t (pa + j)).toNat = v / 2 ^ (8 * j) % 256) ∧
    { t with mem := s.mem } = s) ∧
  (∀ m m' : List Host.Cell, Memory.wf m = true → Memory.wf m' = true → (∀ a, Memory.get m a = Memory.get m' a) → m = m') ∧
  (∀ s : State, physRead { s with mem := [] } 0 8 = 0)

/-! ### Words and steps (R28, R151 to R154) -/

/-- Every well-formed instruction has a word, and the word is that instruction's in every stream that has it (R151, R153, R303). -/
def Obligations.EncodingsAgree : Prop :=
  ∀ (i : Instr), classOf i ≠ .event → WellFormed i →
    ∃ w, encode i = some w ∧ ∀ f ∈ (classOf i).formats, decode f w = .ok i

/-- Words written out from the encodings, one of each family, are the instructions that the specification names (Tables 19.1,
20.1, 35.2, 35.3 and the worked encodings of the families). -/
def Obligations.WordsDecode : Prop :=
  decode .sc 0x06308802#32 = .ok (.aluAdd 1 3 1 2 0 2) ∧
  decode .ld 0x32400008#32 = .ok (.pbr 1 1 8) ∧
  decode .st 0x36600000#32 = .ok (.brl 1 1 0) ∧
  decode .sc 0x3B914003#32 = .ok (.kloop 1 1 0 2 5 3) ∧
  decode .sc 0x52E00000#32 = .ok (.fork 7) ∧
  decode .st 0x5A111000#32 = .ok (.vst 2 4 8 0 0) ∧
  decode .cp 0x52203498#32 = .ok (.vf32 1 4 1 41 3 0) ∧
  decode .cp 0xB6002000#32 = .ok (.mma 1 0 0 4 0 0 0 0) ∧
  decode .cp 0xBA404000#32 = .ok (.mche 1 0 2 0 0) ∧
  decode .cp 0xAE40C391#32 = .ok (.ckAdd 1 8 6 7 1) ∧
  decode .col 0x824A00C0#32 = .ok (.csend 2 5 0 1 1) ∧
  decode .col 0x86642040#32 = .ok (.cred 3 2 1 0 0 1 0) ∧
  decode .col 0x9A000000#32 = .ok .cend ∧
  decode .cp 0x03000000#32 = .error .opZero

/-- A step performs the word that the agent whose turn it is fetches from memory at its program counter, or the event; then one
more step is counted. A word that cannot be fetched stops the agent with fetch-range, one that is no instruction with
illegal-instruction, or with malformed-bundle where it lacks L; a word of CP that is no instruction waits for the rest of its
bundle, and that a fetch fault of CP names slot 0 is the model's choice. The word is the four bytes at the address that the
fetch's access translates to; there is none at an address of more than 48 bits or misaligned, nor where that access fails (R28,
R152, R154, R155, R157, R303; whose turn it is: log 1; log 22). -/
def Obligations.StepsRunWords : Prop :=
  ∀ (s s' s1 : State) (b : BenchId) (c : CoreId) (t : StreamId) (n : BitVec 2) (r : ColRun) (i : Instr) (w : IWord),
    let ends (o : Out) : Out := match o with
      | .next s => .next { s with cur := none, ticks := s.ticks + 1 }
      | o => o
    let at' : Word := (s'.stream b c t).pc + 4 * BitVec.ofNat 64 (s'.stream b c t).bundle.length
    let fmt : Format := if t = 0 then .sc else if t = 1 then .ld else if t = 2 then .cp else .st
    (∀ e, nextTurn s = (.event e, s') → classOf e = .event → step s = ends (exec e s')) ∧
    (nextTurn s = (.stream b c t, s') → s'.canIssue b c t = false → step s = ends (.next s')) ∧
    (nextTurn s = (.stream b c t, s') → s'.canIssue b c t = true →
      (fetchWord s' (whoStream s' b c) at' = some (w, s1) → decode fmt w = .ok i →
        step s = ends (exec i { s1 with cur := some (.stream b c t) })) ∧
      (fetchWord s' (whoStream s' b c) at' = some (w, s1) → (∃ e, decode fmt w = .error e) →
        let st := s1.stream b c t
        let claim := slotClaim w
        let stops (slot cause : Nat) : Prop := step s = ends (.next (takeFault s1 b c t slot st.pc { cause := cause }))
        (t ≠ 2 → stops 0 (if w.getLsbD 25 then 0x01 else 0x02)) ∧
        (t = 2 → st.bundle = [] → w.getLsbD 25 = true →
          if claim = 0 then stops 0 0x02 else stops (if claim = 6 then 0 else claim) 0x01) ∧
        (t = 2 → st.bundle.length < 5 → w.getLsbD 25 = false → step s = ends (.next (s1.updStream b c 2 fun st => { st with
          bundle := st.bundle ++
            [{ addr := st.pc + 4 * BitVec.ofNat 64 st.bundle.length, raw := w, instr := none }] })))) ∧
      (fetchWord s' (whoStream s' b c) at' = none →
        step s = ends (.next (takeFault (fetchMissed s' (whoStream s' b c) at') b c t 0 (s'.stream b c t).pc
          { cause := 0x04, addr := at' })))) ∧
    (nextTurn s = (.context n, s') → s'.colRun n = some r → r.ready = true →
      (fetchWord s' (whoContext s' n r.prog) r.pc = some (w, s1) → decode .col w = .ok i →
        step s = ends (exec i { s1 with cur := some (.context n) })) ∧
      (fetchWord s' (whoContext s' n r.prog) r.pc = some (w, s1) → (∃ e, decode .col w = .error e) →
        step s = ends (.next (takeContextFault s1 n r { cause := if w.getLsbD 25 then 0x01 else 0x02 }))) ∧
      (fetchWord s' (whoContext s' n r.prog) r.pc = none →
        step s = ends (.next (takeContextFault (fetchMissed s' (whoContext s' n r.prog) r.pc) n r
          { cause := 0x04, addr := r.pc })))) ∧
    (∀ who a, fetchWord s' who a = some (w, s1) → a.toNat < 2 ^ 48 ∧ a.toNat % 4 = 0 ∧
      ∃ pa, homeAccess s' who a 4 .fetch false = .ok (pa, s1) ∧ w = BitVec.ofNat 32 (physRead s1 pa 4)) ∧
    (∀ who a, (2 ^ 48 ≤ a.toNat ∨ a.toNat % 4 ≠ 0 ∨ ∃ f, homeAccess s' who a 4 .fetch false = .error f) →
      fetchWord s' who a = none)

/-- After reset the device stands at the first step of the start sequence with no bench at work, nothing in memory, and the
registers at the values that the tables give, whatever the part and its fuses; BENCHMAP names every bench of a ZP480 and a
ZM480, and of a ZP448 all but the one that the fuse map disables on each compute die (R1, R2, R316, Tables 14.1, 16.4, 16.5,
36.3, 36.6, 36.8, 36.12; logs 5, 15 and 32). -/
def Obligations.ResetState : Prop :=
  let s := State.reset
  (∀ (kind : PartKind) (lc : BitVec 2) (rollback : BitVec 32) (fuses : Vector (BitVec 3) 8),
    let t := State.resetOf kind lc rollback fuses
    { t with dev := s.dev } = s ∧ t.dev.kind = kind ∧ t.dev.lc = lc ∧ t.dev.rollback = rollback ∧
    { t.dev with kind := s.dev.kind, pkgpwr := s.dev.pkgpwr, lc := s.dev.lc, rollback := s.dev.rollback, fuses := s.dev.fuses } = s.dev ∧
    readBar t .pf0 0x050 = t.dev.benchmap ∧
    (kind ≠ .zp448 → t.dev.benchmap = 0xFFFFFFFFFFFFFFFF#64) ∧
    (kind = .zp448 → ∀ (die : Fin 8) (n : BitVec 3),
      t.dev.benchmap.getLsbD (8 * die.val + n.toNat) = true ↔ n ≠ fuses[die])) ∧
  s.memWf ∧ (∀ b, s.gang? b = none) ∧ (∀ a, physByte s a = 0) ∧ (∀ i, s.colRun i = none) ∧
  (readBar s .pf0 0x000).extractLsb' 28 4 = 1#4 ∧ (readBar s .pf0 0x000).extractLsb' 58 4 = 0#4 ∧
  readBar s .pf0 0x010 = 0 ∧ readBar s .pf0 0x030 = 0xF00000000#64 ∧ readBar s .pf0 0x100 = 3 ∧ readBar s .pf0 0x218 = 0x7F00000000#64 ∧
  (∀ v : VfId, v.toNat < 96 → readBar s .pf0 (0x800000 + 0x1000 * v.toNat) = 1000 ∧
    readReg s (.lqcfg v) = 0x40 ∧ readReg s (.vfctx v false) = 0) ∧
  (∀ p : PartId, readBar s .pf0 (0x200000 + 0x10000 * p.toNat) = 0 ∧ readBar s .pf0 (0x200010 + 0x10000 * p.toNat) = 0x4000 ∧
    readBar s .pf0 (0x200100 + 0x10000 * p.toNat) = 3 ∧ readBar s .pf0 (0x200118 + 0x10000 * p.toNat) = 0) ∧
  (∀ q : QuadId, readBar s .pf0 (0x600408 + 0x10000 * q.toNat) = 0) ∧
  (∀ v : Fin 96, 100 ≤ (s.vfs[v]).slice.toNat ∧ (s.vfs[v]).saveCount.toNat ≤ 64) ∧ ∀ p : PartId, (s.part p).permits ≤ 64

/-- Every step keeps device memory in its canonical form, so that memories that read alike stay equal data (the model's own
form). -/
def Obligations.StepKeepsMemory : Prop := ∀ s s' : State, s.memWf → step s = .next s' → s'.memWf

/-- Some bounds that the tables put on registers hold after every step where they held before: a slice is at least 100
microseconds and a partition holds at most 64 permits (R149, R324); at most 64 image slots are named, which rests on the model's
choice of what a COUNT above 64 written to VFSAVE leaves (Table 16.5; log 78). -/
def Obligations.StepKeepsBounds : Prop :=
  ∀ s s' : State,
    let inv (s : State) : Prop := (∀ v : Fin 96, 100 ≤ (s.vfs[v]).slice.toNat ∧ (s.vfs[v]).saveCount.toNat ≤ 64) ∧
      ∀ p : PartId, (s.part p).permits ≤ 64
    inv s → step s = .next s' → inv s'

/-! ### Numbers: formats, rounding, elements (R59 to R80, R250 to R254, R261, R264, R280 to R290) -/

/-- What codes are worth (R59, R60, R63, R64, R66): a binary floating code by its sign, exponent and fraction fields,
subnormals included; an infinity and a NaN, signalling or quiet; an integer's own value; an LG8 code's exact value, 0xC0
being zero.

Rounding (R61 to R63, R70 to R72): a nonzero exact magnitude, or one that lies strictly above a number of enough
digits, is rounded once to a multiple of the format's spacing, with the flags and the overflow result of its mode (UF also
where it rounds to zero: log 7); every conversion delivers the exact value of its source.

Exact sums and products (R62, R250): a NaN operand, infinities that cancel and 0 × ∞ give a NaN, with NV but for a quiet
one; an infinity else; the exact product with its sign; the exact sum, a zero sum signed as R62 says.

The functions of VF32, VF64, VF16 and VBF16 (R250, R251, Table 26.2): sums, products and fused words deliver the exact
value rounded once; quotients and square roots; minima and maxima with -0 below +0; the sign words on bits; the class.

The conditions of VFCMP by value, -0 equal to +0, with the flags of NaN operands (R252, Table 26.4).

The special functions of F32 and F64 at the inputs of Table 30.3, in every mode; at other positive numbers RSQRT is the
exact value rounded once; and the results of Table 30.4 (R280, R281). -/
def Obligations.NumbersRound : Prop :=
  ((Fmt.f32.shape = some { eb := 8, fb := 23 } ∧ Fmt.f64.shape = some { eb := 11, fb := 52 } ∧
    Fmt.f16.shape = some { eb := 5, fb := 10 } ∧ Fmt.bf16.shape = some { eb := 8, fb := 7 } ∧
    Fmt.e5m2.shape = some { eb := 5, fb := 2 } ∧ Fmt.e4m3.shape = some { eb := 4, fb := 3, noInf := true } ∧
    Fmt.lg8.shape = none ∧ ∀ sg k, (Fmt.int sg k).shape = none) ∧
  (∀ (f : Fmt) (s : FShape) (neg : Bool) (e m : Nat), f.shape = some s → e < 2 ^ s.eb → m < 2 ^ s.fb →
    let x := (if neg then 2 ^ (s.eb + s.fb) else 0) + e * 2 ^ s.fb + m
    let top := e = 2 ^ s.eb - 1
    s.bias = 2 ^ (s.eb - 1) - 1 ∧ f.read x = s.read x ∧
    (s.noInf = false → top →
      s.read x = if m = 0 then .inf neg else .nan (decide (m < 2 ^ (s.fb - 1)))) ∧
    (s.noInf = true → top → m = 2 ^ s.fb - 1 → s.read x = .nan false) ∧
    (¬ top ∨ (s.noInf = true ∧ m < 2 ^ s.fb - 1) →
      (∃ n q, s.read x = .fin neg n q) ∧
      (s.read x).value = (if neg then -1 else 1) *
        if e = 0 then (m : ℚ) / 2 ^ s.fb * 2 ^ (1 - s.bias) else (1 + (m : ℚ) / 2 ^ s.fb) * 2 ^ ((e : ℤ) - s.bias))) ∧
  (∀ (sg : Bool) (k x : Nat), x < 2 ^ (8 * 2 ^ k) →
    (∃ n m, (Fmt.int sg k).read x = .fin n m 0) ∧
    ((Fmt.int sg k).read x).value = if sg = true ∧ 2 ^ (8 * 2 ^ k - 1) ≤ x then (x : ℚ) - (2 : ℚ) ^ (8 * 2 ^ k) else (x : ℚ)) ∧
  (∀ (neg : Bool) (l : ℤ), -64 ≤ l → l < 64 → (neg = true → l ≠ -64) →
    let x := (if neg then 128 else 0) + (l % 128).toNat
    (∃ m e, Fmt.lg8.read x = .fin neg m e ∧ m ≠ 0) ∧
    (Fmt.lg8.read x).value = (if neg then -1 else 1) * lgMagnitude (-64) l) ∧
  Fmt.lg8.read 0xC0 = .fin false 0 0 ∧ lgt 0 = 16384 ∧ lgt 1 = 19484 ∧ lgt 2 = 23170 ∧ lgt 3 = 27554 ∧
  ([Fmt.f32, Fmt.f64, Fmt.f16, Fmt.bf16, Fmt.e4m3, Fmt.e5m2].map fun f => (f.shape.map FShape.qNaN)) =
    [some 0x7FC00000, some 0x7FF8000000000000, some 0x7E00, some 0x7FC0, some 0x7F, some 0x7E]) ∧
  ((∀ (f : Fmt) (s : FShape) (rm : RMode) (neg above : Bool) (m : Nat) (e : ℤ) (x : ℝ), f.shape = some s → m ≠ 0 →
    (above = false → x = m * 2 ^ e) →
    (above = true → s.fb + 3 ≤ m.log2 ∧ m * 2 ^ e < x ∧ x < (m + 1) * 2 ^ e) →
    s.Rounded rm neg x (s.roundTo rm neg m e above)) ∧
  (∀ (f : Fmt) (rm : RMode) (v : Machine.Num), f.Delivered rm v (f.deliver rm v)) ∧
  ∀ (f g : Fmt) (rm : RMode) (x : Nat), g.Delivered rm (f.read x) (convert f g rm x)) ∧
  ((∀ a b : Machine.Num, (a.isNaN = true ∨ b.isNaN = true) →
    let r : Machine.Num × XFlags := (.nan false, if a = .nan true ∨ b = .nan true then fNV else 0)
    numMul a b = r ∧ ∀ rm, numAdd rm a b = r) ∧
  (∀ (rm : RMode) (n n' : Bool), numAdd rm (.inf n) (.inf n') = if n = n' then (.inf n, 0) else (.nan false, fNV)) ∧
  (∀ (rm : RMode) (n n' : Bool) (m : Nat) (e : ℤ),
    numAdd rm (.inf n) (.fin n' m e) = (.inf n, 0) ∧ numAdd rm (.fin n' m e) (.inf n) = (.inf n, 0) ∧
    let r : Machine.Num × XFlags := if m = 0 then (.nan false, fNV) else (.inf (n != n'), 0)
    numMul (.inf n) (.fin n' m e) = r ∧ numMul (.fin n' m e) (.inf n) = r) ∧
  (∀ n n' : Bool, numMul (.inf n) (.inf n') = (.inf (n != n'), 0)) ∧
  (∀ (n n' : Bool) (m m' : Nat) (e e' : ℤ), ∃ k q, numMul (.fin n m e) (.fin n' m' e') = (.fin (n != n') k q, 0) ∧
    (k : ℚ) * 2 ^ q = m * 2 ^ e * (m' * 2 ^ e')) ∧
  ∀ (rm : RMode) (n n' : Bool) (m m' : Nat) (e e' : ℤ),
    let v := (Machine.Num.fin n m e).value + (Machine.Num.fin n' m' e').value
    ∃ s k q, numAdd rm (.fin n m e) (.fin n' m' e') = (.fin s k q, 0) ∧ (Machine.Num.fin s k q).value = v ∧
      (v < 0 → s = true) ∧ (0 < v → s = false) ∧
      (v = 0 → s = if m = 0 ∧ m' = 0 ∧ n = n' then n else rm == .rdn)) ∧
  (∀ (f : Fmt) (s : FShape), f.shape = some s → f ∈ [Fmt.f32, .f64, .f16, .bf16] →
  ∀ (rm : RMode) (x y t : Nat), x < 2 ^ s.width → y < 2 ^ s.width → t < 2 ^ s.width →
    let a := f.read x
    let b := f.read y
    let d := f.read t
    let g (fn : Nat) := vfElem f s fn rm x y t
    let delivers (fn : Nat) (v : Machine.Num) (fl : XFlags) : Prop := ∃ r, f.Delivered rm v r ∧ g fn = (r.1, r.2 ||| fl)
    let fused (fn : Nat) (p : Machine.Num × XFlags) (d : Machine.Num) : Prop :=
      delivers fn (numAdd rm p.1 d).1 (p.2 ||| (numAdd rm p.1 d).2)
    let nan := s.qNaN
    let nv (c : Prop) (fl : XFlags) : Prop := (c → fl = fNV) ∧ (¬ c → fl = 0)
    let sgn := a = .nan true ∨ b = .nan true
    delivers 0 (numAdd rm a b).1 (numAdd rm a b).2 ∧ delivers 1 (numAdd rm a b.neg).1 (numAdd rm a b.neg).2 ∧
    delivers 2 (numMul a b).1 (numMul a b).2 ∧
    fused 3 (numMul a b) d ∧ fused 4 (numMul a b) d.neg ∧ fused 5 (numMul a.neg b) d ∧
    (a.isNaN = true ∨ b.isNaN = true → (g 6).1 = nan ∧ nv sgn (g 6).2) ∧
    (∀ n n', a = .inf n → b = .inf n' → g 6 = (nan, fNV)) ∧
    (∀ n n' m e, a = .inf n → b = .fin n' m e → s.read (g 6).1 = .inf (n != n') ∧ (g 6).2 = 0) ∧
    (∀ n n' m e, a = .fin n m e → b = .inf n' → g 6 = (if n != n' then 2 ^ (s.width - 1) else 0, 0)) ∧
    (∀ n n' m e e', a = .fin n m e → b = .fin n' 0 e' →
      if m = 0 then g 6 = (nan, fNV) else s.read (g 6).1 = .inf (n != n') ∧ (g 6).2 = fDZ) ∧
    (∀ n n' m m' e e', a = .fin n m e → b = .fin n' m' e' → m' ≠ 0 →
      if m = 0 then g 6 = (if n != n' then 2 ^ (s.width - 1) else 0, 0)
      else s.Rounded rm (n != n') (m * 2 ^ e / (m' * 2 ^ e')) (g 6)) ∧
    (a.isNaN = true → (g 7).1 = nan ∧ nv (a = .nan true) (g 7).2) ∧
    (a = .inf true → g 7 = (nan, fNV)) ∧ (a = .inf false → s.read (g 7).1 = .inf false ∧ (g 7).2 = 0) ∧
    (∀ n m e, a = .fin n m e →
      if m = 0 then g 7 = (x, 0)
      else if n = true then g 7 = (nan, fNV) else s.Rounded rm false (Real.sqrt (m * 2 ^ e)) (g 7)) ∧
    f.MinMax false false x y (g 8) ∧ f.MinMax true false x y (g 9) ∧
    f.MinMax false true x y (g 10) ∧ f.MinMax true true x y (g 11) ∧
    g 12 = (x % 2 ^ (s.width - 1), 0) ∧
    g 13 = ((if x < 2 ^ (s.width - 1) then x + 2 ^ (s.width - 1) else x - 2 ^ (s.width - 1)), 0) ∧
    g 14 = ((if y < 2 ^ (s.width - 1) then 0 else 2 ^ (s.width - 1)) + x % 2 ^ (s.width - 1), 0) ∧
    (g 15).2 = 0 ∧
    (a = .nan true → (g 15).1 = 1) ∧ (a = .nan false → (g 15).1 = 2) ∧
    (a = .inf true → (g 15).1 = 4) ∧ (a = .inf false → (g 15).1 = 512) ∧
    ∀ n m e, a = .fin n m e → (g 15).1 =
      if m = 0 then (if n then 32 else 64)
      else if a.value < 2 ^ (1 - s.bias) ∧ -a.value < 2 ^ (1 - s.bias) then (if n then 16 else 128)
      else if n then 8 else 256) ∧
  (∀ (f : Fmt), f ∈ [Fmt.f32, .f64, .f16, .bf16] → ∀ x y : Nat,
    let a := f.read x
    let b := f.read y
    let un := a.isNaN = true ∨ b.isNaN = true
    let sgn := a = .nan true ∨ b = .nan true
    let eq := ¬ un ∧ ¬ a.Less b ∧ ¬ b.Less a
    let is (fn : Nat) (p : Prop) (nv : Prop) : Prop :=
      ((vfCompare f fn x y).1 = true ↔ p) ∧ (nv → (vfCompare f fn x y).2 = fNV) ∧ (¬ nv → (vfCompare f fn x y).2 = 0)
    is 0 eq sgn ∧ is 1 (¬ eq) sgn ∧ is 2 (a.Less b) un ∧ is 3 (a.Less b ∨ eq) un ∧ is 4 (b.Less a) un ∧
    is 5 (b.Less a ∨ eq) un ∧ is 6 un sgn ∧ is 7 (¬ un) sgn) ∧
  ((∀ (wide : Bool) (rm : RMode) (c : Nat),
    let sh : FShape := if wide then { eb := 11, fb := 52 } else { eb := 8, fb := 23 }
    let g (fn : Nat) := sfElem wide sh fn rm c
    let nan : Nat × XFlags := (sh.qNaN, fNV)
    let one := (2 ^ (sh.eb - 1) - 1) * 2 ^ sh.fb
    let ulp := 2 ^ sh.fb
    let minus := 2 ^ (sh.width - 1)
    let inf := (2 ^ sh.eb - 1) * 2 ^ sh.fb
    let v := sh.read c
    (∀ sg fn, v = .nan sg → fn < 10 → g fn = (sh.qNaN, if sg then fNV else 0)) ∧
    (v = .inf true → g 0 = (0, 0) ∧ g 1 = (0, 0) ∧ g 2 = (minus + one, 0) ∧ g 3 = nan ∧ g 4 = nan ∧ g 5 = nan ∧
      g 6 = (minus + one, 0) ∧ g 7 = (one + ulp, 0) ∧ g 8 = (0, 0) ∧ g 9 = nan) ∧
    (v = .inf false → (∀ fn < 6, g fn = (inf, 0)) ∧ g 6 = (one, 0) ∧ g 7 = (0, 0) ∧ g 8 = (one, 0) ∧ g 9 = (0, 0)) ∧
    (∀ n e, v = .fin n 0 e →
      let z : Nat × XFlags := (if n then minus else 0, 0)
      g 0 = (one, 0) ∧ g 1 = (one, 0) ∧ g 2 = z ∧ g 3 = (minus + inf, fDZ) ∧ g 4 = (minus + inf, fDZ) ∧ g 5 = z ∧
      g 6 = z ∧ g 7 = (one, 0) ∧ g 8 = (one - ulp, 0) ∧ g 9 = ((if n then minus else 0) + inf, fDZ)) ∧
    (∀ m e, v = .fin true m e → m ≠ 0 → g 3 = nan ∧ g 4 = nan ∧ g 9 = nan ∧
      (v.value = -1 → g 5 = (minus + inf, fDZ)) ∧ (v.value < -1 → g 5 = nan)) ∧
    (∀ n m e, v = .fin n m e → v.value = 1 → g 3 = (0, 0) ∧ g 4 = (0, 0)) ∧
    (∀ (n : Bool) m e (k : ℤ), v = .fin n m e → v.value = k → 1 - sh.bias - sh.fb ≤ k → k ≤ sh.bias →
      (∃ m' e', sh.read (g 1).1 = .fin false m' e') ∧ (sh.read (g 1).1).value = 2 ^ k ∧ (g 1).2 = 0) ∧
    (∀ m e (k : ℤ), v = .fin false m e → v.value = 2 ^ k →
      (sh.read (g 4).1).value = k ∧ (g 4).2 = 0 ∧
      (k % 2 = 0 → (sh.read (g 9).1).value = 2 ^ (-(k / 2)) ∧ (g 9).2 = 0)) ∧
    (∀ m e, v = .fin false m e → m ≠ 0 → sh.Rounded rm false (1 / Real.sqrt (m * 2 ^ e)) (g 9))) ∧
  let g (fn : Nat) (rm : RMode) (c : Nat) := sfElem false { eb := 8, fb := 23 } fn rm c
  (∀ rm ∈ [RMode.rne, .rdn, .rtz], g 0 rm 0x3F800000 = (0x402DF854, fNX)) ∧ g 0 .rup 0x3F800000 = (0x402DF855, fNX) ∧
  (∀ rm ∈ [RMode.rne, .rup], g 3 rm 0x40000000 = (0x3F317218, fNX)) ∧
  (∀ rm ∈ [RMode.rdn, .rtz], g 3 rm 0x40000000 = (0x3F317217, fNX)) ∧
  g 9 .rne 0x40000000 = (0x3F3504F3, fNX) ∧
  g 0 .rne 0x42B18000 = (0x7F800000, fOF ||| fNX) ∧ g 0 .rtz 0x42B18000 = (0x7F7FFFFF, fOF ||| fNX) ∧
  g 2 .rne 1 = (1, fUF ||| fNX) ∧ g 2 .rup 1 = (2, fUF ||| fNX))

/-- The integer words (R253, R254, Table 26.5): the exact value of each function, wrapped modulo 2^w or clamped to the range
as (U, SAT) say, a shift by any amount too; and the compares.

The functions of PRED, bit by bit (R264, Table 26.8): the logic words; each element's governing bit spread over it; as
many first elements of a row as it has governing bits set; the first such element alone.

Keys and boxes (R69, R286, R288, R290): bit n of axis a is bit a + n·d of the key, and no other bit is set; a key lies in
a box where it does so on every axis; NEXT finds the least key of the box at or above a number, or none; CKSPLIT's runs are
the maximal runs of keys of the box from the cursor up, in order and with gaps, and where a key is in none the list is
full.

Reductions (R80, R261): each addition rounded to the format, integers modulo 2^w; minima and maxima; the tree pairs
neighbours level by level and keeps the flags of every step; the result stands in every element of its row or column, its
flags in the first; a scan folds from the left.

Chains (R75, R77, R78, R274): a group of an ordered chain cuts each exact term to the window below the greatest, adds
and rounds once to F32, or gives the NaN, infinity or zero of its terms; groups of eight in order; MCHE rounds an exact
value once, or gives the NaN of NVS, the overflow of SAT with the sign of the value held (log 80), a clamped INT32; an ordered
value as it is, or converted. -/
def Obligations.IntegersKeysAndSums : Prop :=
  (∀ (q : Nat) (u sat : Bool) (a b d : Nat), q < 4 →
    let w := 8 * 2 ^ q
    a < 2 ^ w → b < 2 ^ w → d < 2 ^ w →
    let s (n : Nat) : ℤ := if n < 2 ^ (w - 1) then n else n - 2 ^ w
    let v (n : Nat) : ℤ := if u then n else s n
    let lo : ℤ := if u then 0 else -(2 ^ (w - 1))
    let hi : ℤ := if u then 2 ^ w - 1 else 2 ^ (w - 1) - 1
    let g (fn : Nat) : ℤ := viElem fn u sat w a b d
    let wraps (fn : Nat) (k : ℤ) : Prop := g fn = k % 2 ^ w
    let fits (fn : Nat) (k : ℤ) : Prop := wraps fn (if sat then max lo (min hi k) else k)
    let is (fn : Nat) (p : Prop) : Prop := viCompare fn (!u) w a b = true ↔ p
    fits 0 (v a + v b) ∧ fits 1 (v a - v b) ∧ fits 2 (v a * v b) ∧ fits 4 (v a * v b + v d) ∧ fits 8 (v a * 2 ^ b) ∧
    wraps 3 (v a * v b / 2 ^ w) ∧ wraps 5 (min (v a) (v b)) ∧ wraps 6 (max (v a) (v b)) ∧ g 7 = |v a - v b| ∧
    g 9 = (a : ℤ) / 2 ^ b ∧ wraps 10 (s a / 2 ^ b) ∧ wraps 11 ((v a + v b + 1) / 2) ∧
    g 12 = (if a = 0 then w else w - 1 - a.log2 : Nat) ∧ g 13 = (((List.range w).filter fun i => a.testBit i).length : Nat) ∧
    is 0 (v a = v b) ∧ is 1 (v a ≠ v b) ∧ is 2 (v a < v b) ∧ is 3 (v a ≤ v b) ∧ is 4 (v b < v a) ∧ is 5 (v b ≤ v a)) ∧
  (∀ (a b : Pred) (q i : Nat), q < 4 → i < 4096 →
    let z := 2 ^ q
    let row := i / 256
    let col := i % 256 / z
    let gov (j : Nat) : Bool := a.getLsbD (256 * row + z * j)
    let g (fn : Nat) : Bool := (predFn fn a b z).getLsbD i
    g 0 = (a.getLsbD i && b.getLsbD i) ∧ g 1 = (a.getLsbD i || b.getLsbD i) ∧ g 2 = (a.getLsbD i != b.getLsbD i) ∧
    g 3 = !a.getLsbD i ∧ g 4 = (a.getLsbD i && !b.getLsbD i) ∧ g 5 = true ∧ g 6 = false ∧
    g 7 = gov col ∧ g 8 = decide (col < ((List.range (256 / z)).filter gov).length) ∧
    g 9 = (gov col && (List.range col).all fun j => !gov j)) ∧
  (∀ (d : Nat), 2 ≤ d → d ≤ 8 →
    let b := 60 / d
    (∀ k a n, (axis d k a).testBit n = (decide (n < b) && k.testBit (a + n * d))) ∧
    (∀ (x : Nat → Nat) (i : Nat), (keyOf d x).testBit i = (decide (i < d * b) && (x (i % d)).testBit (i / d))) ∧
    ∀ lo hi : Nat,
      let inside (k : Nat) : Prop := k < 2 ^ (d * b) ∧ ∀ a < d, axis d lo a ≤ axis d k a ∧ axis d k a ≤ axis d hi a
      (∀ k, inBox d k lo hi = true ↔ inside k) ∧
      (∀ x k, ckNextKey d x lo hi = some k ↔ x ≤ k ∧ inside k ∧ ∀ j, x ≤ j → j < k → ¬ inside j) ∧
      ∀ n cur,
        let runs := ckRuns d lo hi n cur
        runs.length ≤ n ∧ runs.Pairwise (fun p q => p.2 + 1 < q.1) ∧
        (∀ r ∈ runs, cur ≤ r.1 ∧ r.1 ≤ r.2 ∧ (∀ k, r.1 ≤ k → k ≤ r.2 → inside k) ∧ ¬ inside (r.2 + 1) ∧
          (r.1 = cur ∨ ¬ inside (r.1 - 1))) ∧
        ∀ k, cur ≤ k → inside k →
          (∃ r ∈ runs, r.1 ≤ k ∧ k ≤ r.2) ∨ (runs.length = n ∧ ∀ r ∈ runs, r.2 < k)) ∧
  ((∀ (f : Fmt) (rm : RMode) (x y : Nat), f.isFloat = true →
    let v := numAdd rm (f.read x) (f.read y)
    (∃ r, f.Delivered rm v.1 r ∧ redAdd f rm x y = (r.1, r.2 ||| v.2)) ∧
    ∀ isMax, f.MinMax isMax false x y (redMinMax f isMax x y)) ∧
  (∀ (sg : Bool) (k : Nat) (rm : RMode) (x y : Nat), x < 2 ^ (8 * 2 ^ k) → y < 2 ^ (8 * 2 ^ k) →
    let f := Fmt.int sg k
    redAdd f rm x y = ((x + y) % 2 ^ (8 * 2 ^ k), 0) ∧
    ∀ isMax : Bool, redMinMax f isMax x y =
      (if (isMax = true ∧ (f.read x).value < (f.read y).value) ∨ (isMax = false ∧ (f.read y).value < (f.read x).value)
        then y else x, 0)) ∧
  (∀ (op : Nat → Nat → Nat × XFlags) (f : Nat → Nat) (m i : Nat),
    let pair (j : Nat) := op (f (2 * j)) (f (2 * j + 1))
    let up := tree op (fun j => (pair j).1) m i
    tree op f 0 i = (f i, 0) ∧
    tree op f (m + 1) (2 * i) = (up.1, up.2 ||| ((List.range (2 ^ m)).foldl (fun fl j => fl ||| (pair (i + j)).2) 0))) ∧
  ∀ (f : Fmt) (fn : Nat) (rm : RMode) (sel : Sel) (t : Tile), f.size ≤ 8 → fn < 8 →
    let z := f.size
    let n := cols z
    let row := decide (fn % 2 = 0)
    let op := if fn < 2 ∨ 6 ≤ fn then redAdd f rm else redMinMax f (decide (4 ≤ fn))
    let el (l k : Nat) : Nat := tileElem t z (if row then n * l + k else n * k + l)
    let sum (l j : Nat) : Nat := (List.range j).foldl (fun y k => (op y (el l (k + 1))).1) (el l 0)
    let line (e : Nat) : Nat := if row then e / n else e % n
    let place (e : Nat) : Nat := if row then e % n else e / n
    let out := redTile f fn rm sel t
    if fn < 6 then
      elementwise z (fun e =>
        let r := tree op (el (line e)) (if row then n.log2 else 4) 0
        sel.flags z e (r.1, if place e = 0 then r.2 else 0)) out.1 out.2
    else
      elementwise z (fun e => sel.flags z e (sum (line e) (place e),
        if place e = 0 then 0 else (op (sum (line e) (place e - 1)) (el (line e) (place e))).2)) out.1 out.2) ∧
  ((∀ (x : OrdElem) (ps : List (Machine.Num × XFlags)),
    let sh : FShape := { eb := 8, fb := 23 }
    let terms := sh.read x.1.toNat :: ps.map (·.1)
    let out := ordGroup x ps
    let odd := (∃ t ∈ terms, t.isNaN = true) ∨ (.inf true ∈ terms ∧ .inf false ∈ terms)
    (odd → out = (0x7FC00000, x.2 ||| fNV)) ∧
    (∀ n, ¬ odd → .inf n ∈ terms → out = ((if n then 0xFF800000 else 0x7F800000), x.2)) ∧
    ((∀ t ∈ terms, ∃ n m e, t = .fin n m e) →
      ((∀ t ∈ terms, t.value = 0) →
        out = ((if ∀ t ∈ terms, t.sign = true then 0x80000000 else 0), x.2)) ∧
      ∀ (t : Machine.Num) (top : ℤ), t ∈ terms → t.value ≠ 0 → Int.log 2 |t.value| = top →
        (∀ y ∈ terms, y.value ≠ 0 → Int.log 2 |y.value| ≤ top) →
        let u : ℚ := 2 ^ (top - 32)
        let cut (y : Machine.Num) : ℤ := if y.sign then -⌊|y.value| / u⌋ else ⌊|y.value| / u⌋
        let lost := ∃ y ∈ terms, (⌊|y.value| / u⌋ : ℚ) ≠ |y.value| / u
        let sum := (terms.map cut).sum
        ∃ st : ℤ, (lost → st = 1) ∧ (¬ lost → st = 0) ∧
        let v : ℚ := (if 0 ≤ sum then 2 * sum + st else 2 * sum - st) * u / 2
        (v = 0 → out = (0, x.2)) ∧
        (v ≠ 0 → ∃ r, sh.Rounded .rne (decide (v < 0)) |(v : ℝ)| r ∧ out.1.toNat = r.1 ∧
          let inexact := lost ∨ r.2.getLsbD 0 = true
          (¬ inexact → out.2 = x.2) ∧
          (inexact → out.2 = x.2 ||| fNX ||| (r.2 &&& fOF) |||
            if 0 < |(sh.read r.1).value| ∧ |(sh.read r.1).value| < 2 ^ (-126 : ℤ) ∧ r.2.getLsbD 2 = false then fUF else 0)))) ∧
  (∀ (ps : Nat → Machine.Num × XFlags) (n k : Nat) (x : OrdElem),
    ordGroups ps n k x =
      (List.range n).foldl (fun y g => ordGroup y ((List.range 8).map fun i => ps (k + 8 * g + i))) x) ∧
  (∀ (int : Bool) (l : List ExactElem) (f : Fmt) (sh : FShape) (rm : RMode) (e : Nat) (x : ExactElem),
    f.shape = some sh → sh.noInf = false → l[e]? = some x →
    let out := (Acc.exact int l).close f rm e
    let neg := decide (x.val.toInt < 0)
    (x.nvs = true → out = (sh.qNaN, fNV)) ∧
    (x.nvs = false → x.sat = true → sh.Overflowed rm neg out) ∧
    (x.nvs = false → x.sat = false → x.val.toInt = 0 → out = (0, 0)) ∧
    (x.nvs = false → x.sat = false → x.val.toInt ≠ 0 →
      sh.Rounded rm neg (|(x.val.toInt : ℝ)| * 2 ^ (-46 : ℤ)) out)) ∧
  (∀ (int : Bool) (l : List ExactElem) (rm : RMode) (e : Nat) (x : ExactElem), l[e]? = some x →
    let out := (Acc.exact int l).close (.int true 2) rm e
    let v := x.val.toInt / 2 ^ 46
    (x.nvs = true → out = (0, fNV)) ∧
    (x.nvs = false → x.sat = true → out = ((if x.val.toInt < 0 then 2 ^ 31 else 2 ^ 31 - 1), fNV)) ∧
    (x.nvs = false → x.sat = false →
      (v < -2 ^ 31 → out = (2 ^ 31, fNV)) ∧ (2 ^ 31 ≤ v → out = (2 ^ 31 - 1, fNV)) ∧
      (-2 ^ 31 ≤ v → v < 2 ^ 31 → out = ((v % 2 ^ 32).toNat, 0)))) ∧
  ∀ (l : List OrdElem) (f : Fmt) (rm : RMode) (e : Nat) (x : OrdElem), l[e]? = some x →
    (Acc.ordered l).close .f32 rm e = (x.1.toNat, x.2) ∧
    (f ≠ .f32 → ∃ r, f.Delivered rm (Fmt.f32.read x.1.toNat) r ∧ (Acc.ordered l).close f rm e = (r.1, r.2 ||| x.2)))
end

