-- ==== Sys2Proof/Laws/Encoding.lean ====
section
/-! SUPPORT. The laws of encoding: a field of a word is the part of it that lies there; the last bit and the slot of each
instruction's word. -/

namespace Sys2Proof.Machine

/-- A field above the lower part of a word. -/
theorem extract_high {m n : Nat} (x : BitVec m) (y : BitVec n) (lo k : Nat) (h : n ≤ lo) :
    BitVec.extractLsb' lo k (x ++ y) = x.extractLsb' (lo - n) k := BitVec.extractLsb'_append_eq_of_le h

/-- A field within the lower part of a word. -/
theorem extract_low {m n : Nat} (x : BitVec m) (y : BitVec n) (lo k : Nat) (h : lo + k ≤ n) :
    BitVec.extractLsb' lo k (x ++ y) = y.extractLsb' lo k := BitVec.extractLsb'_append_eq_of_add_le h

/-- A field of a word written as its parts. -/
theorem fld_cast {n : Nat} (h : n = 32) (v : BitVec n) (lo k : Nat) : fld (v.cast h) lo k = v.extractLsb' lo k := by
  subst h
  rfl

/-- Bit L of a word as a field (R155). -/
theorem getLsbD_25 (w : IWord) : w.getLsbD 25 = (fld w 25 1 == 1#1) := by
  rw [Bool.eq_iff_iff, beq_iff_eq]
  constructor
  · intro h
    apply BitVec.eq_of_getLsbD_eq
    intro i hi
    obtain rfl : i = 0 := by omega
    simpa using h
  · intro h
    have := congrArg (fun v => v.getLsbD 0) h
    simpa using this

/-- Bit L of an instruction word: a word of CP, and a common word, has it as an operand; every other word of a stream has
it set, and PSEL has it clear (R154, R155). -/
def lastOf : Instr → Bool
  | .aluAdd l _ _ _ _ _ => l == 1
  | .aluSub l _ _ _ _ _ => l == 1
  | .aluMul l _ _ _ _ _ => l == 1
  | .aluMulh l _ _ _ _ _ => l == 1
  | .aluMulhu l _ _ _ _ _ => l == 1
  | .aluDiv l _ _ _ _ _ => l == 1
  | .aluDivu l _ _ _ _ _ => l == 1
  | .aluRem l _ _ _ _ _ => l == 1
  | .aluRemu l _ _ _ _ _ => l == 1
  | .aluAnd l _ _ _ _ _ => l == 1
  | .aluOr l _ _ _ _ _ => l == 1
  | .aluXor l _ _ _ _ _ => l == 1
  | .aluAndn l _ _ _ _ _ => l == 1
  | .aluShl l _ _ _ _ _ => l == 1
  | .aluShr l _ _ _ _ _ => l == 1
  | .aluSar l _ _ _ _ _ => l == 1
  | .alu2Min l _ _ _ _ _ => l == 1
  | .alu2Max l _ _ _ _ _ => l == 1
  | .alu2Minu l _ _ _ _ _ => l == 1
  | .alu2Maxu l _ _ _ _ _ => l == 1
  | .alu2Clz l _ _ _ _ => l == 1
  | .alu2Ctz l _ _ _ _ => l == 1
  | .alu2Popc l _ _ _ _ => l == 1
  | .alu2Brev l _ _ _ _ => l == 1
  | .alu2Bswap l _ _ _ _ => l == 1
  | .alu2Sel l _ _ _ _ _ => l == 1
  | .alu2Rol l _ _ _ _ _ => l == 1
  | .alu2Ror l _ _ _ _ _ => l == 1
  | .addi l _ _ _ => l == 1
  | .logiAndi l _ _ _ => l == 1
  | .logiOri l _ _ _ => l == 1
  | .logiXori l _ _ _ => l == 1
  | .shiShl l _ _ _ => l == 1
  | .shiShr l _ _ _ => l == 1
  | .shiSar l _ _ _ => l == 1
  | .shiRor l _ _ _ => l == 1
  | .li l _ _ => l == 1
  | .lih l _ _ => l == 1
  | .cmp l _ _ _ _ _ => l == 1
  | .cmpi l _ _ _ _ => l == 1
  | .fopAnd l _ _ _ => l == 1
  | .fopOr l _ _ _ => l == 1
  | .fopXor l _ _ _ => l == 1
  | .fopAndn l _ _ _ => l == 1
  | .fopNot l _ _ => l == 1
  | .fopSet l _ => l == 1
  | .fopClr l _ => l == 1
  | .bfBfx l _ _ _ _ => l == 1
  | .bfBfxu l _ _ _ _ => l == 1
  | .bfBfi l _ _ _ _ => l == 1
  | .pbr l _ _ => l == 1
  | .pbrReg l _ _ => l == 1
  | .br l _ _ => l == 1
  | .brl l _ _ => l == 1
  | .loop l _ _ => l == 1
  | .kloop l _ _ _ _ _ => l == 1
  | .lds l _ _ _ _ _ _ => l == 1
  | .sts l _ _ _ _ _ => l == 1
  | .xmovMovc l _ _ => l == 1
  | .xmovMovtc l _ _ => l == 1
  | .xmovRdsr l _ _ => l == 1
  | .xmovWrsr l _ _ => l == 1
  | .xmovMovb l _ _ => l == 1
  | .flip l => l == 1
  | .endStream l => l == 1
  | .pdecl l _ _ _ _ => l == 1
  | .tlwait l _ _ => l == 1
  | .tlrd l _ _ => l == 1
  | .tsig l _ => l == 1
  | .twait l _ => l == 1
  | .nop l => l == 1
  | .trap l _ => l == 1
  | .brk l _ => l == 1
  | .vf32 l _ _ _ _ _ => l == 1
  | .vf64 l _ _ _ _ _ => l == 1
  | .vf16 l _ _ _ _ _ => l == 1
  | .vbf16 l _ _ _ _ _ => l == 1
  | .vfcmp l _ _ _ _ _ => l == 1
  | .vi32 l _ _ _ _ _ _ => l == 1
  | .vi16 l _ _ _ _ _ _ => l == 1
  | .vi8 l _ _ _ _ _ _ => l == 1
  | .vi64 l _ _ _ _ _ _ => l == 1
  | .vlogic l _ _ _ _ => l == 1
  | .vicmp l _ _ _ _ _ => l == 1
  | .vcvt l _ _ _ _ _ => l == 1
  | .vmoveMov l _ _ => l == 1
  | .vmoveSel l _ _ _ _ => l == 1
  | .vmoveImm l _ _ => l == 1
  | .vmoveIota l _ => l == 1
  | .vmoveXtr l _ _ _ => l == 1
  | .vmoveIns l _ _ _ => l == 1
  | .vrot l _ _ _ _ => l == 1
  | .vbc l _ _ _ _ => l == 1
  | .vred l _ _ _ _ _ => l == 1
  | .vtrg l _ _ => l == 1
  | .vperm l _ _ _ => l == 1
  | .vsort l _ _ _ _ => l == 1
  | .pred l _ _ _ _ => l == 1
  | .xfRd l _ => l == 1
  | .xfClr l _ => l == 1
  | .xfSet l _ => l == 1
  | .sf32 l _ _ _ _ => l == 1
  | .sf64 l _ _ _ _ => l == 1
  | .ckEnc l _ _ _ => l == 1
  | .ckDec l _ _ _ => l == 1
  | .ckAdd l _ _ _ _ => l == 1
  | .ckSub l _ _ _ _ => l == 1
  | .ckInbox l _ _ _ _ => l == 1
  | .ckNext l _ _ _ _ => l == 1
  | .cksplit l _ _ _ _ => l == 1
  | .mma l _ _ _ _ _ _ _ => l == 1
  | .mmaq l _ _ _ _ _ => l == 1
  | .mchb l _ => l == 1
  | .mche l _ _ _ _ => l == 1
  | .mzero l _ => l == 1
  | .mred l _ => l == 1
  | .mlda l _ _ => l == 1
  | .psel _ _ _ _ _ => false
  | _ => true

/-- What a word of CP claims in its bundle, by its OP (Table 18.2): 1 SX, 2 a vector slot, 3 VB, 4 MX, 5 SF, 0 for PSEL. -/
def slotOf (i : Instr) : Nat :=
  match classOf i, i with
  | .common, _ => 1
  | _, .psel _ _ _ _ _ => 0
  | _, .sf32 _ _ _ _ _ => 5
  | _, .sf64 _ _ _ _ _ => 5
  | _, .ckEnc _ _ _ _ => 3
  | _, .ckDec _ _ _ _ => 3
  | _, .ckAdd _ _ _ _ _ => 3
  | _, .ckSub _ _ _ _ _ => 3
  | _, .ckInbox _ _ _ _ _ => 3
  | _, .ckNext _ _ _ _ _ => 3
  | _, .cksplit _ _ _ _ _ => 3
  | _, .mma _ _ _ _ _ _ _ _ => 4
  | _, .mmaq _ _ _ _ _ _ => 4
  | _, .mchb _ _ => 4
  | _, .mche _ _ _ _ _ => 4
  | _, .mzero _ _ => 4
  | _, .mred _ _ => 4
  | _, .mlda _ _ _ => 4
  | _, _ => 2

end Sys2Proof.Machine
end

