-- ==== Sys2Proof/Laws/State.lean ====
section
/-! SUPPORT. The small laws of the state's updates: one for each field that an update leaves alone, and what the updated
part reads as. -/

namespace Sys2Proof.Machine

variable (s : State)

/-! ### setGang -/

@[simp] theorem State.setGang_pools (b : BenchId) (g : Option Gang) : (s.setGang b g).pools = s.pools := rfl
@[simp] theorem State.setGang_clocks (b : BenchId) (g : Option Gang) : (s.setGang b g).clocks = s.clocks := rfl
@[simp] theorem State.setGang_mem (b : BenchId) (g : Option Gang) : (s.setGang b g).mem = s.mem := rfl
@[simp] theorem State.setGang_llc (b : BenchId) (g : Option Gang) : (s.setGang b g).llc = s.llc := rfl
@[simp] theorem State.setGang_tlb (b : BenchId) (g : Option Gang) : (s.setGang b g).tlb = s.tlb := rfl
@[simp] theorem State.setGang_atomicMarks (b : BenchId) (g : Option Gang) : (s.setGang b g).atomicMarks = s.atomicMarks := rfl
@[simp] theorem State.setGang_quads (b : BenchId) (g : Option Gang) : (s.setGang b g).quads = s.quads := rfl
@[simp] theorem State.setGang_parts (b : BenchId) (g : Option Gang) : (s.setGang b g).parts = s.parts := rfl
@[simp] theorem State.setGang_vfs (b : BenchId) (g : Option Gang) : (s.setGang b g).vfs = s.vfs := rfl
@[simp] theorem State.setGang_ctxs (b : BenchId) (g : Option Gang) : (s.setGang b g).ctxs = s.ctxs := rfl
@[simp] theorem State.setGang_scx (b : BenchId) (g : Option Gang) : (s.setGang b g).scx = s.scx := rfl
@[simp] theorem State.setGang_links (b : BenchId) (g : Option Gang) : (s.setGang b g).links = s.links := rfl
@[simp] theorem State.setGang_dev (b : BenchId) (g : Option Gang) : (s.setGang b g).dev = s.dev := rfl
@[simp] theorem State.setGang_agenda (b : BenchId) (g : Option Gang) : (s.setGang b g).agenda = s.agenda := rfl
@[simp] theorem State.setGang_cur (b : BenchId) (g : Option Gang) : (s.setGang b g).cur = s.cur := rfl
@[simp] theorem State.setGang_ticks (b : BenchId) (g : Option Gang) : (s.setGang b g).ticks = s.ticks := rfl
@[simp] theorem State.setGang_out (b : BenchId) (g : Option Gang) : (s.setGang b g).out = s.out := rfl

/-! ### updGang -/

@[simp] theorem State.updGang_pools (b : BenchId) (f : Gang → Gang) : (s.updGang b f).pools = s.pools :=
  by unfold State.updGang; split <;> rfl
@[simp] theorem State.updGang_clocks (b : BenchId) (f : Gang → Gang) : (s.updGang b f).clocks = s.clocks :=
  by unfold State.updGang; split <;> rfl
@[simp] theorem State.updGang_mem (b : BenchId) (f : Gang → Gang) : (s.updGang b f).mem = s.mem :=
  by unfold State.updGang; split <;> rfl
@[simp] theorem State.updGang_llc (b : BenchId) (f : Gang → Gang) : (s.updGang b f).llc = s.llc :=
  by unfold State.updGang; split <;> rfl
@[simp] theorem State.updGang_tlb (b : BenchId) (f : Gang → Gang) : (s.updGang b f).tlb = s.tlb :=
  by unfold State.updGang; split <;> rfl
@[simp] theorem State.updGang_atomicMarks (b : BenchId) (f : Gang → Gang) : (s.updGang b f).atomicMarks = s.atomicMarks :=
  by unfold State.updGang; split <;> rfl
@[simp] theorem State.updGang_quads (b : BenchId) (f : Gang → Gang) : (s.updGang b f).quads = s.quads :=
  by unfold State.updGang; split <;> rfl
@[simp] theorem State.updGang_parts (b : BenchId) (f : Gang → Gang) : (s.updGang b f).parts = s.parts :=
  by unfold State.updGang; split <;> rfl
@[simp] theorem State.updGang_vfs (b : BenchId) (f : Gang → Gang) : (s.updGang b f).vfs = s.vfs :=
  by unfold State.updGang; split <;> rfl
@[simp] theorem State.updGang_ctxs (b : BenchId) (f : Gang → Gang) : (s.updGang b f).ctxs = s.ctxs :=
  by unfold State.updGang; split <;> rfl
@[simp] theorem State.updGang_scx (b : BenchId) (f : Gang → Gang) : (s.updGang b f).scx = s.scx :=
  by unfold State.updGang; split <;> rfl
@[simp] theorem State.updGang_links (b : BenchId) (f : Gang → Gang) : (s.updGang b f).links = s.links :=
  by unfold State.updGang; split <;> rfl
@[simp] theorem State.updGang_dev (b : BenchId) (f : Gang → Gang) : (s.updGang b f).dev = s.dev :=
  by unfold State.updGang; split <;> rfl
@[simp] theorem State.updGang_agenda (b : BenchId) (f : Gang → Gang) : (s.updGang b f).agenda = s.agenda :=
  by unfold State.updGang; split <;> rfl
@[simp] theorem State.updGang_cur (b : BenchId) (f : Gang → Gang) : (s.updGang b f).cur = s.cur :=
  by unfold State.updGang; split <;> rfl
@[simp] theorem State.updGang_ticks (b : BenchId) (f : Gang → Gang) : (s.updGang b f).ticks = s.ticks :=
  by unfold State.updGang; split <;> rfl
@[simp] theorem State.updGang_out (b : BenchId) (f : Gang → Gang) : (s.updGang b f).out = s.out :=
  by unfold State.updGang; split <;> rfl

/-! ### updCore -/

@[simp] theorem State.updCore_pools (b : BenchId) (c : CoreId) (f : Core → Core) : (s.updCore b c f).pools = s.pools :=
  by simp [State.updCore]
@[simp] theorem State.updCore_clocks (b : BenchId) (c : CoreId) (f : Core → Core) : (s.updCore b c f).clocks = s.clocks :=
  by simp [State.updCore]
@[simp] theorem State.updCore_mem (b : BenchId) (c : CoreId) (f : Core → Core) : (s.updCore b c f).mem = s.mem :=
  by simp [State.updCore]
@[simp] theorem State.updCore_llc (b : BenchId) (c : CoreId) (f : Core → Core) : (s.updCore b c f).llc = s.llc :=
  by simp [State.updCore]
@[simp] theorem State.updCore_tlb (b : BenchId) (c : CoreId) (f : Core → Core) : (s.updCore b c f).tlb = s.tlb :=
  by simp [State.updCore]
@[simp] theorem State.updCore_atomicMarks (b : BenchId) (c : CoreId) (f : Core → Core) : (s.updCore b c f).atomicMarks = s.atomicMarks :=
  by simp [State.updCore]
@[simp] theorem State.updCore_quads (b : BenchId) (c : CoreId) (f : Core → Core) : (s.updCore b c f).quads = s.quads :=
  by simp [State.updCore]
@[simp] theorem State.updCore_parts (b : BenchId) (c : CoreId) (f : Core → Core) : (s.updCore b c f).parts = s.parts :=
  by simp [State.updCore]
@[simp] theorem State.updCore_vfs (b : BenchId) (c : CoreId) (f : Core → Core) : (s.updCore b c f).vfs = s.vfs :=
  by simp [State.updCore]
@[simp] theorem State.updCore_ctxs (b : BenchId) (c : CoreId) (f : Core → Core) : (s.updCore b c f).ctxs = s.ctxs :=
  by simp [State.updCore]
@[simp] theorem State.updCore_scx (b : BenchId) (c : CoreId) (f : Core → Core) : (s.updCore b c f).scx = s.scx :=
  by simp [State.updCore]
@[simp] theorem State.updCore_links (b : BenchId) (c : CoreId) (f : Core → Core) : (s.updCore b c f).links = s.links :=
  by simp [State.updCore]
@[simp] theorem State.updCore_dev (b : BenchId) (c : CoreId) (f : Core → Core) : (s.updCore b c f).dev = s.dev :=
  by simp [State.updCore]
@[simp] theorem State.updCore_agenda (b : BenchId) (c : CoreId) (f : Core → Core) : (s.updCore b c f).agenda = s.agenda :=
  by simp [State.updCore]
@[simp] theorem State.updCore_cur (b : BenchId) (c : CoreId) (f : Core → Core) : (s.updCore b c f).cur = s.cur :=
  by simp [State.updCore]
@[simp] theorem State.updCore_ticks (b : BenchId) (c : CoreId) (f : Core → Core) : (s.updCore b c f).ticks = s.ticks :=
  by simp [State.updCore]
@[simp] theorem State.updCore_out (b : BenchId) (c : CoreId) (f : Core → Core) : (s.updCore b c f).out = s.out :=
  by simp [State.updCore]

/-! ### updStream -/

@[simp] theorem State.updStream_pools (b : BenchId) (c : CoreId) (t : StreamId) (f : Stream → Stream) : (s.updStream b c t f).pools = s.pools :=
  by simp [State.updStream]
@[simp] theorem State.updStream_clocks (b : BenchId) (c : CoreId) (t : StreamId) (f : Stream → Stream) : (s.updStream b c t f).clocks = s.clocks :=
  by simp [State.updStream]
@[simp] theorem State.updStream_mem (b : BenchId) (c : CoreId) (t : StreamId) (f : Stream → Stream) : (s.updStream b c t f).mem = s.mem :=
  by simp [State.updStream]
@[simp] theorem State.updStream_llc (b : BenchId) (c : CoreId) (t : StreamId) (f : Stream → Stream) : (s.updStream b c t f).llc = s.llc :=
  by simp [State.updStream]
@[simp] theorem State.updStream_tlb (b : BenchId) (c : CoreId) (t : StreamId) (f : Stream → Stream) : (s.updStream b c t f).tlb = s.tlb :=
  by simp [State.updStream]
@[simp] theorem State.updStream_atomicMarks (b : BenchId) (c : CoreId) (t : StreamId) (f : Stream → Stream) : (s.updStream b c t f).atomicMarks = s.atomicMarks :=
  by simp [State.updStream]
@[simp] theorem State.updStream_quads (b : BenchId) (c : CoreId) (t : StreamId) (f : Stream → Stream) : (s.updStream b c t f).quads = s.quads :=
  by simp [State.updStream]
@[simp] theorem State.updStream_parts (b : BenchId) (c : CoreId) (t : StreamId) (f : Stream → Stream) : (s.updStream b c t f).parts = s.parts :=
  by simp [State.updStream]
@[simp] theorem State.updStream_vfs (b : BenchId) (c : CoreId) (t : StreamId) (f : Stream → Stream) : (s.updStream b c t f).vfs = s.vfs :=
  by simp [State.updStream]
@[simp] theorem State.updStream_ctxs (b : BenchId) (c : CoreId) (t : StreamId) (f : Stream → Stream) : (s.updStream b c t f).ctxs = s.ctxs :=
  by simp [State.updStream]
@[simp] theorem State.updStream_scx (b : BenchId) (c : CoreId) (t : StreamId) (f : Stream → Stream) : (s.updStream b c t f).scx = s.scx :=
  by simp [State.updStream]
@[simp] theorem State.updStream_links (b : BenchId) (c : CoreId) (t : StreamId) (f : Stream → Stream) : (s.updStream b c t f).links = s.links :=
  by simp [State.updStream]
@[simp] theorem State.updStream_dev (b : BenchId) (c : CoreId) (t : StreamId) (f : Stream → Stream) : (s.updStream b c t f).dev = s.dev :=
  by simp [State.updStream]
@[simp] theorem State.updStream_agenda (b : BenchId) (c : CoreId) (t : StreamId) (f : Stream → Stream) : (s.updStream b c t f).agenda = s.agenda :=
  by simp [State.updStream]
@[simp] theorem State.updStream_cur (b : BenchId) (c : CoreId) (t : StreamId) (f : Stream → Stream) : (s.updStream b c t f).cur = s.cur :=
  by simp [State.updStream]
@[simp] theorem State.updStream_ticks (b : BenchId) (c : CoreId) (t : StreamId) (f : Stream → Stream) : (s.updStream b c t f).ticks = s.ticks :=
  by simp [State.updStream]
@[simp] theorem State.updStream_out (b : BenchId) (c : CoreId) (t : StreamId) (f : Stream → Stream) : (s.updStream b c t f).out = s.out :=
  by simp [State.updStream]

/-! ### updPart -/

@[simp] theorem State.updPart_benches (p : PartId) (f : Part → Part) : (s.updPart p f).benches = s.benches := rfl
@[simp] theorem State.updPart_pools (p : PartId) (f : Part → Part) : (s.updPart p f).pools = s.pools := rfl
@[simp] theorem State.updPart_clocks (p : PartId) (f : Part → Part) : (s.updPart p f).clocks = s.clocks := rfl
@[simp] theorem State.updPart_mem (p : PartId) (f : Part → Part) : (s.updPart p f).mem = s.mem := rfl
@[simp] theorem State.updPart_llc (p : PartId) (f : Part → Part) : (s.updPart p f).llc = s.llc := rfl
@[simp] theorem State.updPart_tlb (p : PartId) (f : Part → Part) : (s.updPart p f).tlb = s.tlb := rfl
@[simp] theorem State.updPart_atomicMarks (p : PartId) (f : Part → Part) : (s.updPart p f).atomicMarks = s.atomicMarks := rfl
@[simp] theorem State.updPart_quads (p : PartId) (f : Part → Part) : (s.updPart p f).quads = s.quads := rfl
@[simp] theorem State.updPart_vfs (p : PartId) (f : Part → Part) : (s.updPart p f).vfs = s.vfs := rfl
@[simp] theorem State.updPart_ctxs (p : PartId) (f : Part → Part) : (s.updPart p f).ctxs = s.ctxs := rfl
@[simp] theorem State.updPart_scx (p : PartId) (f : Part → Part) : (s.updPart p f).scx = s.scx := rfl
@[simp] theorem State.updPart_links (p : PartId) (f : Part → Part) : (s.updPart p f).links = s.links := rfl
@[simp] theorem State.updPart_dev (p : PartId) (f : Part → Part) : (s.updPart p f).dev = s.dev := rfl
@[simp] theorem State.updPart_agenda (p : PartId) (f : Part → Part) : (s.updPart p f).agenda = s.agenda := rfl
@[simp] theorem State.updPart_cur (p : PartId) (f : Part → Part) : (s.updPart p f).cur = s.cur := rfl
@[simp] theorem State.updPart_ticks (p : PartId) (f : Part → Part) : (s.updPart p f).ticks = s.ticks := rfl
@[simp] theorem State.updPart_out (p : PartId) (f : Part → Part) : (s.updPart p f).out = s.out := rfl

/-! ### updWindow -/

@[simp] theorem State.updWindow_benches (p : PartId) (n : BitVec 6) (f : Window → Window) : (s.updWindow p n f).benches = s.benches := rfl
@[simp] theorem State.updWindow_pools (p : PartId) (n : BitVec 6) (f : Window → Window) : (s.updWindow p n f).pools = s.pools := rfl
@[simp] theorem State.updWindow_clocks (p : PartId) (n : BitVec 6) (f : Window → Window) : (s.updWindow p n f).clocks = s.clocks := rfl
@[simp] theorem State.updWindow_mem (p : PartId) (n : BitVec 6) (f : Window → Window) : (s.updWindow p n f).mem = s.mem := rfl
@[simp] theorem State.updWindow_llc (p : PartId) (n : BitVec 6) (f : Window → Window) : (s.updWindow p n f).llc = s.llc := rfl
@[simp] theorem State.updWindow_tlb (p : PartId) (n : BitVec 6) (f : Window → Window) : (s.updWindow p n f).tlb = s.tlb := rfl
@[simp] theorem State.updWindow_atomicMarks (p : PartId) (n : BitVec 6) (f : Window → Window) : (s.updWindow p n f).atomicMarks = s.atomicMarks := rfl
@[simp] theorem State.updWindow_quads (p : PartId) (n : BitVec 6) (f : Window → Window) : (s.updWindow p n f).quads = s.quads := rfl
@[simp] theorem State.updWindow_vfs (p : PartId) (n : BitVec 6) (f : Window → Window) : (s.updWindow p n f).vfs = s.vfs := rfl
@[simp] theorem State.updWindow_ctxs (p : PartId) (n : BitVec 6) (f : Window → Window) : (s.updWindow p n f).ctxs = s.ctxs := rfl
@[simp] theorem State.updWindow_scx (p : PartId) (n : BitVec 6) (f : Window → Window) : (s.updWindow p n f).scx = s.scx := rfl
@[simp] theorem State.updWindow_links (p : PartId) (n : BitVec 6) (f : Window → Window) : (s.updWindow p n f).links = s.links := rfl
@[simp] theorem State.updWindow_dev (p : PartId) (n : BitVec 6) (f : Window → Window) : (s.updWindow p n f).dev = s.dev := rfl
@[simp] theorem State.updWindow_agenda (p : PartId) (n : BitVec 6) (f : Window → Window) : (s.updWindow p n f).agenda = s.agenda := rfl
@[simp] theorem State.updWindow_cur (p : PartId) (n : BitVec 6) (f : Window → Window) : (s.updWindow p n f).cur = s.cur := rfl
@[simp] theorem State.updWindow_ticks (p : PartId) (n : BitVec 6) (f : Window → Window) : (s.updWindow p n f).ticks = s.ticks := rfl
@[simp] theorem State.updWindow_out (p : PartId) (n : BitVec 6) (f : Window → Window) : (s.updWindow p n f).out = s.out := rfl

/-! ### updVf -/

@[simp] theorem State.updVf_benches (v : VfId) (f : Vf → Vf) : (s.updVf v f).benches = s.benches := rfl
@[simp] theorem State.updVf_pools (v : VfId) (f : Vf → Vf) : (s.updVf v f).pools = s.pools := rfl
@[simp] theorem State.updVf_clocks (v : VfId) (f : Vf → Vf) : (s.updVf v f).clocks = s.clocks := rfl
@[simp] theorem State.updVf_mem (v : VfId) (f : Vf → Vf) : (s.updVf v f).mem = s.mem := rfl
@[simp] theorem State.updVf_llc (v : VfId) (f : Vf → Vf) : (s.updVf v f).llc = s.llc := rfl
@[simp] theorem State.updVf_tlb (v : VfId) (f : Vf → Vf) : (s.updVf v f).tlb = s.tlb := rfl
@[simp] theorem State.updVf_atomicMarks (v : VfId) (f : Vf → Vf) : (s.updVf v f).atomicMarks = s.atomicMarks := rfl
@[simp] theorem State.updVf_quads (v : VfId) (f : Vf → Vf) : (s.updVf v f).quads = s.quads := rfl
@[simp] theorem State.updVf_parts (v : VfId) (f : Vf → Vf) : (s.updVf v f).parts = s.parts := rfl
@[simp] theorem State.updVf_ctxs (v : VfId) (f : Vf → Vf) : (s.updVf v f).ctxs = s.ctxs := rfl
@[simp] theorem State.updVf_scx (v : VfId) (f : Vf → Vf) : (s.updVf v f).scx = s.scx := rfl
@[simp] theorem State.updVf_links (v : VfId) (f : Vf → Vf) : (s.updVf v f).links = s.links := rfl
@[simp] theorem State.updVf_dev (v : VfId) (f : Vf → Vf) : (s.updVf v f).dev = s.dev := rfl
@[simp] theorem State.updVf_agenda (v : VfId) (f : Vf → Vf) : (s.updVf v f).agenda = s.agenda := rfl
@[simp] theorem State.updVf_cur (v : VfId) (f : Vf → Vf) : (s.updVf v f).cur = s.cur := rfl
@[simp] theorem State.updVf_ticks (v : VfId) (f : Vf → Vf) : (s.updVf v f).ticks = s.ticks := rfl
@[simp] theorem State.updVf_out (v : VfId) (f : Vf → Vf) : (s.updVf v f).out = s.out := rfl

/-! ### updCtx -/

@[simp] theorem State.updCtx_benches (i : BitVec 2) (f : ColCtx → ColCtx) : (s.updCtx i f).benches = s.benches := rfl
@[simp] theorem State.updCtx_pools (i : BitVec 2) (f : ColCtx → ColCtx) : (s.updCtx i f).pools = s.pools := rfl
@[simp] theorem State.updCtx_clocks (i : BitVec 2) (f : ColCtx → ColCtx) : (s.updCtx i f).clocks = s.clocks := rfl
@[simp] theorem State.updCtx_mem (i : BitVec 2) (f : ColCtx → ColCtx) : (s.updCtx i f).mem = s.mem := rfl
@[simp] theorem State.updCtx_llc (i : BitVec 2) (f : ColCtx → ColCtx) : (s.updCtx i f).llc = s.llc := rfl
@[simp] theorem State.updCtx_tlb (i : BitVec 2) (f : ColCtx → ColCtx) : (s.updCtx i f).tlb = s.tlb := rfl
@[simp] theorem State.updCtx_atomicMarks (i : BitVec 2) (f : ColCtx → ColCtx) : (s.updCtx i f).atomicMarks = s.atomicMarks := rfl
@[simp] theorem State.updCtx_quads (i : BitVec 2) (f : ColCtx → ColCtx) : (s.updCtx i f).quads = s.quads := rfl
@[simp] theorem State.updCtx_parts (i : BitVec 2) (f : ColCtx → ColCtx) : (s.updCtx i f).parts = s.parts := rfl
@[simp] theorem State.updCtx_vfs (i : BitVec 2) (f : ColCtx → ColCtx) : (s.updCtx i f).vfs = s.vfs := rfl
@[simp] theorem State.updCtx_scx (i : BitVec 2) (f : ColCtx → ColCtx) : (s.updCtx i f).scx = s.scx := rfl
@[simp] theorem State.updCtx_links (i : BitVec 2) (f : ColCtx → ColCtx) : (s.updCtx i f).links = s.links := rfl
@[simp] theorem State.updCtx_dev (i : BitVec 2) (f : ColCtx → ColCtx) : (s.updCtx i f).dev = s.dev := rfl
@[simp] theorem State.updCtx_agenda (i : BitVec 2) (f : ColCtx → ColCtx) : (s.updCtx i f).agenda = s.agenda := rfl
@[simp] theorem State.updCtx_cur (i : BitVec 2) (f : ColCtx → ColCtx) : (s.updCtx i f).cur = s.cur := rfl
@[simp] theorem State.updCtx_ticks (i : BitVec 2) (f : ColCtx → ColCtx) : (s.updCtx i f).ticks = s.ticks := rfl
@[simp] theorem State.updCtx_out (i : BitVec 2) (f : ColCtx → ColCtx) : (s.updCtx i f).out = s.out := rfl

/-! ### setRun -/

@[simp] theorem State.setRun_benches (i : BitVec 2) (r : ColRun) : (s.setRun i r).benches = s.benches := rfl
@[simp] theorem State.setRun_pools (i : BitVec 2) (r : ColRun) : (s.setRun i r).pools = s.pools := rfl
@[simp] theorem State.setRun_clocks (i : BitVec 2) (r : ColRun) : (s.setRun i r).clocks = s.clocks := rfl
@[simp] theorem State.setRun_mem (i : BitVec 2) (r : ColRun) : (s.setRun i r).mem = s.mem := rfl
@[simp] theorem State.setRun_llc (i : BitVec 2) (r : ColRun) : (s.setRun i r).llc = s.llc := rfl
@[simp] theorem State.setRun_tlb (i : BitVec 2) (r : ColRun) : (s.setRun i r).tlb = s.tlb := rfl
@[simp] theorem State.setRun_atomicMarks (i : BitVec 2) (r : ColRun) : (s.setRun i r).atomicMarks = s.atomicMarks := rfl
@[simp] theorem State.setRun_quads (i : BitVec 2) (r : ColRun) : (s.setRun i r).quads = s.quads := rfl
@[simp] theorem State.setRun_parts (i : BitVec 2) (r : ColRun) : (s.setRun i r).parts = s.parts := rfl
@[simp] theorem State.setRun_vfs (i : BitVec 2) (r : ColRun) : (s.setRun i r).vfs = s.vfs := rfl
@[simp] theorem State.setRun_scx (i : BitVec 2) (r : ColRun) : (s.setRun i r).scx = s.scx := rfl
@[simp] theorem State.setRun_links (i : BitVec 2) (r : ColRun) : (s.setRun i r).links = s.links := rfl
@[simp] theorem State.setRun_dev (i : BitVec 2) (r : ColRun) : (s.setRun i r).dev = s.dev := rfl
@[simp] theorem State.setRun_agenda (i : BitVec 2) (r : ColRun) : (s.setRun i r).agenda = s.agenda := rfl
@[simp] theorem State.setRun_cur (i : BitVec 2) (r : ColRun) : (s.setRun i r).cur = s.cur := rfl
@[simp] theorem State.setRun_ticks (i : BitVec 2) (r : ColRun) : (s.setRun i r).ticks = s.ticks := rfl
@[simp] theorem State.setRun_out (i : BitVec 2) (r : ColRun) : (s.setRun i r).out = s.out := rfl

/-! ### updScx -/

@[simp] theorem State.updScx_benches (i : BitVec 2) (f : Scx → Scx) : (s.updScx i f).benches = s.benches := rfl
@[simp] theorem State.updScx_pools (i : BitVec 2) (f : Scx → Scx) : (s.updScx i f).pools = s.pools := rfl
@[simp] theorem State.updScx_clocks (i : BitVec 2) (f : Scx → Scx) : (s.updScx i f).clocks = s.clocks := rfl
@[simp] theorem State.updScx_mem (i : BitVec 2) (f : Scx → Scx) : (s.updScx i f).mem = s.mem := rfl
@[simp] theorem State.updScx_llc (i : BitVec 2) (f : Scx → Scx) : (s.updScx i f).llc = s.llc := rfl
@[simp] theorem State.updScx_tlb (i : BitVec 2) (f : Scx → Scx) : (s.updScx i f).tlb = s.tlb := rfl
@[simp] theorem State.updScx_atomicMarks (i : BitVec 2) (f : Scx → Scx) : (s.updScx i f).atomicMarks = s.atomicMarks := rfl
@[simp] theorem State.updScx_quads (i : BitVec 2) (f : Scx → Scx) : (s.updScx i f).quads = s.quads := rfl
@[simp] theorem State.updScx_parts (i : BitVec 2) (f : Scx → Scx) : (s.updScx i f).parts = s.parts := rfl
@[simp] theorem State.updScx_vfs (i : BitVec 2) (f : Scx → Scx) : (s.updScx i f).vfs = s.vfs := rfl
@[simp] theorem State.updScx_ctxs (i : BitVec 2) (f : Scx → Scx) : (s.updScx i f).ctxs = s.ctxs := rfl
@[simp] theorem State.updScx_links (i : BitVec 2) (f : Scx → Scx) : (s.updScx i f).links = s.links := rfl
@[simp] theorem State.updScx_dev (i : BitVec 2) (f : Scx → Scx) : (s.updScx i f).dev = s.dev := rfl
@[simp] theorem State.updScx_agenda (i : BitVec 2) (f : Scx → Scx) : (s.updScx i f).agenda = s.agenda := rfl
@[simp] theorem State.updScx_cur (i : BitVec 2) (f : Scx → Scx) : (s.updScx i f).cur = s.cur := rfl
@[simp] theorem State.updScx_ticks (i : BitVec 2) (f : Scx → Scx) : (s.updScx i f).ticks = s.ticks := rfl
@[simp] theorem State.updScx_out (i : BitVec 2) (f : Scx → Scx) : (s.updScx i f).out = s.out := rfl

/-! ### updDev -/

@[simp] theorem State.updDev_benches (f : Device → Device) : (s.updDev f).benches = s.benches := rfl
@[simp] theorem State.updDev_pools (f : Device → Device) : (s.updDev f).pools = s.pools := rfl
@[simp] theorem State.updDev_clocks (f : Device → Device) : (s.updDev f).clocks = s.clocks := rfl
@[simp] theorem State.updDev_mem (f : Device → Device) : (s.updDev f).mem = s.mem := rfl
@[simp] theorem State.updDev_llc (f : Device → Device) : (s.updDev f).llc = s.llc := rfl
@[simp] theorem State.updDev_tlb (f : Device → Device) : (s.updDev f).tlb = s.tlb := rfl
@[simp] theorem State.updDev_atomicMarks (f : Device → Device) : (s.updDev f).atomicMarks = s.atomicMarks := rfl
@[simp] theorem State.updDev_quads (f : Device → Device) : (s.updDev f).quads = s.quads := rfl
@[simp] theorem State.updDev_parts (f : Device → Device) : (s.updDev f).parts = s.parts := rfl
@[simp] theorem State.updDev_vfs (f : Device → Device) : (s.updDev f).vfs = s.vfs := rfl
@[simp] theorem State.updDev_ctxs (f : Device → Device) : (s.updDev f).ctxs = s.ctxs := rfl
@[simp] theorem State.updDev_scx (f : Device → Device) : (s.updDev f).scx = s.scx := rfl
@[simp] theorem State.updDev_links (f : Device → Device) : (s.updDev f).links = s.links := rfl
@[simp] theorem State.updDev_agenda (f : Device → Device) : (s.updDev f).agenda = s.agenda := rfl
@[simp] theorem State.updDev_cur (f : Device → Device) : (s.updDev f).cur = s.cur := rfl
@[simp] theorem State.updDev_ticks (f : Device → Device) : (s.updDev f).ticks = s.ticks := rfl
@[simp] theorem State.updDev_out (f : Device → Device) : (s.updDev f).out = s.out := rfl

/-! ### updQuad -/

@[simp] theorem State.updQuad_benches (q : QuadId) (f : Quad → Quad) : (s.updQuad q f).benches = s.benches := rfl
@[simp] theorem State.updQuad_pools (q : QuadId) (f : Quad → Quad) : (s.updQuad q f).pools = s.pools := rfl
@[simp] theorem State.updQuad_clocks (q : QuadId) (f : Quad → Quad) : (s.updQuad q f).clocks = s.clocks := rfl
@[simp] theorem State.updQuad_mem (q : QuadId) (f : Quad → Quad) : (s.updQuad q f).mem = s.mem := rfl
@[simp] theorem State.updQuad_llc (q : QuadId) (f : Quad → Quad) : (s.updQuad q f).llc = s.llc := rfl
@[simp] theorem State.updQuad_tlb (q : QuadId) (f : Quad → Quad) : (s.updQuad q f).tlb = s.tlb := rfl
@[simp] theorem State.updQuad_atomicMarks (q : QuadId) (f : Quad → Quad) : (s.updQuad q f).atomicMarks = s.atomicMarks := rfl
@[simp] theorem State.updQuad_parts (q : QuadId) (f : Quad → Quad) : (s.updQuad q f).parts = s.parts := rfl
@[simp] theorem State.updQuad_vfs (q : QuadId) (f : Quad → Quad) : (s.updQuad q f).vfs = s.vfs := rfl
@[simp] theorem State.updQuad_ctxs (q : QuadId) (f : Quad → Quad) : (s.updQuad q f).ctxs = s.ctxs := rfl
@[simp] theorem State.updQuad_scx (q : QuadId) (f : Quad → Quad) : (s.updQuad q f).scx = s.scx := rfl
@[simp] theorem State.updQuad_links (q : QuadId) (f : Quad → Quad) : (s.updQuad q f).links = s.links := rfl
@[simp] theorem State.updQuad_dev (q : QuadId) (f : Quad → Quad) : (s.updQuad q f).dev = s.dev := rfl
@[simp] theorem State.updQuad_agenda (q : QuadId) (f : Quad → Quad) : (s.updQuad q f).agenda = s.agenda := rfl
@[simp] theorem State.updQuad_cur (q : QuadId) (f : Quad → Quad) : (s.updQuad q f).cur = s.cur := rfl
@[simp] theorem State.updQuad_ticks (q : QuadId) (f : Quad → Quad) : (s.updQuad q f).ticks = s.ticks := rfl
@[simp] theorem State.updQuad_out (q : QuadId) (f : Quad → Quad) : (s.updQuad q f).out = s.out := rfl

/-! ### What the updated part reads as -/

@[simp] theorem State.gang?_setGang_self (b : BenchId) (g : Option Gang) : (s.setGang b g).gang? b = g := by
  simp [State.gang?, State.setGang]

@[simp] theorem State.gang?_setGang_ne (b b' : BenchId) (g : Option Gang) (h : b' ≠ b) :
    (s.setGang b g).gang? b' = s.gang? b' := by
  have : b.toNat ≠ b'.toNat := fun e => h (BitVec.eq_of_toNat_eq e).symm
  simp [State.gang?, State.setGang, this]

@[simp] theorem State.gang?_updGang_self (b : BenchId) (f : Gang → Gang) :
    (s.updGang b f).gang? b = (s.gang? b).map f := by
  unfold State.updGang
  split <;> simp_all

@[simp] theorem State.gang?_updGang_ne (b b' : BenchId) (f : Gang → Gang) (h : b' ≠ b) :
    (s.updGang b f).gang? b' = s.gang? b' := by
  unfold State.updGang
  split <;> simp [h]

/-- The gang after a change, where there is one. -/
theorem State.gang_updGang (b : BenchId) (f : Gang → Gang) (h : (s.gang? b).isSome) :
    (s.updGang b f).gang b = f (s.gang b) := by
  obtain ⟨g, hg⟩ := Option.isSome_iff_exists.mp h
  simp [State.gang, hg]

@[simp] theorem State.gang?_updCore_isSome (b b' : BenchId) (c : CoreId) (f : Core → Core) :
    ((s.updCore b c f).gang? b').isSome = (s.gang? b').isSome := by
  by_cases h : b' = b
  · subst h; simp [State.updCore]
  · simp [State.updCore, h]

@[simp] theorem State.gang?_updStream_isSome (b b' : BenchId) (c : CoreId) (t : StreamId) (f : Stream → Stream) :
    ((s.updStream b c t f).gang? b').isSome = (s.gang? b').isSome := by
  simp [State.updStream]

@[simp] theorem State.gang?_updCore_ne (b b' : BenchId) (c : CoreId) (f : Core → Core) (h : b' ≠ b) :
    (s.updCore b c f).gang? b' = s.gang? b' := by
  simp [State.updCore, h]

@[simp] theorem State.gang?_updStream_ne (b b' : BenchId) (c : CoreId) (t : StreamId) (f : Stream → Stream)
    (h : b' ≠ b) : (s.updStream b c t f).gang? b' = s.gang? b' := by
  simp [State.updStream, h]

/-- The core that was changed. -/
theorem State.core_updCore_self (b : BenchId) (c : CoreId) (f : Core → Core) (h : (s.gang? b).isSome) :
    (s.updCore b c f).core b c = f (s.core b c) := by
  unfold State.updCore State.core
  rw [State.gang_updGang s b _ h]
  simp

/-- Another core of the same gang. -/
theorem State.core_updCore_ne (b : BenchId) (c c' : CoreId) (f : Core → Core) (h : c' ≠ c) :
    (s.updCore b c f).core b c' = s.core b c' := by
  have hne : c.toNat ≠ c'.toNat := fun e => h (BitVec.eq_of_toNat_eq e).symm
  unfold State.updCore State.core State.gang
  rw [State.gang?_updGang_self]
  cases s.gang? b <;> simp [hne]

/-- A core of another bench. -/
theorem State.core_updCore_bench (b b' : BenchId) (c c' : CoreId) (f : Core → Core) (h : b' ≠ b) :
    (s.updCore b c f).core b' c' = s.core b' c' := by
  simp [State.core, State.gang, h]

/-- The stream that was changed. -/
theorem State.stream_updStream_self (b : BenchId) (c : CoreId) (t : StreamId) (f : Stream → Stream)
    (h : (s.gang? b).isSome) : (s.updStream b c t f).stream b c t = f (s.stream b c t) := by
  unfold State.updStream State.stream
  rw [State.core_updCore_self s b c _ h]
  simp

/-- Another stream of the same core. -/
theorem State.stream_updStream_ne (b : BenchId) (c : CoreId) (t t' : StreamId) (f : Stream → Stream) (h : t' ≠ t) :
    (s.updStream b c t f).stream b c t' = s.stream b c t' := by
  have hne : t.toNat ≠ t'.toNat := fun e => h (BitVec.eq_of_toNat_eq e).symm
  by_cases hg : (s.gang? b).isSome
  · unfold State.updStream State.stream
    rw [State.core_updCore_self s b c _ hg]
    simp [hne]
  · have : s.gang? b = none := by simpa using hg
    simp [State.updStream, State.updCore, State.updGang, this]

/-- A stream of another core, or of another bench. -/
theorem State.stream_updStream_core (b b' : BenchId) (c c' : CoreId) (t t' : StreamId) (f : Stream → Stream)
    (h : b' ≠ b ∨ c' ≠ c) : (s.updStream b c t f).stream b' c' t' = s.stream b' c' t' := by
  unfold State.updStream State.stream
  by_cases hb : b' = b
  · subst hb
    rw [State.core_updCore_ne s b' c c' _ (by simpa using h)]
  · rw [State.core_updCore_bench s b b' c c' _ hb]

/-- Two changes of one stream are one. -/
theorem State.updStream_updStream (b : BenchId) (c : CoreId) (t : StreamId) (f g : Stream → Stream) :
    (s.updStream b c t f).updStream b c t g = s.updStream b c t fun st => g (f st) := by
  unfold State.updStream State.updCore State.updGang
  cases h : s.gang? b with
  | none => simp [h]
  | some g => simp [State.setGang, State.gang?, Vector.set_set]

@[simp] theorem State.part_updPart_self (p : PartId) (f : Part → Part) : (s.updPart p f).part p = f (s.part p) := by
  simp [State.updPart, State.part]

@[simp] theorem State.part_updPart_ne (p p' : PartId) (f : Part → Part) (h : p' ≠ p) :
    (s.updPart p f).part p' = s.part p' := by
  have : p.toNat ≠ p'.toNat := fun e => h (BitVec.eq_of_toNat_eq e).symm
  simp [State.updPart, State.part, this]

@[simp] theorem State.vf_updVf_self (v : VfId) (f : Vf → Vf) (h : v.toNat < 96) : (s.updVf v f).vf v = f (s.vf v) := by
  simp [State.updVf, State.vf, h]

@[simp] theorem State.colRun_setRun_self (i : BitVec 2) (r : ColRun) : (s.setRun i r).colRun i = some r := by
  simp [State.setRun, State.updCtx, State.colRun]

/-! ### Registers of a stream -/

variable (st : Stream)

/-- A register that was written; s0 stays zero. -/
theorem Stream.sreg_setS_self (d : BitVec 5) (v : Word) : (st.setS d v).sreg d = if d = 0 then 0 else v := by
  unfold Stream.setS Stream.sreg
  split <;> simp

/-- Another register. -/
theorem Stream.sreg_setS_ne (d r : BitVec 5) (v : Word) (h : r ≠ d) : (st.setS d v).sreg r = st.sreg r := by
  have hne : d.toNat ≠ r.toNat := fun e => h (BitVec.eq_of_toNat_eq e).symm
  unfold Stream.sreg
  by_cases hd : d = 0
  · subst hd; rfl
  · rw [Stream.setS, if_neg hd]; simp [hne]

@[simp] theorem Stream.setS_zero (v : Word) : st.setS 0 v = st := rfl
@[simp] theorem Stream.setS_pc (d : BitVec 5) (v : Word) : (st.setS d v).pc = st.pc := by unfold Stream.setS; split <;> rfl
@[simp] theorem Stream.setS_f (d : BitVec 5) (v : Word) : (st.setS d v).f = st.f := by unfold Stream.setS; split <;> rfl
@[simp] theorem Stream.setS_b (d : BitVec 5) (v : Word) : (st.setS d v).b = st.b := by unfold Stream.setS; split <;> rfl
@[simp] theorem Stream.setS_loops (d : BitVec 5) (v : Word) : (st.setS d v).loops = st.loops := by
  unfold Stream.setS; split <;> rfl
@[simp] theorem Stream.setS_wait (d : BitVec 5) (v : Word) : (st.setS d v).wait = st.wait := by
  unfold Stream.setS; split <;> rfl
@[simp] theorem Stream.setS_status (d : BitVec 5) (v : Word) : (st.setS d v).status = st.status := by
  unfold Stream.setS; split <;> rfl
@[simp] theorem Stream.setF_s (d : BitVec 3) (v : Bool) : (st.setF d v).s = st.s := by unfold Stream.setF; split <;> rfl
@[simp] theorem Stream.setF_pc (d : BitVec 3) (v : Bool) : (st.setF d v).pc = st.pc := by unfold Stream.setF; split <;> rfl
@[simp] theorem Stream.setF_loops (d : BitVec 3) (v : Bool) : (st.setF d v).loops = st.loops := by
  unfold Stream.setF; split <;> rfl
@[simp] theorem Stream.setB_s (d : BitVec 3) (v : Word) : (st.setB d v).s = st.s := rfl
@[simp] theorem Stream.setB_pc (d : BitVec 3) (v : Word) : (st.setB d v).pc = st.pc := rfl
@[simp] theorem Stream.setB_loops (d : BitVec 3) (v : Word) : (st.setB d v).loops = st.loops := rfl

/-- A flag that was written; f0 stays true. -/
theorem Stream.flag_setF_self (d : BitVec 3) (v : Bool) : (st.setF d v).flag d.toNat = if d = 0 then true else v := by
  unfold Stream.setF Stream.flag
  split
  · next h => simp [h]
  · next h =>
    have h0 : d.toNat ≠ 0 := fun e => h (BitVec.eq_of_toNat_eq e)
    have h8 : d.toNat < 8 := d.isLt
    cases v <;> simp [h0, h8]

/-- Another flag. -/
theorem Stream.flag_setF_ne (d r : BitVec 3) (v : Bool) (h : r ≠ d) : (st.setF d v).flag r.toNat = st.flag r.toNat := by
  have hne : r.toNat ≠ d.toNat := fun e => h (BitVec.eq_of_toNat_eq e)
  unfold Stream.setF Stream.flag
  split
  · rfl
  · have h8 : r.toNat < 8 := r.isLt
    have : r.toNat - d.toNat = 0 → ¬ d.toNat ≤ r.toNat := by omega
    cases v <;> simp [h8] <;> grind

end Sys2Proof.Machine
end

