-- ==== Sys2Proof/Laws/Memory.lean ====
section
/-! SUPPORT. The laws of memory: a byte read after a write, the canonical form, which every operation on device memory
keeps, and what the operations leave alone. -/

namespace Sys2Proof.Machine

/-! ### One byte -/

/-- A lower bound may be lowered. -/
theorem Memory.above_mono {lo lo' : Nat} (m : List Host.Cell) (h : lo' ≤ lo) (hm : Memory.above lo m = true) :
    Memory.above lo' m = true := by
  cases m with
  | nil => rfl
  | cons y r =>
    simp only [Memory.above, Bool.and_eq_true, decide_eq_true_eq] at hm ⊢
    exact ⟨⟨by omega, hm.1.2⟩, hm.2⟩

/-- Every listed address is at or above the bound. -/
theorem Memory.le_of_above {lo : Nat} (m : List Host.Cell) (hm : Memory.above lo m = true) : ∀ y ∈ m, lo ≤ y.1 := by
  induction m generalizing lo with
  | nil => simp
  | cons y r ih =>
    simp [Memory.above] at hm
    intro z hz
    rcases List.mem_cons.mp hz with rfl | hz
    · exact hm.1.1
    · have := ih hm.2 z hz; omega

/-- An address below the bound reads zero. -/
theorem Memory.get_below {lo a : Nat} (m : List Host.Cell) (hm : Memory.above lo m = true) (h : a < lo) :
    Memory.get m a = 0 := by
  induction m generalizing lo with
  | nil => rfl
  | cons y r ih =>
    simp [Memory.above] at hm
    have : a ≠ y.1 := by omega
    simp [Memory.get, this]
    exact ih hm.2 (by omega)

/-- A write keeps the canonical form above a bound. -/
theorem Memory.above_set {lo : Nat} (m : List Host.Cell) (a : Nat) (v : Byte) (hm : Memory.above lo m = true)
    (h : lo ≤ a) : Memory.above lo (Memory.set m a v) = true := by
  induction m generalizing lo with
  | nil => by_cases hv : v = 0#8 <;> simp [Memory.set, Memory.above, hv, h]
  | cons y r ih =>
    simp only [Memory.above, Bool.and_eq_true, decide_eq_true_eq] at hm
    unfold Memory.set
    split
    · split
      · simpa [Memory.above] using hm
      · next hlt hv =>
        simp only [Memory.above, Bool.and_eq_true, decide_eq_true_eq]
        exact ⟨⟨h, by simpa using hv⟩, ⟨⟨by omega, hm.1.2⟩, hm.2⟩⟩
    · split
      · next hlt he =>
        split
        · exact Memory.above_mono r (by omega) hm.2
        · next hv => subst he; simp [Memory.above, hm]; simpa using hv
      · simp [Memory.above, hm]
        exact ⟨by simpa using hm.1.2, ih hm.2 (by omega)⟩

/-- A write keeps the canonical form. -/
theorem Memory.wf_set (m : List Host.Cell) (a : Nat) (v : Byte) (h : Memory.wf m = true) :
    Memory.wf (Memory.set m a v) = true := Memory.above_set m a v h (Nat.zero_le a)

/-- A write of several bytes keeps the canonical form. -/
theorem Memory.wf_write (m : List Host.Cell) (a n v : Nat) (h : Memory.wf m = true) :
    Memory.wf (Memory.write m a n v) = true := by
  induction n generalizing m a v with
  | zero => exact h
  | succ n ih => exact ih _ _ _ (Memory.wf_set m a _ h)

/-- A filter keeps the canonical form above a bound. -/
theorem Memory.above_filter {lo : Nat} (m : List Host.Cell) (p : Host.Cell → Bool) (h : Memory.above lo m = true) :
    Memory.above lo (m.filter p) = true := by
  induction m generalizing lo with
  | nil => rfl
  | cons y r ih =>
    simp only [Memory.above, Bool.and_eq_true, decide_eq_true_eq] at h
    unfold List.filter
    split
    · simp [Memory.above, h, ih h.2]; simpa using h.1.2
    · exact Memory.above_mono _ (by omega) (ih h.2)

/-- A filter keeps the canonical form. -/
theorem Memory.wf_filter (m : List Host.Cell) (p : Host.Cell → Bool) (h : Memory.wf m = true) :
    Memory.wf (m.filter p) = true := Memory.above_filter m p h

/-- The byte that was written. -/
theorem Memory.get_set_self {lo : Nat} (m : List Host.Cell) (a : Nat) (v : Byte) (hm : Memory.above lo m = true) :
    Memory.get (Memory.set m a v) a = v := by
  induction m generalizing lo with
  | nil => by_cases hv : v = 0#8 <;> simp [Memory.set, Memory.get, hv]
  | cons y r ih =>
    simp only [Memory.above, Bool.and_eq_true, decide_eq_true_eq] at hm
    unfold Memory.set
    split
    · next hlt =>
      split
      · next hv =>
        have := Memory.get_below (lo := y.1 + 1) r hm.2 (a := a) (by omega)
        simp [Memory.get, Nat.ne_of_lt hlt, this, hv]
      · simp [Memory.get]
    · next hlt =>
      split
      · next he =>
        split
        · next hv => rw [Memory.get_below r hm.2 (by omega)]; simp [hv]
        · simp [Memory.get]
      · next he => simp [Memory.get, he, ih hm.2]

/-- Another byte. -/
theorem Memory.get_set_ne (m : List Host.Cell) (a b : Nat) (v : Byte) (h : b ≠ a) :
    Memory.get (Memory.set m a v) b = Memory.get m b := by
  induction m with
  | nil => by_cases hv : v = 0#8 <;> simp [Memory.set, Memory.get, hv, h]
  | cons y r ih =>
    unfold Memory.set
    split
    · split <;> simp [Memory.get, h]
    · split
      · next he => subst he; split <;> simp [Memory.get, h]
      · simp [Memory.get, ih]

/-! ### Device memory keeps its canonical form -/

theorem State.reset_memWf : State.reset.memWf := rfl

theorem storeCode_memWf (s : State) (r : FmtRegion) (pa : Nat) (c : BitVec 6) (h : s.memWf) :
    (storeCode s r pa c).memWf := Memory.wf_write _ _ _ _ h

@[simp] theorem llcUpdate_mem (s : State) (l : LlcLine) : (llcUpdate s l).mem = s.mem := rfl

theorem physSet_memWf (s : State) (pa : Nat) (v : Byte) (h : s.memWf) : (physSet s pa v).memWf := by
  unfold physSet
  split
  · exact Memory.wf_set _ _ _ h
  · split
    · split
      · exact h
      · dsimp only
        split
        · split
          · exact h
          · exact h
        · exact storeCode_memWf _ _ _ _ h
    · exact h

theorem physWrite_memWf (s : State) (pa n v : Nat) (h : s.memWf) : (physWrite s pa n v).memWf := by
  induction n generalizing s pa v with
  | zero => exact h
  | succ n ih => exact ih _ _ _ (physSet_memWf s pa _ h)

@[simp] theorem countLost_mem (s : State) (p : PartId) : (countLost s p).mem = s.mem := rfl

/-- A write of several bytes of HBM keeps the canonical form. -/
theorem State.memWf_write (s : State) (a n v : Nat) (h : s.memWf) :
    { s with mem := Memory.write s.mem a n v }.memWf := Memory.wf_write _ _ _ _ h

/-- What a trigger can do: it changes the device block alone (R326). -/
theorem fireTrigger_state (s : State) (n : Nat) : ∃ d, fireTrigger s n = { s with dev := d } := by
  unfold fireTrigger
  dsimp only
  split
  exacts [⟨_, rfl⟩, ⟨s.dev, rfl⟩]

@[simp] theorem fireTrigger_mem (s : State) (n : Nat) : (fireTrigger s n).mem = s.mem := by
  obtain ⟨d, h⟩ := fireTrigger_state s n
  rw [h]

theorem fireTrigger_memWf (s : State) (n : Nat) (h : s.memWf) : (fireTrigger s n).memWf := by
  unfold State.memWf; rw [fireTrigger_mem]; exact h

theorem watch_memWf (s : State) (k : AccKind) (pa n : Nat) (h : s.memWf) : (watch s k pa n).memWf := by
  unfold watch
  split
  · exact fireTrigger_memWf _ _ h
  · exact h

/-- A fold of operations that keep the canonical form keeps it. -/
theorem foldl_memWf {α : Type} (f : State → α → State) (hf : ∀ s a, s.memWf → (f s a).memWf) (l : List α) (s : State)
    (h : s.memWf) : (l.foldl f s).memWf := by
  induction l generalizing s with
  | nil => exact h
  | cons a l ih => exact ih _ (hf s a h)

/-! ### What the LLC's own operations can do -/

/-- What serving an access at its home slice can change: memory, in canonical form still, the lines of the LLC, the
partitions' counters, and the device block, whose snapshot a watch may fire. -/
def Served (s s' : State) : Prop :=
  ∃ m l p d, s' = { s with mem := m, llc := l, parts := p, dev := d } ∧ (s.memWf → Memory.wf m = true)

theorem Served.refl (s : State) : Served s s := ⟨s.mem, s.llc, s.parts, s.dev, rfl, id⟩

theorem Served.trans {s s' s'' : State} (h : Served s s') (h' : Served s' s'') : Served s s'' := by
  obtain ⟨m, l, p, d, rfl, hm⟩ := h
  obtain ⟨m', l', p', d', rfl, hm'⟩ := h'
  exact ⟨m', l', p', d', rfl, fun hs => hm' (hm hs)⟩

theorem Served.memWf {s s' : State} (h : Served s s') (hs : s.memWf) : s'.memWf := by
  obtain ⟨m, l, p, d, rfl, hm⟩ := h
  exact hm hs

/-- The lines of the LLC are served. -/
theorem Served.llc (s : State) (l : List LlcLine) : Served s { s with llc := l } := ⟨_, _, _, s.dev, rfl, id⟩

/-- A fold of operations each of which only serves. -/
theorem foldl_served {α : Type} (f : State → α → State) (hf : ∀ s a, Served s (f s a)) (l : List α) (s : State) :
    Served s (l.foldl f s) := by
  induction l generalizing s with
  | nil => exact Served.refl s
  | cons a l ih => exact Served.trans (hf s a) (ih _)

/-- A write of several bytes of HBM only serves. -/
theorem write_served (s : State) (a n v : Nat) : Served s { s with mem := Memory.write s.mem a n v } :=
  ⟨_, _, _, s.dev, rfl, fun h => Memory.wf_write _ _ _ _ h⟩

theorem countLost_served (s : State) (p : PartId) : Served s (countLost s p) := ⟨_, _, _, s.dev, rfl, id⟩

/-- A watch only serves (R325). -/
theorem watch_served (s : State) (k : AccKind) (pa n : Nat) : Served s (watch s k pa n) := by
  unfold watch
  split
  · obtain ⟨d, h⟩ := fireTrigger_state s 3
    exact ⟨s.mem, s.llc, s.parts, d, h, id⟩
  · exact Served.refl s

theorem storeCode_served (s : State) (r : FmtRegion) (pa : Nat) (c : BitVec 6) : Served s (storeCode s r pa c) := by
  obtain ⟨m, l, p, d, h, -⟩ := watch_served s .update (groupOf r pa).1 3
  refine ⟨(storeCode s r pa c).mem, l, p, d, ?_, fun hs => storeCode_memWf _ _ _ _ hs⟩
  unfold storeCode
  simp only [h]

theorem writeBackLine_served (s : State) (l : LlcLine) : Served s (writeBackLine s l) := by
  unfold writeBackLine
  split
  · split
    · exact foldl_served _ (fun s i => by split; exacts [storeCode_served _ _ _ _, Served.refl s]) _ _
    · exact Served.refl s
  · exact Served.refl s

theorem storageLook_served (s : State) (pa n : Nat) : Served s (storageLook s pa n) := by
  unfold storageLook
  split
  · exact Served.refl s
  · split
    · exact watch_served _ _ _ _
    · exact Served.refl s

theorem llcHit_served (s : State) (p : PartId) (line : Nat) : Served s (llcHit s p line) := by
  unfold llcHit
  split
  · exact Served.refl s
  · split
    · exact Served.refl s
    · exact ⟨_, _, _, s.dev, rfl, id⟩

theorem spillAccess_served (s : State) (p : PartId) (k : AccKind) (line : Nat) : Served s (spillAccess s p k line) :=
  ((llcHit_served _ _ _).trans (llcHit_served _ _ _)).trans (watch_served _ _ _ _)

theorem spill_served (s : State) (p : PartId) (line : Nat) (c : Clock) : Served s (spill s p line c) := by
  unfold spill
  dsimp only
  split
  · exact countLost_served s p
  · refine Served.trans ?_ ((spillAccess_served _ p .update line).trans (write_served _ _ 256 _))
    split
    · exact countLost_served s p
    · exact Served.refl s

theorem unspill_served (s : State) (p : PartId) (line : Nat) : Served s (unspill s p line) :=
  (spillAccess_served s p .write line).trans (write_served _ _ 256 _)

theorem spillLook_served (s : State) (line : Nat) (p : PartId) : Served s (spillLook s line p) := by
  unfold spillLook
  split
  · exact Served.refl s
  · exact spillAccess_served s p .read line

theorem carriedLook_served (s : State) (p : PartId) (line : Nat) : Served s (carriedLook s p line) := by
  unfold carriedLook
  split
  · exact Served.refl s
  · exact spillLook_served s line p

theorem llcEvict_served (s : State) (l : LlcLine) : Served s (llcEvict s l) :=
  (writeBackLine_served s l).trans ((foldl_served (fun s (y : PartId × Clock) => spill s y.1 l.line y.2)
    (fun _ _ => spill_served _ _ _ _) _ _).trans (Served.llc _ _))

/-- What a lookup in the LLC can do (R90). -/
theorem llcTouch_served (s : State) (p : Option PartId) (line : Nat) : Served s (llcTouch s p line) := by
  unfold llcTouch
  split
  · exact Served.refl s
  · split
    · exact llcHit_served _ _ _
    · dsimp only
      split
      · exact Served.refl s
      · exact (((foldl_served llcEvict llcEvict_served _ s).trans
          (foldl_served (spillLook · line) (fun _ _ => spillLook_served _ _ _) _ _)).trans
          (foldl_served (fun s (y : PartId × Clock) => unspill s y.1 line) (fun _ _ => unspill_served _ _ _) _ _)).trans
          ((storageLook_served _ _ _).trans (Served.llc _ _))

theorem llcTouch_memWf (s : State) (p : Option PartId) (line : Nat) (h : s.memWf) : (llcTouch s p line).memWf :=
  (llcTouch_served s p line).memWf h

theorem spill_memWf (s : State) (p : PartId) (line : Nat) (c : Clock) (h : s.memWf) : (spill s p line c).memWf :=
  (spill_served s p line c).memWf h

theorem unspill_memWf (s : State) (p : PartId) (line : Nat) (h : s.memWf) : (unspill s p line).memWf :=
  (unspill_served s p line).memWf h

theorem llcEvict_memWf (s : State) (l : LlcLine) (h : s.memWf) : (llcEvict s l).memWf := (llcEvict_served s l).memWf h

theorem setCarried_memWf (s : State) (p : PartId) (line : Nat) (c : Clock) (h : s.memWf) :
    (setCarried s p line c).memWf := by
  unfold setCarried
  split
  · exact h
  · exact spill_memWf _ _ _ _ h

theorem clearCarried_memWf (s : State) (p : PartId) (line : Nat) (h : s.memWf) : (clearCarried s p line).memWf := by
  unfold clearCarried
  split
  · exact h
  · split
    · exact unspill_memWf _ _ _ h
    · exact h

/-! ### Accesses -/

theorem llcServe_served (s : State) (p : Option PartId) (pa n : Nat) : Served s (llcServe s p pa n) := by
  unfold llcServe
  dsimp only
  split
  · exact llcTouch_served _ _ _
  · exact (llcTouch_served _ _ _).trans (storageLook_served _ _ _)

/-- What an access's passage of its home slice can do (R90, R325). -/
theorem atHome_served (s : State) (p : Option PartId) (k : AccKind) (pa n : Nat) : Served s (atHome s p k pa n) := by
  refine Served.trans ?_ (watch_served _ k pa n)
  split
  · exact llcTouch_served _ _ _
  · exact llcServe_served _ _ _ _

theorem atHome_memWf (s : State) (p : Option PartId) (k : AccKind) (pa n : Nat) (h : s.memWf) :
    (atHome s p k pa n).memWf := (atHome_served s p k pa n).memWf h

/-- A read of a table only serves (R90, R93). -/
theorem tableRead_served (p : Option PartId) (s : State) (pa : Nat) : Served s (tableRead p s pa).2 := by
  unfold tableRead
  split
  · exact atHome_served _ _ _ _ _
  · exact Served.refl s

/-- A walk whose table reads only serve only serves, whether or not it finds a leaf. -/
theorem walk_served (rd : State → Nat → Walked Word) (hrd : ∀ s a, Served s (rd s a).2) (stage va : Nat)
    (ls : List (Nat × Nat × Nat)) (s : State) (table : Nat) : Served s (walk rd stage va s table ls).2 := by
  induction ls generalizing s table with
  | nil => exact Served.refl s
  | cons x ls ih =>
    obtain ⟨lv, lo, n⟩ := x
    unfold walk
    have h := hrd s (table + 8 * (va / 2 ^ lo % 2 ^ n))
    split
    · next hr => rw [hr] at h; exact h
    · next hr =>
      rw [hr] at h
      refine h.trans ?_
      dsimp only
      split
      · exact Served.refl _
      · split
        · split <;> exact Served.refl _
        · split
          · exact Served.refl _
          · exact ih _ _

theorem stage2_served (s : State) (w : Who) (ipa : Nat) : Served s (stage2 s w ipa).2 := by
  unfold stage2
  split
  · exact walk_served _ (tableRead_served _) _ _ _ _ _
  · exact Served.refl s

theorem guestTableRead_served (w : Who) (s : State) (a : Nat) : Served s (guestTableRead w s a).2 := by
  unfold guestTableRead
  have h := stage2_served s w a
  split
  · next hr => rw [hr] at h; exact h
  · next hr =>
    rw [hr] at h
    refine h.trans ?_
    split
    · exact tableRead_served _ _ _
    · exact Served.refl _

theorem twoStage_served (s : State) (w : Who) (root1 : Word) (va : Nat) : Served s (twoStage s w root1 va).2 := by
  unfold twoStage
  have h := walk_served _ (guestTableRead_served w) 0 va walkLevels s root1.toNat
  split
  · next hr => rw [hr] at h; exact h
  · next l1 s1 hr =>
    rw [hr] at h
    have h2 := stage2_served s1 w l1.pa
    split
    · next hr2 => rw [hr2] at h2; exact h.trans h2
    · next hr2 => rw [hr2] at h2; exact h.trans h2

/-- What a translation can do, whether or not it finds a leaf: it changes nothing but the TLB and, where it walks, what
serving its table reads changes (R93, R94). -/
theorem translation_state (s : State) (w : Who) (va : Word) :
    ∃ u t, Served s u ∧ (translation s w va).2 = { u with tlb := t } := by
  have self : ∃ u t, Served s u ∧ s = { u with tlb := t } := ⟨s, s.tlb, Served.refl s, rfl⟩
  unfold translation
  split
  · split <;> exact self
  · next r _ =>
    split
    · exact self
    · split
      · exact self
      · split
        · exact self
        · have h := twoStage_served s w r va.toNat
          split
          · next hr => rw [hr] at h; exact ⟨_, _, h, rfl⟩
          · next hr => rw [hr] at h; exact ⟨_, _, h, rfl⟩

/-- A translation that finds a leaf. -/
theorem translate_state (s s' : State) (w : Who) (va : Word) (l : Leaf) (h : translate s w va = .ok (l, s')) :
    ∃ u t, Served s u ∧ s' = { u with tlb := t } := by
  have ht := translation_state s w va
  unfold translate at h
  split at h
  · cases h
  · next hr => cases h; rw [hr] at ht; exact ht

/-- What the race check can do: its access to the shadow is served, and it changes nothing else but the shadow, in memory
and in its marks (R110). -/
theorem raceCheck_state (s s' : State) (p : PartId) (b : Option BenchId) (pa : Nat) (wr at' : Bool)
    (h : raceCheck s p b pa wr at' = .ok s') :
    ∃ u m k, Served s u ∧ s' = { u with mem := m, atomicMarks := k } ∧ (u.memWf → Memory.wf m = true) := by
  unfold raceCheck at h
  extract_lets pt sa old sh marks skip slot wbad rbad at h
  split at h
  · cases h
  · split at h
    · cases h
    · split at h
      · cases h
      · split at h
        · cases h
          have hu := atHome_served s (some p) .read sa 32
          exact ⟨_, _, (atHome s (some p) .read sa 32).atomicMarks, hu, rfl, id⟩
        · extract_lets at h
          have hu := atHome_served s (some p) .update sa 32
          split at h
          · cases h; exact ⟨_, _, _, hu, rfl, fun hm => Memory.wf_write _ _ _ _ hm⟩
          · split at h
            · cases h; exact ⟨_, _, _, hu, rfl, fun hm => Memory.wf_write _ _ _ _ hm⟩
            · cases h; exact ⟨_, _, _, hu, rfl, fun hm => Memory.wf_write _ _ _ _ hm⟩

/-- What can happen on the way to an access's home slice: lookups served, and the TLB and the shadow advanced
(R93-R95, R110). -/
def Passed (s s' : State) : Prop :=
  ∃ m l p d t a, s' = { s with mem := m, llc := l, parts := p, dev := d, tlb := t, atomicMarks := a } ∧
    (s.memWf → Memory.wf m = true)

theorem Served.passed {s s' : State} (h : Served s s') : Passed s s' := by
  obtain ⟨m, l, p, d, rfl, hm⟩ := h
  exact ⟨m, l, p, d, s.tlb, s.atomicMarks, rfl, hm⟩

theorem Passed.trans {s s' s'' : State} (h : Passed s s') (h' : Passed s' s'') : Passed s s'' := by
  obtain ⟨m, l, p, d, t, a, rfl, hm⟩ := h
  obtain ⟨m', l', p', d', t', a', rfl, hm'⟩ := h'
  exact ⟨m', l', p', d', t', a', rfl, fun hs => hm' (hm hs)⟩

theorem Passed.memWf {s s' : State} (h : Passed s s') (hs : s.memWf) : s'.memWf := by
  obtain ⟨m, l, p, d, t, a, rfl, hm⟩ := h
  exact hm hs

theorem translation_passed (s : State) (w : Who) (va : Word) : Passed s (translation s w va).2 := by
  obtain ⟨u, t, h, e⟩ := translation_state s w va
  rw [e]
  exact h.passed.trans ⟨_, _, _, _, _, _, rfl, id⟩

theorem translate_passed (s s' : State) (w : Who) (va : Word) (l : Leaf) (h : translate s w va = .ok (l, s')) :
    Passed s s' := by
  obtain ⟨u, t, hu, rfl⟩ := translate_state _ _ _ _ _ h
  exact hu.passed.trans ⟨_, _, _, _, _, _, rfl, id⟩

theorem raceCheck_passed (s s' : State) (p : PartId) (b : Option BenchId) (pa : Nat) (wr at' : Bool)
    (h : raceCheck s p b pa wr at' = .ok s') : Passed s s' := by
  obtain ⟨u, m, k, hu, rfl, hm⟩ := raceCheck_state _ _ _ _ _ _ _ h
  exact hu.passed.trans ⟨_, _, _, _, _, _, rfl, hm⟩

/-- What an access can do before its home slice performs it (R93-R95, R110). -/
theorem access_state (s s' : State) (w : Who) (va : Word) (k : AccKind) (at' : Bool) (pa : Nat)
    (h : access s w va k at' = .ok (pa, s')) : Passed s s' := by
  unfold access at h
  split at h
  · cases h
  · next l s1 ht =>
    have hp := translate_passed _ _ _ _ _ ht
    extract_lets okPerm at h
    split at h
    · cases h
    · split at h
      · extract_lets pt at h
        split at h
        · split at h
          · cases h
          · split at h
            · cases h; exact hp
            · split at h
              · cases h
              · next hr => cases h; exact hp.trans (raceCheck_passed _ _ _ _ _ _ _ hr)
        · cases h; exact hp
      · cases h; exact hp

/-- What an access that is not performed can do (R90, R94, R325). -/
theorem missed_state (s : State) (w : Who) (va : Word) (raced : Bool) : Passed s (missed s w va raced) := by
  have h := translation_passed s w va
  unfold missed
  split
  · next hr _ =>
    rw [hr] at h
    split
    · exact h.trans (atHome_served _ _ _ _ _).passed
    · exact h
  · next s1 hr _ => rw [hr] at h; exact h

theorem missed_memWf (s : State) (w : Who) (va : Word) (raced : Bool) (h : s.memWf) : (missed s w va raced).memWf :=
  (missed_state s w va raced).memWf h

theorem access_memWf (s s' : State) (w : Who) (va : Word) (k : AccKind) (at' : Bool) (pa : Nat)
    (h : access s w va k at' = .ok (pa, s')) (hs : s.memWf) : s'.memWf := (access_state _ _ _ _ _ _ _ h).memWf hs

theorem homeAccess_memWf (s s' : State) (w : Who) (va : Word) (n : Nat) (k : AccKind) (at' : Bool) (pa : Nat)
    (h : homeAccess s w va n k at' = .ok (pa, s')) (hs : s.memWf) : s'.memWf := by
  unfold homeAccess at h
  split at h
  · cases h
  · next ha =>
    cases h
    exact atHome_memWf _ _ _ _ _ (access_memWf _ _ _ _ _ _ _ ha hs)

theorem fetchWord_memWf (s s' : State) (w : Who) (a : Word) (i : IWord) (h : fetchWord s w a = some (i, s'))
    (hs : s.memWf) : s'.memWf := by
  unfold fetchWord at h
  split at h
  · cases h
  · split at h
    · cases h
    · next ha =>
      simp only [Option.some.injEq, Prod.mk.injEq] at h
      obtain ⟨-, rfl⟩ := h
      exact homeAccess_memWf _ _ _ _ _ _ _ _ ha hs

/-! ### Looks: accesses of which only the trace at the home slices stays -/

theorem vfMissed_memWf (s : State) (sp : Space) (a : Nat) (h : s.memWf) : (vfMissed s sp a).memWf :=
  missed_memWf _ _ _ _ h

theorem fetchMissed_memWf (s : State) (w : Who) (a : Word) (h : s.memWf) : (fetchMissed s w a).memWf := by
  unfold fetchMissed
  split
  · exact missed_memWf _ _ _ _ h
  · exact h

/-- A look at a word of code ends as its fetch does, with or without a word. -/
theorem fetchLook_memWf (s : State) (w : Who) (a : Word) (h : s.memWf) : (fetchLook s w a).memWf := by
  unfold fetchLook
  split
  · next hw => exact fetchWord_memWf _ _ _ _ _ hw h
  · exact fetchMissed_memWf _ _ _ h

theorem bodyLook_memWf (w : Who) : ∀ (n : Nat) (s : State) (a : Word), s.memWf → (bodyLook s w a n).memWf
  | 0, _, _, h => h
  | n + 1, s, a, h => bodyLook_memWf w n _ _ (fetchLook_memWf s w a h)

theorem homedLook_memWf (s : State) (sp : Space) (d : List Word) (h : s.memWf) : (homedLook s sp d).memWf :=
  foldl_memWf _ (fun s _ hs => vfMissed_memWf s sp _ hs) _ s h

theorem lvtLook_memWf (s : State) (h : s.memWf) : (lvtLook s).memWf := by
  unfold lvtLook
  split
  · exact foldl_memWf _ (fun s _ hs => atHome_memWf s _ _ _ _ hs) _ s h
  · exact h

end Sys2Proof.Machine
end

