-- ==== Sys2Proof/Laws/Faults.lean ====
section
/-! SUPPORT. The laws of taking a fault and of going on after a word: what each can do, and that it keeps the canonical form
of memory. -/

namespace Sys2Proof.Machine

variable (s : State)

/-! ### The halt line (R132) -/

/-- A trigger changes the device block alone. -/
theorem fireTrigger_frame (n : Nat) : fireTrigger s n = { s with dev := (fireTrigger s n).dev } := by
  unfold fireTrigger; dsimp only; split <;> rfl

/-- Raising the halt line changes the partition's summary and, for a snapshot, the device block. -/
theorem raiseHalt_frame (p : PartId) (cause unit : Nat) (b : BenchId) (c : CoreId) (t : StreamId) :
    (raiseHalt s p cause unit b c t).1 =
      { s with parts := (raiseHalt s p cause unit b c t).1.parts, dev := (raiseHalt s p cause unit b c t).1.dev } := by
  unfold raiseHalt
  split
  · dsimp only; rw [fireTrigger_frame]; rfl
  · exact (fireTrigger_frame s 2).trans (by rw [fireTrigger_frame])

@[simp] theorem raiseHalt_mem (p : PartId) (cause unit : Nat) (b : BenchId) (c : CoreId) (t : StreamId) :
    (raiseHalt s p cause unit b c t).1.mem = s.mem := by
  rw [raiseHalt_frame]

@[simp] theorem raiseHalt_benches (p : PartId) (cause unit : Nat) (b : BenchId) (c : CoreId) (t : StreamId) :
    (raiseHalt s p cause unit b c t).1.benches = s.benches := by
  rw [raiseHalt_frame]

/-- The halt line of a partition with a halt in progress is raised already: nothing changes but for a snapshot. -/
theorem raiseHalt_again (p : PartId) (cause unit : Nat) (b : BenchId) (c : CoreId) (t : StreamId)
    (h : (s.part p).halt ≠ .none) (h' : (s.part p).halt ≠ .resuming) :
    raiseHalt s p cause unit b c t = (fireTrigger s 2, false) :=
  if_neg fun hc => hc.elim h h'

/-! ### Taking a fault (R131, R140) -/

/-- To note a cause for an ABORT writes no memory. -/
@[simp] theorem State.blame_mem (b : BenchId) (cause : Nat) : (s.blame b cause).mem = s.mem := updGang_mem _ _ _

/-- A context-stopping fault writes no memory. -/
@[simp] theorem takeFault_mem (b : BenchId) (c : CoreId) (t : StreamId) (slot : Nat) (pc : Word) (f : Trap) :
    (takeFault s b c t slot pc f).mem = s.mem := by
  unfold takeFault; simp

theorem takeFault_memWf (b : BenchId) (c : CoreId) (t : StreamId) (slot : Nat) (pc : Word) (f : Trap) (h : s.memWf) :
    (takeFault s b c t slot pc f).memWf := by
  unfold State.memWf; rw [takeFault_mem]; exact h

/-- A write by the device itself keeps the canonical form. -/
theorem devWrite_memWf (p : Option PartId) (pa n v : Nat) (h : s.memWf) : (devWrite s p pa n v).memWf :=
  physWrite_memWf _ _ _ _ (atHome_memWf _ _ _ _ _ h)

theorem ringPut_memWf (p : Option PartId) (r : Ring) (k : BitVec 512) (h : s.memWf) : (ringPut s p r k).memWf :=
  devWrite_memWf s _ _ _ _ h

theorem updPart_memWf (p : PartId) (f : Part → Part) (h : s.memWf) : (s.updPart p f).memWf := h

/-- The device block is no byte of memory. -/
theorem State.memWf_dev (d : Device) (h : s.memWf) : { s with dev := d }.memWf := h

theorem trapRecord_memWf (p : PartId) (k : StopRecord) (h : s.memWf) : (trapRecord s p k).1.memWf := by
  unfold trapRecord
  dsimp only
  by_cases hr : k.replay
  · simp only [hr, if_true]
    split
    · exact updPart_memWf _ _ _ (ringPut_memWf s _ _ _ h)
    · exact h
  · simp only [hr, Bool.false_eq_true, if_false]
    split
    · exact updPart_memWf _ _ _ (ringPut_memWf s _ _ _ h)
    · exact updPart_memWf _ _ _ h

theorem updGang_memWf (b : BenchId) (f : Gang → Gang) (h : s.memWf) : (s.updGang b f).memWf := by
  unfold State.memWf; rw [State.updGang_mem]; exact h

theorem takePageFault_memWf (x : Ctx) (va : Word) (stage level : Nat) (h : s.memWf) :
    (takePageFault s x va stage level).memWf := by
  unfold takePageFault
  dsimp only
  split
  · exact updGang_memWf _ _ _ (trapRecord_memWf _ _ _ h)
  · exact h

theorem hvRecord_memWf (k : BitVec 512) (h : s.memWf) : (hvRecord s k).1.memWf := by
  unfold hvRecord
  split
  · exact State.memWf_dev (ringPut s _ _ _) _ (ringPut_memWf s _ _ _ h)
  · exact h

theorem recordMasked_memWf (b : BenchId) (h : s.memWf) : (recordMasked s b).memWf := by
  unfold recordMasked
  split
  · dsimp only
    split
    · exact updGang_memWf _ _ _ (hvRecord_memWf s _ h)
    · exact h
  · exact h

/-- Taking over the record of a gang that leaves its stop writes no memory. -/
theorem keepRecord_memWf (b : BenchId) (h : s.memWf) : (keepRecord s b).memWf := by
  unfold keepRecord
  split
  · exact updGang_memWf _ _ _ h
  · exact h

theorem writeHeld_memWf (l : List (BitVec 512)) (h : s.memWf) : (writeHeld l s).memWf := by
  induction l generalizing s with
  | nil => exact h
  | cons k l ih =>
    unfold writeHeld
    dsimp only
    split
    · exact ih _ (State.memWf_dev _ _ (hvRecord_memWf s k h))
    · exact h

theorem takeMasked_memWf (x : Ctx) (slot group : Nat) (h : s.memWf) : (takeMasked s x slot group).memWf :=
  recordMasked_memWf _ _ (updGang_memWf _ _ _ (updGang_memWf _ _ _ h))

theorem takeMigrate_memWf (x : Ctx) (slot : Nat) (h : s.memWf) : (takeMigrate s x slot).memWf :=
  updGang_memWf _ _ _ (updGang_memWf _ _ _ h)

/-! ### Going on after a word -/

/-- The state that a result carries, if it carries one, meets `P`. -/
def Res.holds (P : State → Prop) : Res → Prop
  | .ok s => P s
  | .ring s _ => P s
  | .jump s _ _ => P s
  | .skip s _ => P s
  | .stay s => P s
  | .halt s => P s
  | .after s _ => P s
  | .fault s _ => P s
  | .late s _ => P s
  | .page s _ _ _ => P s
  | .trap _ | .masked _ | .migrate => True

/-- Going on, or faulting instead, writes no memory. -/
theorem proceed_memWf (x : Ctx) (s0 s : State) (e : Except Trap Stream) (h0 : s0.memWf) (h : s.memWf) :
    (proceed x s0 s e).memWf := by
  cases e
  · exact takeFault_memWf _ _ _ _ _ _ _ h0
  · exact updGang_memWf _ _ _ h

/-- The state in which a fault of an access is taken keeps the canonical form (R335). -/
theorem faultedAccess_memWf (x : Ctx) (t : Trap) (h : s.memWf) : (faultedAccess x s t).memWf := by
  unfold faultedAccess
  split
  · exact h
  · exact missed_memWf _ _ _ _ h

/-- Whatever a word comes to, memory keeps its canonical form if its effect does. -/
theorem settle_memWf (x : Ctx) (s0 : State) (r : Res) (h0 : s0.memWf) (h : r.holds State.memWf) : (settle x s0 r).memWf := by
  cases r <;> unfold settle <;> dsimp only
  case ok => exact proceed_memWf _ _ _ _ h0 h
  case ring => exact proceed_memWf _ _ _ _ h0 h
  case jump => exact proceed_memWf _ _ _ _ h0 h
  case skip => exact proceed_memWf _ _ _ _ h0 h
  case stay => exact h
  case halt => exact h
  case trap => exact takeFault_memWf _ _ _ _ _ _ _ h0
  case fault => exact takeFault_memWf _ _ _ _ _ _ _ h
  case late => exact takeFault_memWf _ _ _ _ _ _ _ h
  case page => exact takePageFault_memWf _ _ _ _ _ h
  case after => exact updGang_memWf _ _ _ (takeFault_memWf _ _ _ _ _ _ _ h)
  case masked => exact takeMasked_memWf _ _ _ _ h0
  case migrate => exact takeMigrate_memWf _ _ _ h0

end Sys2Proof.Machine
end

