-- ==== Sys2Proof/Laws/Issue.lean ====
section
/-! SUPPORT. The laws of issue: what performing a word can do, for a word of SC, LD or ST and for a bundle of CP that is
one word long; what a step does around it. -/

namespace Sys2Proof.Machine

variable (s : State) (b : BenchId) (c : CoreId) (t : StreamId)

/-- A stream that may issue stands on a bench that holds a gang. -/
theorem State.gang?_isSome_of_canIssue (h : s.canIssue b c t = true) : (s.gang? b).isSome := by
  unfold State.canIssue State.moving at h
  cases hg : s.gang? b with
  | none => simp [hg] at h
  | some g => rfl

theorem State.alone.gang?_isSome {s : State} {b : BenchId} {c : CoreId} {t : StreamId} (h : s.alone b c t) :
    (s.gang? b).isSome := State.gang?_isSome_of_canIssue s b c t h.1.2

/-- The meaning of a word where a stream performs it. -/
theorem runWord_stream (i : Instr) (h : s.performs b c t) : runWord i s = .next (runStream s b c t i) := by
  simp [runWord, h.1, h.2]

/-- The meaning of a command where a context performs it. -/
theorem runWord_context (i : Instr) (n : BitVec 2) (r : ColRun) (h : s.commands n r) :
    runWord i s = .next (runCommand s n r i) := by
  simp [runWord, h.1, h.2.1, h.2.2]

/-- An event that happens while the package is not in P3. -/
theorem happen_on (f : State → State) (h : s.dev.off = false) : happen s f = .next (f s) := by
  simp [happen, h]

/-- Nothing happens in P3 (R321). -/
theorem happen_off (f : State → State) (h : s.dev.off = true) : happen s f = .next s := by
  simp [happen, h]

/-- A word of SC, LD or ST that belongs to its stream comes to its effect. -/
theorem runStream_alone (i : Instr) (n : Nat) (ht : t ≠ 2) (hl : (rawOf i).getLsbD 25 = true)
    (hc : (classOf i).fits t = true) :
    runStream s b c t i = settle (s.issuing b c t n) s (wordEffect i (s.issuing b c t n) s) := by
  have hx : scalarCtx s b c t = s.issuing b c t n := by
    unfold scalarCtx State.issuing
    rw [if_neg ht, if_neg ht]
  unfold runStream
  rw [hx, if_neg (fun h => ht h.1), if_neg (by simp [hl]), if_neg (by simp [hc])]

/-- A word without its last bit is malformed in SC, LD and ST (R155). -/
theorem runStream_malformed (i : Instr) (ht : t ≠ 2) (hl : (rawOf i).getLsbD 25 = false) :
    runStream s b c t i = takeFault s b c t 0 (s.stream b c t).pc { cause := 0x02 } := by
  unfold runStream
  rw [if_neg (fun h => ht h.1), if_pos ⟨ht, hl⟩]
  rfl

/-- A word of another stream is illegal (R153). -/
theorem runStream_wrong (i : Instr) (ht : t ≠ 2) (hl : (rawOf i).getLsbD 25 = true)
    (hc : (classOf i).fits t = false) :
    runStream s b c t i = takeFault s b c t 0 (s.stream b c t).pc { cause := 0x01 } := by
  unfold runStream
  rw [if_neg (fun h => ht h.1), if_neg (by simp [hl]), if_pos hc]
  rfl

/-! ### A bundle of one word -/

/-- What a bundle of one word comes to, by the word's effect. -/
def Ctx.alone (x : Ctx) (s : State) (n : Nat) : Res → State
  | .ok s' => goOn x s (x.closed s')
  | .ring s' e => goOn x s (x.closed s' [(n, e)])
  | .jump s' a l => settle { x with slot := 1 } s (.jump (x.closed s') a l)
  | .skip s' a => settle { x with slot := 1 } s (.skip (x.closed s') a)
  | .after s' u => settle { x with slot := 1 } s (.after (x.closed s') u)
  | .stay s' => x.upd (x.upd s fun st => { st with wait := (x.st s').wait }) fun st => { st with bundle := [] }
  | .halt s' => x.upd (x.upd s fun st => { st with wait := (x.st s').wait }) fun st => { st with bundle := [] }
  | .late _ u =>
    match leads x (x.closed s) x.next ((x.st (x.closed s)).advance x.next) with
    | .error t => takeFault s x.b x.c x.t x.slot x.pc t
    | .ok _ => takeFault (x.upd (faultedAccess x (x.closed s) u) fun st => { st with sxOnly := true }) x.b x.c x.t 1 x.pc u
  | r => settle x s r

/-- The only word of a bundle, by the slot that its OP claims. -/
theorem bySlot_single (w : BundleWord) (n : Nat) (h : slotClaim w.raw = n) (h1 : 1 ≤ n) (h5 : n ≤ 5) :
    bySlot (slotted 2 [w]) = [(n, w)] := by
  obtain rfl | rfl | rfl | rfl | rfl : n = 1 ∨ n = 2 ∨ n = 3 ∨ n = 4 ∨ n = 5 := by omega
  all_goals simp [slotted, h, bySlot, inSlot, List.range_succ]

/-- A transfer of control at the end of a body is that of the only word of a bundle (R152). -/
theorem transferSlot_single (y : Issue) (w : BundleWord) (n : Nat) (h : slotClaim w.raw = n) (h1 : 1 ≤ n) (h5 : n ≤ 5)
    (hy : y.control = none) : y.transferSlot [w] = n := by
  obtain rfl | rfl | rfl | rfl | rfl : n = 1 ∨ n = 2 ∨ n = 3 ∨ n = 4 ∨ n = 5 := by omega
  all_goals simp [Issue.transferSlot, hy, slotted, h]

/-- Of the faults of one word, that of its operation comes before that of going on after it. -/
theorem worst_own (n : Nat) (r : Res) (l : List Trap) :
    worst ((n, r) :: l.map fun t => (n, .trap t)) = some (n, r) := by
  have hl : ∀ z, worst (l.map fun t => (n, Res.trap t)) = some z → z.1 = n ∧ refusalRank z.2 = 2 := by
    induction l with
    | nil => intro z h; cases h
    | cons t l ih =>
      intro z h
      simp only [List.map_cons, worst] at h
      split at h
      · cases h; exact ⟨rfl, rfl⟩
      · next y hy =>
        cases h
        split
        · exact ih _ hy
        · exact ⟨rfl, rfl⟩
  unfold worst
  split
  · rfl
  · next z hz =>
    obtain ⟨h1, h2⟩ := hl _ hz
    have : refusalRank r ≤ 2 := by cases r <;> simp [refusalRank]
    have hb : before z (n, r) = false := by
      simp only [before, h1, h2, Bool.or_eq_false_iff, Bool.and_eq_false_iff, decide_eq_false_iff_not]
      exact ⟨by omega, .inr (by omega)⟩
    rw [hb]; rfl

/-- A bundle of one word with its last bit is well formed. -/
theorem malformed_single (w : BundleWord) (n : Nat) (h : slotClaim w.raw = n) (h1 : 1 ≤ n) (h5 : n ≤ 5)
    (hl : w.raw.getLsbD 25 = true) : malformed [w] = false := by
  have hl' : w.raw[25] = true := hl
  obtain rfl | rfl | rfl | rfl | rfl : n = 1 ∨ n = 2 ∨ n = 3 ∨ n = 4 ∨ n = 5 := by omega
  all_goals simp [malformed, claims, h, hl']

/-- What Table 18.3 finds wrong in a bundle of one word with its last bit: the operands of its word (R157). -/
theorem bundleDefect_single (w : BundleWord) (i : Instr) (n vc : Nat) (hi : w.instr = some i) (h : slotClaim w.raw = n)
    (h1 : 1 ≤ n) (h5 : n ≤ 5) (hl : w.raw.getLsbD 25 = true) :
    bundleDefect vc [w] = if specOk vc i then none else some (n, 0x03) := by
  unfold bundleDefect
  rw [bySlot_single w n h h1 h5, malformed_single w n h h1 h5 hl]
  cases hs : specOk vc i <;> simp [hi, hs]

/-- An instruction that is neither PSEL nor MRED: it neither selects nor meets other cores. -/
def Instr.plain : Instr → Bool
  | .psel _ _ _ _ _ => false
  | .mred _ _ => false
  | _ => true

/-- The word that CP takes when it holds no earlier word of a bundle. -/
def soleWord (i : Instr) : BundleWord := { addr := (s.stream b c 2).pc, raw := rawOf i, instr := some i }

/-- The context of a bundle of one word that is no PSEL. -/
theorem bundleCtx_single (i : Instr) (hp : Instr.plain i = true) :
    bundleCtx s b c [soleWord s b c i] = s.issuing b c 2 0 := by
  have hsel (x : Ctx) : selOf x s [soleWord s b c i] = {} := by
    cases i <;> first | rfl | simp [Instr.plain] at hp
  have hnx : (s.stream b c 2).pc + 4 * BitVec.ofNat 64 1 = (s.stream b c 2).pc + 4 := by simp
  unfold bundleCtx
  simp only [hsel, List.length_singleton, hnx]
  rfl

/-- A word of CP that is alone is a whole bundle when its last bit is set. -/
theorem runStream_single (i : Instr) (hb : (s.stream b c 2).bundle = []) (hl : (rawOf i).getLsbD 25 = true)
    (hc : (classOf i).fits 2 = true) : runStream s b c 2 i = issueBundle s b c [soleWord s b c i] := by
  have hpc : (s.stream b c 2).pc + 4 * BitVec.ofNat 64 0 = (s.stream b c 2).pc := by simp
  unfold runStream
  rw [if_pos ⟨rfl, hc⟩]
  unfold collectWord
  simp only [hb, List.length_nil, List.nil_append, hpc, hl, Bool.true_or, if_true]
  rfl

/-- A word of CP that is a whole bundle, and that nothing at issue refuses, comes to its effect. -/
theorem runStream_bundle (i : Instr) (n : Nat) (ha : s.aloneInCp b c n i) (hl : (rawOf i).getLsbD 25 = true)
    (hc : (classOf i).fits 2 = true) (hn : slotClaim (rawOf i) = n) (h1 : 1 ≤ n) (h5 : n ≤ 5) (hp : Instr.plain i = true) :
    runStream s b c 2 i = (s.issuing b c 2 n).alone s n (wordEffect i (s.issuing b c 2 n) s) := by
  obtain ⟨⟨-, hb⟩, hspec, hgrp⟩ := ha
  obtain ⟨hb, hsx⟩ := hb rfl
  have hs := bySlot_single (soleWord s b c i) n hn h1 h5
  have hd := bundleDefect_single (soleWord s b c i) i n (s.gang b).vcount rfl hn h1 h5 hl
  have hx := bundleCtx_single s b c i hp
  have hmr : isMred (soleWord s b c i) = false := by
    cases i <;> first | rfl | simp [Instr.plain] at hp
  have hi : (soleWord s b c i).instr = some i := rfl
  have hat : (s.issuing b c 2 0).at' n (soleWord s b c i) = s.issuing b c 2 n := rfl
  rw [runStream_single s b c i hb hl hc]
  unfold issueBundle
  simp only [hd, hspec, if_true, hs, hsx, Bool.false_eq_true, if_false, hx]
  unfold performBundle lookWords
  simp only [List.filter, hmr, Bool.not_false, List.foldl_cons, List.foldl_nil, hi]
  unfold Issue.word
  simp only [hat, hgrp]
  have hts (y : Issue) (hy : y.control = none) : y.transferSlot [soleWord s b c i] = n :=
    transferSlot_single y _ n hn h1 h5 hy
  cases hw : wordEffect i (s.issuing b c 2 n) s with
  | fault s' u => simp [Issue.held, Issue.finish, Issue.faults, hts, worst_own, Ctx.alone]; rfl
  | trap u => simp [Issue.held, Issue.finish, Issue.faults, hts, worst_own, Ctx.alone]; rfl
  | masked g => simp [Issue.held, Issue.finish, Issue.faults, hts, worst_own, Ctx.alone]; rfl
  | migrate => simp [Issue.held, Issue.finish, Issue.faults, hts, worst_own, Ctx.alone]; rfl
  | page s' va st lv => simp [Issue.held, Issue.finish, Issue.faults, hts, worst_own, Ctx.alone]; rfl
  | ok s' =>
    cases hb : leads (s.issuing b c 2 0) ((s.issuing b c 2 n).closed s') (s.issuing b c 2 0).next
        (((s.issuing b c 2 0).st ((s.issuing b c 2 n).closed s')).advance (s.issuing b c 2 0).next) <;>
      simp_all [Issue.held, Issue.finish, Issue.faults, Issue.closed, Issue.outcome, Res.goFault, Ctx.alone, worst,
        Ctx.closed, State.issuing, settle, goOn, proceed, leads]
  | ring s' e =>
    cases hb : leads (s.issuing b c 2 0) ((s.issuing b c 2 n).closed s' [(n, e)]) (s.issuing b c 2 0).next
        (((s.issuing b c 2 0).st ((s.issuing b c 2 n).closed s' [(n, e)])).advance (s.issuing b c 2 0).next) <;>
      simp_all [Issue.held, Issue.finish, Issue.faults, Issue.closed, Issue.outcome, Res.goFault, Ctx.alone, worst,
        Ctx.closed, State.issuing, settle, goOn, proceed, leads]
  | late s' u =>
    cases hb : leads (s.issuing b c 2 0) ((s.issuing b c 2 n).closed s) (s.issuing b c 2 0).next
        (((s.issuing b c 2 0).st ((s.issuing b c 2 n).closed s)).advance (s.issuing b c 2 0).next) <;>
      simp_all [Issue.held, Issue.finish, Issue.faults, Issue.closed, Issue.outcome, Res.goFault, Ctx.alone, worst,
        Ctx.closed, State.issuing, settle, goOn, proceed, leads]
    rfl
  | jump s' a l =>
    cases hb : branches (s.issuing b c 2 0) ((s.issuing b c 2 n).closed s') a l <;>
      simp_all [Issue.held, Issue.finish, Issue.faults, Issue.closed, Issue.outcome, Res.goFault, Ctx.alone, worst,
        Ctx.closed, State.issuing, settle, proceed, branches, leads, Issue.transferSlot]
  | skip s' a =>
    cases hb : leads (s.issuing b c 2 0) ((s.issuing b c 2 n).closed s') a
        (((s.issuing b c 2 0).st ((s.issuing b c 2 n).closed s')).advance a) <;>
      simp_all [Issue.held, Issue.finish, Issue.faults, Issue.closed, Issue.outcome, Res.goFault, Ctx.alone, worst,
        Ctx.closed, State.issuing, settle, proceed, leads, Issue.transferSlot]
  | _ => simp [Issue.held, Issue.finish, Issue.faults, Issue.closed, Issue.outcome, Ctx.alone, worst, atOnce, Ctx.closed,
      State.issuing, settle, Res.goFault, Issue.transferSlot]

/-- A state whose word is performed goes on at the next one, or where a loop body begins. -/
theorem goOn_eq (x : Ctx) (s0 s : State) (p : List (Nat × Option Tile)) (h : x.goesOn s p) :
    goOn x s0 (x.closed s p) = x.wentOn s p := by
  unfold goOn leads
  exact congrArg (proceed x s0 (x.closed s p)) (if_pos h)

/-- In SC, LD and ST nothing is left of a bundle. -/
theorem Ctx.closed_scalar (x : Ctx) (h : x.t ≠ 2) (p : List (Nat × Option Tile)) : x.closed s p = s := if_neg h

/-- A word that SC, LD or ST performs: the stream goes on at the next word. -/
theorem runWord_scalar (i : Instr) (n : Nat) (s' : State) (hp : s.performs b c t) (ht : t ≠ 2)
    (hl : (rawOf i).getLsbD 25 = true) (hc : (classOf i).fits t = true)
    (he : wordEffect i (s.issuing b c t n) s = .ok s') (hg : (s.issuing b c t n).goesOn s') :
    runWord i s = .next ((s.issuing b c t n).wentOn s') := by
  rw [runWord_stream s b c t i hp, runStream_alone s b c t i n ht hl hc, he, ← goOn_eq _ s _ _ hg,
    Ctx.closed_scalar _ _ ht]
  rfl

/-- A word of CP that is a whole bundle and is performed: CP goes on at the next word. -/
theorem runWord_cp (i : Instr) (n : Nat) (s' : State) (ha : s.aloneInCp b c n i) (hl : (rawOf i).getLsbD 25 = true)
    (hc : (classOf i).fits 2 = true) (hn : slotClaim (rawOf i) = n) (h1 : 1 ≤ n) (h5 : n ≤ 5) (hp : Instr.plain i = true)
    (he : wordEffect i (s.issuing b c 2 n) s = .ok s') (hg : (s.issuing b c 2 n).goesOn s') :
    runWord i s = .next ((s.issuing b c 2 n).wentOn s') := by
  rw [runWord_stream s b c 2 i ha.1.1, runStream_bundle s b c i n ha hl hc hn h1 h5 hp, he, ← goOn_eq _ s _ _ hg]
  rfl

/-- A vector or special-function word of CP that is a whole bundle and is performed: its ring receives its entry, and CP
goes on at the next word (R52). -/
theorem runWord_ring (i : Instr) (n : Nat) (s' : State) (e : Option Tile) (ha : s.aloneInCp b c n i)
    (hl : (rawOf i).getLsbD 25 = true) (hc : (classOf i).fits 2 = true) (hn : slotClaim (rawOf i) = n) (h1 : 1 ≤ n)
    (h5 : n ≤ 5) (hp : Instr.plain i = true) (he : wordEffect i (s.issuing b c 2 n) s = .ring s' e)
    (hg : (s.issuing b c 2 n).goesOn s' [(n, e)]) :
    runWord i s = .next ((s.issuing b c 2 n).wentOn s' [(n, e)]) := by
  rw [runWord_stream s b c 2 i ha.1.1, runStream_bundle s b c i n ha hl hc hn h1 h5 hp, he]
  exact congrArg _ (goOn_eq _ s s' [(n, e)] hg)

/-- A word of the common group that is alone in its stream and is performed: the stream goes on at the next word. -/
theorem runWord_common (i : Instr) (s' : State) (ha : s.alone b c t) (hl : (rawOf i).getLsbD 25 = true)
    (hcl : classOf i = .common) (hn : slotClaim (rawOf i) = 1) (hp : Instr.plain i = true)
    (hspec : specOk (s.gang b).vcount i = true) (hgrp : groupStop (s.issuing b c 2 1) s i = none)
    (he : wordEffect i (s.issuing b c t 1) s = .ok s') (hg : (s.issuing b c t 1).goesOn s') :
    runWord i s = .next ((s.issuing b c t 1).wentOn s') := by
  by_cases ht : t = 2
  · subst ht
    exact runWord_cp s b c i 1 s' ⟨ha, hspec, hgrp⟩ hl (by rw [hcl]; rfl) hn (by omega) (by omega) hp he hg
  · exact runWord_scalar s b c t i 1 s' ha.1 ht hl (by rw [hcl]; rfl) he hg

end Sys2Proof.Machine
end

