-- ==== Sys2Proof/Laws/PerInstr.lean ====
section
/-! SUPPORT. What is proved of each instruction as syntax: its word has the row's fixed bits in every format that has the
row, with every operand in its field; its last bit and its slot are where the formats put them. -/

set_option Elab.async false
set_option linter.unusedSimpArgs false
set_option linter.unusedTactic false
set_option linter.unreachableTactic false

namespace Sys2Proof.Laws.Words

open Sys2Proof.Machine

/-- The word of an instruction is that instruction's in every format that has it (R153, R303); it ends its bundle where the
instruction says so (R155); in CP it claims the slot of its OP (Table 18.2). -/
def Statement (i : Instr) : Prop :=
  (∀ f ∈ (classOf i).formats, decodeRow f (rawOf i) = some i) ∧
  (classOf i ≠ .event → (rawOf i).getLsbD 25 = lastOf i) ∧
  (Format.cp ∈ (classOf i).formats → slotClaim (rawOf i) = slotOf i)

/-- An event has no word. -/
theorem of_event (i : Instr) (h : classOf i = .event) : Statement i := by
  refine ⟨?_, fun hc => absurd h hc, ?_⟩ <;> rw [h]
  · exact fun _ hf => absurd hf List.not_mem_nil
  · exact fun hf => absurd hf List.not_mem_nil

/-- A word by its OP, its row and its last bit, for each class. -/
theorem of_word (i : Instr) (n : Nat) (ho : (fld (rawOf i) 26 6).toNat = n) (hl : (fld (rawOf i) 25 1 == 1#1) = lastOf i)
    (hd : match classOf i with
      | .common => n < 0x14 ∧ decodeCommon (rawOf i) = some i
      | .sc => ¬ n < 0x14 ∧ decodeScOnly (rawOf i) = some i
      | .ld => ¬ n < 0x14 ∧ ldMajor n = true ∧ decodeM (rawOf i) = some i
      | .st => ¬ n < 0x14 ∧ stMajor n = true ∧ decodeM (rawOf i) = some i
      | .m => ¬ n < 0x14 ∧ ldMajor n = true ∧ stMajor n = true ∧ decodeM (rawOf i) = some i
      | .c => ¬ n < 0x14 ∧ decodeC (rawOf i) = some i
      | .n => decodeN (rawOf i) = some i
      | .event => False)
    (hs : Format.cp ∈ (classOf i).formats → slotClaim (rawOf i) = slotOf i) : Statement i := by
  refine ⟨?_, fun _ => (getLsbD_25 _).trans hl, hs⟩
  intro f hf
  cases hc : classOf i with
  | event => rw [hc] at hd; exact hd.elim
  | _ =>
    rw [hc] at hd hf
    simp only [Class.formats, List.mem_cons, List.not_mem_nil, or_false] at hf
    rcases hf with rfl | rfl | rfl | rfl <;> simp_all [decodeRow]

theorem aluAdd l d a b w q : Statement (.aluAdd l d a b w q) := by
  have h : rawOf (.aluAdd l d a b w q) = BitVec.cast (by decide) (1#6 ++ l ++ d ++ a ++ b ++ 0#4 ++ w ++ q) := rfl
  have hd : decodeCommon (rawOf (.aluAdd l d a b w q)) = some (.aluAdd l d a b w q) := by
    rw [h]
    simp (disch := decide) only [decodeCommon, fld_cast, extract_high, extract_low, Nat.reduceSub,
      BitVec.extractLsb'_eq_self, BitVec.reduceExtractLsb', BitVec.reduceToNat]
    all_goals rfl
  refine of_word _ 0x01 ?_ ?_ ?_ ?_
  · rw [h]
    simp (disch := decide) only [fld_cast, extract_high, extract_low, Nat.reduceSub,
      BitVec.extractLsb'_eq_self, BitVec.reduceExtractLsb', BitVec.reduceToNat]
  · rw [h]
    simp (disch := decide) only [fld_cast, extract_high, extract_low, Nat.reduceSub,
      BitVec.extractLsb'_eq_self, BitVec.reduceExtractLsb', BitVec.reduceToNat]
    rfl
  · exact ⟨by decide, hd⟩
  · intro _
    rw [slotClaim, h]
    simp (disch := decide) only [fld_cast, extract_high, extract_low, Nat.reduceSub,
      BitVec.extractLsb'_eq_self, BitVec.reduceExtractLsb', BitVec.reduceToNat]
    rfl

theorem aluSub l d a b w q : Statement (.aluSub l d a b w q) := by
  have h : rawOf (.aluSub l d a b w q) = BitVec.cast (by decide) (1#6 ++ l ++ d ++ a ++ b ++ 1#4 ++ w ++ q) := rfl
  have hd : decodeCommon (rawOf (.aluSub l d a b w q)) = some (.aluSub l d a b w q) := by
    rw [h]
    simp (disch := decide) only [decodeCommon, fld_cast, extract_high, extract_low, Nat.reduceSub,
      BitVec.extractLsb'_eq_self, BitVec.reduceExtractLsb', BitVec.reduceToNat]
    all_goals rfl
  refine of_word _ 0x01 ?_ ?_ ?_ ?_
  · rw [h]
    simp (disch := decide) only [fld_cast, extract_high, extract_low, Nat.reduceSub,
      BitVec.extractLsb'_eq_self, BitVec.reduceExtractLsb', BitVec.reduceToNat]
  · rw [h]
    simp (disch := decide) only [fld_cast, extract_high, extract_low, Nat.reduceSub,
      BitVec.extractLsb'_eq_self, BitVec.reduceExtractLsb', BitVec.reduceToNat]
    rfl
  · exact ⟨by decide, hd⟩
  · intro _
    rw [slotClaim, h]
    simp (disch := decide) only [fld_cast, extract_high, extract_low, Nat.reduceSub,
      BitVec.extractLsb'_eq_self, BitVec.reduceExtractLsb', BitVec.reduceToNat]
    rfl

theorem aluMul l d a b w q : Statement (.aluMul l d a b w q) := by
  have h : rawOf (.aluMul l d a b w q) = BitVec.cast (by decide) (1#6 ++ l ++ d ++ a ++ b ++ 2#4 ++ w ++ q) := rfl
  have hd : decodeCommon (rawOf (.aluMul l d a b w q)) = some (.aluMul l d a b w q) := by
    rw [h]
    simp (disch := decide) only [decodeCommon, fld_cast, extract_high, extract_low, Nat.reduceSub,
      BitVec.extractLsb'_eq_self, BitVec.reduceExtractLsb', BitVec.reduceToNat]
    all_goals rfl
  refine of_word _ 0x01 ?_ ?_ ?_ ?_
  · rw [h]
    simp (disch := decide) only [fld_cast, extract_high, extract_low, Nat.reduceSub,
      BitVec.extractLsb'_eq_self, BitVec.reduceExtractLsb', BitVec.reduceToNat]
  · rw [h]
    simp (disch := decide) only [fld_cast, extract_high, extract_low, Nat.reduceSub,
      BitVec.extractLsb'_eq_self, BitVec.reduceExtractLsb', BitVec.reduceToNat]
    rfl
  · exact ⟨by decide, hd⟩
  · intro _
    rw [slotClaim, h]
    simp (disch := decide) only [fld_cast, extract_high, extract_low, Nat.reduceSub,
      BitVec.extractLsb'_eq_self, BitVec.reduceExtractLsb', BitVec.reduceToNat]
    rfl

theorem aluMulh l d a b w q : Statement (.aluMulh l d a b w q) := by
  have h : rawOf (.aluMulh l d a b w q) = BitVec.cast (by decide) (1#6 ++ l ++ d ++ a ++ b ++ 3#4 ++ w ++ q) := rfl
  have hd : decodeCommon (rawOf (.aluMulh l d a b w q)) = some (.aluMulh l d a b w q) := by
    rw [h]
    simp (disch := decide) only [decodeCommon, fld_cast, extract_high, extract_low, Nat.reduceSub,
      BitVec.extractLsb'_eq_self, BitVec.reduceExtractLsb', BitVec.reduceToNat]
    all_goals rfl
  refine of_word _ 0x01 ?_ ?_ ?_ ?_
  · rw [h]
    simp (disch := decide) only [fld_cast, extract_high, extract_low, Nat.reduceSub,
      BitVec.extractLsb'_eq_self, BitVec.reduceExtractLsb', BitVec.reduceToNat]
  · rw [h]
    simp (disch := decide) only [fld_cast, extract_high, extract_low, Nat.reduceSub,
      BitVec.extractLsb'_eq_self, BitVec.reduceExtractLsb', BitVec.reduceToNat]
    rfl
  · exact ⟨by decide, hd⟩
  · intro _
    rw [slotClaim, h]
    simp (disch := decide) only [fld_cast, extract_high, extract_low, Nat.reduceSub,
      BitVec.extractLsb'_eq_self, BitVec.reduceExtractLsb', BitVec.reduceToNat]
    rfl

theorem aluMulhu l d a b w q : Statement (.aluMulhu l d a b w q) := by
  have h : rawOf (.aluMulhu l d a b w q) = BitVec.cast (by decide) (1#6 ++ l ++ d ++ a ++ b ++ 4#4 ++ w ++ q) := rfl
  have hd : decodeCommon (rawOf (.aluMulhu l d a b w q)) = some (.aluMulhu l d a b w q) := by
    rw [h]
    simp (disch := decide) only [decodeCommon, fld_cast, extract_high, extract_low, Nat.reduceSub,
      BitVec.extractLsb'_eq_self, BitVec.reduceExtractLsb', BitVec.reduceToNat]
    all_goals rfl
  refine of_word _ 0x01 ?_ ?_ ?_ ?_
  · rw [h]
    simp (disch := decide) only [fld_cast, extract_high, extract_low, Nat.reduceSub,
      BitVec.extractLsb'_eq_self, BitVec.reduceExtractLsb', BitVec.reduceToNat]
  · rw [h]
    simp (disch := decide) only [fld_cast, extract_high, extract_low, Nat.reduceSub,
      BitVec.extractLsb'_eq_self, BitVec.reduceExtractLsb', BitVec.reduceToNat]
    rfl
  · exact ⟨by decide, hd⟩
  · intro _
    rw [slotClaim, h]
    simp (disch := decide) only [fld_cast, extract_high, extract_low, Nat.reduceSub,
      BitVec.extractLsb'_eq_self, BitVec.reduceExtractLsb', BitVec.reduceToNat]
    rfl

theorem aluDiv l d a b w q : Statement (.aluDiv l d a b w q) := by
  have h : rawOf (.aluDiv l d a b w q) = BitVec.cast (by decide) (1#6 ++ l ++ d ++ a ++ b ++ 5#4 ++ w ++ q) := rfl
  have hd : decodeCommon (rawOf (.aluDiv l d a b w q)) = some (.aluDiv l d a b w q) := by
    rw [h]
    simp (disch := decide) only [decodeCommon, fld_cast, extract_high, extract_low, Nat.reduceSub,
      BitVec.extractLsb'_eq_self, BitVec.reduceExtractLsb', BitVec.reduceToNat]
    all_goals rfl
  refine of_word _ 0x01 ?_ ?_ ?_ ?_
  · rw [h]
    simp (disch := decide) only [fld_cast, extract_high, extract_low, Nat.reduceSub,
      BitVec.extractLsb'_eq_self, BitVec.reduceExtractLsb', BitVec.reduceToNat]
  · rw [h]
    simp (disch := decide) only [fld_cast, extract_high, extract_low, Nat.reduceSub,
      BitVec.extractLsb'_eq_self, BitVec.reduceExtractLsb', BitVec.reduceToNat]
    rfl
  · exact ⟨by decide, hd⟩
  · intro _
    rw [slotClaim, h]
    simp (disch := decide) only [fld_cast, extract_high, extract_low, Nat.reduceSub,
      BitVec.extractLsb'_eq_self, BitVec.reduceExtractLsb', BitVec.reduceToNat]
    rfl

theorem aluDivu l d a b w q : Statement (.aluDivu l d a b w q) := by
  have h : rawOf (.aluDivu l d a b w q) = BitVec.cast (by decide) (1#6 ++ l ++ d ++ a ++ b ++ 6#4 ++ w ++ q) := rfl
  have hd : decodeCommon (rawOf (.aluDivu l d a b w q)) = some (.aluDivu l d a b w q) := by
    rw [h]
    simp (disch := decide) only [decodeCommon, fld_cast, extract_high, extract_low, Nat.reduceSub,
      BitVec.extractLsb'_eq_self, BitVec.reduceExtractLsb', BitVec.reduceToNat]
    all_goals rfl
  refine of_word _ 0x01 ?_ ?_ ?_ ?_
  · rw [h]
    simp (disch := decide) only [fld_cast, extract_high, extract_low, Nat.reduceSub,
      BitVec.extractLsb'_eq_self, BitVec.reduceExtractLsb', BitVec.reduceToNat]
  · rw [h]
    simp (disch := decide) only [fld_cast, extract_high, extract_low, Nat.reduceSub,
      BitVec.extractLsb'_eq_self, BitVec.reduceExtractLsb', BitVec.reduceToNat]
    rfl
  · exact ⟨by decide, hd⟩
  · intro _
    rw [slotClaim, h]
    simp (disch := decide) only [fld_cast, extract_high, extract_low, Nat.reduceSub,
      BitVec.extractLsb'_eq_self, BitVec.reduceExtractLsb', BitVec.reduceToNat]
    rfl

theorem aluRem l d a b w q : Statement (.aluRem l d a b w q) := by
  have h : rawOf (.aluRem l d a b w q) = BitVec.cast (by decide) (1#6 ++ l ++ d ++ a ++ b ++ 7#4 ++ w ++ q) := rfl
  have hd : decodeCommon (rawOf (.aluRem l d a b w q)) = some (.aluRem l d a b w q) := by
    rw [h]
    simp (disch := decide) only [decodeCommon, fld_cast, extract_high, extract_low, Nat.reduceSub,
      BitVec.extractLsb'_eq_self, BitVec.reduceExtractLsb', BitVec.reduceToNat]
    all_goals rfl
  refine of_word _ 0x01 ?_ ?_ ?_ ?_
  · rw [h]
    simp (disch := decide) only [fld_cast, extract_high, extract_low, Nat.reduceSub,
      BitVec.extractLsb'_eq_self, BitVec.reduceExtractLsb', BitVec.reduceToNat]
  · rw [h]
    simp (disch := decide) only [fld_cast, extract_high, extract_low, Nat.reduceSub,
      BitVec.extractLsb'_eq_self, BitVec.reduceExtractLsb', BitVec.reduceToNat]
    rfl
  · exact ⟨by decide, hd⟩
  · intro _
    rw [slotClaim, h]
    simp (disch := decide) only [fld_cast, extract_high, extract_low, Nat.reduceSub,
      BitVec.extractLsb'_eq_self, BitVec.reduceExtractLsb', BitVec.reduceToNat]
    rfl

theorem aluRemu l d a b w q : Statement (.aluRemu l d a b w q) := by
  have h : rawOf (.aluRemu l d a b w q) = BitVec.cast (by decide) (1#6 ++ l ++ d ++ a ++ b ++ 8#4 ++ w ++ q) := rfl
  have hd : decodeCommon (rawOf (.aluRemu l d a b w q)) = some (.aluRemu l d a b w q) := by
    rw [h]
    simp (disch := decide) only [decodeCommon, fld_cast, extract_high, extract_low, Nat.reduceSub,
      BitVec.extractLsb'_eq_self, BitVec.reduceExtractLsb', BitVec.reduceToNat]
    all_goals rfl
  refine of_word _ 0x01 ?_ ?_ ?_ ?_
  · rw [h]
    simp (disch := decide) only [fld_cast, extract_high, extract_low, Nat.reduceSub,
      BitVec.extractLsb'_eq_self, BitVec.reduceExtractLsb', BitVec.reduceToNat]
  · rw [h]
    simp (disch := decide) only [fld_cast, extract_high, extract_low, Nat.reduceSub,
      BitVec.extractLsb'_eq_self, BitVec.reduceExtractLsb', BitVec.reduceToNat]
    rfl
  · exact ⟨by decide, hd⟩
  · intro _
    rw [slotClaim, h]
    simp (disch := decide) only [fld_cast, extract_high, extract_low, Nat.reduceSub,
      BitVec.extractLsb'_eq_self, BitVec.reduceExtractLsb', BitVec.reduceToNat]
    rfl

theorem aluAnd l d a b w q : Statement (.aluAnd l d a b w q) := by
  have h : rawOf (.aluAnd l d a b w q) = BitVec.cast (by decide) (1#6 ++ l ++ d ++ a ++ b ++ 9#4 ++ w ++ q) := rfl
  have hd : decodeCommon (rawOf (.aluAnd l d a b w q)) = some (.aluAnd l d a b w q) := by
    rw [h]
    simp (disch := decide) only [decodeCommon, fld_cast, extract_high, extract_low, Nat.reduceSub,
      BitVec.extractLsb'_eq_self, BitVec.reduceExtractLsb', BitVec.reduceToNat]
    all_goals rfl
  refine of_word _ 0x01 ?_ ?_ ?_ ?_
  · rw [h]
    simp (disch := decide) only [fld_cast, extract_high, extract_low, Nat.reduceSub,
      BitVec.extractLsb'_eq_self, BitVec.reduceExtractLsb', BitVec.reduceToNat]
  · rw [h]
    simp (disch := decide) only [fld_cast, extract_high, extract_low, Nat.reduceSub,
      BitVec.extractLsb'_eq_self, BitVec.reduceExtractLsb', BitVec.reduceToNat]
    rfl
  · exact ⟨by decide, hd⟩
  · intro _
    rw [slotClaim, h]
    simp (disch := decide) only [fld_cast, extract_high, extract_low, Nat.reduceSub,
      BitVec.extractLsb'_eq_self, BitVec.reduceExtractLsb', BitVec.reduceToNat]
    rfl

theorem aluOr l d a b w q : Statement (.aluOr l d a b w q) := by
  have h : rawOf (.aluOr l d a b w q) = BitVec.cast (by decide) (1#6 ++ l ++ d ++ a ++ b ++ 10#4 ++ w ++ q) := rfl
  have hd : decodeCommon (rawOf (.aluOr l d a b w q)) = some (.aluOr l d a b w q) := by
    rw [h]
    simp (disch := decide) only [decodeCommon, fld_cast, extract_high, extract_low, Nat.reduceSub,
      BitVec.extractLsb'_eq_self, BitVec.reduceExtractLsb', BitVec.reduceToNat]
    all_goals rfl
  refine of_word _ 0x01 ?_ ?_ ?_ ?_
  · rw [h]
    simp (disch := decide) only [fld_cast, extract_high, extract_low, Nat.reduceSub,
      BitVec.extractLsb'_eq_self, BitVec.reduceExtractLsb', BitVec.reduceToNat]
  · rw [h]
    simp (disch := decide) only [fld_cast, extract_high, extract_low, Nat.reduceSub,
      BitVec.extractLsb'_eq_self, BitVec.reduceExtractLsb', BitVec.reduceToNat]
    rfl
  · exact ⟨by decide, hd⟩
  · intro _
    rw [slotClaim, h]
    simp (disch := decide) only [fld_cast, extract_high, extract_low, Nat.reduceSub,
      BitVec.extractLsb'_eq_self, BitVec.reduceExtractLsb', BitVec.reduceToNat]
    rfl

theorem aluXor l d a b w q : Statement (.aluXor l d a b w q) := by
  have h : rawOf (.aluXor l d a b w q) = BitVec.cast (by decide) (1#6 ++ l ++ d ++ a ++ b ++ 11#4 ++ w ++ q) := rfl
  have hd : decodeCommon (rawOf (.aluXor l d a b w q)) = some (.aluXor l d a b w q) := by
    rw [h]
    simp (disch := decide) only [decodeCommon, fld_cast, extract_high, extract_low, Nat.reduceSub,
      BitVec.extractLsb'_eq_self, BitVec.reduceExtractLsb', BitVec.reduceToNat]
    all_goals rfl
  refine of_word _ 0x01 ?_ ?_ ?_ ?_
  · rw [h]
    simp (disch := decide) only [fld_cast, extract_high, extract_low, Nat.reduceSub,
      BitVec.extractLsb'_eq_self, BitVec.reduceExtractLsb', BitVec.reduceToNat]
  · rw [h]
    simp (disch := decide) only [fld_cast, extract_high, extract_low, Nat.reduceSub,
      BitVec.extractLsb'_eq_self, BitVec.reduceExtractLsb', BitVec.reduceToNat]
    rfl
  · exact ⟨by decide, hd⟩
  · intro _
    rw [slotClaim, h]
    simp (disch := decide) only [fld_cast, extract_high, extract_low, Nat.reduceSub,
      BitVec.extractLsb'_eq_self, BitVec.reduceExtractLsb', BitVec.reduceToNat]
    rfl

theorem aluAndn l d a b w q : Statement (.aluAndn l d a b w q) := by
  have h : rawOf (.aluAndn l d a b w q) = BitVec.cast (by decide) (1#6 ++ l ++ d ++ a ++ b ++ 12#4 ++ w ++ q) := rfl
  have hd : decodeCommon (rawOf (.aluAndn l d a b w q)) = some (.aluAndn l d a b w q) := by
    rw [h]
    simp (disch := decide) only [decodeCommon, fld_cast, extract_high, extract_low, Nat.reduceSub,
      BitVec.extractLsb'_eq_self, BitVec.reduceExtractLsb', BitVec.reduceToNat]
    all_goals rfl
  refine of_word _ 0x01 ?_ ?_ ?_ ?_
  · rw [h]
    simp (disch := decide) only [fld_cast, extract_high, extract_low, Nat.reduceSub,
      BitVec.extractLsb'_eq_self, BitVec.reduceExtractLsb', BitVec.reduceToNat]
  · rw [h]
    simp (disch := decide) only [fld_cast, extract_high, extract_low, Nat.reduceSub,
      BitVec.extractLsb'_eq_self, BitVec.reduceExtractLsb', BitVec.reduceToNat]
    rfl
  · exact ⟨by decide, hd⟩
  · intro _
    rw [slotClaim, h]
    simp (disch := decide) only [fld_cast, extract_high, extract_low, Nat.reduceSub,
      BitVec.extractLsb'_eq_self, BitVec.reduceExtractLsb', BitVec.reduceToNat]
    rfl

theorem aluShl l d a b w q : Statement (.aluShl l d a b w q) := by
  have h : rawOf (.aluShl l d a b w q) = BitVec.cast (by decide) (1#6 ++ l ++ d ++ a ++ b ++ 13#4 ++ w ++ q) := rfl
  have hd : decodeCommon (rawOf (.aluShl l d a b w q)) = some (.aluShl l d a b w q) := by
    rw [h]
    simp (disch := decide) only [decodeCommon, fld_cast, extract_high, extract_low, Nat.reduceSub,
      BitVec.extractLsb'_eq_self, BitVec.reduceExtractLsb', BitVec.reduceToNat]
    all_goals rfl
  refine of_word _ 0x01 ?_ ?_ ?_ ?_
  · rw [h]
    simp (disch := decide) only [fld_cast, extract_high, extract_low, Nat.reduceSub,
      BitVec.extractLsb'_eq_self, BitVec.reduceExtractLsb', BitVec.reduceToNat]
  · rw [h]
    simp (disch := decide) only [fld_cast, extract_high, extract_low, Nat.reduceSub,
      BitVec.extractLsb'_eq_self, BitVec.reduceExtractLsb', BitVec.reduceToNat]
    rfl
  · exact ⟨by decide, hd⟩
  · intro _
    rw [slotClaim, h]
    simp (disch := decide) only [fld_cast, extract_high, extract_low, Nat.reduceSub,
      BitVec.extractLsb'_eq_self, BitVec.reduceExtractLsb', BitVec.reduceToNat]
    rfl

theorem aluShr l d a b w q : Statement (.aluShr l d a b w q) := by
  have h : rawOf (.aluShr l d a b w q) = BitVec.cast (by decide) (1#6 ++ l ++ d ++ a ++ b ++ 14#4 ++ w ++ q) := rfl
  have hd : decodeCommon (rawOf (.aluShr l d a b w q)) = some (.aluShr l d a b w q) := by
    rw [h]
    simp (disch := decide) only [decodeCommon, fld_cast, extract_high, extract_low, Nat.reduceSub,
      BitVec.extractLsb'_eq_self, BitVec.reduceExtractLsb', BitVec.reduceToNat]
    all_goals rfl
  refine of_word _ 0x01 ?_ ?_ ?_ ?_
  · rw [h]
    simp (disch := decide) only [fld_cast, extract_high, extract_low, Nat.reduceSub,
      BitVec.extractLsb'_eq_self, BitVec.reduceExtractLsb', BitVec.reduceToNat]
  · rw [h]
    simp (disch := decide) only [fld_cast, extract_high, extract_low, Nat.reduceSub,
      BitVec.extractLsb'_eq_self, BitVec.reduceExtractLsb', BitVec.reduceToNat]
    rfl
  · exact ⟨by decide, hd⟩
  · intro _
    rw [slotClaim, h]
    simp (disch := decide) only [fld_cast, extract_high, extract_low, Nat.reduceSub,
      BitVec.extractLsb'_eq_self, BitVec.reduceExtractLsb', BitVec.reduceToNat]
    rfl

theorem aluSar l d a b w q : Statement (.aluSar l d a b w q) := by
  have h : rawOf (.aluSar l d a b w q) = BitVec.cast (by decide) (1#6 ++ l ++ d ++ a ++ b ++ 15#4 ++ w ++ q) := rfl
  have hd : decodeCommon (rawOf (.aluSar l d a b w q)) = some (.aluSar l d a b w q) := by
    rw [h]
    simp (disch := decide) only [decodeCommon, fld_cast, extract_high, extract_low, Nat.reduceSub,
      BitVec.extractLsb'_eq_self, BitVec.reduceExtractLsb', BitVec.reduceToNat]
    all_goals rfl
  refine of_word _ 0x01 ?_ ?_ ?_ ?_
  · rw [h]
    simp (disch := decide) only [fld_cast, extract_high, extract_low, Nat.reduceSub,
      BitVec.extractLsb'_eq_self, BitVec.reduceExtractLsb', BitVec.reduceToNat]
  · rw [h]
    simp (disch := decide) only [fld_cast, extract_high, extract_low, Nat.reduceSub,
      BitVec.extractLsb'_eq_self, BitVec.reduceExtractLsb', BitVec.reduceToNat]
    rfl
  · exact ⟨by decide, hd⟩
  · intro _
    rw [slotClaim, h]
    simp (disch := decide) only [fld_cast, extract_high, extract_low, Nat.reduceSub,
      BitVec.extractLsb'_eq_self, BitVec.reduceExtractLsb', BitVec.reduceToNat]
    rfl

theorem alu2Min l d a b w q : Statement (.alu2Min l d a b w q) := by
  have h : rawOf (.alu2Min l d a b w q) = BitVec.cast (by decide) (2#6 ++ l ++ d ++ a ++ b ++ 0#4 ++ w ++ q) := rfl
  have hd : decodeCommon (rawOf (.alu2Min l d a b w q)) = some (.alu2Min l d a b w q) := by
    rw [h]
    simp (disch := decide) only [decodeCommon, fld_cast, extract_high, extract_low, Nat.reduceSub,
      BitVec.extractLsb'_eq_self, BitVec.reduceExtractLsb', BitVec.reduceToNat]
    all_goals rfl
  refine of_word _ 0x02 ?_ ?_ ?_ ?_
  · rw [h]
    simp (disch := decide) only [fld_cast, extract_high, extract_low, Nat.reduceSub,
      BitVec.extractLsb'_eq_self, BitVec.reduceExtractLsb', BitVec.reduceToNat]
  · rw [h]
    simp (disch := decide) only [fld_cast, extract_high, extract_low, Nat.reduceSub,
      BitVec.extractLsb'_eq_self, BitVec.reduceExtractLsb', BitVec.reduceToNat]
    rfl
  · exact ⟨by decide, hd⟩
  · intro _
    rw [slotClaim, h]
    simp (disch := decide) only [fld_cast, extract_high, extract_low, Nat.reduceSub,
      BitVec.extractLsb'_eq_self, BitVec.reduceExtractLsb', BitVec.reduceToNat]
    rfl

theorem alu2Max l d a b w q : Statement (.alu2Max l d a b w q) := by
  have h : rawOf (.alu2Max l d a b w q) = BitVec.cast (by decide) (2#6 ++ l ++ d ++ a ++ b ++ 1#4 ++ w ++ q) := rfl
  have hd : decodeCommon (rawOf (.alu2Max l d a b w q)) = some (.alu2Max l d a b w q) := by
    rw [h]
    simp (disch := decide) only [decodeCommon, fld_cast, extract_high, extract_low, Nat.reduceSub,
      BitVec.extractLsb'_eq_self, BitVec.reduceExtractLsb', BitVec.reduceToNat]
    all_goals rfl
  refine of_word _ 0x02 ?_ ?_ ?_ ?_
  · rw [h]
    simp (disch := decide) only [fld_cast, extract_high, extract_low, Nat.reduceSub,
      BitVec.extractLsb'_eq_self, BitVec.reduceExtractLsb', BitVec.reduceToNat]
  · rw [h]
    simp (disch := decide) only [fld_cast, extract_high, extract_low, Nat.reduceSub,
      BitVec.extractLsb'_eq_self, BitVec.reduceExtractLsb', BitVec.reduceToNat]
    rfl
  · exact ⟨by decide, hd⟩
  · intro _
    rw [slotClaim, h]
    simp (disch := decide) only [fld_cast, extract_high, extract_low, Nat.reduceSub,
      BitVec.extractLsb'_eq_self, BitVec.reduceExtractLsb', BitVec.reduceToNat]
    rfl

theorem alu2Minu l d a b w q : Statement (.alu2Minu l d a b w q) := by
  have h : rawOf (.alu2Minu l d a b w q) = BitVec.cast (by decide) (2#6 ++ l ++ d ++ a ++ b ++ 2#4 ++ w ++ q) := rfl
  have hd : decodeCommon (rawOf (.alu2Minu l d a b w q)) = some (.alu2Minu l d a b w q) := by
    rw [h]
    simp (disch := decide) only [decodeCommon, fld_cast, extract_high, extract_low, Nat.reduceSub,
      BitVec.extractLsb'_eq_self, BitVec.reduceExtractLsb', BitVec.reduceToNat]
    all_goals rfl
  refine of_word _ 0x02 ?_ ?_ ?_ ?_
  · rw [h]
    simp (disch := decide) only [fld_cast, extract_high, extract_low, Nat.reduceSub,
      BitVec.extractLsb'_eq_self, BitVec.reduceExtractLsb', BitVec.reduceToNat]
  · rw [h]
    simp (disch := decide) only [fld_cast, extract_high, extract_low, Nat.reduceSub,
      BitVec.extractLsb'_eq_self, BitVec.reduceExtractLsb', BitVec.reduceToNat]
    rfl
  · exact ⟨by decide, hd⟩
  · intro _
    rw [slotClaim, h]
    simp (disch := decide) only [fld_cast, extract_high, extract_low, Nat.reduceSub,
      BitVec.extractLsb'_eq_self, BitVec.reduceExtractLsb', BitVec.reduceToNat]
    rfl

theorem alu2Maxu l d a b w q : Statement (.alu2Maxu l d a b w q) := by
  have h : rawOf (.alu2Maxu l d a b w q) = BitVec.cast (by decide) (2#6 ++ l ++ d ++ a ++ b ++ 3#4 ++ w ++ q) := rfl
  have hd : decodeCommon (rawOf (.alu2Maxu l d a b w q)) = some (.alu2Maxu l d a b w q) := by
    rw [h]
    simp (disch := decide) only [decodeCommon, fld_cast, extract_high, extract_low, Nat.reduceSub,
      BitVec.extractLsb'_eq_self, BitVec.reduceExtractLsb', BitVec.reduceToNat]
    all_goals rfl
  refine of_word _ 0x02 ?_ ?_ ?_ ?_
  · rw [h]
    simp (disch := decide) only [fld_cast, extract_high, extract_low, Nat.reduceSub,
      BitVec.extractLsb'_eq_self, BitVec.reduceExtractLsb', BitVec.reduceToNat]
  · rw [h]
    simp (disch := decide) only [fld_cast, extract_high, extract_low, Nat.reduceSub,
      BitVec.extractLsb'_eq_self, BitVec.reduceExtractLsb', BitVec.reduceToNat]
    rfl
  · exact ⟨by decide, hd⟩
  · intro _
    rw [slotClaim, h]
    simp (disch := decide) only [fld_cast, extract_high, extract_low, Nat.reduceSub,
      BitVec.extractLsb'_eq_self, BitVec.reduceExtractLsb', BitVec.reduceToNat]
    rfl

theorem alu2Clz l d a w q : Statement (.alu2Clz l d a w q) := by
  have h : rawOf (.alu2Clz l d a w q) = BitVec.cast (by decide) (2#6 ++ l ++ d ++ a ++ 4#9 ++ w ++ q) := rfl
  have hd : decodeCommon (rawOf (.alu2Clz l d a w q)) = some (.alu2Clz l d a w q) := by
    rw [h]
    simp (disch := decide) only [decodeCommon, fld_cast, extract_high, extract_low, Nat.reduceSub,
      BitVec.extractLsb'_eq_self, BitVec.reduceExtractLsb', BitVec.reduceToNat]
    all_goals rfl
  refine of_word _ 0x02 ?_ ?_ ?_ ?_
  · rw [h]
    simp (disch := decide) only [fld_cast, extract_high, extract_low, Nat.reduceSub,
      BitVec.extractLsb'_eq_self, BitVec.reduceExtractLsb', BitVec.reduceToNat]
  · rw [h]
    simp (disch := decide) only [fld_cast, extract_high, extract_low, Nat.reduceSub,
      BitVec.extractLsb'_eq_self, BitVec.reduceExtractLsb', BitVec.reduceToNat]
    rfl
  · exact ⟨by decide, hd⟩
  · intro _
    rw [slotClaim, h]
    simp (disch := decide) only [fld_cast, extract_high, extract_low, Nat.reduceSub,
      BitVec.extractLsb'_eq_self, BitVec.reduceExtractLsb', BitVec.reduceToNat]
    rfl

theorem alu2Ctz l d a w q : Statement (.alu2Ctz l d a w q) := by
  have h : rawOf (.alu2Ctz l d a w q) = BitVec.cast (by decide) (2#6 ++ l ++ d ++ a ++ 5#9 ++ w ++ q) := rfl
  have hd : decodeCommon (rawOf (.alu2Ctz l d a w q)) = some (.alu2Ctz l d a w q) := by
    rw [h]
    simp (disch := decide) only [decodeCommon, fld_cast, extract_high, extract_low, Nat.reduceSub,
      BitVec.extractLsb'_eq_self, BitVec.reduceExtractLsb', BitVec.reduceToNat]
    all_goals rfl
  refine of_word _ 0x02 ?_ ?_ ?_ ?_
  · rw [h]
    simp (disch := decide) only [fld_cast, extract_high, extract_low, Nat.reduceSub,
      BitVec.extractLsb'_eq_self, BitVec.reduceExtractLsb', BitVec.reduceToNat]
  · rw [h]
    simp (disch := decide) only [fld_cast, extract_high, extract_low, Nat.reduceSub,
      BitVec.extractLsb'_eq_self, BitVec.reduceExtractLsb', BitVec.reduceToNat]
    rfl
  · exact ⟨by decide, hd⟩
  · intro _
    rw [slotClaim, h]
    simp (disch := decide) only [fld_cast, extract_high, extract_low, Nat.reduceSub,
      BitVec.extractLsb'_eq_self, BitVec.reduceExtractLsb', BitVec.reduceToNat]
    rfl

theorem alu2Popc l d a w q : Statement (.alu2Popc l d a w q) := by
  have h : rawOf (.alu2Popc l d a w q) = BitVec.cast (by decide) (2#6 ++ l ++ d ++ a ++ 6#9 ++ w ++ q) := rfl
  have hd : decodeCommon (rawOf (.alu2Popc l d a w q)) = some (.alu2Popc l d a w q) := by
    rw [h]
    simp (disch := decide) only [decodeCommon, fld_cast, extract_high, extract_low, Nat.reduceSub,
      BitVec.extractLsb'_eq_self, BitVec.reduceExtractLsb', BitVec.reduceToNat]
    all_goals rfl
  refine of_word _ 0x02 ?_ ?_ ?_ ?_
  · rw [h]
    simp (disch := decide) only [fld_cast, extract_high, extract_low, Nat.reduceSub,
      BitVec.extractLsb'_eq_self, BitVec.reduceExtractLsb', BitVec.reduceToNat]
  · rw [h]
    simp (disch := decide) only [fld_cast, extract_high, extract_low, Nat.reduceSub,
      BitVec.extractLsb'_eq_self, BitVec.reduceExtractLsb', BitVec.reduceToNat]
    rfl
  · exact ⟨by decide, hd⟩
  · intro _
    rw [slotClaim, h]
    simp (disch := decide) only [fld_cast, extract_high, extract_low, Nat.reduceSub,
      BitVec.extractLsb'_eq_self, BitVec.reduceExtractLsb', BitVec.reduceToNat]
    rfl

theorem alu2Brev l d a w q : Statement (.alu2Brev l d a w q) := by
  have h : rawOf (.alu2Brev l d a w q) = BitVec.cast (by decide) (2#6 ++ l ++ d ++ a ++ 7#9 ++ w ++ q) := rfl
  have hd : decodeCommon (rawOf (.alu2Brev l d a w q)) = some (.alu2Brev l d a w q) := by
    rw [h]
    simp (disch := decide) only [decodeCommon, fld_cast, extract_high, extract_low, Nat.reduceSub,
      BitVec.extractLsb'_eq_self, BitVec.reduceExtractLsb', BitVec.reduceToNat]
    all_goals rfl
  refine of_word _ 0x02 ?_ ?_ ?_ ?_
  · rw [h]
    simp (disch := decide) only [fld_cast, extract_high, extract_low, Nat.reduceSub,
      BitVec.extractLsb'_eq_self, BitVec.reduceExtractLsb', BitVec.reduceToNat]
  · rw [h]
    simp (disch := decide) only [fld_cast, extract_high, extract_low, Nat.reduceSub,
      BitVec.extractLsb'_eq_self, BitVec.reduceExtractLsb', BitVec.reduceToNat]
    rfl
  · exact ⟨by decide, hd⟩
  · intro _
    rw [slotClaim, h]
    simp (disch := decide) only [fld_cast, extract_high, extract_low, Nat.reduceSub,
      BitVec.extractLsb'_eq_self, BitVec.reduceExtractLsb', BitVec.reduceToNat]
    rfl

theorem alu2Bswap l d a w q : Statement (.alu2Bswap l d a w q) := by
  have h : rawOf (.alu2Bswap l d a w q) = BitVec.cast (by decide) (2#6 ++ l ++ d ++ a ++ 8#9 ++ w ++ q) := rfl
  have hd : decodeCommon (rawOf (.alu2Bswap l d a w q)) = some (.alu2Bswap l d a w q) := by
    rw [h]
    simp (disch := decide) only [decodeCommon, fld_cast, extract_high, extract_low, Nat.reduceSub,
      BitVec.extractLsb'_eq_self, BitVec.reduceExtractLsb', BitVec.reduceToNat]
    all_goals rfl
  refine of_word _ 0x02 ?_ ?_ ?_ ?_
  · rw [h]
    simp (disch := decide) only [fld_cast, extract_high, extract_low, Nat.reduceSub,
      BitVec.extractLsb'_eq_self, BitVec.reduceExtractLsb', BitVec.reduceToNat]
  · rw [h]
    simp (disch := decide) only [fld_cast, extract_high, extract_low, Nat.reduceSub,
      BitVec.extractLsb'_eq_self, BitVec.reduceExtractLsb', BitVec.reduceToNat]
    rfl
  · exact ⟨by decide, hd⟩
  · intro _
    rw [slotClaim, h]
    simp (disch := decide) only [fld_cast, extract_high, extract_low, Nat.reduceSub,
      BitVec.extractLsb'_eq_self, BitVec.reduceExtractLsb', BitVec.reduceToNat]
    rfl

theorem alu2Sel l d a b w q : Statement (.alu2Sel l d a b w q) := by
  have h : rawOf (.alu2Sel l d a b w q) = BitVec.cast (by decide) (2#6 ++ l ++ d ++ a ++ b ++ 9#4 ++ w ++ q) := rfl
  have hd : decodeCommon (rawOf (.alu2Sel l d a b w q)) = some (.alu2Sel l d a b w q) := by
    rw [h]
    simp (disch := decide) only [decodeCommon, fld_cast, extract_high, extract_low, Nat.reduceSub,
      BitVec.extractLsb'_eq_self, BitVec.reduceExtractLsb', BitVec.reduceToNat]
    all_goals rfl
  refine of_word _ 0x02 ?_ ?_ ?_ ?_
  · rw [h]
    simp (disch := decide) only [fld_cast, extract_high, extract_low, Nat.reduceSub,
      BitVec.extractLsb'_eq_self, BitVec.reduceExtractLsb', BitVec.reduceToNat]
  · rw [h]
    simp (disch := decide) only [fld_cast, extract_high, extract_low, Nat.reduceSub,
      BitVec.extractLsb'_eq_self, BitVec.reduceExtractLsb', BitVec.reduceToNat]
    rfl
  · exact ⟨by decide, hd⟩
  · intro _
    rw [slotClaim, h]
    simp (disch := decide) only [fld_cast, extract_high, extract_low, Nat.reduceSub,
      BitVec.extractLsb'_eq_self, BitVec.reduceExtractLsb', BitVec.reduceToNat]
    rfl

theorem alu2Rol l d a b w q : Statement (.alu2Rol l d a b w q) := by
  have h : rawOf (.alu2Rol l d a b w q) = BitVec.cast (by decide) (2#6 ++ l ++ d ++ a ++ b ++ 10#4 ++ w ++ q) := rfl
  have hd : decodeCommon (rawOf (.alu2Rol l d a b w q)) = some (.alu2Rol l d a b w q) := by
    rw [h]
    simp (disch := decide) only [decodeCommon, fld_cast, extract_high, extract_low, Nat.reduceSub,
      BitVec.extractLsb'_eq_self, BitVec.reduceExtractLsb', BitVec.reduceToNat]
    all_goals rfl
  refine of_word _ 0x02 ?_ ?_ ?_ ?_
  · rw [h]
    simp (disch := decide) only [fld_cast, extract_high, extract_low, Nat.reduceSub,
      BitVec.extractLsb'_eq_self, BitVec.reduceExtractLsb', BitVec.reduceToNat]
  · rw [h]
    simp (disch := decide) only [fld_cast, extract_high, extract_low, Nat.reduceSub,
      BitVec.extractLsb'_eq_self, BitVec.reduceExtractLsb', BitVec.reduceToNat]
    rfl
  · exact ⟨by decide, hd⟩
  · intro _
    rw [slotClaim, h]
    simp (disch := decide) only [fld_cast, extract_high, extract_low, Nat.reduceSub,
      BitVec.extractLsb'_eq_self, BitVec.reduceExtractLsb', BitVec.reduceToNat]
    rfl

theorem alu2Ror l d a b w q : Statement (.alu2Ror l d a b w q) := by
  have h : rawOf (.alu2Ror l d a b w q) = BitVec.cast (by decide) (2#6 ++ l ++ d ++ a ++ b ++ 11#4 ++ w ++ q) := rfl
  have hd : decodeCommon (rawOf (.alu2Ror l d a b w q)) = some (.alu2Ror l d a b w q) := by
    rw [h]
    simp (disch := decide) only [decodeCommon, fld_cast, extract_high, extract_low, Nat.reduceSub,
      BitVec.extractLsb'_eq_self, BitVec.reduceExtractLsb', BitVec.reduceToNat]
    all_goals rfl
  refine of_word _ 0x02 ?_ ?_ ?_ ?_
  · rw [h]
    simp (disch := decide) only [fld_cast, extract_high, extract_low, Nat.reduceSub,
      BitVec.extractLsb'_eq_self, BitVec.reduceExtractLsb', BitVec.reduceToNat]
  · rw [h]
    simp (disch := decide) only [fld_cast, extract_high, extract_low, Nat.reduceSub,
      BitVec.extractLsb'_eq_self, BitVec.reduceExtractLsb', BitVec.reduceToNat]
    rfl
  · exact ⟨by decide, hd⟩
  · intro _
    rw [slotClaim, h]
    simp (disch := decide) only [fld_cast, extract_high, extract_low, Nat.reduceSub,
      BitVec.extractLsb'_eq_self, BitVec.reduceExtractLsb', BitVec.reduceToNat]
    rfl

theorem addi l d a i : Statement (.addi l d a i) := by
  have h : rawOf (.addi l d a i) = BitVec.cast (by decide) (3#6 ++ l ++ d ++ a ++ i) := rfl
  have hd : decodeCommon (rawOf (.addi l d a i)) = some (.addi l d a i) := by
    rw [h]
    simp (disch := decide) only [decodeCommon, fld_cast, extract_high, extract_low, Nat.reduceSub,
      BitVec.extractLsb'_eq_self, BitVec.reduceExtractLsb', BitVec.reduceToNat]
    all_goals rfl
  refine of_word _ 0x03 ?_ ?_ ?_ ?_
  · rw [h]
    simp (disch := decide) only [fld_cast, extract_high, extract_low, Nat.reduceSub,
      BitVec.extractLsb'_eq_self, BitVec.reduceExtractLsb', BitVec.reduceToNat]
  · rw [h]
    simp (disch := decide) only [fld_cast, extract_high, extract_low, Nat.reduceSub,
      BitVec.extractLsb'_eq_self, BitVec.reduceExtractLsb', BitVec.reduceToNat]
    rfl
  · exact ⟨by decide, hd⟩
  · intro _
    rw [slotClaim, h]
    simp (disch := decide) only [fld_cast, extract_high, extract_low, Nat.reduceSub,
      BitVec.extractLsb'_eq_self, BitVec.reduceExtractLsb', BitVec.reduceToNat]
    rfl

theorem logiAndi l d a i : Statement (.logiAndi l d a i) := by
  have h : rawOf (.logiAndi l d a i) = BitVec.cast (by decide) (4#6 ++ l ++ d ++ a ++ 0#2 ++ i) := rfl
  have hd : decodeCommon (rawOf (.logiAndi l d a i)) = some (.logiAndi l d a i) := by
    rw [h]
    simp (disch := decide) only [decodeCommon, fld_cast, extract_high, extract_low, Nat.reduceSub,
      BitVec.extractLsb'_eq_self, BitVec.reduceExtractLsb', BitVec.reduceToNat]
    all_goals rfl
  refine of_word _ 0x04 ?_ ?_ ?_ ?_
  · rw [h]
    simp (disch := decide) only [fld_cast, extract_high, extract_low, Nat.reduceSub,
      BitVec.extractLsb'_eq_self, BitVec.reduceExtractLsb', BitVec.reduceToNat]
  · rw [h]
    simp (disch := decide) only [fld_cast, extract_high, extract_low, Nat.reduceSub,
      BitVec.extractLsb'_eq_self, BitVec.reduceExtractLsb', BitVec.reduceToNat]
    rfl
  · exact ⟨by decide, hd⟩
  · intro _
    rw [slotClaim, h]
    simp (disch := decide) only [fld_cast, extract_high, extract_low, Nat.reduceSub,
      BitVec.extractLsb'_eq_self, BitVec.reduceExtractLsb', BitVec.reduceToNat]
    rfl

theorem logiOri l d a i : Statement (.logiOri l d a i) := by
  have h : rawOf (.logiOri l d a i) = BitVec.cast (by decide) (4#6 ++ l ++ d ++ a ++ 1#2 ++ i) := rfl
  have hd : decodeCommon (rawOf (.logiOri l d a i)) = some (.logiOri l d a i) := by
    rw [h]
    simp (disch := decide) only [decodeCommon, fld_cast, extract_high, extract_low, Nat.reduceSub,
      BitVec.extractLsb'_eq_self, BitVec.reduceExtractLsb', BitVec.reduceToNat]
    all_goals rfl
  refine of_word _ 0x04 ?_ ?_ ?_ ?_
  · rw [h]
    simp (disch := decide) only [fld_cast, extract_high, extract_low, Nat.reduceSub,
      BitVec.extractLsb'_eq_self, BitVec.reduceExtractLsb', BitVec.reduceToNat]
  · rw [h]
    simp (disch := decide) only [fld_cast, extract_high, extract_low, Nat.reduceSub,
      BitVec.extractLsb'_eq_self, BitVec.reduceExtractLsb', BitVec.reduceToNat]
    rfl
  · exact ⟨by decide, hd⟩
  · intro _
    rw [slotClaim, h]
    simp (disch := decide) only [fld_cast, extract_high, extract_low, Nat.reduceSub,
      BitVec.extractLsb'_eq_self, BitVec.reduceExtractLsb', BitVec.reduceToNat]
    rfl

theorem logiXori l d a i : Statement (.logiXori l d a i) := by
  have h : rawOf (.logiXori l d a i) = BitVec.cast (by decide) (4#6 ++ l ++ d ++ a ++ 2#2 ++ i) := rfl
  have hd : decodeCommon (rawOf (.logiXori l d a i)) = some (.logiXori l d a i) := by
    rw [h]
    simp (disch := decide) only [decodeCommon, fld_cast, extract_high, extract_low, Nat.reduceSub,
      BitVec.extractLsb'_eq_self, BitVec.reduceExtractLsb', BitVec.reduceToNat]
    all_goals rfl
  refine of_word _ 0x04 ?_ ?_ ?_ ?_
  · rw [h]
    simp (disch := decide) only [fld_cast, extract_high, extract_low, Nat.reduceSub,
      BitVec.extractLsb'_eq_self, BitVec.reduceExtractLsb', BitVec.reduceToNat]
  · rw [h]
    simp (disch := decide) only [fld_cast, extract_high, extract_low, Nat.reduceSub,
      BitVec.extractLsb'_eq_self, BitVec.reduceExtractLsb', BitVec.reduceToNat]
    rfl
  · exact ⟨by decide, hd⟩
  · intro _
    rw [slotClaim, h]
    simp (disch := decide) only [fld_cast, extract_high, extract_low, Nat.reduceSub,
      BitVec.extractLsb'_eq_self, BitVec.reduceExtractLsb', BitVec.reduceToNat]
    rfl

theorem shiShl l d a n : Statement (.shiShl l d a n) := by
  have h : rawOf (.shiShl l d a n) = BitVec.cast (by decide) (5#6 ++ l ++ d ++ a ++ 0#9 ++ n) := rfl
  have hd : decodeCommon (rawOf (.shiShl l d a n)) = some (.shiShl l d a n) := by
    rw [h]
    simp (disch := decide) only [decodeCommon, fld_cast, extract_high, extract_low, Nat.reduceSub,
      BitVec.extractLsb'_eq_self, BitVec.reduceExtractLsb', BitVec.reduceToNat]
    all_goals rfl
  refine of_word _ 0x05 ?_ ?_ ?_ ?_
  · rw [h]
    simp (disch := decide) only [fld_cast, extract_high, extract_low, Nat.reduceSub,
      BitVec.extractLsb'_eq_self, BitVec.reduceExtractLsb', BitVec.reduceToNat]
  · rw [h]
    simp (disch := decide) only [fld_cast, extract_high, extract_low, Nat.reduceSub,
      BitVec.extractLsb'_eq_self, BitVec.reduceExtractLsb', BitVec.reduceToNat]
    rfl
  · exact ⟨by decide, hd⟩
  · intro _
    rw [slotClaim, h]
    simp (disch := decide) only [fld_cast, extract_high, extract_low, Nat.reduceSub,
      BitVec.extractLsb'_eq_self, BitVec.reduceExtractLsb', BitVec.reduceToNat]
    rfl

theorem shiShr l d a n : Statement (.shiShr l d a n) := by
  have h : rawOf (.shiShr l d a n) = BitVec.cast (by decide) (5#6 ++ l ++ d ++ a ++ 128#9 ++ n) := rfl
  have hd : decodeCommon (rawOf (.shiShr l d a n)) = some (.shiShr l d a n) := by
    rw [h]
    simp (disch := decide) only [decodeCommon, fld_cast, extract_high, extract_low, Nat.reduceSub,
      BitVec.extractLsb'_eq_self, BitVec.reduceExtractLsb', BitVec.reduceToNat]
    all_goals rfl
  refine of_word _ 0x05 ?_ ?_ ?_ ?_
  · rw [h]
    simp (disch := decide) only [fld_cast, extract_high, extract_low, Nat.reduceSub,
      BitVec.extractLsb'_eq_self, BitVec.reduceExtractLsb', BitVec.reduceToNat]
  · rw [h]
    simp (disch := decide) only [fld_cast, extract_high, extract_low, Nat.reduceSub,
      BitVec.extractLsb'_eq_self, BitVec.reduceExtractLsb', BitVec.reduceToNat]
    rfl
  · exact ⟨by decide, hd⟩
  · intro _
    rw [slotClaim, h]
    simp (disch := decide) only [fld_cast, extract_high, extract_low, Nat.reduceSub,
      BitVec.extractLsb'_eq_self, BitVec.reduceExtractLsb', BitVec.reduceToNat]
    rfl

theorem shiSar l d a n : Statement (.shiSar l d a n) := by
  have h : rawOf (.shiSar l d a n) = BitVec.cast (by decide) (5#6 ++ l ++ d ++ a ++ 256#9 ++ n) := rfl
  have hd : decodeCommon (rawOf (.shiSar l d a n)) = some (.shiSar l d a n) := by
    rw [h]
    simp (disch := decide) only [decodeCommon, fld_cast, extract_high, extract_low, Nat.reduceSub,
      BitVec.extractLsb'_eq_self, BitVec.reduceExtractLsb', BitVec.reduceToNat]
    all_goals rfl
  refine of_word _ 0x05 ?_ ?_ ?_ ?_
  · rw [h]
    simp (disch := decide) only [fld_cast, extract_high, extract_low, Nat.reduceSub,
      BitVec.extractLsb'_eq_self, BitVec.reduceExtractLsb', BitVec.reduceToNat]
  · rw [h]
    simp (disch := decide) only [fld_cast, extract_high, extract_low, Nat.reduceSub,
      BitVec.extractLsb'_eq_self, BitVec.reduceExtractLsb', BitVec.reduceToNat]
    rfl
  · exact ⟨by decide, hd⟩
  · intro _
    rw [slotClaim, h]
    simp (disch := decide) only [fld_cast, extract_high, extract_low, Nat.reduceSub,
      BitVec.extractLsb'_eq_self, BitVec.reduceExtractLsb', BitVec.reduceToNat]
    rfl

theorem shiRor l d a n : Statement (.shiRor l d a n) := by
  have h : rawOf (.shiRor l d a n) = BitVec.cast (by decide) (5#6 ++ l ++ d ++ a ++ 384#9 ++ n) := rfl
  have hd : decodeCommon (rawOf (.shiRor l d a n)) = some (.shiRor l d a n) := by
    rw [h]
    simp (disch := decide) only [decodeCommon, fld_cast, extract_high, extract_low, Nat.reduceSub,
      BitVec.extractLsb'_eq_self, BitVec.reduceExtractLsb', BitVec.reduceToNat]
    all_goals rfl
  refine of_word _ 0x05 ?_ ?_ ?_ ?_
  · rw [h]
    simp (disch := decide) only [fld_cast, extract_high, extract_low, Nat.reduceSub,
      BitVec.extractLsb'_eq_self, BitVec.reduceExtractLsb', BitVec.reduceToNat]
  · rw [h]
    simp (disch := decide) only [fld_cast, extract_high, extract_low, Nat.reduceSub,
      BitVec.extractLsb'_eq_self, BitVec.reduceExtractLsb', BitVec.reduceToNat]
    rfl
  · exact ⟨by decide, hd⟩
  · intro _
    rw [slotClaim, h]
    simp (disch := decide) only [fld_cast, extract_high, extract_low, Nat.reduceSub,
      BitVec.extractLsb'_eq_self, BitVec.reduceExtractLsb', BitVec.reduceToNat]
    rfl

theorem li l d i : Statement (.li l d i) := by
  have h : rawOf (.li l d i) = BitVec.cast (by decide) (6#6 ++ l ++ d ++ i) := rfl
  have hd : decodeCommon (rawOf (.li l d i)) = some (.li l d i) := by
    rw [h]
    simp (disch := decide) only [decodeCommon, fld_cast, extract_high, extract_low, Nat.reduceSub,
      BitVec.extractLsb'_eq_self, BitVec.reduceExtractLsb', BitVec.reduceToNat]
    all_goals rfl
  refine of_word _ 0x06 ?_ ?_ ?_ ?_
  · rw [h]
    simp (disch := decide) only [fld_cast, extract_high, extract_low, Nat.reduceSub,
      BitVec.extractLsb'_eq_self, BitVec.reduceExtractLsb', BitVec.reduceToNat]
  · rw [h]
    simp (disch := decide) only [fld_cast, extract_high, extract_low, Nat.reduceSub,
      BitVec.extractLsb'_eq_self, BitVec.reduceExtractLsb', BitVec.reduceToNat]
    rfl
  · exact ⟨by decide, hd⟩
  · intro _
    rw [slotClaim, h]
    simp (disch := decide) only [fld_cast, extract_high, extract_low, Nat.reduceSub,
      BitVec.extractLsb'_eq_self, BitVec.reduceExtractLsb', BitVec.reduceToNat]
    rfl

theorem lih l d i : Statement (.lih l d i) := by
  have h : rawOf (.lih l d i) = BitVec.cast (by decide) (7#6 ++ l ++ d ++ i) := rfl
  have hd : decodeCommon (rawOf (.lih l d i)) = some (.lih l d i) := by
    rw [h]
    simp (disch := decide) only [decodeCommon, fld_cast, extract_high, extract_low, Nat.reduceSub,
      BitVec.extractLsb'_eq_self, BitVec.reduceExtractLsb', BitVec.reduceToNat]
    all_goals rfl
  refine of_word _ 0x07 ?_ ?_ ?_ ?_
  · rw [h]
    simp (disch := decide) only [fld_cast, extract_high, extract_low, Nat.reduceSub,
      BitVec.extractLsb'_eq_self, BitVec.reduceExtractLsb', BitVec.reduceToNat]
  · rw [h]
    simp (disch := decide) only [fld_cast, extract_high, extract_low, Nat.reduceSub,
      BitVec.extractLsb'_eq_self, BitVec.reduceExtractLsb', BitVec.reduceToNat]
    rfl
  · exact ⟨by decide, hd⟩
  · intro _
    rw [slotClaim, h]
    simp (disch := decide) only [fld_cast, extract_high, extract_low, Nat.reduceSub,
      BitVec.extractLsb'_eq_self, BitVec.reduceExtractLsb', BitVec.reduceToNat]
    rfl

theorem cmp l f c a b q : Statement (.cmp l f c a b q) := by
  have h : rawOf (.cmp l f c a b q) = BitVec.cast (by decide) (8#6 ++ l ++ f ++ c ++ a ++ b ++ 0#4 ++ q) := rfl
  have hd : decodeCommon (rawOf (.cmp l f c a b q)) = some (.cmp l f c a b q) := by
    rw [h]
    simp (disch := decide) only [decodeCommon, fld_cast, extract_high, extract_low, Nat.reduceSub,
      BitVec.extractLsb'_eq_self, BitVec.reduceExtractLsb', BitVec.reduceToNat]
    all_goals rfl
  refine of_word _ 0x08 ?_ ?_ ?_ ?_
  · rw [h]
    simp (disch := decide) only [fld_cast, extract_high, extract_low, Nat.reduceSub,
      BitVec.extractLsb'_eq_self, BitVec.reduceExtractLsb', BitVec.reduceToNat]
  · rw [h]
    simp (disch := decide) only [fld_cast, extract_high, extract_low, Nat.reduceSub,
      BitVec.extractLsb'_eq_self, BitVec.reduceExtractLsb', BitVec.reduceToNat]
    rfl
  · exact ⟨by decide, hd⟩
  · intro _
    rw [slotClaim, h]
    simp (disch := decide) only [fld_cast, extract_high, extract_low, Nat.reduceSub,
      BitVec.extractLsb'_eq_self, BitVec.reduceExtractLsb', BitVec.reduceToNat]
    rfl

theorem cmpi l f c a i : Statement (.cmpi l f c a i) := by
  have h : rawOf (.cmpi l f c a i) = BitVec.cast (by decide) (9#6 ++ l ++ f ++ c ++ a ++ i) := rfl
  have hd : decodeCommon (rawOf (.cmpi l f c a i)) = some (.cmpi l f c a i) := by
    rw [h]
    simp (disch := decide) only [decodeCommon, fld_cast, extract_high, extract_low, Nat.reduceSub,
      BitVec.extractLsb'_eq_self, BitVec.reduceExtractLsb', BitVec.reduceToNat]
    all_goals rfl
  refine of_word _ 0x09 ?_ ?_ ?_ ?_
  · rw [h]
    simp (disch := decide) only [fld_cast, extract_high, extract_low, Nat.reduceSub,
      BitVec.extractLsb'_eq_self, BitVec.reduceExtractLsb', BitVec.reduceToNat]
  · rw [h]
    simp (disch := decide) only [fld_cast, extract_high, extract_low, Nat.reduceSub,
      BitVec.extractLsb'_eq_self, BitVec.reduceExtractLsb', BitVec.reduceToNat]
    rfl
  · exact ⟨by decide, hd⟩
  · intro _
    rw [slotClaim, h]
    simp (disch := decide) only [fld_cast, extract_high, extract_low, Nat.reduceSub,
      BitVec.extractLsb'_eq_self, BitVec.reduceExtractLsb', BitVec.reduceToNat]
    rfl

theorem fopAnd l d a b : Statement (.fopAnd l d a b) := by
  have h : rawOf (.fopAnd l d a b) = BitVec.cast (by decide) (10#6 ++ l ++ d ++ a ++ b ++ 0#16) := rfl
  have hd : decodeCommon (rawOf (.fopAnd l d a b)) = some (.fopAnd l d a b) := by
    rw [h]
    simp (disch := decide) only [decodeCommon, fld_cast, extract_high, extract_low, Nat.reduceSub,
      BitVec.extractLsb'_eq_self, BitVec.reduceExtractLsb', BitVec.reduceToNat]
    all_goals rfl
  refine of_word _ 0x0A ?_ ?_ ?_ ?_
  · rw [h]
    simp (disch := decide) only [fld_cast, extract_high, extract_low, Nat.reduceSub,
      BitVec.extractLsb'_eq_self, BitVec.reduceExtractLsb', BitVec.reduceToNat]
  · rw [h]
    simp (disch := decide) only [fld_cast, extract_high, extract_low, Nat.reduceSub,
      BitVec.extractLsb'_eq_self, BitVec.reduceExtractLsb', BitVec.reduceToNat]
    rfl
  · exact ⟨by decide, hd⟩
  · intro _
    rw [slotClaim, h]
    simp (disch := decide) only [fld_cast, extract_high, extract_low, Nat.reduceSub,
      BitVec.extractLsb'_eq_self, BitVec.reduceExtractLsb', BitVec.reduceToNat]
    rfl

theorem fopOr l d a b : Statement (.fopOr l d a b) := by
  have h : rawOf (.fopOr l d a b) = BitVec.cast (by decide) (10#6 ++ l ++ d ++ a ++ b ++ 8192#16) := rfl
  have hd : decodeCommon (rawOf (.fopOr l d a b)) = some (.fopOr l d a b) := by
    rw [h]
    simp (disch := decide) only [decodeCommon, fld_cast, extract_high, extract_low, Nat.reduceSub,
      BitVec.extractLsb'_eq_self, BitVec.reduceExtractLsb', BitVec.reduceToNat]
    all_goals rfl
  refine of_word _ 0x0A ?_ ?_ ?_ ?_
  · rw [h]
    simp (disch := decide) only [fld_cast, extract_high, extract_low, Nat.reduceSub,
      BitVec.extractLsb'_eq_self, BitVec.reduceExtractLsb', BitVec.reduceToNat]
  · rw [h]
    simp (disch := decide) only [fld_cast, extract_high, extract_low, Nat.reduceSub,
      BitVec.extractLsb'_eq_self, BitVec.reduceExtractLsb', BitVec.reduceToNat]
    rfl
  · exact ⟨by decide, hd⟩
  · intro _
    rw [slotClaim, h]
    simp (disch := decide) only [fld_cast, extract_high, extract_low, Nat.reduceSub,
      BitVec.extractLsb'_eq_self, BitVec.reduceExtractLsb', BitVec.reduceToNat]
    rfl

theorem fopXor l d a b : Statement (.fopXor l d a b) := by
  have h : rawOf (.fopXor l d a b) = BitVec.cast (by decide) (10#6 ++ l ++ d ++ a ++ b ++ 16384#16) := rfl
  have hd : decodeCommon (rawOf (.fopXor l d a b)) = some (.fopXor l d a b) := by
    rw [h]
    simp (disch := decide) only [decodeCommon, fld_cast, extract_high, extract_low, Nat.reduceSub,
      BitVec.extractLsb'_eq_self, BitVec.reduceExtractLsb', BitVec.reduceToNat]
    all_goals rfl
  refine of_word _ 0x0A ?_ ?_ ?_ ?_
  · rw [h]
    simp (disch := decide) only [fld_cast, extract_high, extract_low, Nat.reduceSub,
      BitVec.extractLsb'_eq_self, BitVec.reduceExtractLsb', BitVec.reduceToNat]
  · rw [h]
    simp (disch := decide) only [fld_cast, extract_high, extract_low, Nat.reduceSub,
      BitVec.extractLsb'_eq_self, BitVec.reduceExtractLsb', BitVec.reduceToNat]
    rfl
  · exact ⟨by decide, hd⟩
  · intro _
    rw [slotClaim, h]
    simp (disch := decide) only [fld_cast, extract_high, extract_low, Nat.reduceSub,
      BitVec.extractLsb'_eq_self, BitVec.reduceExtractLsb', BitVec.reduceToNat]
    rfl

theorem fopAndn l d a b : Statement (.fopAndn l d a b) := by
  have h : rawOf (.fopAndn l d a b) = BitVec.cast (by decide) (10#6 ++ l ++ d ++ a ++ b ++ 24576#16) := rfl
  have hd : decodeCommon (rawOf (.fopAndn l d a b)) = some (.fopAndn l d a b) := by
    rw [h]
    simp (disch := decide) only [decodeCommon, fld_cast, extract_high, extract_low, Nat.reduceSub,
      BitVec.extractLsb'_eq_self, BitVec.reduceExtractLsb', BitVec.reduceToNat]
    all_goals rfl
  refine of_word _ 0x0A ?_ ?_ ?_ ?_
  · rw [h]
    simp (disch := decide) only [fld_cast, extract_high, extract_low, Nat.reduceSub,
      BitVec.extractLsb'_eq_self, BitVec.reduceExtractLsb', BitVec.reduceToNat]
  · rw [h]
    simp (disch := decide) only [fld_cast, extract_high, extract_low, Nat.reduceSub,
      BitVec.extractLsb'_eq_self, BitVec.reduceExtractLsb', BitVec.reduceToNat]
    rfl
  · exact ⟨by decide, hd⟩
  · intro _
    rw [slotClaim, h]
    simp (disch := decide) only [fld_cast, extract_high, extract_low, Nat.reduceSub,
      BitVec.extractLsb'_eq_self, BitVec.reduceExtractLsb', BitVec.reduceToNat]
    rfl

theorem fopNot l d a : Statement (.fopNot l d a) := by
  have h : rawOf (.fopNot l d a) = BitVec.cast (by decide) (10#6 ++ l ++ d ++ a ++ 32768#19) := rfl
  have hd : decodeCommon (rawOf (.fopNot l d a)) = some (.fopNot l d a) := by
    rw [h]
    simp (disch := decide) only [decodeCommon, fld_cast, extract_high, extract_low, Nat.reduceSub,
      BitVec.extractLsb'_eq_self, BitVec.reduceExtractLsb', BitVec.reduceToNat]
    all_goals rfl
  refine of_word _ 0x0A ?_ ?_ ?_ ?_
  · rw [h]
    simp (disch := decide) only [fld_cast, extract_high, extract_low, Nat.reduceSub,
      BitVec.extractLsb'_eq_self, BitVec.reduceExtractLsb', BitVec.reduceToNat]
  · rw [h]
    simp (disch := decide) only [fld_cast, extract_high, extract_low, Nat.reduceSub,
      BitVec.extractLsb'_eq_self, BitVec.reduceExtractLsb', BitVec.reduceToNat]
    rfl
  · exact ⟨by decide, hd⟩
  · intro _
    rw [slotClaim, h]
    simp (disch := decide) only [fld_cast, extract_high, extract_low, Nat.reduceSub,
      BitVec.extractLsb'_eq_self, BitVec.reduceExtractLsb', BitVec.reduceToNat]
    rfl

theorem fopSet l d : Statement (.fopSet l d) := by
  have h : rawOf (.fopSet l d) = BitVec.cast (by decide) (10#6 ++ l ++ d ++ 40960#22) := rfl
  have hd : decodeCommon (rawOf (.fopSet l d)) = some (.fopSet l d) := by
    rw [h]
    simp (disch := decide) only [decodeCommon, fld_cast, extract_high, extract_low, Nat.reduceSub,
      BitVec.extractLsb'_eq_self, BitVec.reduceExtractLsb', BitVec.reduceToNat]
    all_goals rfl
  refine of_word _ 0x0A ?_ ?_ ?_ ?_
  · rw [h]
    simp (disch := decide) only [fld_cast, extract_high, extract_low, Nat.reduceSub,
      BitVec.extractLsb'_eq_self, BitVec.reduceExtractLsb', BitVec.reduceToNat]
  · rw [h]
    simp (disch := decide) only [fld_cast, extract_high, extract_low, Nat.reduceSub,
      BitVec.extractLsb'_eq_self, BitVec.reduceExtractLsb', BitVec.reduceToNat]
    rfl
  · exact ⟨by decide, hd⟩
  · intro _
    rw [slotClaim, h]
    simp (disch := decide) only [fld_cast, extract_high, extract_low, Nat.reduceSub,
      BitVec.extractLsb'_eq_self, BitVec.reduceExtractLsb', BitVec.reduceToNat]
    rfl

theorem fopClr l d : Statement (.fopClr l d) := by
  have h : rawOf (.fopClr l d) = BitVec.cast (by decide) (10#6 ++ l ++ d ++ 49152#22) := rfl
  have hd : decodeCommon (rawOf (.fopClr l d)) = some (.fopClr l d) := by
    rw [h]
    simp (disch := decide) only [decodeCommon, fld_cast, extract_high, extract_low, Nat.reduceSub,
      BitVec.extractLsb'_eq_self, BitVec.reduceExtractLsb', BitVec.reduceToNat]
    all_goals rfl
  refine of_word _ 0x0A ?_ ?_ ?_ ?_
  · rw [h]
    simp (disch := decide) only [fld_cast, extract_high, extract_low, Nat.reduceSub,
      BitVec.extractLsb'_eq_self, BitVec.reduceExtractLsb', BitVec.reduceToNat]
  · rw [h]
    simp (disch := decide) only [fld_cast, extract_high, extract_low, Nat.reduceSub,
      BitVec.extractLsb'_eq_self, BitVec.reduceExtractLsb', BitVec.reduceToNat]
    rfl
  · exact ⟨by decide, hd⟩
  · intro _
    rw [slotClaim, h]
    simp (disch := decide) only [fld_cast, extract_high, extract_low, Nat.reduceSub,
      BitVec.extractLsb'_eq_self, BitVec.reduceExtractLsb', BitVec.reduceToNat]
    rfl

theorem bfBfx l d a p n : Statement (.bfBfx l d a p n) := by
  have h : rawOf (.bfBfx l d a p n) = BitVec.cast (by decide) (11#6 ++ l ++ d ++ a ++ 0#2 ++ p ++ n ++ 0#1) := rfl
  have hd : decodeCommon (rawOf (.bfBfx l d a p n)) = some (.bfBfx l d a p n) := by
    rw [h]
    simp (disch := decide) only [decodeCommon, fld_cast, extract_high, extract_low, Nat.reduceSub,
      BitVec.extractLsb'_eq_self, BitVec.reduceExtractLsb', BitVec.reduceToNat]
    all_goals rfl
  refine of_word _ 0x0B ?_ ?_ ?_ ?_
  · rw [h]
    simp (disch := decide) only [fld_cast, extract_high, extract_low, Nat.reduceSub,
      BitVec.extractLsb'_eq_self, BitVec.reduceExtractLsb', BitVec.reduceToNat]
  · rw [h]
    simp (disch := decide) only [fld_cast, extract_high, extract_low, Nat.reduceSub,
      BitVec.extractLsb'_eq_self, BitVec.reduceExtractLsb', BitVec.reduceToNat]
    rfl
  · exact ⟨by decide, hd⟩
  · intro _
    rw [slotClaim, h]
    simp (disch := decide) only [fld_cast, extract_high, extract_low, Nat.reduceSub,
      BitVec.extractLsb'_eq_self, BitVec.reduceExtractLsb', BitVec.reduceToNat]
    rfl

theorem bfBfxu l d a p n : Statement (.bfBfxu l d a p n) := by
  have h : rawOf (.bfBfxu l d a p n) = BitVec.cast (by decide) (11#6 ++ l ++ d ++ a ++ 1#2 ++ p ++ n ++ 0#1) := rfl
  have hd : decodeCommon (rawOf (.bfBfxu l d a p n)) = some (.bfBfxu l d a p n) := by
    rw [h]
    simp (disch := decide) only [decodeCommon, fld_cast, extract_high, extract_low, Nat.reduceSub,
      BitVec.extractLsb'_eq_self, BitVec.reduceExtractLsb', BitVec.reduceToNat]
    all_goals rfl
  refine of_word _ 0x0B ?_ ?_ ?_ ?_
  · rw [h]
    simp (disch := decide) only [fld_cast, extract_high, extract_low, Nat.reduceSub,
      BitVec.extractLsb'_eq_self, BitVec.reduceExtractLsb', BitVec.reduceToNat]
  · rw [h]
    simp (disch := decide) only [fld_cast, extract_high, extract_low, Nat.reduceSub,
      BitVec.extractLsb'_eq_self, BitVec.reduceExtractLsb', BitVec.reduceToNat]
    rfl
  · exact ⟨by decide, hd⟩
  · intro _
    rw [slotClaim, h]
    simp (disch := decide) only [fld_cast, extract_high, extract_low, Nat.reduceSub,
      BitVec.extractLsb'_eq_self, BitVec.reduceExtractLsb', BitVec.reduceToNat]
    rfl

theorem bfBfi l d a p n : Statement (.bfBfi l d a p n) := by
  have h : rawOf (.bfBfi l d a p n) = BitVec.cast (by decide) (11#6 ++ l ++ d ++ a ++ 2#2 ++ p ++ n ++ 0#1) := rfl
  have hd : decodeCommon (rawOf (.bfBfi l d a p n)) = some (.bfBfi l d a p n) := by
    rw [h]
    simp (disch := decide) only [decodeCommon, fld_cast, extract_high, extract_low, Nat.reduceSub,
      BitVec.extractLsb'_eq_self, BitVec.reduceExtractLsb', BitVec.reduceToNat]
    all_goals rfl
  refine of_word _ 0x0B ?_ ?_ ?_ ?_
  · rw [h]
    simp (disch := decide) only [fld_cast, extract_high, extract_low, Nat.reduceSub,
      BitVec.extractLsb'_eq_self, BitVec.reduceExtractLsb', BitVec.reduceToNat]
  · rw [h]
    simp (disch := decide) only [fld_cast, extract_high, extract_low, Nat.reduceSub,
      BitVec.extractLsb'_eq_self, BitVec.reduceExtractLsb', BitVec.reduceToNat]
    rfl
  · exact ⟨by decide, hd⟩
  · intro _
    rw [slotClaim, h]
    simp (disch := decide) only [fld_cast, extract_high, extract_low, Nat.reduceSub,
      BitVec.extractLsb'_eq_self, BitVec.reduceExtractLsb', BitVec.reduceToNat]
    rfl

theorem pbr l b i : Statement (.pbr l b i) := by
  have h : rawOf (.pbr l b i) = BitVec.cast (by decide) (12#6 ++ l ++ b ++ 0#1 ++ i) := rfl
  have hd : decodeCommon (rawOf (.pbr l b i)) = some (.pbr l b i) := by
    rw [h]
    simp (disch := decide) only [decodeCommon, fld_cast, extract_high, extract_low, Nat.reduceSub,
      BitVec.extractLsb'_eq_self, BitVec.reduceExtractLsb', BitVec.reduceToNat]
    all_goals rfl
  refine of_word _ 0x0C ?_ ?_ ?_ ?_
  · rw [h]
    simp (disch := decide) only [fld_cast, extract_high, extract_low, Nat.reduceSub,
      BitVec.extractLsb'_eq_self, BitVec.reduceExtractLsb', BitVec.reduceToNat]
  · rw [h]
    simp (disch := decide) only [fld_cast, extract_high, extract_low, Nat.reduceSub,
      BitVec.extractLsb'_eq_self, BitVec.reduceExtractLsb', BitVec.reduceToNat]
    rfl
  · exact ⟨by decide, hd⟩
  · intro _
    rw [slotClaim, h]
    simp (disch := decide) only [fld_cast, extract_high, extract_low, Nat.reduceSub,
      BitVec.extractLsb'_eq_self, BitVec.reduceExtractLsb', BitVec.reduceToNat]
    rfl

theorem pbrReg l b s : Statement (.pbrReg l b s) := by
  have h : rawOf (.pbrReg l b s) = BitVec.cast (by decide) (12#6 ++ l ++ b ++ 1#1 ++ s ++ 0#16) := rfl
  have hd : decodeCommon (rawOf (.pbrReg l b s)) = some (.pbrReg l b s) := by
    rw [h]
    simp (disch := decide) only [decodeCommon, fld_cast, extract_high, extract_low, Nat.reduceSub,
      BitVec.extractLsb'_eq_self, BitVec.reduceExtractLsb', BitVec.reduceToNat]
    all_goals rfl
  refine of_word _ 0x0C ?_ ?_ ?_ ?_
  · rw [h]
    simp (disch := decide) only [fld_cast, extract_high, extract_low, Nat.reduceSub,
      BitVec.extractLsb'_eq_self, BitVec.reduceExtractLsb', BitVec.reduceToNat]
  · rw [h]
    simp (disch := decide) only [fld_cast, extract_high, extract_low, Nat.reduceSub,
      BitVec.extractLsb'_eq_self, BitVec.reduceExtractLsb', BitVec.reduceToNat]
    rfl
  · exact ⟨by decide, hd⟩
  · intro _
    rw [slotClaim, h]
    simp (disch := decide) only [fld_cast, extract_high, extract_low, Nat.reduceSub,
      BitVec.extractLsb'_eq_self, BitVec.reduceExtractLsb', BitVec.reduceToNat]
    rfl

theorem br l b q : Statement (.br l b q) := by
  have h : rawOf (.br l b q) = BitVec.cast (by decide) (13#6 ++ l ++ b ++ 0#18 ++ q) := rfl
  have hd : decodeCommon (rawOf (.br l b q)) = some (.br l b q) := by
    rw [h]
    simp (disch := decide) only [decodeCommon, fld_cast, extract_high, extract_low, Nat.reduceSub,
      BitVec.extractLsb'_eq_self, BitVec.reduceExtractLsb', BitVec.reduceToNat]
    all_goals rfl
  refine of_word _ 0x0D ?_ ?_ ?_ ?_
  · rw [h]
    simp (disch := decide) only [fld_cast, extract_high, extract_low, Nat.reduceSub,
      BitVec.extractLsb'_eq_self, BitVec.reduceExtractLsb', BitVec.reduceToNat]
  · rw [h]
    simp (disch := decide) only [fld_cast, extract_high, extract_low, Nat.reduceSub,
      BitVec.extractLsb'_eq_self, BitVec.reduceExtractLsb', BitVec.reduceToNat]
    rfl
  · exact ⟨by decide, hd⟩
  · intro _
    rw [slotClaim, h]
    simp (disch := decide) only [fld_cast, extract_high, extract_low, Nat.reduceSub,
      BitVec.extractLsb'_eq_self, BitVec.reduceExtractLsb', BitVec.reduceToNat]
    rfl

theorem brl l b q : Statement (.brl l b q) := by
  have h : rawOf (.brl l b q) = BitVec.cast (by decide) (13#6 ++ l ++ b ++ 131072#18 ++ q) := rfl
  have hd : decodeCommon (rawOf (.brl l b q)) = some (.brl l b q) := by
    rw [h]
    simp (disch := decide) only [decodeCommon, fld_cast, extract_high, extract_low, Nat.reduceSub,
      BitVec.extractLsb'_eq_self, BitVec.reduceExtractLsb', BitVec.reduceToNat]
    all_goals rfl
  refine of_word _ 0x0D ?_ ?_ ?_ ?_
  · rw [h]
    simp (disch := decide) only [fld_cast, extract_high, extract_low, Nat.reduceSub,
      BitVec.extractLsb'_eq_self, BitVec.reduceExtractLsb', BitVec.reduceToNat]
  · rw [h]
    simp (disch := decide) only [fld_cast, extract_high, extract_low, Nat.reduceSub,
      BitVec.extractLsb'_eq_self, BitVec.reduceExtractLsb', BitVec.reduceToNat]
    rfl
  · exact ⟨by decide, hd⟩
  · intro _
    rw [slotClaim, h]
    simp (disch := decide) only [fld_cast, extract_high, extract_low, Nat.reduceSub,
      BitVec.extractLsb'_eq_self, BitVec.reduceExtractLsb', BitVec.reduceToNat]
    rfl

theorem loop l s n : Statement (.loop l s n) := by
  have h : rawOf (.loop l s n) = BitVec.cast (by decide) (14#6 ++ l ++ 0#6 ++ s ++ n) := rfl
  have hd : decodeCommon (rawOf (.loop l s n)) = some (.loop l s n) := by
    rw [h]
    simp (disch := decide) only [decodeCommon, fld_cast, extract_high, extract_low, Nat.reduceSub,
      BitVec.extractLsb'_eq_self, BitVec.reduceExtractLsb', BitVec.reduceToNat]
    all_goals rfl
  refine of_word _ 0x0E ?_ ?_ ?_ ?_
  · rw [h]
    simp (disch := decide) only [fld_cast, extract_high, extract_low, Nat.reduceSub,
      BitVec.extractLsb'_eq_self, BitVec.reduceExtractLsb', BitVec.reduceToNat]
  · rw [h]
    simp (disch := decide) only [fld_cast, extract_high, extract_low, Nat.reduceSub,
      BitVec.extractLsb'_eq_self, BitVec.reduceExtractLsb', BitVec.reduceToNat]
    rfl
  · exact ⟨by decide, hd⟩
  · intro _
    rw [slotClaim, h]
    simp (disch := decide) only [fld_cast, extract_high, extract_low, Nat.reduceSub,
      BitVec.extractLsb'_eq_self, BitVec.reduceExtractLsb', BitVec.reduceToNat]
    rfl

theorem kloop l f p t s n : Statement (.kloop l f p t s n) := by
  have h : rawOf (.kloop l f p t s n) = BitVec.cast (by decide) (14#6 ++ l ++ 1#1 ++ f ++ p ++ t ++ s ++ n) := rfl
  have hd : decodeCommon (rawOf (.kloop l f p t s n)) = some (.kloop l f p t s n) := by
    rw [h]
    simp (disch := decide) only [decodeCommon, fld_cast, extract_high, extract_low, Nat.reduceSub,
      BitVec.extractLsb'_eq_self, BitVec.reduceExtractLsb', BitVec.reduceToNat]
    all_goals rfl
  refine of_word _ 0x0E ?_ ?_ ?_ ?_
  · rw [h]
    simp (disch := decide) only [fld_cast, extract_high, extract_low, Nat.reduceSub,
      BitVec.extractLsb'_eq_self, BitVec.reduceExtractLsb', BitVec.reduceToNat]
  · rw [h]
    simp (disch := decide) only [fld_cast, extract_high, extract_low, Nat.reduceSub,
      BitVec.extractLsb'_eq_self, BitVec.reduceExtractLsb', BitVec.reduceToNat]
    rfl
  · exact ⟨by decide, hd⟩
  · intro _
    rw [slotClaim, h]
    simp (disch := decide) only [fld_cast, extract_high, extract_low, Nat.reduceSub,
      BitVec.extractLsb'_eq_self, BitVec.reduceExtractLsb', BitVec.reduceToNat]
    rfl

theorem lds l d b z u p o : Statement (.lds l d b z u p o) := by
  have h : rawOf (.lds l d b z u p o) = BitVec.cast (by decide) (15#6 ++ l ++ d ++ b ++ z ++ u ++ p ++ o) := rfl
  have hd : decodeCommon (rawOf (.lds l d b z u p o)) = some (.lds l d b z u p o) := by
    rw [h]
    simp (disch := decide) only [decodeCommon, fld_cast, extract_high, extract_low, Nat.reduceSub,
      BitVec.extractLsb'_eq_self, BitVec.reduceExtractLsb', BitVec.reduceToNat]
    all_goals rfl
  refine of_word _ 0x0F ?_ ?_ ?_ ?_
  · rw [h]
    simp (disch := decide) only [fld_cast, extract_high, extract_low, Nat.reduceSub,
      BitVec.extractLsb'_eq_self, BitVec.reduceExtractLsb', BitVec.reduceToNat]
  · rw [h]
    simp (disch := decide) only [fld_cast, extract_high, extract_low, Nat.reduceSub,
      BitVec.extractLsb'_eq_self, BitVec.reduceExtractLsb', BitVec.reduceToNat]
    rfl
  · exact ⟨by decide, hd⟩
  · intro _
    rw [slotClaim, h]
    simp (disch := decide) only [fld_cast, extract_high, extract_low, Nat.reduceSub,
      BitVec.extractLsb'_eq_self, BitVec.reduceExtractLsb', BitVec.reduceToNat]
    rfl

theorem sts l d b z p o : Statement (.sts l d b z p o) := by
  have h : rawOf (.sts l d b z p o) = BitVec.cast (by decide) (16#6 ++ l ++ d ++ b ++ z ++ 0#1 ++ p ++ o) := rfl
  have hd : decodeCommon (rawOf (.sts l d b z p o)) = some (.sts l d b z p o) := by
    rw [h]
    simp (disch := decide) only [decodeCommon, fld_cast, extract_high, extract_low, Nat.reduceSub,
      BitVec.extractLsb'_eq_self, BitVec.reduceExtractLsb', BitVec.reduceToNat]
    all_goals rfl
  refine of_word _ 0x10 ?_ ?_ ?_ ?_
  · rw [h]
    simp (disch := decide) only [fld_cast, extract_high, extract_low, Nat.reduceSub,
      BitVec.extractLsb'_eq_self, BitVec.reduceExtractLsb', BitVec.reduceToNat]
  · rw [h]
    simp (disch := decide) only [fld_cast, extract_high, extract_low, Nat.reduceSub,
      BitVec.extractLsb'_eq_self, BitVec.reduceExtractLsb', BitVec.reduceToNat]
    rfl
  · exact ⟨by decide, hd⟩
  · intro _
    rw [slotClaim, h]
    simp (disch := decide) only [fld_cast, extract_high, extract_low, Nat.reduceSub,
      BitVec.extractLsb'_eq_self, BitVec.reduceExtractLsb', BitVec.reduceToNat]
    rfl

theorem xmovMovc l x y : Statement (.xmovMovc l x y) := by
  have h : rawOf (.xmovMovc l x y) = BitVec.cast (by decide) (17#6 ++ l ++ 0#3 ++ x ++ y ++ 0#12) := rfl
  have hd : decodeCommon (rawOf (.xmovMovc l x y)) = some (.xmovMovc l x y) := by
    rw [h]
    simp (disch := decide) only [decodeCommon, fld_cast, extract_high, extract_low, Nat.reduceSub,
      BitVec.extractLsb'_eq_self, BitVec.reduceExtractLsb', BitVec.reduceToNat]
    all_goals rfl
  refine of_word _ 0x11 ?_ ?_ ?_ ?_
  · rw [h]
    simp (disch := decide) only [fld_cast, extract_high, extract_low, Nat.reduceSub,
      BitVec.extractLsb'_eq_self, BitVec.reduceExtractLsb', BitVec.reduceToNat]
  · rw [h]
    simp (disch := decide) only [fld_cast, extract_high, extract_low, Nat.reduceSub,
      BitVec.extractLsb'_eq_self, BitVec.reduceExtractLsb', BitVec.reduceToNat]
    rfl
  · exact ⟨by decide, hd⟩
  · intro _
    rw [slotClaim, h]
    simp (disch := decide) only [fld_cast, extract_high, extract_low, Nat.reduceSub,
      BitVec.extractLsb'_eq_self, BitVec.reduceExtractLsb', BitVec.reduceToNat]
    rfl

theorem xmovMovtc l x y : Statement (.xmovMovtc l x y) := by
  have h : rawOf (.xmovMovtc l x y) = BitVec.cast (by decide) (17#6 ++ l ++ 1#3 ++ x ++ y ++ 0#12) := rfl
  have hd : decodeCommon (rawOf (.xmovMovtc l x y)) = some (.xmovMovtc l x y) := by
    rw [h]
    simp (disch := decide) only [decodeCommon, fld_cast, extract_high, extract_low, Nat.reduceSub,
      BitVec.extractLsb'_eq_self, BitVec.reduceExtractLsb', BitVec.reduceToNat]
    all_goals rfl
  refine of_word _ 0x11 ?_ ?_ ?_ ?_
  · rw [h]
    simp (disch := decide) only [fld_cast, extract_high, extract_low, Nat.reduceSub,
      BitVec.extractLsb'_eq_self, BitVec.reduceExtractLsb', BitVec.reduceToNat]
  · rw [h]
    simp (disch := decide) only [fld_cast, extract_high, extract_low, Nat.reduceSub,
      BitVec.extractLsb'_eq_self, BitVec.reduceExtractLsb', BitVec.reduceToNat]
    rfl
  · exact ⟨by decide, hd⟩
  · intro _
    rw [slotClaim, h]
    simp (disch := decide) only [fld_cast, extract_high, extract_low, Nat.reduceSub,
      BitVec.extractLsb'_eq_self, BitVec.reduceExtractLsb', BitVec.reduceToNat]
    rfl

theorem xmovRdsr l x r : Statement (.xmovRdsr l x r) := by
  have h : rawOf (.xmovRdsr l x r) = BitVec.cast (by decide) (17#6 ++ l ++ 2#3 ++ x ++ 0#5 ++ r) := rfl
  have hd : decodeCommon (rawOf (.xmovRdsr l x r)) = some (.xmovRdsr l x r) := by
    rw [h]
    simp (disch := decide) only [decodeCommon, fld_cast, extract_high, extract_low, Nat.reduceSub,
      BitVec.extractLsb'_eq_self, BitVec.reduceExtractLsb', BitVec.reduceToNat]
    all_goals rfl
  refine of_word _ 0x11 ?_ ?_ ?_ ?_
  · rw [h]
    simp (disch := decide) only [fld_cast, extract_high, extract_low, Nat.reduceSub,
      BitVec.extractLsb'_eq_self, BitVec.reduceExtractLsb', BitVec.reduceToNat]
  · rw [h]
    simp (disch := decide) only [fld_cast, extract_high, extract_low, Nat.reduceSub,
      BitVec.extractLsb'_eq_self, BitVec.reduceExtractLsb', BitVec.reduceToNat]
    rfl
  · exact ⟨by decide, hd⟩
  · intro _
    rw [slotClaim, h]
    simp (disch := decide) only [fld_cast, extract_high, extract_low, Nat.reduceSub,
      BitVec.extractLsb'_eq_self, BitVec.reduceExtractLsb', BitVec.reduceToNat]
    rfl

theorem xmovWrsr l y r : Statement (.xmovWrsr l y r) := by
  have h : rawOf (.xmovWrsr l y r) = BitVec.cast (by decide) (17#6 ++ l ++ 96#8 ++ y ++ r) := rfl
  have hd : decodeCommon (rawOf (.xmovWrsr l y r)) = some (.xmovWrsr l y r) := by
    rw [h]
    simp (disch := decide) only [decodeCommon, fld_cast, extract_high, extract_low, Nat.reduceSub,
      BitVec.extractLsb'_eq_self, BitVec.reduceExtractLsb', BitVec.reduceToNat]
    all_goals rfl
  refine of_word _ 0x11 ?_ ?_ ?_ ?_
  · rw [h]
    simp (disch := decide) only [fld_cast, extract_high, extract_low, Nat.reduceSub,
      BitVec.extractLsb'_eq_self, BitVec.reduceExtractLsb', BitVec.reduceToNat]
  · rw [h]
    simp (disch := decide) only [fld_cast, extract_high, extract_low, Nat.reduceSub,
      BitVec.extractLsb'_eq_self, BitVec.reduceExtractLsb', BitVec.reduceToNat]
    rfl
  · exact ⟨by decide, hd⟩
  · intro _
    rw [slotClaim, h]
    simp (disch := decide) only [fld_cast, extract_high, extract_low, Nat.reduceSub,
      BitVec.extractLsb'_eq_self, BitVec.reduceExtractLsb', BitVec.reduceToNat]
    rfl

theorem xmovMovb l x y : Statement (.xmovMovb l x y) := by
  have h : rawOf (.xmovMovb l x y) = BitVec.cast (by decide) (17#6 ++ l ++ 4#3 ++ x ++ y ++ 0#12) := rfl
  have hd : decodeCommon (rawOf (.xmovMovb l x y)) = some (.xmovMovb l x y) := by
    rw [h]
    simp (disch := decide) only [decodeCommon, fld_cast, extract_high, extract_low, Nat.reduceSub,
      BitVec.extractLsb'_eq_self, BitVec.reduceExtractLsb', BitVec.reduceToNat]
    all_goals rfl
  refine of_word _ 0x11 ?_ ?_ ?_ ?_
  · rw [h]
    simp (disch := decide) only [fld_cast, extract_high, extract_low, Nat.reduceSub,
      BitVec.extractLsb'_eq_self, BitVec.reduceExtractLsb', BitVec.reduceToNat]
  · rw [h]
    simp (disch := decide) only [fld_cast, extract_high, extract_low, Nat.reduceSub,
      BitVec.extractLsb'_eq_self, BitVec.reduceExtractLsb', BitVec.reduceToNat]
    rfl
  · exact ⟨by decide, hd⟩
  · intro _
    rw [slotClaim, h]
    simp (disch := decide) only [fld_cast, extract_high, extract_low, Nat.reduceSub,
      BitVec.extractLsb'_eq_self, BitVec.reduceExtractLsb', BitVec.reduceToNat]
    rfl

theorem flip l : Statement (.flip l) := by
  have h : rawOf (.flip l) = BitVec.cast (by decide) (18#6 ++ l ++ 0#25) := rfl
  have hd : decodeCommon (rawOf (.flip l)) = some (.flip l) := by
    rw [h]
    simp (disch := decide) only [decodeCommon, fld_cast, extract_high, extract_low, Nat.reduceSub,
      BitVec.extractLsb'_eq_self, BitVec.reduceExtractLsb', BitVec.reduceToNat]
    all_goals rfl
  refine of_word _ 0x12 ?_ ?_ ?_ ?_
  · rw [h]
    simp (disch := decide) only [fld_cast, extract_high, extract_low, Nat.reduceSub,
      BitVec.extractLsb'_eq_self, BitVec.reduceExtractLsb', BitVec.reduceToNat]
  · rw [h]
    simp (disch := decide) only [fld_cast, extract_high, extract_low, Nat.reduceSub,
      BitVec.extractLsb'_eq_self, BitVec.reduceExtractLsb', BitVec.reduceToNat]
    rfl
  · exact ⟨by decide, hd⟩
  · intro _
    rw [slotClaim, h]
    simp (disch := decide) only [fld_cast, extract_high, extract_low, Nat.reduceSub,
      BitVec.extractLsb'_eq_self, BitVec.reduceExtractLsb', BitVec.reduceToNat]
    rfl

theorem endStream l : Statement (.endStream l) := by
  have h : rawOf (.endStream l) = BitVec.cast (by decide) (18#6 ++ l ++ 2097152#25) := rfl
  have hd : decodeCommon (rawOf (.endStream l)) = some (.endStream l) := by
    rw [h]
    simp (disch := decide) only [decodeCommon, fld_cast, extract_high, extract_low, Nat.reduceSub,
      BitVec.extractLsb'_eq_self, BitVec.reduceExtractLsb', BitVec.reduceToNat]
    all_goals rfl
  refine of_word _ 0x12 ?_ ?_ ?_ ?_
  · rw [h]
    simp (disch := decide) only [fld_cast, extract_high, extract_low, Nat.reduceSub,
      BitVec.extractLsb'_eq_self, BitVec.reduceExtractLsb', BitVec.reduceToNat]
  · rw [h]
    simp (disch := decide) only [fld_cast, extract_high, extract_low, Nat.reduceSub,
      BitVec.extractLsb'_eq_self, BitVec.reduceExtractLsb', BitVec.reduceToNat]
    rfl
  · exact ⟨by decide, hd⟩
  · intro _
    rw [slotClaim, h]
    simp (disch := decide) only [fld_cast, extract_high, extract_low, Nat.reduceSub,
      BitVec.extractLsb'_eq_self, BitVec.reduceExtractLsb', BitVec.reduceToNat]
    rfl

theorem pdecl l c s b n : Statement (.pdecl l c s b n) := by
  have h : rawOf (.pdecl l c s b n) = BitVec.cast (by decide) (18#6 ++ l ++ 2#4 ++ c ++ s ++ b ++ n ++ 0#7) := rfl
  have hd : decodeCommon (rawOf (.pdecl l c s b n)) = some (.pdecl l c s b n) := by
    rw [h]
    simp (disch := decide) only [decodeCommon, fld_cast, extract_high, extract_low, Nat.reduceSub,
      BitVec.extractLsb'_eq_self, BitVec.reduceExtractLsb', BitVec.reduceToNat]
    all_goals rfl
  refine of_word _ 0x12 ?_ ?_ ?_ ?_
  · rw [h]
    simp (disch := decide) only [fld_cast, extract_high, extract_low, Nat.reduceSub,
      BitVec.extractLsb'_eq_self, BitVec.reduceExtractLsb', BitVec.reduceToNat]
  · rw [h]
    simp (disch := decide) only [fld_cast, extract_high, extract_low, Nat.reduceSub,
      BitVec.extractLsb'_eq_self, BitVec.reduceExtractLsb', BitVec.reduceToNat]
    rfl
  · exact ⟨by decide, hd⟩
  · intro _
    rw [slotClaim, h]
    simp (disch := decide) only [fld_cast, extract_high, extract_low, Nat.reduceSub,
      BitVec.extractLsb'_eq_self, BitVec.reduceExtractLsb', BitVec.reduceToNat]
    rfl

theorem tlwait l i n : Statement (.tlwait l i n) := by
  have h : rawOf (.tlwait l i n) = BitVec.cast (by decide) (18#6 ++ l ++ 3#4 ++ i ++ n ++ 0#11) := rfl
  have hd : decodeCommon (rawOf (.tlwait l i n)) = some (.tlwait l i n) := by
    rw [h]
    simp (disch := decide) only [decodeCommon, fld_cast, extract_high, extract_low, Nat.reduceSub,
      BitVec.extractLsb'_eq_self, BitVec.reduceExtractLsb', BitVec.reduceToNat]
    all_goals rfl
  refine of_word _ 0x12 ?_ ?_ ?_ ?_
  · rw [h]
    simp (disch := decide) only [fld_cast, extract_high, extract_low, Nat.reduceSub,
      BitVec.extractLsb'_eq_self, BitVec.reduceExtractLsb', BitVec.reduceToNat]
  · rw [h]
    simp (disch := decide) only [fld_cast, extract_high, extract_low, Nat.reduceSub,
      BitVec.extractLsb'_eq_self, BitVec.reduceExtractLsb', BitVec.reduceToNat]
    rfl
  · exact ⟨by decide, hd⟩
  · intro _
    rw [slotClaim, h]
    simp (disch := decide) only [fld_cast, extract_high, extract_low, Nat.reduceSub,
      BitVec.extractLsb'_eq_self, BitVec.reduceExtractLsb', BitVec.reduceToNat]
    rfl

theorem tlrd l d i : Statement (.tlrd l d i) := by
  have h : rawOf (.tlrd l d i) = BitVec.cast (by decide) (18#6 ++ l ++ 4#4 ++ d ++ i ++ 0#11) := rfl
  have hd : decodeCommon (rawOf (.tlrd l d i)) = some (.tlrd l d i) := by
    rw [h]
    simp (disch := decide) only [decodeCommon, fld_cast, extract_high, extract_low, Nat.reduceSub,
      BitVec.extractLsb'_eq_self, BitVec.reduceExtractLsb', BitVec.reduceToNat]
    all_goals rfl
  refine of_word _ 0x12 ?_ ?_ ?_ ?_
  · rw [h]
    simp (disch := decide) only [fld_cast, extract_high, extract_low, Nat.reduceSub,
      BitVec.extractLsb'_eq_self, BitVec.reduceExtractLsb', BitVec.reduceToNat]
  · rw [h]
    simp (disch := decide) only [fld_cast, extract_high, extract_low, Nat.reduceSub,
      BitVec.extractLsb'_eq_self, BitVec.reduceExtractLsb', BitVec.reduceToNat]
    rfl
  · exact ⟨by decide, hd⟩
  · intro _
    rw [slotClaim, h]
    simp (disch := decide) only [fld_cast, extract_high, extract_low, Nat.reduceSub,
      BitVec.extractLsb'_eq_self, BitVec.reduceExtractLsb', BitVec.reduceToNat]
    rfl

theorem tsig l t : Statement (.tsig l t) := by
  have h : rawOf (.tsig l t) = BitVec.cast (by decide) (18#6 ++ l ++ 5#4 ++ t ++ 0#19) := rfl
  have hd : decodeCommon (rawOf (.tsig l t)) = some (.tsig l t) := by
    rw [h]
    simp (disch := decide) only [decodeCommon, fld_cast, extract_high, extract_low, Nat.reduceSub,
      BitVec.extractLsb'_eq_self, BitVec.reduceExtractLsb', BitVec.reduceToNat]
    all_goals rfl
  refine of_word _ 0x12 ?_ ?_ ?_ ?_
  · rw [h]
    simp (disch := decide) only [fld_cast, extract_high, extract_low, Nat.reduceSub,
      BitVec.extractLsb'_eq_self, BitVec.reduceExtractLsb', BitVec.reduceToNat]
  · rw [h]
    simp (disch := decide) only [fld_cast, extract_high, extract_low, Nat.reduceSub,
      BitVec.extractLsb'_eq_self, BitVec.reduceExtractLsb', BitVec.reduceToNat]
    rfl
  · exact ⟨by decide, hd⟩
  · intro _
    rw [slotClaim, h]
    simp (disch := decide) only [fld_cast, extract_high, extract_low, Nat.reduceSub,
      BitVec.extractLsb'_eq_self, BitVec.reduceExtractLsb', BitVec.reduceToNat]
    rfl

theorem twait l s : Statement (.twait l s) := by
  have h : rawOf (.twait l s) = BitVec.cast (by decide) (18#6 ++ l ++ 6#4 ++ s ++ 0#19) := rfl
  have hd : decodeCommon (rawOf (.twait l s)) = some (.twait l s) := by
    rw [h]
    simp (disch := decide) only [decodeCommon, fld_cast, extract_high, extract_low, Nat.reduceSub,
      BitVec.extractLsb'_eq_self, BitVec.reduceExtractLsb', BitVec.reduceToNat]
    all_goals rfl
  refine of_word _ 0x12 ?_ ?_ ?_ ?_
  · rw [h]
    simp (disch := decide) only [fld_cast, extract_high, extract_low, Nat.reduceSub,
      BitVec.extractLsb'_eq_self, BitVec.reduceExtractLsb', BitVec.reduceToNat]
  · rw [h]
    simp (disch := decide) only [fld_cast, extract_high, extract_low, Nat.reduceSub,
      BitVec.extractLsb'_eq_self, BitVec.reduceExtractLsb', BitVec.reduceToNat]
    rfl
  · exact ⟨by decide, hd⟩
  · intro _
    rw [slotClaim, h]
    simp (disch := decide) only [fld_cast, extract_high, extract_low, Nat.reduceSub,
      BitVec.extractLsb'_eq_self, BitVec.reduceExtractLsb', BitVec.reduceToNat]
    rfl

theorem nop l : Statement (.nop l) := by
  have h : rawOf (.nop l) = BitVec.cast (by decide) (19#6 ++ l ++ 0#25) := rfl
  have hd : decodeCommon (rawOf (.nop l)) = some (.nop l) := by
    rw [h]
    simp (disch := decide) only [decodeCommon, fld_cast, extract_high, extract_low, Nat.reduceSub,
      BitVec.extractLsb'_eq_self, BitVec.reduceExtractLsb', BitVec.reduceToNat]
    all_goals rfl
  refine of_word _ 0x13 ?_ ?_ ?_ ?_
  · rw [h]
    simp (disch := decide) only [fld_cast, extract_high, extract_low, Nat.reduceSub,
      BitVec.extractLsb'_eq_self, BitVec.reduceExtractLsb', BitVec.reduceToNat]
  · rw [h]
    simp (disch := decide) only [fld_cast, extract_high, extract_low, Nat.reduceSub,
      BitVec.extractLsb'_eq_self, BitVec.reduceExtractLsb', BitVec.reduceToNat]
    rfl
  · exact ⟨by decide, hd⟩
  · intro _
    rw [slotClaim, h]
    simp (disch := decide) only [fld_cast, extract_high, extract_low, Nat.reduceSub,
      BitVec.extractLsb'_eq_self, BitVec.reduceExtractLsb', BitVec.reduceToNat]
    rfl

theorem trap l c : Statement (.trap l c) := by
  have h : rawOf (.trap l c) = BitVec.cast (by decide) (19#6 ++ l ++ 128#9 ++ c) := rfl
  have hd : decodeCommon (rawOf (.trap l c)) = some (.trap l c) := by
    rw [h]
    simp (disch := decide) only [decodeCommon, fld_cast, extract_high, extract_low, Nat.reduceSub,
      BitVec.extractLsb'_eq_self, BitVec.reduceExtractLsb', BitVec.reduceToNat]
    all_goals rfl
  refine of_word _ 0x13 ?_ ?_ ?_ ?_
  · rw [h]
    simp (disch := decide) only [fld_cast, extract_high, extract_low, Nat.reduceSub,
      BitVec.extractLsb'_eq_self, BitVec.reduceExtractLsb', BitVec.reduceToNat]
  · rw [h]
    simp (disch := decide) only [fld_cast, extract_high, extract_low, Nat.reduceSub,
      BitVec.extractLsb'_eq_self, BitVec.reduceExtractLsb', BitVec.reduceToNat]
    rfl
  · exact ⟨by decide, hd⟩
  · intro _
    rw [slotClaim, h]
    simp (disch := decide) only [fld_cast, extract_high, extract_low, Nat.reduceSub,
      BitVec.extractLsb'_eq_self, BitVec.reduceExtractLsb', BitVec.reduceToNat]
    rfl

theorem brk l c : Statement (.brk l c) := by
  have h : rawOf (.brk l c) = BitVec.cast (by decide) (19#6 ++ l ++ 256#9 ++ c) := rfl
  have hd : decodeCommon (rawOf (.brk l c)) = some (.brk l c) := by
    rw [h]
    simp (disch := decide) only [decodeCommon, fld_cast, extract_high, extract_low, Nat.reduceSub,
      BitVec.extractLsb'_eq_self, BitVec.reduceExtractLsb', BitVec.reduceToNat]
    all_goals rfl
  refine of_word _ 0x13 ?_ ?_ ?_ ?_
  · rw [h]
    simp (disch := decide) only [fld_cast, extract_high, extract_low, Nat.reduceSub,
      BitVec.extractLsb'_eq_self, BitVec.reduceExtractLsb', BitVec.reduceToNat]
  · rw [h]
    simp (disch := decide) only [fld_cast, extract_high, extract_low, Nat.reduceSub,
      BitVec.extractLsb'_eq_self, BitVec.reduceExtractLsb', BitVec.reduceToNat]
    rfl
  · exact ⟨by decide, hd⟩
  · intro _
    rw [slotClaim, h]
    simp (disch := decide) only [fld_cast, extract_high, extract_low, Nat.reduceSub,
      BitVec.extractLsb'_eq_self, BitVec.reduceExtractLsb', BitVec.reduceToNat]
    rfl

theorem fork m : Statement (.fork m) := by
  have h : rawOf (.fork m) = BitVec.cast (by decide) (82#8 ++ m ++ 0#21) := rfl
  have hd : decodeScOnly (rawOf (.fork m)) = some (.fork m) := by
    rw [h]
    simp (disch := decide) only [decodeScOnly, fld_cast, extract_high, extract_low, Nat.reduceSub,
      BitVec.extractLsb'_eq_self, BitVec.reduceExtractLsb', BitVec.reduceToNat]
    all_goals rfl
  refine of_word _ 0x14 ?_ ?_ ?_ ?_
  · rw [h]
    simp (disch := decide) only [fld_cast, extract_high, extract_low, Nat.reduceSub,
      BitVec.extractLsb'_eq_self, BitVec.reduceExtractLsb', BitVec.reduceToNat]
  · rw [h]
    simp (disch := decide) only [fld_cast, extract_high, extract_low, Nat.reduceSub,
      BitVec.extractLsb'_eq_self, BitVec.reduceExtractLsb', BitVec.reduceToNat]
    rfl
  · exact ⟨by decide, hd⟩
  · exact fun hf => absurd hf (by rw [classOf]; decide)

theorem join : Statement (.join) := by
  have h : rawOf (.join) = BitVec.cast (by decide) (1392508928#32) := rfl
  have hd : decodeScOnly (rawOf (.join)) = some (.join) := by
    rw [h]
    simp (disch := decide) only [decodeScOnly, fld_cast, extract_high, extract_low, Nat.reduceSub,
      BitVec.extractLsb'_eq_self, BitVec.reduceExtractLsb', BitVec.reduceToNat]
    all_goals rfl
  refine of_word _ 0x14 ?_ ?_ ?_ ?_
  · rw [h]
    simp (disch := decide) only [fld_cast, extract_high, extract_low, Nat.reduceSub,
      BitVec.extractLsb'_eq_self, BitVec.reduceExtractLsb', BitVec.reduceToNat]
  · rw [h]
    simp (disch := decide) only [fld_cast, extract_high, extract_low, Nat.reduceSub,
      BitVec.extractLsb'_eq_self, BitVec.reduceExtractLsb', BitVec.reduceToNat]
    rfl
  · exact ⟨by decide, hd⟩
  · exact fun hf => absurd hf (by rw [classOf]; decide)

theorem amo f w o c d b t : Statement (.amo f w o c d b t) := by
  have h : rawOf (.amo f w o c d b t) = BitVec.cast (by decide) (43#7 ++ f ++ w ++ o ++ c ++ d ++ b ++ t) := rfl
  have hd : decodeScOnly (rawOf (.amo f w o c d b t)) = some (.amo f w o c d b t) := by
    rw [h]
    simp (disch := decide) only [decodeScOnly, fld_cast, extract_high, extract_low, Nat.reduceSub,
      BitVec.extractLsb'_eq_self, BitVec.reduceExtractLsb', BitVec.reduceToNat]
    all_goals rfl
  refine of_word _ 0x15 ?_ ?_ ?_ ?_
  · rw [h]
    simp (disch := decide) only [fld_cast, extract_high, extract_low, Nat.reduceSub,
      BitVec.extractLsb'_eq_self, BitVec.reduceExtractLsb', BitVec.reduceToNat]
  · rw [h]
    simp (disch := decide) only [fld_cast, extract_high, extract_low, Nat.reduceSub,
      BitVec.extractLsb'_eq_self, BitVec.reduceExtractLsb', BitVec.reduceToNat]
    rfl
  · exact ⟨by decide, hd⟩
  · exact fun hf => absurd hf (by rw [classOf]; decide)

theorem cas w o c d b m t : Statement (.cas w o c d b m t) := by
  have h : rawOf (.cas w o c d b m t) = BitVec.cast (by decide) (45#7 ++ w ++ o ++ c ++ d ++ b ++ m ++ t) := rfl
  have hd : decodeScOnly (rawOf (.cas w o c d b m t)) = some (.cas w o c d b m t) := by
    rw [h]
    simp (disch := decide) only [decodeScOnly, fld_cast, extract_high, extract_low, Nat.reduceSub,
      BitVec.extractLsb'_eq_self, BitVec.reduceExtractLsb', BitVec.reduceToNat]
    all_goals rfl
  refine of_word _ 0x16 ?_ ?_ ?_ ?_
  · rw [h]
    simp (disch := decide) only [fld_cast, extract_high, extract_low, Nat.reduceSub,
      BitVec.extractLsb'_eq_self, BitVec.reduceExtractLsb', BitVec.reduceToNat]
  · rw [h]
    simp (disch := decide) only [fld_cast, extract_high, extract_low, Nat.reduceSub,
      BitVec.extractLsb'_eq_self, BitVec.reduceExtractLsb', BitVec.reduceToNat]
    rfl
  · exact ⟨by decide, hd⟩
  · exact fun hf => absurd hf (by rw [classOf]; decide)

theorem lda z c d b o : Statement (.lda z c d b o) := by
  have h : rawOf (.lda z c d b o) = BitVec.cast (by decide) (94#8 ++ z ++ c ++ d ++ b ++ o) := rfl
  have hd : decodeScOnly (rawOf (.lda z c d b o)) = some (.lda z c d b o) := by
    rw [h]
    simp (disch := decide) only [decodeScOnly, fld_cast, extract_high, extract_low, Nat.reduceSub,
      BitVec.extractLsb'_eq_self, BitVec.reduceExtractLsb', BitVec.reduceToNat]
    all_goals rfl
  refine of_word _ 0x17 ?_ ?_ ?_ ?_
  · rw [h]
    simp (disch := decide) only [fld_cast, extract_high, extract_low, Nat.reduceSub,
      BitVec.extractLsb'_eq_self, BitVec.reduceExtractLsb', BitVec.reduceToNat]
  · rw [h]
    simp (disch := decide) only [fld_cast, extract_high, extract_low, Nat.reduceSub,
      BitVec.extractLsb'_eq_self, BitVec.reduceExtractLsb', BitVec.reduceToNat]
    rfl
  · exact ⟨by decide, hd⟩
  · exact fun hf => absurd hf (by rw [classOf]; decide)

theorem strl z c d b o : Statement (.strl z c d b o) := by
  have h : rawOf (.strl z c d b o) = BitVec.cast (by decide) (95#8 ++ z ++ c ++ d ++ b ++ o) := rfl
  have hd : decodeScOnly (rawOf (.strl z c d b o)) = some (.strl z c d b o) := by
    rw [h]
    simp (disch := decide) only [decodeScOnly, fld_cast, extract_high, extract_low, Nat.reduceSub,
      BitVec.extractLsb'_eq_self, BitVec.reduceExtractLsb', BitVec.reduceToNat]
    all_goals rfl
  refine of_word _ 0x17 ?_ ?_ ?_ ?_
  · rw [h]
    simp (disch := decide) only [fld_cast, extract_high, extract_low, Nat.reduceSub,
      BitVec.extractLsb'_eq_self, BitVec.reduceExtractLsb', BitVec.reduceToNat]
  · rw [h]
    simp (disch := decide) only [fld_cast, extract_high, extract_low, Nat.reduceSub,
      BitVec.extractLsb'_eq_self, BitVec.reduceExtractLsb', BitVec.reduceToNat]
    rfl
  · exact ⟨by decide, hd⟩
  · exact fun hf => absurd hf (by rw [classOf]; decide)

theorem fence k c : Statement (.fence k c) := by
  have h : rawOf (.fence k c) = BitVec.cast (by decide) (49#7 ++ k ++ c ++ 0#21) := rfl
  have hd : decodeScOnly (rawOf (.fence k c)) = some (.fence k c) := by
    rw [h]
    simp (disch := decide) only [decodeScOnly, fld_cast, extract_high, extract_low, Nat.reduceSub,
      BitVec.extractLsb'_eq_self, BitVec.reduceExtractLsb', BitVec.reduceToNat]
    all_goals rfl
  refine of_word _ 0x18 ?_ ?_ ?_ ?_
  · rw [h]
    simp (disch := decide) only [fld_cast, extract_high, extract_low, Nat.reduceSub,
      BitVec.extractLsb'_eq_self, BitVec.reduceExtractLsb', BitVec.reduceToNat]
  · rw [h]
    simp (disch := decide) only [fld_cast, extract_high, extract_low, Nat.reduceSub,
      BitVec.extractLsb'_eq_self, BitVec.reduceExtractLsb', BitVec.reduceToNat]
    rfl
  · exact ⟨by decide, hd⟩
  · exact fun hf => absurd hf (by rw [classOf]; decide)

theorem barb : Statement (.barb) := by
  have h : rawOf (.barb) = BitVec.cast (by decide) (1711276032#32) := rfl
  have hd : decodeScOnly (rawOf (.barb)) = some (.barb) := by
    rw [h]
    simp (disch := decide) only [decodeScOnly, fld_cast, extract_high, extract_low, Nat.reduceSub,
      BitVec.extractLsb'_eq_self, BitVec.reduceExtractLsb', BitVec.reduceToNat]
    all_goals rfl
  refine of_word _ 0x19 ?_ ?_ ?_ ?_
  · rw [h]
    simp (disch := decide) only [fld_cast, extract_high, extract_low, Nat.reduceSub,
      BitVec.extractLsb'_eq_self, BitVec.reduceExtractLsb', BitVec.reduceToNat]
  · rw [h]
    simp (disch := decide) only [fld_cast, extract_high, extract_low, Nat.reduceSub,
      BitVec.extractLsb'_eq_self, BitVec.reduceExtractLsb', BitVec.reduceToNat]
    rfl
  · exact ⟨by decide, hd⟩
  · exact fun hf => absurd hf (by rw [classOf]; decide)

theorem futinit f : Statement (.futinit f) := by
  have h : rawOf (.futinit f) = BitVec.cast (by decide) (212#9 ++ f ++ 0#18) := rfl
  have hd : decodeScOnly (rawOf (.futinit f)) = some (.futinit f) := by
    rw [h]
    simp (disch := decide) only [decodeScOnly, fld_cast, extract_high, extract_low, Nat.reduceSub,
      BitVec.extractLsb'_eq_self, BitVec.reduceExtractLsb', BitVec.reduceToNat]
    all_goals rfl
  refine of_word _ 0x1A ?_ ?_ ?_ ?_
  · rw [h]
    simp (disch := decide) only [fld_cast, extract_high, extract_low, Nat.reduceSub,
      BitVec.extractLsb'_eq_self, BitVec.reduceExtractLsb', BitVec.reduceToNat]
  · rw [h]
    simp (disch := decide) only [fld_cast, extract_high, extract_low, Nat.reduceSub,
      BitVec.extractLsb'_eq_self, BitVec.reduceExtractLsb', BitVec.reduceToNat]
    rfl
  · exact ⟨by decide, hd⟩
  · exact fun hf => absurd hf (by rw [classOf]; decide)

theorem futreg f n : Statement (.futreg f n) := by
  have h : rawOf (.futreg f n) = BitVec.cast (by decide) (213#9 ++ f ++ n ++ 0#13) := rfl
  have hd : decodeScOnly (rawOf (.futreg f n)) = some (.futreg f n) := by
    rw [h]
    simp (disch := decide) only [decodeScOnly, fld_cast, extract_high, extract_low, Nat.reduceSub,
      BitVec.extractLsb'_eq_self, BitVec.reduceExtractLsb', BitVec.reduceToNat]
    all_goals rfl
  refine of_word _ 0x1A ?_ ?_ ?_ ?_
  · rw [h]
    simp (disch := decide) only [fld_cast, extract_high, extract_low, Nat.reduceSub,
      BitVec.extractLsb'_eq_self, BitVec.reduceExtractLsb', BitVec.reduceToNat]
  · rw [h]
    simp (disch := decide) only [fld_cast, extract_high, extract_low, Nat.reduceSub,
      BitVec.extractLsb'_eq_self, BitVec.reduceExtractLsb', BitVec.reduceToNat]
    rfl
  · exact ⟨by decide, hd⟩
  · exact fun hf => absurd hf (by rw [classOf]; decide)

theorem futres f c : Statement (.futres f c) := by
  have h : rawOf (.futres f c) = BitVec.cast (by decide) (214#9 ++ f ++ c ++ 0#13) := rfl
  have hd : decodeScOnly (rawOf (.futres f c)) = some (.futres f c) := by
    rw [h]
    simp (disch := decide) only [decodeScOnly, fld_cast, extract_high, extract_low, Nat.reduceSub,
      BitVec.extractLsb'_eq_self, BitVec.reduceExtractLsb', BitVec.reduceToNat]
    all_goals rfl
  refine of_word _ 0x1A ?_ ?_ ?_ ?_
  · rw [h]
    simp (disch := decide) only [fld_cast, extract_high, extract_low, Nat.reduceSub,
      BitVec.extractLsb'_eq_self, BitVec.reduceExtractLsb', BitVec.reduceToNat]
  · rw [h]
    simp (disch := decide) only [fld_cast, extract_high, extract_low, Nat.reduceSub,
      BitVec.extractLsb'_eq_self, BitVec.reduceExtractLsb', BitVec.reduceToNat]
    rfl
  · exact ⟨by decide, hd⟩
  · exact fun hf => absurd hf (by rw [classOf]; decide)

theorem futfail f c : Statement (.futfail f c) := by
  have h : rawOf (.futfail f c) = BitVec.cast (by decide) (215#9 ++ f ++ c ++ 0#13) := rfl
  have hd : decodeScOnly (rawOf (.futfail f c)) = some (.futfail f c) := by
    rw [h]
    simp (disch := decide) only [decodeScOnly, fld_cast, extract_high, extract_low, Nat.reduceSub,
      BitVec.extractLsb'_eq_self, BitVec.reduceExtractLsb', BitVec.reduceToNat]
    all_goals rfl
  refine of_word _ 0x1A ?_ ?_ ?_ ?_
  · rw [h]
    simp (disch := decide) only [fld_cast, extract_high, extract_low, Nat.reduceSub,
      BitVec.extractLsb'_eq_self, BitVec.reduceExtractLsb', BitVec.reduceToNat]
  · rw [h]
    simp (disch := decide) only [fld_cast, extract_high, extract_low, Nat.reduceSub,
      BitVec.extractLsb'_eq_self, BitVec.reduceExtractLsb', BitVec.reduceToNat]
    rfl
  · exact ⟨by decide, hd⟩
  · exact fun hf => absurd hf (by rw [classOf]; decide)

theorem nspawn s : Statement (.nspawn s) := by
  have h : rawOf (.nspawn s) = BitVec.cast (by decide) (220#9 ++ s ++ 0#18) := rfl
  have hd : decodeScOnly (rawOf (.nspawn s)) = some (.nspawn s) := by
    rw [h]
    simp (disch := decide) only [decodeScOnly, fld_cast, extract_high, extract_low, Nat.reduceSub,
      BitVec.extractLsb'_eq_self, BitVec.reduceExtractLsb', BitVec.reduceToNat]
    all_goals rfl
  refine of_word _ 0x1B ?_ ?_ ?_ ?_
  · rw [h]
    simp (disch := decide) only [fld_cast, extract_high, extract_low, Nat.reduceSub,
      BitVec.extractLsb'_eq_self, BitVec.reduceExtractLsb', BitVec.reduceToNat]
  · rw [h]
    simp (disch := decide) only [fld_cast, extract_high, extract_low, Nat.reduceSub,
      BitVec.extractLsb'_eq_self, BitVec.reduceExtractLsb', BitVec.reduceToNat]
    rfl
  · exact ⟨by decide, hd⟩
  · exact fun hf => absurd hf (by rw [classOf]; decide)

theorem nexit s : Statement (.nexit s) := by
  have h : rawOf (.nexit s) = BitVec.cast (by decide) (221#9 ++ s ++ 0#18) := rfl
  have hd : decodeScOnly (rawOf (.nexit s)) = some (.nexit s) := by
    rw [h]
    simp (disch := decide) only [decodeScOnly, fld_cast, extract_high, extract_low, Nat.reduceSub,
      BitVec.extractLsb'_eq_self, BitVec.reduceExtractLsb', BitVec.reduceToNat]
    all_goals rfl
  refine of_word _ 0x1B ?_ ?_ ?_ ?_
  · rw [h]
    simp (disch := decide) only [fld_cast, extract_high, extract_low, Nat.reduceSub,
      BitVec.extractLsb'_eq_self, BitVec.reduceExtractLsb', BitVec.reduceToNat]
  · rw [h]
    simp (disch := decide) only [fld_cast, extract_high, extract_low, Nat.reduceSub,
      BitVec.extractLsb'_eq_self, BitVec.reduceExtractLsb', BitVec.reduceToNat]
    rfl
  · exact ⟨by decide, hd⟩
  · exact fun hf => absurd hf (by rw [classOf]; decide)

theorem nyield s : Statement (.nyield s) := by
  have h : rawOf (.nyield s) = BitVec.cast (by decide) (222#9 ++ s ++ 0#18) := rfl
  have hd : decodeScOnly (rawOf (.nyield s)) = some (.nyield s) := by
    rw [h]
    simp (disch := decide) only [decodeScOnly, fld_cast, extract_high, extract_low, Nat.reduceSub,
      BitVec.extractLsb'_eq_self, BitVec.reduceExtractLsb', BitVec.reduceToNat]
    all_goals rfl
  refine of_word _ 0x1B ?_ ?_ ?_ ?_
  · rw [h]
    simp (disch := decide) only [fld_cast, extract_high, extract_low, Nat.reduceSub,
      BitVec.extractLsb'_eq_self, BitVec.reduceExtractLsb', BitVec.reduceToNat]
  · rw [h]
    simp (disch := decide) only [fld_cast, extract_high, extract_low, Nat.reduceSub,
      BitVec.extractLsb'_eq_self, BitVec.reduceExtractLsb', BitVec.reduceToNat]
    rfl
  · exact ⟨by decide, hd⟩
  · exact fun hf => absurd hf (by rw [classOf]; decide)

theorem nself s : Statement (.nself s) := by
  have h : rawOf (.nself s) = BitVec.cast (by decide) (223#9 ++ s ++ 0#18) := rfl
  have hd : decodeScOnly (rawOf (.nself s)) = some (.nself s) := by
    rw [h]
    simp (disch := decide) only [decodeScOnly, fld_cast, extract_high, extract_low, Nat.reduceSub,
      BitVec.extractLsb'_eq_self, BitVec.reduceExtractLsb', BitVec.reduceToNat]
    all_goals rfl
  refine of_word _ 0x1B ?_ ?_ ?_ ?_
  · rw [h]
    simp (disch := decide) only [fld_cast, extract_high, extract_low, Nat.reduceSub,
      BitVec.extractLsb'_eq_self, BitVec.reduceExtractLsb', BitVec.reduceToNat]
  · rw [h]
    simp (disch := decide) only [fld_cast, extract_high, extract_low, Nat.reduceSub,
      BitVec.extractLsb'_eq_self, BitVec.reduceExtractLsb', BitVec.reduceToNat]
    rfl
  · exact ⟨by decide, hd⟩
  · exact fun hf => absurd hf (by rw [classOf]; decide)

theorem colgo c p a d : Statement (.colgo c p a d) := by
  have h : rawOf (.colgo c p a d) = BitVec.cast (by decide) (114#8 ++ c ++ p ++ a ++ d ++ 0#7) := rfl
  have hd : decodeScOnly (rawOf (.colgo c p a d)) = some (.colgo c p a d) := by
    rw [h]
    simp (disch := decide) only [decodeScOnly, fld_cast, extract_high, extract_low, Nat.reduceSub,
      BitVec.extractLsb'_eq_self, BitVec.reduceExtractLsb', BitVec.reduceToNat]
    all_goals rfl
  refine of_word _ 0x1C ?_ ?_ ?_ ?_
  · rw [h]
    simp (disch := decide) only [fld_cast, extract_high, extract_low, Nat.reduceSub,
      BitVec.extractLsb'_eq_self, BitVec.reduceExtractLsb', BitVec.reduceToNat]
  · rw [h]
    simp (disch := decide) only [fld_cast, extract_high, extract_low, Nat.reduceSub,
      BitVec.extractLsb'_eq_self, BitVec.reduceExtractLsb', BitVec.reduceToNat]
    rfl
  · exact ⟨by decide, hd⟩
  · exact fun hf => absurd hf (by rw [classOf]; decide)

theorem colq c d : Statement (.colq c d) := by
  have h : rawOf (.colq c d) = BitVec.cast (by decide) (115#8 ++ c ++ d ++ 0#17) := rfl
  have hd : decodeScOnly (rawOf (.colq c d)) = some (.colq c d) := by
    rw [h]
    simp (disch := decide) only [decodeScOnly, fld_cast, extract_high, extract_low, Nat.reduceSub,
      BitVec.extractLsb'_eq_self, BitVec.reduceExtractLsb', BitVec.reduceToNat]
    all_goals rfl
  refine of_word _ 0x1C ?_ ?_ ?_ ?_
  · rw [h]
    simp (disch := decide) only [fld_cast, extract_high, extract_low, Nat.reduceSub,
      BitVec.extractLsb'_eq_self, BitVec.reduceExtractLsb', BitVec.reduceToNat]
  · rw [h]
    simp (disch := decide) only [fld_cast, extract_high, extract_low, Nat.reduceSub,
      BitVec.extractLsb'_eq_self, BitVec.reduceExtractLsb', BitVec.reduceToNat]
    rfl
  · exact ⟨by decide, hd⟩
  · exact fun hf => absurd hf (by rw [classOf]; decide)

theorem capq s : Statement (.capq s) := by
  have h : rawOf (.capq s) = BitVec.cast (by decide) (236#9 ++ s ++ 0#18) := rfl
  have hd : decodeScOnly (rawOf (.capq s)) = some (.capq s) := by
    rw [h]
    simp (disch := decide) only [decodeScOnly, fld_cast, extract_high, extract_low, Nat.reduceSub,
      BitVec.extractLsb'_eq_self, BitVec.reduceExtractLsb', BitVec.reduceToNat]
    all_goals rfl
  refine of_word _ 0x1D ?_ ?_ ?_ ?_
  · rw [h]
    simp (disch := decide) only [fld_cast, extract_high, extract_low, Nat.reduceSub,
      BitVec.extractLsb'_eq_self, BitVec.reduceExtractLsb', BitVec.reduceToNat]
  · rw [h]
    simp (disch := decide) only [fld_cast, extract_high, extract_low, Nat.reduceSub,
      BitVec.extractLsb'_eq_self, BitVec.reduceExtractLsb', BitVec.reduceToNat]
    rfl
  · exact ⟨by decide, hd⟩
  · exact fun hf => absurd hf (by rw [classOf]; decide)

theorem boost s : Statement (.boost s) := by
  have h : rawOf (.boost s) = BitVec.cast (by decide) (237#9 ++ s ++ 0#18) := rfl
  have hd : decodeScOnly (rawOf (.boost s)) = some (.boost s) := by
    rw [h]
    simp (disch := decide) only [decodeScOnly, fld_cast, extract_high, extract_low, Nat.reduceSub,
      BitVec.extractLsb'_eq_self, BitVec.reduceExtractLsb', BitVec.reduceToNat]
    all_goals rfl
  refine of_word _ 0x1D ?_ ?_ ?_ ?_
  · rw [h]
    simp (disch := decide) only [fld_cast, extract_high, extract_low, Nat.reduceSub,
      BitVec.extractLsb'_eq_self, BitVec.reduceExtractLsb', BitVec.reduceToNat]
  · rw [h]
    simp (disch := decide) only [fld_cast, extract_high, extract_low, Nat.reduceSub,
      BitVec.extractLsb'_eq_self, BitVec.reduceExtractLsb', BitVec.reduceToNat]
    rfl
  · exact ⟨by decide, hd⟩
  · exact fun hf => absurd hf (by rw [classOf]; decide)

theorem permq s : Statement (.permq s) := by
  have h : rawOf (.permq s) = BitVec.cast (by decide) (238#9 ++ s ++ 0#18) := rfl
  have hd : decodeScOnly (rawOf (.permq s)) = some (.permq s) := by
    rw [h]
    simp (disch := decide) only [decodeScOnly, fld_cast, extract_high, extract_low, Nat.reduceSub,
      BitVec.extractLsb'_eq_self, BitVec.reduceExtractLsb', BitVec.reduceToNat]
    all_goals rfl
  refine of_word _ 0x1D ?_ ?_ ?_ ?_
  · rw [h]
    simp (disch := decide) only [fld_cast, extract_high, extract_low, Nat.reduceSub,
      BitVec.extractLsb'_eq_self, BitVec.reduceExtractLsb', BitVec.reduceToNat]
  · rw [h]
    simp (disch := decide) only [fld_cast, extract_high, extract_low, Nat.reduceSub,
      BitVec.extractLsb'_eq_self, BitVec.reduceExtractLsb', BitVec.reduceToNat]
    rfl
  · exact ⟨by decide, hd⟩
  · exact fun hf => absurd hf (by rw [classOf]; decide)

theorem snap s : Statement (.snap s) := by
  have h : rawOf (.snap s) = BitVec.cast (by decide) (239#9 ++ s ++ 0#18) := rfl
  have hd : decodeScOnly (rawOf (.snap s)) = some (.snap s) := by
    rw [h]
    simp (disch := decide) only [decodeScOnly, fld_cast, extract_high, extract_low, Nat.reduceSub,
      BitVec.extractLsb'_eq_self, BitVec.reduceExtractLsb', BitVec.reduceToNat]
    all_goals rfl
  refine of_word _ 0x1D ?_ ?_ ?_ ?_
  · rw [h]
    simp (disch := decide) only [fld_cast, extract_high, extract_low, Nat.reduceSub,
      BitVec.extractLsb'_eq_self, BitVec.reduceExtractLsb', BitVec.reduceToNat]
  · rw [h]
    simp (disch := decide) only [fld_cast, extract_high, extract_low, Nat.reduceSub,
      BitVec.extractLsb'_eq_self, BitVec.reduceExtractLsb', BitVec.reduceToNat]
    rfl
  · exact ⟨by decide, hd⟩
  · exact fun hf => absurd hf (by rw [classOf]; decide)

theorem vld t a g f x s : Statement (.vld t a g f x s) := by
  have h : rawOf (.vld t a g f x s) = BitVec.cast (by decide) (41#7 ++ t ++ a ++ g ++ f ++ x ++ s) := rfl
  have hd : decodeM (rawOf (.vld t a g f x s)) = some (.vld t a g f x s) := by
    rw [h]
    simp (disch := decide) only [decodeM, fld_cast, extract_high, extract_low, Nat.reduceSub,
      BitVec.extractLsb'_eq_self, BitVec.reduceExtractLsb', BitVec.reduceToNat]
    all_goals rfl
  refine of_word _ 0x14 ?_ ?_ ?_ ?_
  · rw [h]
    simp (disch := decide) only [fld_cast, extract_high, extract_low, Nat.reduceSub,
      BitVec.extractLsb'_eq_self, BitVec.reduceExtractLsb', BitVec.reduceToNat]
  · rw [h]
    simp (disch := decide) only [fld_cast, extract_high, extract_low, Nat.reduceSub,
      BitVec.extractLsb'_eq_self, BitVec.reduceExtractLsb', BitVec.reduceToNat]
    rfl
  · exact ⟨by decide, by decide, hd⟩
  · exact fun hf => absurd hf (by rw [classOf]; decide)

theorem vlds t a g f x s : Statement (.vlds t a g f x s) := by
  have h : rawOf (.vlds t a g f x s) = BitVec.cast (by decide) (43#7 ++ t ++ a ++ g ++ f ++ x ++ s) := rfl
  have hd : decodeM (rawOf (.vlds t a g f x s)) = some (.vlds t a g f x s) := by
    rw [h]
    simp (disch := decide) only [decodeM, fld_cast, extract_high, extract_low, Nat.reduceSub,
      BitVec.extractLsb'_eq_self, BitVec.reduceExtractLsb', BitVec.reduceToNat]
    all_goals rfl
  refine of_word _ 0x15 ?_ ?_ ?_ ?_
  · rw [h]
    simp (disch := decide) only [fld_cast, extract_high, extract_low, Nat.reduceSub,
      BitVec.extractLsb'_eq_self, BitVec.reduceExtractLsb', BitVec.reduceToNat]
  · rw [h]
    simp (disch := decide) only [fld_cast, extract_high, extract_low, Nat.reduceSub,
      BitVec.extractLsb'_eq_self, BitVec.reduceExtractLsb', BitVec.reduceToNat]
    rfl
  · exact ⟨by decide, by decide, hd⟩
  · exact fun hf => absurd hf (by rw [classOf]; decide)

theorem vst t a g f s : Statement (.vst t a g f s) := by
  have h : rawOf (.vst t a g f s) = BitVec.cast (by decide) (45#7 ++ t ++ a ++ g ++ f ++ 0#1 ++ s) := rfl
  have hd : decodeM (rawOf (.vst t a g f s)) = some (.vst t a g f s) := by
    rw [h]
    simp (disch := decide) only [decodeM, fld_cast, extract_high, extract_low, Nat.reduceSub,
      BitVec.extractLsb'_eq_self, BitVec.reduceExtractLsb', BitVec.reduceToNat]
    all_goals rfl
  refine of_word _ 0x16 ?_ ?_ ?_ ?_
  · rw [h]
    simp (disch := decide) only [fld_cast, extract_high, extract_low, Nat.reduceSub,
      BitVec.extractLsb'_eq_self, BitVec.reduceExtractLsb', BitVec.reduceToNat]
  · rw [h]
    simp (disch := decide) only [fld_cast, extract_high, extract_low, Nat.reduceSub,
      BitVec.extractLsb'_eq_self, BitVec.reduceExtractLsb', BitVec.reduceToNat]
    rfl
  · exact ⟨by decide, by decide, hd⟩
  · exact fun hf => absurd hf (by rw [classOf]; decide)

theorem vsts t a g f s : Statement (.vsts t a g f s) := by
  have h : rawOf (.vsts t a g f s) = BitVec.cast (by decide) (47#7 ++ t ++ a ++ g ++ f ++ 0#1 ++ s) := rfl
  have hd : decodeM (rawOf (.vsts t a g f s)) = some (.vsts t a g f s) := by
    rw [h]
    simp (disch := decide) only [decodeM, fld_cast, extract_high, extract_low, Nat.reduceSub,
      BitVec.extractLsb'_eq_self, BitVec.reduceExtractLsb', BitVec.reduceToNat]
    all_goals rfl
  refine of_word _ 0x17 ?_ ?_ ?_ ?_
  · rw [h]
    simp (disch := decide) only [fld_cast, extract_high, extract_low, Nat.reduceSub,
      BitVec.extractLsb'_eq_self, BitVec.reduceExtractLsb', BitVec.reduceToNat]
  · rw [h]
    simp (disch := decide) only [fld_cast, extract_high, extract_low, Nat.reduceSub,
      BitVec.extractLsb'_eq_self, BitVec.reduceExtractLsb', BitVec.reduceToNat]
    rfl
  · exact ⟨by decide, by decide, hd⟩
  · exact fun hf => absurd hf (by rw [classOf]; decide)

theorem qld t a g f x s : Statement (.qld t a g f x s) := by
  have h : rawOf (.qld t a g f x s) = BitVec.cast (by decide) (49#7 ++ t ++ a ++ g ++ f ++ x ++ s) := rfl
  have hd : decodeM (rawOf (.qld t a g f x s)) = some (.qld t a g f x s) := by
    rw [h]
    simp (disch := decide) only [decodeM, fld_cast, extract_high, extract_low, Nat.reduceSub,
      BitVec.extractLsb'_eq_self, BitVec.reduceExtractLsb', BitVec.reduceToNat]
    all_goals rfl
  refine of_word _ 0x18 ?_ ?_ ?_ ?_
  · rw [h]
    simp (disch := decide) only [fld_cast, extract_high, extract_low, Nat.reduceSub,
      BitVec.extractLsb'_eq_self, BitVec.reduceExtractLsb', BitVec.reduceToNat]
  · rw [h]
    simp (disch := decide) only [fld_cast, extract_high, extract_low, Nat.reduceSub,
      BitVec.extractLsb'_eq_self, BitVec.reduceExtractLsb', BitVec.reduceToNat]
    rfl
  · exact ⟨by decide, by decide, hd⟩
  · exact fun hf => absurd hf (by rw [classOf]; decide)

theorem qst t a g f x s : Statement (.qst t a g f x s) := by
  have h : rawOf (.qst t a g f x s) = BitVec.cast (by decide) (51#7 ++ t ++ a ++ g ++ f ++ x ++ s) := rfl
  have hd : decodeM (rawOf (.qst t a g f x s)) = some (.qst t a g f x s) := by
    rw [h]
    simp (disch := decide) only [decodeM, fld_cast, extract_high, extract_low, Nat.reduceSub,
      BitVec.extractLsb'_eq_self, BitVec.reduceExtractLsb', BitVec.reduceToNat]
    all_goals rfl
  refine of_word _ 0x19 ?_ ?_ ?_ ?_
  · rw [h]
    simp (disch := decide) only [fld_cast, extract_high, extract_low, Nat.reduceSub,
      BitVec.extractLsb'_eq_self, BitVec.reduceExtractLsb', BitVec.reduceToNat]
  · rw [h]
    simp (disch := decide) only [fld_cast, extract_high, extract_low, Nat.reduceSub,
      BitVec.extractLsb'_eq_self, BitVec.reduceExtractLsb', BitVec.reduceToNat]
    rfl
  · exact ⟨by decide, by decide, hd⟩
  · exact fun hf => absurd hf (by rw [classOf]; decide)

theorem spld t a g f x s : Statement (.spld t a g f x s) := by
  have h : rawOf (.spld t a g f x s) = BitVec.cast (by decide) (53#7 ++ t ++ a ++ g ++ f ++ x ++ s) := rfl
  have hd : decodeM (rawOf (.spld t a g f x s)) = some (.spld t a g f x s) := by
    rw [h]
    simp (disch := decide) only [decodeM, fld_cast, extract_high, extract_low, Nat.reduceSub,
      BitVec.extractLsb'_eq_self, BitVec.reduceExtractLsb', BitVec.reduceToNat]
    all_goals rfl
  refine of_word _ 0x1A ?_ ?_ ?_ ?_
  · rw [h]
    simp (disch := decide) only [fld_cast, extract_high, extract_low, Nat.reduceSub,
      BitVec.extractLsb'_eq_self, BitVec.reduceExtractLsb', BitVec.reduceToNat]
  · rw [h]
    simp (disch := decide) only [fld_cast, extract_high, extract_low, Nat.reduceSub,
      BitVec.extractLsb'_eq_self, BitVec.reduceExtractLsb', BitVec.reduceToNat]
    rfl
  · exact ⟨by decide, by decide, hd⟩
  · exact fun hf => absurd hf (by rw [classOf]; decide)

theorem spst t a g f s : Statement (.spst t a g f s) := by
  have h : rawOf (.spst t a g f s) = BitVec.cast (by decide) (55#7 ++ t ++ a ++ g ++ f ++ 0#1 ++ s) := rfl
  have hd : decodeM (rawOf (.spst t a g f s)) = some (.spst t a g f s) := by
    rw [h]
    simp (disch := decide) only [decodeM, fld_cast, extract_high, extract_low, Nat.reduceSub,
      BitVec.extractLsb'_eq_self, BitVec.reduceExtractLsb', BitVec.reduceToNat]
    all_goals rfl
  refine of_word _ 0x1B ?_ ?_ ?_ ?_
  · rw [h]
    simp (disch := decide) only [fld_cast, extract_high, extract_low, Nat.reduceSub,
      BitVec.extractLsb'_eq_self, BitVec.reduceExtractLsb', BitVec.reduceToNat]
  · rw [h]
    simp (disch := decide) only [fld_cast, extract_high, extract_low, Nat.reduceSub,
      BitVec.extractLsb'_eq_self, BitVec.reduceExtractLsb', BitVec.reduceToNat]
    rfl
  · exact ⟨by decide, by decide, hd⟩
  · exact fun hf => absurd hf (by rw [classOf]; decide)

theorem spcp t a g f s : Statement (.spcp t a g f s) := by
  have h : rawOf (.spcp t a g f s) = BitVec.cast (by decide) (57#7 ++ t ++ a ++ g ++ f ++ 0#1 ++ s) := rfl
  have hd : decodeM (rawOf (.spcp t a g f s)) = some (.spcp t a g f s) := by
    rw [h]
    simp (disch := decide) only [decodeM, fld_cast, extract_high, extract_low, Nat.reduceSub,
      BitVec.extractLsb'_eq_self, BitVec.reduceExtractLsb', BitVec.reduceToNat]
    all_goals rfl
  refine of_word _ 0x1C ?_ ?_ ?_ ?_
  · rw [h]
    simp (disch := decide) only [fld_cast, extract_high, extract_low, Nat.reduceSub,
      BitVec.extractLsb'_eq_self, BitVec.reduceExtractLsb', BitVec.reduceToNat]
  · rw [h]
    simp (disch := decide) only [fld_cast, extract_high, extract_low, Nat.reduceSub,
      BitVec.extractLsb'_eq_self, BitVec.reduceExtractLsb', BitVec.reduceToNat]
    rfl
  · exact ⟨by decide, by decide, by decide, hd⟩
  · exact fun hf => absurd hf (by rw [classOf]; decide)

theorem gather t a g f x s : Statement (.gather t a g f x s) := by
  have h : rawOf (.gather t a g f x s) = BitVec.cast (by decide) (59#7 ++ t ++ a ++ g ++ f ++ x ++ s) := rfl
  have hd : decodeM (rawOf (.gather t a g f x s)) = some (.gather t a g f x s) := by
    rw [h]
    simp (disch := decide) only [decodeM, fld_cast, extract_high, extract_low, Nat.reduceSub,
      BitVec.extractLsb'_eq_self, BitVec.reduceExtractLsb', BitVec.reduceToNat]
    all_goals rfl
  refine of_word _ 0x1D ?_ ?_ ?_ ?_
  · rw [h]
    simp (disch := decide) only [fld_cast, extract_high, extract_low, Nat.reduceSub,
      BitVec.extractLsb'_eq_self, BitVec.reduceExtractLsb', BitVec.reduceToNat]
  · rw [h]
    simp (disch := decide) only [fld_cast, extract_high, extract_low, Nat.reduceSub,
      BitVec.extractLsb'_eq_self, BitVec.reduceExtractLsb', BitVec.reduceToNat]
    rfl
  · exact ⟨by decide, by decide, hd⟩
  · exact fun hf => absurd hf (by rw [classOf]; decide)

theorem scatter t a g f s : Statement (.scatter t a g f s) := by
  have h : rawOf (.scatter t a g f s) = BitVec.cast (by decide) (61#7 ++ t ++ a ++ g ++ f ++ 0#1 ++ s) := rfl
  have hd : decodeM (rawOf (.scatter t a g f s)) = some (.scatter t a g f s) := by
    rw [h]
    simp (disch := decide) only [decodeM, fld_cast, extract_high, extract_low, Nat.reduceSub,
      BitVec.extractLsb'_eq_self, BitVec.reduceExtractLsb', BitVec.reduceToNat]
    all_goals rfl
  refine of_word _ 0x1E ?_ ?_ ?_ ?_
  · rw [h]
    simp (disch := decide) only [fld_cast, extract_high, extract_low, Nat.reduceSub,
      BitVec.extractLsb'_eq_self, BitVec.reduceExtractLsb', BitVec.reduceToNat]
  · rw [h]
    simp (disch := decide) only [fld_cast, extract_high, extract_low, Nat.reduceSub,
      BitVec.extractLsb'_eq_self, BitVec.reduceExtractLsb', BitVec.reduceToNat]
    rfl
  · exact ⟨by decide, by decide, hd⟩
  · exact fun hf => absurd hf (by rw [classOf]; decide)

theorem scatterAdd t a g f s : Statement (.scatterAdd t a g f s) := by
  have h : rawOf (.scatterAdd t a g f s) = BitVec.cast (by decide) (61#7 ++ t ++ a ++ g ++ f ++ 1#1 ++ s) := rfl
  have hd : decodeM (rawOf (.scatterAdd t a g f s)) = some (.scatterAdd t a g f s) := by
    rw [h]
    simp (disch := decide) only [decodeM, fld_cast, extract_high, extract_low, Nat.reduceSub,
      BitVec.extractLsb'_eq_self, BitVec.reduceExtractLsb', BitVec.reduceToNat]
    all_goals rfl
  refine of_word _ 0x1E ?_ ?_ ?_ ?_
  · rw [h]
    simp (disch := decide) only [fld_cast, extract_high, extract_low, Nat.reduceSub,
      BitVec.extractLsb'_eq_self, BitVec.reduceExtractLsb', BitVec.reduceToNat]
  · rw [h]
    simp (disch := decide) only [fld_cast, extract_high, extract_low, Nat.reduceSub,
      BitVec.extractLsb'_eq_self, BitVec.reduceExtractLsb', BitVec.reduceToNat]
    rfl
  · exact ⟨by decide, by decide, hd⟩
  · exact fun hf => absurd hf (by rw [classOf]; decide)

theorem put t a g f x s : Statement (.put t a g f x s) := by
  have h : rawOf (.put t a g f x s) = BitVec.cast (by decide) (63#7 ++ t ++ a ++ g ++ f ++ x ++ s) := rfl
  have hd : decodeM (rawOf (.put t a g f x s)) = some (.put t a g f x s) := by
    rw [h]
    simp (disch := decide) only [decodeM, fld_cast, extract_high, extract_low, Nat.reduceSub,
      BitVec.extractLsb'_eq_self, BitVec.reduceExtractLsb', BitVec.reduceToNat]
    all_goals rfl
  refine of_word _ 0x1F ?_ ?_ ?_ ?_
  · rw [h]
    simp (disch := decide) only [fld_cast, extract_high, extract_low, Nat.reduceSub,
      BitVec.extractLsb'_eq_self, BitVec.reduceExtractLsb', BitVec.reduceToNat]
  · rw [h]
    simp (disch := decide) only [fld_cast, extract_high, extract_low, Nat.reduceSub,
      BitVec.extractLsb'_eq_self, BitVec.reduceExtractLsb', BitVec.reduceToNat]
    rfl
  · exact ⟨by decide, by decide, hd⟩
  · exact fun hf => absurd hf (by rw [classOf]; decide)

theorem get t a g f x s : Statement (.get t a g f x s) := by
  have h : rawOf (.get t a g f x s) = BitVec.cast (by decide) (65#7 ++ t ++ a ++ g ++ f ++ x ++ s) := rfl
  have hd : decodeM (rawOf (.get t a g f x s)) = some (.get t a g f x s) := by
    rw [h]
    simp (disch := decide) only [decodeM, fld_cast, extract_high, extract_low, Nat.reduceSub,
      BitVec.extractLsb'_eq_self, BitVec.reduceExtractLsb', BitVec.reduceToNat]
    all_goals rfl
  refine of_word _ 0x20 ?_ ?_ ?_ ?_
  · rw [h]
    simp (disch := decide) only [fld_cast, extract_high, extract_low, Nat.reduceSub,
      BitVec.extractLsb'_eq_self, BitVec.reduceExtractLsb', BitVec.reduceToNat]
  · rw [h]
    simp (disch := decide) only [fld_cast, extract_high, extract_low, Nat.reduceSub,
      BitVec.extractLsb'_eq_self, BitVec.reduceExtractLsb', BitVec.reduceToNat]
    rfl
  · exact ⟨by decide, by decide, hd⟩
  · exact fun hf => absurd hf (by rw [classOf]; decide)

theorem pref a g f s : Statement (.pref a g f s) := by
  have h : rawOf (.pref a g f s) = BitVec.cast (by decide) (4288#13 ++ a ++ g ++ f ++ 0#1 ++ s) := rfl
  have hd : decodeM (rawOf (.pref a g f s)) = some (.pref a g f s) := by
    rw [h]
    simp (disch := decide) only [decodeM, fld_cast, extract_high, extract_low, Nat.reduceSub,
      BitVec.extractLsb'_eq_self, BitVec.reduceExtractLsb', BitVec.reduceToNat]
    all_goals rfl
  refine of_word _ 0x21 ?_ ?_ ?_ ?_
  · rw [h]
    simp (disch := decide) only [fld_cast, extract_high, extract_low, Nat.reduceSub,
      BitVec.extractLsb'_eq_self, BitVec.reduceExtractLsb', BitVec.reduceToNat]
  · rw [h]
    simp (disch := decide) only [fld_cast, extract_high, extract_low, Nat.reduceSub,
      BitVec.extractLsb'_eq_self, BitVec.reduceExtractLsb', BitVec.reduceToNat]
    rfl
  · exact ⟨by decide, by decide, hd⟩
  · exact fun hf => absurd hf (by rw [classOf]; decide)

theorem cbatch : Statement (.cbatch) := by
  have h : rawOf (.cbatch) = BitVec.cast (by decide) (2315255808#32) := rfl
  have hd : decodeM (rawOf (.cbatch)) = some (.cbatch) := by
    rw [h]
    simp (disch := decide) only [decodeM, fld_cast, extract_high, extract_low, Nat.reduceSub,
      BitVec.extractLsb'_eq_self, BitVec.reduceExtractLsb', BitVec.reduceToNat]
    all_goals rfl
  refine of_word _ 0x22 ?_ ?_ ?_ ?_
  · rw [h]
    simp (disch := decide) only [fld_cast, extract_high, extract_low, Nat.reduceSub,
      BitVec.extractLsb'_eq_self, BitVec.reduceExtractLsb', BitVec.reduceToNat]
  · rw [h]
    simp (disch := decide) only [fld_cast, extract_high, extract_low, Nat.reduceSub,
      BitVec.extractLsb'_eq_self, BitVec.reduceExtractLsb', BitVec.reduceToNat]
    rfl
  · exact ⟨by decide, by decide, by decide, hd⟩
  · exact fun hf => absurd hf (by rw [classOf]; decide)

theorem tlwaitOut n : Statement (.tlwaitOut n) := by
  have h : rawOf (.tlwaitOut n) = BitVec.cast (by decide) (69#7 ++ n ++ 16#19) := rfl
  have hd : decodeM (rawOf (.tlwaitOut n)) = some (.tlwaitOut n) := by
    rw [h]
    simp (disch := decide) only [decodeM, fld_cast, extract_high, extract_low, Nat.reduceSub,
      BitVec.extractLsb'_eq_self, BitVec.reduceExtractLsb', BitVec.reduceToNat]
    all_goals rfl
  refine of_word _ 0x22 ?_ ?_ ?_ ?_
  · rw [h]
    simp (disch := decide) only [fld_cast, extract_high, extract_low, Nat.reduceSub,
      BitVec.extractLsb'_eq_self, BitVec.reduceExtractLsb', BitVec.reduceToNat]
  · rw [h]
    simp (disch := decide) only [fld_cast, extract_high, extract_low, Nat.reduceSub,
      BitVec.extractLsb'_eq_self, BitVec.reduceExtractLsb', BitVec.reduceToNat]
    rfl
  · exact ⟨by decide, by decide, by decide, hd⟩
  · exact fun hf => absurd hf (by rw [classOf]; decide)

theorem vf32 l d a b f r : Statement (.vf32 l d a b f r) := by
  have h : rawOf (.vf32 l d a b f r) = BitVec.cast (by decide) (20#6 ++ l ++ d ++ a ++ b ++ f ++ r) := rfl
  have hd : decodeC (rawOf (.vf32 l d a b f r)) = some (.vf32 l d a b f r) := by
    rw [h]
    simp (disch := decide) only [decodeC, fld_cast, extract_high, extract_low, Nat.reduceSub,
      BitVec.extractLsb'_eq_self, BitVec.reduceExtractLsb', BitVec.reduceToNat]
    all_goals rfl
  refine of_word _ 0x14 ?_ ?_ ?_ ?_
  · rw [h]
    simp (disch := decide) only [fld_cast, extract_high, extract_low, Nat.reduceSub,
      BitVec.extractLsb'_eq_self, BitVec.reduceExtractLsb', BitVec.reduceToNat]
  · rw [h]
    simp (disch := decide) only [fld_cast, extract_high, extract_low, Nat.reduceSub,
      BitVec.extractLsb'_eq_self, BitVec.reduceExtractLsb', BitVec.reduceToNat]
    rfl
  · exact ⟨by decide, hd⟩
  · intro _
    rw [slotClaim, h]
    simp (disch := decide) only [fld_cast, extract_high, extract_low, Nat.reduceSub,
      BitVec.extractLsb'_eq_self, BitVec.reduceExtractLsb', BitVec.reduceToNat]
    rfl

theorem vf64 l d a b f r : Statement (.vf64 l d a b f r) := by
  have h : rawOf (.vf64 l d a b f r) = BitVec.cast (by decide) (21#6 ++ l ++ d ++ a ++ b ++ f ++ r) := rfl
  have hd : decodeC (rawOf (.vf64 l d a b f r)) = some (.vf64 l d a b f r) := by
    rw [h]
    simp (disch := decide) only [decodeC, fld_cast, extract_high, extract_low, Nat.reduceSub,
      BitVec.extractLsb'_eq_self, BitVec.reduceExtractLsb', BitVec.reduceToNat]
    all_goals rfl
  refine of_word _ 0x15 ?_ ?_ ?_ ?_
  · rw [h]
    simp (disch := decide) only [fld_cast, extract_high, extract_low, Nat.reduceSub,
      BitVec.extractLsb'_eq_self, BitVec.reduceExtractLsb', BitVec.reduceToNat]
  · rw [h]
    simp (disch := decide) only [fld_cast, extract_high, extract_low, Nat.reduceSub,
      BitVec.extractLsb'_eq_self, BitVec.reduceExtractLsb', BitVec.reduceToNat]
    rfl
  · exact ⟨by decide, hd⟩
  · intro _
    rw [slotClaim, h]
    simp (disch := decide) only [fld_cast, extract_high, extract_low, Nat.reduceSub,
      BitVec.extractLsb'_eq_self, BitVec.reduceExtractLsb', BitVec.reduceToNat]
    rfl

theorem vf16 l d a b f r : Statement (.vf16 l d a b f r) := by
  have h : rawOf (.vf16 l d a b f r) = BitVec.cast (by decide) (22#6 ++ l ++ d ++ a ++ b ++ f ++ r) := rfl
  have hd : decodeC (rawOf (.vf16 l d a b f r)) = some (.vf16 l d a b f r) := by
    rw [h]
    simp (disch := decide) only [decodeC, fld_cast, extract_high, extract_low, Nat.reduceSub,
      BitVec.extractLsb'_eq_self, BitVec.reduceExtractLsb', BitVec.reduceToNat]
    all_goals rfl
  refine of_word _ 0x16 ?_ ?_ ?_ ?_
  · rw [h]
    simp (disch := decide) only [fld_cast, extract_high, extract_low, Nat.reduceSub,
      BitVec.extractLsb'_eq_self, BitVec.reduceExtractLsb', BitVec.reduceToNat]
  · rw [h]
    simp (disch := decide) only [fld_cast, extract_high, extract_low, Nat.reduceSub,
      BitVec.extractLsb'_eq_self, BitVec.reduceExtractLsb', BitVec.reduceToNat]
    rfl
  · exact ⟨by decide, hd⟩
  · intro _
    rw [slotClaim, h]
    simp (disch := decide) only [fld_cast, extract_high, extract_low, Nat.reduceSub,
      BitVec.extractLsb'_eq_self, BitVec.reduceExtractLsb', BitVec.reduceToNat]
    rfl

theorem vbf16 l d a b f r : Statement (.vbf16 l d a b f r) := by
  have h : rawOf (.vbf16 l d a b f r) = BitVec.cast (by decide) (23#6 ++ l ++ d ++ a ++ b ++ f ++ r) := rfl
  have hd : decodeC (rawOf (.vbf16 l d a b f r)) = some (.vbf16 l d a b f r) := by
    rw [h]
    simp (disch := decide) only [decodeC, fld_cast, extract_high, extract_low, Nat.reduceSub,
      BitVec.extractLsb'_eq_self, BitVec.reduceExtractLsb', BitVec.reduceToNat]
    all_goals rfl
  refine of_word _ 0x17 ?_ ?_ ?_ ?_
  · rw [h]
    simp (disch := decide) only [fld_cast, extract_high, extract_low, Nat.reduceSub,
      BitVec.extractLsb'_eq_self, BitVec.reduceExtractLsb', BitVec.reduceToNat]
  · rw [h]
    simp (disch := decide) only [fld_cast, extract_high, extract_low, Nat.reduceSub,
      BitVec.extractLsb'_eq_self, BitVec.reduceExtractLsb', BitVec.reduceToNat]
    rfl
  · exact ⟨by decide, hd⟩
  · intro _
    rw [slotClaim, h]
    simp (disch := decide) only [fld_cast, extract_high, extract_low, Nat.reduceSub,
      BitVec.extractLsb'_eq_self, BitVec.reduceExtractLsb', BitVec.reduceToNat]
    rfl

theorem vfcmp l d a b f t : Statement (.vfcmp l d a b f t) := by
  have h : rawOf (.vfcmp l d a b f t) = BitVec.cast (by decide) (24#6 ++ l ++ d ++ a ++ b ++ f ++ t) := rfl
  have hd : decodeC (rawOf (.vfcmp l d a b f t)) = some (.vfcmp l d a b f t) := by
    rw [h]
    simp (disch := decide) only [decodeC, fld_cast, extract_high, extract_low, Nat.reduceSub,
      BitVec.extractLsb'_eq_self, BitVec.reduceExtractLsb', BitVec.reduceToNat]
    all_goals rfl
  refine of_word _ 0x18 ?_ ?_ ?_ ?_
  · rw [h]
    simp (disch := decide) only [fld_cast, extract_high, extract_low, Nat.reduceSub,
      BitVec.extractLsb'_eq_self, BitVec.reduceExtractLsb', BitVec.reduceToNat]
  · rw [h]
    simp (disch := decide) only [fld_cast, extract_high, extract_low, Nat.reduceSub,
      BitVec.extractLsb'_eq_self, BitVec.reduceExtractLsb', BitVec.reduceToNat]
    rfl
  · exact ⟨by decide, hd⟩
  · intro _
    rw [slotClaim, h]
    simp (disch := decide) only [fld_cast, extract_high, extract_low, Nat.reduceSub,
      BitVec.extractLsb'_eq_self, BitVec.reduceExtractLsb', BitVec.reduceToNat]
    rfl

theorem vi32 l d a b f u s : Statement (.vi32 l d a b f u s) := by
  have h : rawOf (.vi32 l d a b f u s) = BitVec.cast (by decide) (25#6 ++ l ++ d ++ a ++ b ++ f ++ 0#1 ++ u ++ s) := rfl
  have hd : decodeC (rawOf (.vi32 l d a b f u s)) = some (.vi32 l d a b f u s) := by
    rw [h]
    simp (disch := decide) only [decodeC, fld_cast, extract_high, extract_low, Nat.reduceSub,
      BitVec.extractLsb'_eq_self, BitVec.reduceExtractLsb', BitVec.reduceToNat]
    all_goals rfl
  refine of_word _ 0x19 ?_ ?_ ?_ ?_
  · rw [h]
    simp (disch := decide) only [fld_cast, extract_high, extract_low, Nat.reduceSub,
      BitVec.extractLsb'_eq_self, BitVec.reduceExtractLsb', BitVec.reduceToNat]
  · rw [h]
    simp (disch := decide) only [fld_cast, extract_high, extract_low, Nat.reduceSub,
      BitVec.extractLsb'_eq_self, BitVec.reduceExtractLsb', BitVec.reduceToNat]
    rfl
  · exact ⟨by decide, hd⟩
  · intro _
    rw [slotClaim, h]
    simp (disch := decide) only [fld_cast, extract_high, extract_low, Nat.reduceSub,
      BitVec.extractLsb'_eq_self, BitVec.reduceExtractLsb', BitVec.reduceToNat]
    rfl

theorem vi16 l d a b f u s : Statement (.vi16 l d a b f u s) := by
  have h : rawOf (.vi16 l d a b f u s) = BitVec.cast (by decide) (26#6 ++ l ++ d ++ a ++ b ++ f ++ 0#1 ++ u ++ s) := rfl
  have hd : decodeC (rawOf (.vi16 l d a b f u s)) = some (.vi16 l d a b f u s) := by
    rw [h]
    simp (disch := decide) only [decodeC, fld_cast, extract_high, extract_low, Nat.reduceSub,
      BitVec.extractLsb'_eq_self, BitVec.reduceExtractLsb', BitVec.reduceToNat]
    all_goals rfl
  refine of_word _ 0x1A ?_ ?_ ?_ ?_
  · rw [h]
    simp (disch := decide) only [fld_cast, extract_high, extract_low, Nat.reduceSub,
      BitVec.extractLsb'_eq_self, BitVec.reduceExtractLsb', BitVec.reduceToNat]
  · rw [h]
    simp (disch := decide) only [fld_cast, extract_high, extract_low, Nat.reduceSub,
      BitVec.extractLsb'_eq_self, BitVec.reduceExtractLsb', BitVec.reduceToNat]
    rfl
  · exact ⟨by decide, hd⟩
  · intro _
    rw [slotClaim, h]
    simp (disch := decide) only [fld_cast, extract_high, extract_low, Nat.reduceSub,
      BitVec.extractLsb'_eq_self, BitVec.reduceExtractLsb', BitVec.reduceToNat]
    rfl

theorem vi8 l d a b f u s : Statement (.vi8 l d a b f u s) := by
  have h : rawOf (.vi8 l d a b f u s) = BitVec.cast (by decide) (26#6 ++ l ++ d ++ a ++ b ++ f ++ 1#1 ++ u ++ s) := rfl
  have hd : decodeC (rawOf (.vi8 l d a b f u s)) = some (.vi8 l d a b f u s) := by
    rw [h]
    simp (disch := decide) only [decodeC, fld_cast, extract_high, extract_low, Nat.reduceSub,
      BitVec.extractLsb'_eq_self, BitVec.reduceExtractLsb', BitVec.reduceToNat]
    all_goals rfl
  refine of_word _ 0x1A ?_ ?_ ?_ ?_
  · rw [h]
    simp (disch := decide) only [fld_cast, extract_high, extract_low, Nat.reduceSub,
      BitVec.extractLsb'_eq_self, BitVec.reduceExtractLsb', BitVec.reduceToNat]
  · rw [h]
    simp (disch := decide) only [fld_cast, extract_high, extract_low, Nat.reduceSub,
      BitVec.extractLsb'_eq_self, BitVec.reduceExtractLsb', BitVec.reduceToNat]
    rfl
  · exact ⟨by decide, hd⟩
  · intro _
    rw [slotClaim, h]
    simp (disch := decide) only [fld_cast, extract_high, extract_low, Nat.reduceSub,
      BitVec.extractLsb'_eq_self, BitVec.reduceExtractLsb', BitVec.reduceToNat]
    rfl

theorem vi64 l d a b f u s : Statement (.vi64 l d a b f u s) := by
  have h : rawOf (.vi64 l d a b f u s) = BitVec.cast (by decide) (27#6 ++ l ++ d ++ a ++ b ++ f ++ 0#1 ++ u ++ s) := rfl
  have hd : decodeC (rawOf (.vi64 l d a b f u s)) = some (.vi64 l d a b f u s) := by
    rw [h]
    simp (disch := decide) only [decodeC, fld_cast, extract_high, extract_low, Nat.reduceSub,
      BitVec.extractLsb'_eq_self, BitVec.reduceExtractLsb', BitVec.reduceToNat]
    all_goals rfl
  refine of_word _ 0x1B ?_ ?_ ?_ ?_
  · rw [h]
    simp (disch := decide) only [fld_cast, extract_high, extract_low, Nat.reduceSub,
      BitVec.extractLsb'_eq_self, BitVec.reduceExtractLsb', BitVec.reduceToNat]
  · rw [h]
    simp (disch := decide) only [fld_cast, extract_high, extract_low, Nat.reduceSub,
      BitVec.extractLsb'_eq_self, BitVec.reduceExtractLsb', BitVec.reduceToNat]
    rfl
  · exact ⟨by decide, hd⟩
  · intro _
    rw [slotClaim, h]
    simp (disch := decide) only [fld_cast, extract_high, extract_low, Nat.reduceSub,
      BitVec.extractLsb'_eq_self, BitVec.reduceExtractLsb', BitVec.reduceToNat]
    rfl

theorem vlogic l d a b f : Statement (.vlogic l d a b f) := by
  have h : rawOf (.vlogic l d a b f) = BitVec.cast (by decide) (28#6 ++ l ++ d ++ a ++ b ++ f ++ 0#3) := rfl
  have hd : decodeC (rawOf (.vlogic l d a b f)) = some (.vlogic l d a b f) := by
    rw [h]
    simp (disch := decide) only [decodeC, fld_cast, extract_high, extract_low, Nat.reduceSub,
      BitVec.extractLsb'_eq_self, BitVec.reduceExtractLsb', BitVec.reduceToNat]
    all_goals rfl
  refine of_word _ 0x1C ?_ ?_ ?_ ?_
  · rw [h]
    simp (disch := decide) only [fld_cast, extract_high, extract_low, Nat.reduceSub,
      BitVec.extractLsb'_eq_self, BitVec.reduceExtractLsb', BitVec.reduceToNat]
  · rw [h]
    simp (disch := decide) only [fld_cast, extract_high, extract_low, Nat.reduceSub,
      BitVec.extractLsb'_eq_self, BitVec.reduceExtractLsb', BitVec.reduceToNat]
    rfl
  · exact ⟨by decide, hd⟩
  · intro _
    rw [slotClaim, h]
    simp (disch := decide) only [fld_cast, extract_high, extract_low, Nat.reduceSub,
      BitVec.extractLsb'_eq_self, BitVec.reduceExtractLsb', BitVec.reduceToNat]
    rfl

theorem vicmp l d a b f t : Statement (.vicmp l d a b f t) := by
  have h : rawOf (.vicmp l d a b f t) = BitVec.cast (by decide) (29#6 ++ l ++ d ++ a ++ b ++ f ++ t) := rfl
  have hd : decodeC (rawOf (.vicmp l d a b f t)) = some (.vicmp l d a b f t) := by
    rw [h]
    simp (disch := decide) only [decodeC, fld_cast, extract_high, extract_low, Nat.reduceSub,
      BitVec.extractLsb'_eq_self, BitVec.reduceExtractLsb', BitVec.reduceToNat]
    all_goals rfl
  refine of_word _ 0x1D ?_ ?_ ?_ ?_
  · rw [h]
    simp (disch := decide) only [fld_cast, extract_high, extract_low, Nat.reduceSub,
      BitVec.extractLsb'_eq_self, BitVec.reduceExtractLsb', BitVec.reduceToNat]
  · rw [h]
    simp (disch := decide) only [fld_cast, extract_high, extract_low, Nat.reduceSub,
      BitVec.extractLsb'_eq_self, BitVec.reduceExtractLsb', BitVec.reduceToNat]
    rfl
  · exact ⟨by decide, hd⟩
  · intro _
    rw [slotClaim, h]
    simp (disch := decide) only [fld_cast, extract_high, extract_low, Nat.reduceSub,
      BitVec.extractLsb'_eq_self, BitVec.reduceExtractLsb', BitVec.reduceToNat]
    rfl

theorem vcvt l d a s f r : Statement (.vcvt l d a s f r) := by
  have h : rawOf (.vcvt l d a s f r) = BitVec.cast (by decide) (30#6 ++ l ++ d ++ a ++ 0#2 ++ s ++ f ++ r) := rfl
  have hd : decodeC (rawOf (.vcvt l d a s f r)) = some (.vcvt l d a s f r) := by
    rw [h]
    simp (disch := decide) only [decodeC, fld_cast, extract_high, extract_low, Nat.reduceSub,
      BitVec.extractLsb'_eq_self, BitVec.reduceExtractLsb', BitVec.reduceToNat]
    all_goals rfl
  refine of_word _ 0x1E ?_ ?_ ?_ ?_
  · rw [h]
    simp (disch := decide) only [fld_cast, extract_high, extract_low, Nat.reduceSub,
      BitVec.extractLsb'_eq_self, BitVec.reduceExtractLsb', BitVec.reduceToNat]
  · rw [h]
    simp (disch := decide) only [fld_cast, extract_high, extract_low, Nat.reduceSub,
      BitVec.extractLsb'_eq_self, BitVec.reduceExtractLsb', BitVec.reduceToNat]
    rfl
  · exact ⟨by decide, hd⟩
  · intro _
    rw [slotClaim, h]
    simp (disch := decide) only [fld_cast, extract_high, extract_low, Nat.reduceSub,
      BitVec.extractLsb'_eq_self, BitVec.reduceExtractLsb', BitVec.reduceToNat]
    rfl

theorem vmoveMov l d a : Statement (.vmoveMov l d a) := by
  have h : rawOf (.vmoveMov l d a) = BitVec.cast (by decide) (31#6 ++ l ++ d ++ a ++ 0#13) := rfl
  have hd : decodeC (rawOf (.vmoveMov l d a)) = some (.vmoveMov l d a) := by
    rw [h]
    simp (disch := decide) only [decodeC, fld_cast, extract_high, extract_low, Nat.reduceSub,
      BitVec.extractLsb'_eq_self, BitVec.reduceExtractLsb', BitVec.reduceToNat]
    all_goals rfl
  refine of_word _ 0x1F ?_ ?_ ?_ ?_
  · rw [h]
    simp (disch := decide) only [fld_cast, extract_high, extract_low, Nat.reduceSub,
      BitVec.extractLsb'_eq_self, BitVec.reduceExtractLsb', BitVec.reduceToNat]
  · rw [h]
    simp (disch := decide) only [fld_cast, extract_high, extract_low, Nat.reduceSub,
      BitVec.extractLsb'_eq_self, BitVec.reduceExtractLsb', BitVec.reduceToNat]
    rfl
  · exact ⟨by decide, hd⟩
  · intro _
    rw [slotClaim, h]
    simp (disch := decide) only [fld_cast, extract_high, extract_low, Nat.reduceSub,
      BitVec.extractLsb'_eq_self, BitVec.reduceExtractLsb', BitVec.reduceToNat]
    rfl

theorem vmoveSel l d a b p : Statement (.vmoveSel l d a b p) := by
  have h : rawOf (.vmoveSel l d a b p) = BitVec.cast (by decide) (31#6 ++ l ++ d ++ a ++ b ++ 1#4 ++ p) := rfl
  have hd : decodeC (rawOf (.vmoveSel l d a b p)) = some (.vmoveSel l d a b p) := by
    rw [h]
    simp (disch := decide) only [decodeC, fld_cast, extract_high, extract_low, Nat.reduceSub,
      BitVec.extractLsb'_eq_self, BitVec.reduceExtractLsb', BitVec.reduceToNat]
    all_goals rfl
  refine of_word _ 0x1F ?_ ?_ ?_ ?_
  · rw [h]
    simp (disch := decide) only [fld_cast, extract_high, extract_low, Nat.reduceSub,
      BitVec.extractLsb'_eq_self, BitVec.reduceExtractLsb', BitVec.reduceToNat]
  · rw [h]
    simp (disch := decide) only [fld_cast, extract_high, extract_low, Nat.reduceSub,
      BitVec.extractLsb'_eq_self, BitVec.reduceExtractLsb', BitVec.reduceToNat]
    rfl
  · exact ⟨by decide, hd⟩
  · intro _
    rw [slotClaim, h]
    simp (disch := decide) only [fld_cast, extract_high, extract_low, Nat.reduceSub,
      BitVec.extractLsb'_eq_self, BitVec.reduceExtractLsb', BitVec.reduceToNat]
    rfl

theorem vmoveImm l d i : Statement (.vmoveImm l d i) := by
  have h : rawOf (.vmoveImm l d i) = BitVec.cast (by decide) (31#6 ++ l ++ d ++ i ++ 16#7) := rfl
  have hd : decodeC (rawOf (.vmoveImm l d i)) = some (.vmoveImm l d i) := by
    rw [h]
    simp (disch := decide) only [decodeC, fld_cast, extract_high, extract_low, Nat.reduceSub,
      BitVec.extractLsb'_eq_self, BitVec.reduceExtractLsb', BitVec.reduceToNat]
    all_goals rfl
  refine of_word _ 0x1F ?_ ?_ ?_ ?_
  · rw [h]
    simp (disch := decide) only [fld_cast, extract_high, extract_low, Nat.reduceSub,
      BitVec.extractLsb'_eq_self, BitVec.reduceExtractLsb', BitVec.reduceToNat]
  · rw [h]
    simp (disch := decide) only [fld_cast, extract_high, extract_low, Nat.reduceSub,
      BitVec.extractLsb'_eq_self, BitVec.reduceExtractLsb', BitVec.reduceToNat]
    rfl
  · exact ⟨by decide, hd⟩
  · intro _
    rw [slotClaim, h]
    simp (disch := decide) only [fld_cast, extract_high, extract_low, Nat.reduceSub,
      BitVec.extractLsb'_eq_self, BitVec.reduceExtractLsb', BitVec.reduceToNat]
    rfl

theorem vmoveIota l d : Statement (.vmoveIota l d) := by
  have h : rawOf (.vmoveIota l d) = BitVec.cast (by decide) (31#6 ++ l ++ d ++ 24#19) := rfl
  have hd : decodeC (rawOf (.vmoveIota l d)) = some (.vmoveIota l d) := by
    rw [h]
    simp (disch := decide) only [decodeC, fld_cast, extract_high, extract_low, Nat.reduceSub,
      BitVec.extractLsb'_eq_self, BitVec.reduceExtractLsb', BitVec.reduceToNat]
    all_goals rfl
  refine of_word _ 0x1F ?_ ?_ ?_ ?_
  · rw [h]
    simp (disch := decide) only [fld_cast, extract_high, extract_low, Nat.reduceSub,
      BitVec.extractLsb'_eq_self, BitVec.reduceExtractLsb', BitVec.reduceToNat]
  · rw [h]
    simp (disch := decide) only [fld_cast, extract_high, extract_low, Nat.reduceSub,
      BitVec.extractLsb'_eq_self, BitVec.reduceExtractLsb', BitVec.reduceToNat]
    rfl
  · exact ⟨by decide, hd⟩
  · intro _
    rw [slotClaim, h]
    simp (disch := decide) only [fld_cast, extract_high, extract_low, Nat.reduceSub,
      BitVec.extractLsb'_eq_self, BitVec.reduceExtractLsb', BitVec.reduceToNat]
    rfl

theorem vmoveXtr l d a b : Statement (.vmoveXtr l d a b) := by
  have h : rawOf (.vmoveXtr l d a b) = BitVec.cast (by decide) (31#6 ++ l ++ d ++ a ++ b ++ 32#7) := rfl
  have hd : decodeC (rawOf (.vmoveXtr l d a b)) = some (.vmoveXtr l d a b) := by
    rw [h]
    simp (disch := decide) only [decodeC, fld_cast, extract_high, extract_low, Nat.reduceSub,
      BitVec.extractLsb'_eq_self, BitVec.reduceExtractLsb', BitVec.reduceToNat]
    all_goals rfl
  refine of_word _ 0x1F ?_ ?_ ?_ ?_
  · rw [h]
    simp (disch := decide) only [fld_cast, extract_high, extract_low, Nat.reduceSub,
      BitVec.extractLsb'_eq_self, BitVec.reduceExtractLsb', BitVec.reduceToNat]
  · rw [h]
    simp (disch := decide) only [fld_cast, extract_high, extract_low, Nat.reduceSub,
      BitVec.extractLsb'_eq_self, BitVec.reduceExtractLsb', BitVec.reduceToNat]
    rfl
  · exact ⟨by decide, hd⟩
  · intro _
    rw [slotClaim, h]
    simp (disch := decide) only [fld_cast, extract_high, extract_low, Nat.reduceSub,
      BitVec.extractLsb'_eq_self, BitVec.reduceExtractLsb', BitVec.reduceToNat]
    rfl

theorem vmoveIns l d a b : Statement (.vmoveIns l d a b) := by
  have h : rawOf (.vmoveIns l d a b) = BitVec.cast (by decide) (31#6 ++ l ++ d ++ a ++ b ++ 40#7) := rfl
  have hd : decodeC (rawOf (.vmoveIns l d a b)) = some (.vmoveIns l d a b) := by
    rw [h]
    simp (disch := decide) only [decodeC, fld_cast, extract_high, extract_low, Nat.reduceSub,
      BitVec.extractLsb'_eq_self, BitVec.reduceExtractLsb', BitVec.reduceToNat]
    all_goals rfl
  refine of_word _ 0x1F ?_ ?_ ?_ ?_
  · rw [h]
    simp (disch := decide) only [fld_cast, extract_high, extract_low, Nat.reduceSub,
      BitVec.extractLsb'_eq_self, BitVec.reduceExtractLsb', BitVec.reduceToNat]
  · rw [h]
    simp (disch := decide) only [fld_cast, extract_high, extract_low, Nat.reduceSub,
      BitVec.extractLsb'_eq_self, BitVec.reduceExtractLsb', BitVec.reduceToNat]
    rfl
  · exact ⟨by decide, hd⟩
  · intro _
    rw [slotClaim, h]
    simp (disch := decide) only [fld_cast, extract_high, extract_low, Nat.reduceSub,
      BitVec.extractLsb'_eq_self, BitVec.reduceExtractLsb', BitVec.reduceToNat]
    rfl

theorem vrot l d a b f : Statement (.vrot l d a b f) := by
  have h : rawOf (.vrot l d a b f) = BitVec.cast (by decide) (32#6 ++ l ++ d ++ a ++ b ++ f ++ 0#3) := rfl
  have hd : decodeC (rawOf (.vrot l d a b f)) = some (.vrot l d a b f) := by
    rw [h]
    simp (disch := decide) only [decodeC, fld_cast, extract_high, extract_low, Nat.reduceSub,
      BitVec.extractLsb'_eq_self, BitVec.reduceExtractLsb', BitVec.reduceToNat]
    all_goals rfl
  refine of_word _ 0x20 ?_ ?_ ?_ ?_
  · rw [h]
    simp (disch := decide) only [fld_cast, extract_high, extract_low, Nat.reduceSub,
      BitVec.extractLsb'_eq_self, BitVec.reduceExtractLsb', BitVec.reduceToNat]
  · rw [h]
    simp (disch := decide) only [fld_cast, extract_high, extract_low, Nat.reduceSub,
      BitVec.extractLsb'_eq_self, BitVec.reduceExtractLsb', BitVec.reduceToNat]
    rfl
  · exact ⟨by decide, hd⟩
  · intro _
    rw [slotClaim, h]
    simp (disch := decide) only [fld_cast, extract_high, extract_low, Nat.reduceSub,
      BitVec.extractLsb'_eq_self, BitVec.reduceExtractLsb', BitVec.reduceToNat]
    rfl

theorem vbc l d a b f : Statement (.vbc l d a b f) := by
  have h : rawOf (.vbc l d a b f) = BitVec.cast (by decide) (33#6 ++ l ++ d ++ a ++ b ++ f ++ 0#3) := rfl
  have hd : decodeC (rawOf (.vbc l d a b f)) = some (.vbc l d a b f) := by
    rw [h]
    simp (disch := decide) only [decodeC, fld_cast, extract_high, extract_low, Nat.reduceSub,
      BitVec.extractLsb'_eq_self, BitVec.reduceExtractLsb', BitVec.reduceToNat]
    all_goals rfl
  refine of_word _ 0x21 ?_ ?_ ?_ ?_
  · rw [h]
    simp (disch := decide) only [fld_cast, extract_high, extract_low, Nat.reduceSub,
      BitVec.extractLsb'_eq_self, BitVec.reduceExtractLsb', BitVec.reduceToNat]
  · rw [h]
    simp (disch := decide) only [fld_cast, extract_high, extract_low, Nat.reduceSub,
      BitVec.extractLsb'_eq_self, BitVec.reduceExtractLsb', BitVec.reduceToNat]
    rfl
  · exact ⟨by decide, hd⟩
  · intro _
    rw [slotClaim, h]
    simp (disch := decide) only [fld_cast, extract_high, extract_low, Nat.reduceSub,
      BitVec.extractLsb'_eq_self, BitVec.reduceExtractLsb', BitVec.reduceToNat]
    rfl

theorem vred l d a e f r : Statement (.vred l d a e f r) := by
  have h : rawOf (.vred l d a e f r) = BitVec.cast (by decide) (34#6 ++ l ++ d ++ a ++ 0#2 ++ e ++ f ++ r) := rfl
  have hd : decodeC (rawOf (.vred l d a e f r)) = some (.vred l d a e f r) := by
    rw [h]
    simp (disch := decide) only [decodeC, fld_cast, extract_high, extract_low, Nat.reduceSub,
      BitVec.extractLsb'_eq_self, BitVec.reduceExtractLsb', BitVec.reduceToNat]
    all_goals rfl
  refine of_word _ 0x22 ?_ ?_ ?_ ?_
  · rw [h]
    simp (disch := decide) only [fld_cast, extract_high, extract_low, Nat.reduceSub,
      BitVec.extractLsb'_eq_self, BitVec.reduceExtractLsb', BitVec.reduceToNat]
  · rw [h]
    simp (disch := decide) only [fld_cast, extract_high, extract_low, Nat.reduceSub,
      BitVec.extractLsb'_eq_self, BitVec.reduceExtractLsb', BitVec.reduceToNat]
    rfl
  · exact ⟨by decide, hd⟩
  · intro _
    rw [slotClaim, h]
    simp (disch := decide) only [fld_cast, extract_high, extract_low, Nat.reduceSub,
      BitVec.extractLsb'_eq_self, BitVec.reduceExtractLsb', BitVec.reduceToNat]
    rfl

theorem vtrg l d f : Statement (.vtrg l d f) := by
  have h : rawOf (.vtrg l d f) = BitVec.cast (by decide) (35#6 ++ l ++ d ++ 0#12 ++ f ++ 0#3) := rfl
  have hd : decodeC (rawOf (.vtrg l d f)) = some (.vtrg l d f) := by
    rw [h]
    simp (disch := decide) only [decodeC, fld_cast, extract_high, extract_low, Nat.reduceSub,
      BitVec.extractLsb'_eq_self, BitVec.reduceExtractLsb', BitVec.reduceToNat]
    all_goals rfl
  refine of_word _ 0x23 ?_ ?_ ?_ ?_
  · rw [h]
    simp (disch := decide) only [fld_cast, extract_high, extract_low, Nat.reduceSub,
      BitVec.extractLsb'_eq_self, BitVec.reduceExtractLsb', BitVec.reduceToNat]
  · rw [h]
    simp (disch := decide) only [fld_cast, extract_high, extract_low, Nat.reduceSub,
      BitVec.extractLsb'_eq_self, BitVec.reduceExtractLsb', BitVec.reduceToNat]
    rfl
  · exact ⟨by decide, hd⟩
  · intro _
    rw [slotClaim, h]
    simp (disch := decide) only [fld_cast, extract_high, extract_low, Nat.reduceSub,
      BitVec.extractLsb'_eq_self, BitVec.reduceExtractLsb', BitVec.reduceToNat]
    rfl

theorem vperm l d a b : Statement (.vperm l d a b) := by
  have h : rawOf (.vperm l d a b) = BitVec.cast (by decide) (36#6 ++ l ++ d ++ a ++ b ++ 0#7) := rfl
  have hd : decodeC (rawOf (.vperm l d a b)) = some (.vperm l d a b) := by
    rw [h]
    simp (disch := decide) only [decodeC, fld_cast, extract_high, extract_low, Nat.reduceSub,
      BitVec.extractLsb'_eq_self, BitVec.reduceExtractLsb', BitVec.reduceToNat]
    all_goals rfl
  refine of_word _ 0x24 ?_ ?_ ?_ ?_
  · rw [h]
    simp (disch := decide) only [fld_cast, extract_high, extract_low, Nat.reduceSub,
      BitVec.extractLsb'_eq_self, BitVec.reduceExtractLsb', BitVec.reduceToNat]
  · rw [h]
    simp (disch := decide) only [fld_cast, extract_high, extract_low, Nat.reduceSub,
      BitVec.extractLsb'_eq_self, BitVec.reduceExtractLsb', BitVec.reduceToNat]
    rfl
  · exact ⟨by decide, hd⟩
  · intro _
    rw [slotClaim, h]
    simp (disch := decide) only [fld_cast, extract_high, extract_low, Nat.reduceSub,
      BitVec.extractLsb'_eq_self, BitVec.reduceExtractLsb', BitVec.reduceToNat]
    rfl

theorem vsort l d a b f : Statement (.vsort l d a b f) := by
  have h : rawOf (.vsort l d a b f) = BitVec.cast (by decide) (37#6 ++ l ++ d ++ a ++ b ++ 0#3 ++ f ++ 0#3) := rfl
  have hd : decodeC (rawOf (.vsort l d a b f)) = some (.vsort l d a b f) := by
    rw [h]
    simp (disch := decide) only [decodeC, fld_cast, extract_high, extract_low, Nat.reduceSub,
      BitVec.extractLsb'_eq_self, BitVec.reduceExtractLsb', BitVec.reduceToNat]
    all_goals rfl
  refine of_word _ 0x25 ?_ ?_ ?_ ?_
  · rw [h]
    simp (disch := decide) only [fld_cast, extract_high, extract_low, Nat.reduceSub,
      BitVec.extractLsb'_eq_self, BitVec.reduceExtractLsb', BitVec.reduceToNat]
  · rw [h]
    simp (disch := decide) only [fld_cast, extract_high, extract_low, Nat.reduceSub,
      BitVec.extractLsb'_eq_self, BitVec.reduceExtractLsb', BitVec.reduceToNat]
    rfl
  · exact ⟨by decide, hd⟩
  · intro _
    rw [slotClaim, h]
    simp (disch := decide) only [fld_cast, extract_high, extract_low, Nat.reduceSub,
      BitVec.extractLsb'_eq_self, BitVec.reduceExtractLsb', BitVec.reduceToNat]
    rfl

theorem pred l d a b f : Statement (.pred l d a b f) := by
  have h : rawOf (.pred l d a b f) = BitVec.cast (by decide) (38#6 ++ l ++ d ++ a ++ b ++ f ++ 0#3) := rfl
  have hd : decodeC (rawOf (.pred l d a b f)) = some (.pred l d a b f) := by
    rw [h]
    simp (disch := decide) only [decodeC, fld_cast, extract_high, extract_low, Nat.reduceSub,
      BitVec.extractLsb'_eq_self, BitVec.reduceExtractLsb', BitVec.reduceToNat]
    all_goals rfl
  refine of_word _ 0x26 ?_ ?_ ?_ ?_
  · rw [h]
    simp (disch := decide) only [fld_cast, extract_high, extract_low, Nat.reduceSub,
      BitVec.extractLsb'_eq_self, BitVec.reduceExtractLsb', BitVec.reduceToNat]
  · rw [h]
    simp (disch := decide) only [fld_cast, extract_high, extract_low, Nat.reduceSub,
      BitVec.extractLsb'_eq_self, BitVec.reduceExtractLsb', BitVec.reduceToNat]
    rfl
  · exact ⟨by decide, hd⟩
  · intro _
    rw [slotClaim, h]
    simp (disch := decide) only [fld_cast, extract_high, extract_low, Nat.reduceSub,
      BitVec.extractLsb'_eq_self, BitVec.reduceExtractLsb', BitVec.reduceToNat]
    rfl

theorem xfRd l d : Statement (.xfRd l d) := by
  have h : rawOf (.xfRd l d) = BitVec.cast (by decide) (39#6 ++ l ++ d ++ 0#19) := rfl
  have hd : decodeC (rawOf (.xfRd l d)) = some (.xfRd l d) := by
    rw [h]
    simp (disch := decide) only [decodeC, fld_cast, extract_high, extract_low, Nat.reduceSub,
      BitVec.extractLsb'_eq_self, BitVec.reduceExtractLsb', BitVec.reduceToNat]
    all_goals rfl
  refine of_word _ 0x27 ?_ ?_ ?_ ?_
  · rw [h]
    simp (disch := decide) only [fld_cast, extract_high, extract_low, Nat.reduceSub,
      BitVec.extractLsb'_eq_self, BitVec.reduceExtractLsb', BitVec.reduceToNat]
  · rw [h]
    simp (disch := decide) only [fld_cast, extract_high, extract_low, Nat.reduceSub,
      BitVec.extractLsb'_eq_self, BitVec.reduceExtractLsb', BitVec.reduceToNat]
    rfl
  · exact ⟨by decide, hd⟩
  · intro _
    rw [slotClaim, h]
    simp (disch := decide) only [fld_cast, extract_high, extract_low, Nat.reduceSub,
      BitVec.extractLsb'_eq_self, BitVec.reduceExtractLsb', BitVec.reduceToNat]
    rfl

theorem xfClr l a : Statement (.xfClr l a) := by
  have h : rawOf (.xfClr l a) = BitVec.cast (by decide) (39#6 ++ l ++ 0#6 ++ a ++ 8#13) := rfl
  have hd : decodeC (rawOf (.xfClr l a)) = some (.xfClr l a) := by
    rw [h]
    simp (disch := decide) only [decodeC, fld_cast, extract_high, extract_low, Nat.reduceSub,
      BitVec.extractLsb'_eq_self, BitVec.reduceExtractLsb', BitVec.reduceToNat]
    all_goals rfl
  refine of_word _ 0x27 ?_ ?_ ?_ ?_
  · rw [h]
    simp (disch := decide) only [fld_cast, extract_high, extract_low, Nat.reduceSub,
      BitVec.extractLsb'_eq_self, BitVec.reduceExtractLsb', BitVec.reduceToNat]
  · rw [h]
    simp (disch := decide) only [fld_cast, extract_high, extract_low, Nat.reduceSub,
      BitVec.extractLsb'_eq_self, BitVec.reduceExtractLsb', BitVec.reduceToNat]
    rfl
  · exact ⟨by decide, hd⟩
  · intro _
    rw [slotClaim, h]
    simp (disch := decide) only [fld_cast, extract_high, extract_low, Nat.reduceSub,
      BitVec.extractLsb'_eq_self, BitVec.reduceExtractLsb', BitVec.reduceToNat]
    rfl

theorem xfSet l a : Statement (.xfSet l a) := by
  have h : rawOf (.xfSet l a) = BitVec.cast (by decide) (39#6 ++ l ++ 0#6 ++ a ++ 16#13) := rfl
  have hd : decodeC (rawOf (.xfSet l a)) = some (.xfSet l a) := by
    rw [h]
    simp (disch := decide) only [decodeC, fld_cast, extract_high, extract_low, Nat.reduceSub,
      BitVec.extractLsb'_eq_self, BitVec.reduceExtractLsb', BitVec.reduceToNat]
    all_goals rfl
  refine of_word _ 0x27 ?_ ?_ ?_ ?_
  · rw [h]
    simp (disch := decide) only [fld_cast, extract_high, extract_low, Nat.reduceSub,
      BitVec.extractLsb'_eq_self, BitVec.reduceExtractLsb', BitVec.reduceToNat]
  · rw [h]
    simp (disch := decide) only [fld_cast, extract_high, extract_low, Nat.reduceSub,
      BitVec.extractLsb'_eq_self, BitVec.reduceExtractLsb', BitVec.reduceToNat]
    rfl
  · exact ⟨by decide, hd⟩
  · intro _
    rw [slotClaim, h]
    simp (disch := decide) only [fld_cast, extract_high, extract_low, Nat.reduceSub,
      BitVec.extractLsb'_eq_self, BitVec.reduceExtractLsb', BitVec.reduceToNat]
    rfl

theorem psel p u k v z : Statement (.psel p u k v z) := by
  have h : rawOf (.psel p u k v z) = BitVec.cast (by decide) (80#7 ++ p ++ u ++ k ++ v ++ z ++ 0#16) := rfl
  have hd : decodeC (rawOf (.psel p u k v z)) = some (.psel p u k v z) := by
    rw [h]
    simp (disch := decide) only [decodeC, fld_cast, extract_high, extract_low, Nat.reduceSub,
      BitVec.extractLsb'_eq_self, BitVec.reduceExtractLsb', BitVec.reduceToNat]
    all_goals rfl
  refine of_word _ 0x28 ?_ ?_ ?_ ?_
  · rw [h]
    simp (disch := decide) only [fld_cast, extract_high, extract_low, Nat.reduceSub,
      BitVec.extractLsb'_eq_self, BitVec.reduceExtractLsb', BitVec.reduceToNat]
  · rw [h]
    simp (disch := decide) only [fld_cast, extract_high, extract_low, Nat.reduceSub,
      BitVec.extractLsb'_eq_self, BitVec.reduceExtractLsb', BitVec.reduceToNat]
    rfl
  · exact ⟨by decide, hd⟩
  · intro _
    rw [slotClaim, h]
    simp (disch := decide) only [fld_cast, extract_high, extract_low, Nat.reduceSub,
      BitVec.extractLsb'_eq_self, BitVec.reduceExtractLsb', BitVec.reduceToNat]
    rfl

theorem sf32 l d a f r : Statement (.sf32 l d a f r) := by
  have h : rawOf (.sf32 l d a f r) = BitVec.cast (by decide) (41#6 ++ l ++ d ++ a ++ 0#6 ++ f ++ r) := rfl
  have hd : decodeC (rawOf (.sf32 l d a f r)) = some (.sf32 l d a f r) := by
    rw [h]
    simp (disch := decide) only [decodeC, fld_cast, extract_high, extract_low, Nat.reduceSub,
      BitVec.extractLsb'_eq_self, BitVec.reduceExtractLsb', BitVec.reduceToNat]
    all_goals rfl
  refine of_word _ 0x29 ?_ ?_ ?_ ?_
  · rw [h]
    simp (disch := decide) only [fld_cast, extract_high, extract_low, Nat.reduceSub,
      BitVec.extractLsb'_eq_self, BitVec.reduceExtractLsb', BitVec.reduceToNat]
  · rw [h]
    simp (disch := decide) only [fld_cast, extract_high, extract_low, Nat.reduceSub,
      BitVec.extractLsb'_eq_self, BitVec.reduceExtractLsb', BitVec.reduceToNat]
    rfl
  · exact ⟨by decide, hd⟩
  · intro _
    rw [slotClaim, h]
    simp (disch := decide) only [fld_cast, extract_high, extract_low, Nat.reduceSub,
      BitVec.extractLsb'_eq_self, BitVec.reduceExtractLsb', BitVec.reduceToNat]
    rfl

theorem sf64 l d a f r : Statement (.sf64 l d a f r) := by
  have h : rawOf (.sf64 l d a f r) = BitVec.cast (by decide) (42#6 ++ l ++ d ++ a ++ 0#6 ++ f ++ r) := rfl
  have hd : decodeC (rawOf (.sf64 l d a f r)) = some (.sf64 l d a f r) := by
    rw [h]
    simp (disch := decide) only [decodeC, fld_cast, extract_high, extract_low, Nat.reduceSub,
      BitVec.extractLsb'_eq_self, BitVec.reduceExtractLsb', BitVec.reduceToNat]
    all_goals rfl
  refine of_word _ 0x2A ?_ ?_ ?_ ?_
  · rw [h]
    simp (disch := decide) only [fld_cast, extract_high, extract_low, Nat.reduceSub,
      BitVec.extractLsb'_eq_self, BitVec.reduceExtractLsb', BitVec.reduceToNat]
  · rw [h]
    simp (disch := decide) only [fld_cast, extract_high, extract_low, Nat.reduceSub,
      BitVec.extractLsb'_eq_self, BitVec.reduceExtractLsb', BitVec.reduceToNat]
    rfl
  · exact ⟨by decide, hd⟩
  · intro _
    rw [slotClaim, h]
    simp (disch := decide) only [fld_cast, extract_high, extract_low, Nat.reduceSub,
      BitVec.extractLsb'_eq_self, BitVec.reduceExtractLsb', BitVec.reduceToNat]
    rfl

theorem ckEnc l d a x : Statement (.ckEnc l d a x) := by
  have h : rawOf (.ckEnc l d a x) = BitVec.cast (by decide) (43#6 ++ l ++ d ++ a ++ 0#10 ++ x) := rfl
  have hd : decodeC (rawOf (.ckEnc l d a x)) = some (.ckEnc l d a x) := by
    rw [h]
    simp (disch := decide) only [decodeC, fld_cast, extract_high, extract_low, Nat.reduceSub,
      BitVec.extractLsb'_eq_self, BitVec.reduceExtractLsb', BitVec.reduceToNat]
    all_goals rfl
  refine of_word _ 0x2B ?_ ?_ ?_ ?_
  · rw [h]
    simp (disch := decide) only [fld_cast, extract_high, extract_low, Nat.reduceSub,
      BitVec.extractLsb'_eq_self, BitVec.reduceExtractLsb', BitVec.reduceToNat]
  · rw [h]
    simp (disch := decide) only [fld_cast, extract_high, extract_low, Nat.reduceSub,
      BitVec.extractLsb'_eq_self, BitVec.reduceExtractLsb', BitVec.reduceToNat]
    rfl
  · exact ⟨by decide, hd⟩
  · intro _
    rw [slotClaim, h]
    simp (disch := decide) only [fld_cast, extract_high, extract_low, Nat.reduceSub,
      BitVec.extractLsb'_eq_self, BitVec.reduceExtractLsb', BitVec.reduceToNat]
    rfl

theorem ckDec l d a x : Statement (.ckDec l d a x) := by
  have h : rawOf (.ckDec l d a x) = BitVec.cast (by decide) (43#6 ++ l ++ d ++ a ++ 1#10 ++ x) := rfl
  have hd : decodeC (rawOf (.ckDec l d a x)) = some (.ckDec l d a x) := by
    rw [h]
    simp (disch := decide) only [decodeC, fld_cast, extract_high, extract_low, Nat.reduceSub,
      BitVec.extractLsb'_eq_self, BitVec.reduceExtractLsb', BitVec.reduceToNat]
    all_goals rfl
  refine of_word _ 0x2B ?_ ?_ ?_ ?_
  · rw [h]
    simp (disch := decide) only [fld_cast, extract_high, extract_low, Nat.reduceSub,
      BitVec.extractLsb'_eq_self, BitVec.reduceExtractLsb', BitVec.reduceToNat]
  · rw [h]
    simp (disch := decide) only [fld_cast, extract_high, extract_low, Nat.reduceSub,
      BitVec.extractLsb'_eq_self, BitVec.reduceExtractLsb', BitVec.reduceToNat]
    rfl
  · exact ⟨by decide, hd⟩
  · intro _
    rw [slotClaim, h]
    simp (disch := decide) only [fld_cast, extract_high, extract_low, Nat.reduceSub,
      BitVec.extractLsb'_eq_self, BitVec.reduceExtractLsb', BitVec.reduceToNat]
    rfl

theorem ckAdd l d a b x : Statement (.ckAdd l d a b x) := by
  have h : rawOf (.ckAdd l d a b x) = BitVec.cast (by decide) (43#6 ++ l ++ d ++ a ++ b ++ 2#4 ++ x) := rfl
  have hd : decodeC (rawOf (.ckAdd l d a b x)) = some (.ckAdd l d a b x) := by
    rw [h]
    simp (disch := decide) only [decodeC, fld_cast, extract_high, extract_low, Nat.reduceSub,
      BitVec.extractLsb'_eq_self, BitVec.reduceExtractLsb', BitVec.reduceToNat]
    all_goals rfl
  refine of_word _ 0x2B ?_ ?_ ?_ ?_
  · rw [h]
    simp (disch := decide) only [fld_cast, extract_high, extract_low, Nat.reduceSub,
      BitVec.extractLsb'_eq_self, BitVec.reduceExtractLsb', BitVec.reduceToNat]
  · rw [h]
    simp (disch := decide) only [fld_cast, extract_high, extract_low, Nat.reduceSub,
      BitVec.extractLsb'_eq_self, BitVec.reduceExtractLsb', BitVec.reduceToNat]
    rfl
  · exact ⟨by decide, hd⟩
  · intro _
    rw [slotClaim, h]
    simp (disch := decide) only [fld_cast, extract_high, extract_low, Nat.reduceSub,
      BitVec.extractLsb'_eq_self, BitVec.reduceExtractLsb', BitVec.reduceToNat]
    rfl

theorem ckSub l d a b x : Statement (.ckSub l d a b x) := by
  have h : rawOf (.ckSub l d a b x) = BitVec.cast (by decide) (43#6 ++ l ++ d ++ a ++ b ++ 3#4 ++ x) := rfl
  have hd : decodeC (rawOf (.ckSub l d a b x)) = some (.ckSub l d a b x) := by
    rw [h]
    simp (disch := decide) only [decodeC, fld_cast, extract_high, extract_low, Nat.reduceSub,
      BitVec.extractLsb'_eq_self, BitVec.reduceExtractLsb', BitVec.reduceToNat]
    all_goals rfl
  refine of_word _ 0x2B ?_ ?_ ?_ ?_
  · rw [h]
    simp (disch := decide) only [fld_cast, extract_high, extract_low, Nat.reduceSub,
      BitVec.extractLsb'_eq_self, BitVec.reduceExtractLsb', BitVec.reduceToNat]
  · rw [h]
    simp (disch := decide) only [fld_cast, extract_high, extract_low, Nat.reduceSub,
      BitVec.extractLsb'_eq_self, BitVec.reduceExtractLsb', BitVec.reduceToNat]
    rfl
  · exact ⟨by decide, hd⟩
  · intro _
    rw [slotClaim, h]
    simp (disch := decide) only [fld_cast, extract_high, extract_low, Nat.reduceSub,
      BitVec.extractLsb'_eq_self, BitVec.reduceExtractLsb', BitVec.reduceToNat]
    rfl

theorem ckInbox l d a b x : Statement (.ckInbox l d a b x) := by
  have h : rawOf (.ckInbox l d a b x) = BitVec.cast (by decide) (43#6 ++ l ++ d ++ a ++ b ++ 4#4 ++ x) := rfl
  have hd : decodeC (rawOf (.ckInbox l d a b x)) = some (.ckInbox l d a b x) := by
    rw [h]
    simp (disch := decide) only [decodeC, fld_cast, extract_high, extract_low, Nat.reduceSub,
      BitVec.extractLsb'_eq_self, BitVec.reduceExtractLsb', BitVec.reduceToNat]
    all_goals rfl
  refine of_word _ 0x2B ?_ ?_ ?_ ?_
  · rw [h]
    simp (disch := decide) only [fld_cast, extract_high, extract_low, Nat.reduceSub,
      BitVec.extractLsb'_eq_self, BitVec.reduceExtractLsb', BitVec.reduceToNat]
  · rw [h]
    simp (disch := decide) only [fld_cast, extract_high, extract_low, Nat.reduceSub,
      BitVec.extractLsb'_eq_self, BitVec.reduceExtractLsb', BitVec.reduceToNat]
    rfl
  · exact ⟨by decide, hd⟩
  · intro _
    rw [slotClaim, h]
    simp (disch := decide) only [fld_cast, extract_high, extract_low, Nat.reduceSub,
      BitVec.extractLsb'_eq_self, BitVec.reduceExtractLsb', BitVec.reduceToNat]
    rfl

theorem ckNext l d a b x : Statement (.ckNext l d a b x) := by
  have h : rawOf (.ckNext l d a b x) = BitVec.cast (by decide) (43#6 ++ l ++ d ++ a ++ b ++ 5#4 ++ x) := rfl
  have hd : decodeC (rawOf (.ckNext l d a b x)) = some (.ckNext l d a b x) := by
    rw [h]
    simp (disch := decide) only [decodeC, fld_cast, extract_high, extract_low, Nat.reduceSub,
      BitVec.extractLsb'_eq_self, BitVec.reduceExtractLsb', BitVec.reduceToNat]
    all_goals rfl
  refine of_word _ 0x2B ?_ ?_ ?_ ?_
  · rw [h]
    simp (disch := decide) only [fld_cast, extract_high, extract_low, Nat.reduceSub,
      BitVec.extractLsb'_eq_self, BitVec.reduceExtractLsb', BitVec.reduceToNat]
  · rw [h]
    simp (disch := decide) only [fld_cast, extract_high, extract_low, Nat.reduceSub,
      BitVec.extractLsb'_eq_self, BitVec.reduceExtractLsb', BitVec.reduceToNat]
    rfl
  · exact ⟨by decide, hd⟩
  · intro _
    rw [slotClaim, h]
    simp (disch := decide) only [fld_cast, extract_high, extract_low, Nat.reduceSub,
      BitVec.extractLsb'_eq_self, BitVec.reduceExtractLsb', BitVec.reduceToNat]
    rfl

theorem cksplit l d a b x : Statement (.cksplit l d a b x) := by
  have h : rawOf (.cksplit l d a b x) = BitVec.cast (by decide) (44#6 ++ l ++ d ++ a ++ b ++ 0#4 ++ x) := rfl
  have hd : decodeC (rawOf (.cksplit l d a b x)) = some (.cksplit l d a b x) := by
    rw [h]
    simp (disch := decide) only [decodeC, fld_cast, extract_high, extract_low, Nat.reduceSub,
      BitVec.extractLsb'_eq_self, BitVec.reduceExtractLsb', BitVec.reduceToNat]
    all_goals rfl
  refine of_word _ 0x2C ?_ ?_ ?_ ?_
  · rw [h]
    simp (disch := decide) only [fld_cast, extract_high, extract_low, Nat.reduceSub,
      BitVec.extractLsb'_eq_self, BitVec.reduceExtractLsb', BitVec.reduceToNat]
  · rw [h]
    simp (disch := decide) only [fld_cast, extract_high, extract_low, Nat.reduceSub,
      BitVec.extractLsb'_eq_self, BitVec.reduceExtractLsb', BitVec.reduceToNat]
    rfl
  · exact ⟨by decide, hd⟩
  · intro _
    rw [slotClaim, h]
    simp (disch := decide) only [fld_cast, extract_high, extract_low, Nat.reduceSub,
      BitVec.extractLsb'_eq_self, BitVec.reduceExtractLsb', BitVec.reduceToNat]
    rfl

theorem mma l c a s f k t m : Statement (.mma l c a s f k t m) := by
  have h : rawOf (.mma l c a s f k t m) = BitVec.cast (by decide) (45#6 ++ l ++ c ++ a ++ s ++ f ++ k ++ t ++ m ++ 0#2) := rfl
  have hd : decodeC (rawOf (.mma l c a s f k t m)) = some (.mma l c a s f k t m) := by
    rw [h]
    simp (disch := decide) only [decodeC, fld_cast, extract_high, extract_low, Nat.reduceSub,
      BitVec.extractLsb'_eq_self, BitVec.reduceExtractLsb', BitVec.reduceToNat]
    all_goals rfl
  refine of_word _ 0x2D ?_ ?_ ?_ ?_
  · rw [h]
    simp (disch := decide) only [fld_cast, extract_high, extract_low, Nat.reduceSub,
      BitVec.extractLsb'_eq_self, BitVec.reduceExtractLsb', BitVec.reduceToNat]
  · rw [h]
    simp (disch := decide) only [fld_cast, extract_high, extract_low, Nat.reduceSub,
      BitVec.extractLsb'_eq_self, BitVec.reduceExtractLsb', BitVec.reduceToNat]
    rfl
  · exact ⟨by decide, hd⟩
  · intro _
    rw [slotClaim, h]
    simp (disch := decide) only [fld_cast, extract_high, extract_low, Nat.reduceSub,
      BitVec.extractLsb'_eq_self, BitVec.reduceExtractLsb', BitVec.reduceToNat]
    rfl

theorem mmaq l c a q f k : Statement (.mmaq l c a q f k) := by
  have h : rawOf (.mmaq l c a q f k) = BitVec.cast (by decide) (47#6 ++ l ++ c ++ a ++ q ++ 0#4 ++ f ++ k ++ 0#4) := rfl
  have hd : decodeC (rawOf (.mmaq l c a q f k)) = some (.mmaq l c a q f k) := by
    rw [h]
    simp (disch := decide) only [decodeC, fld_cast, extract_high, extract_low, Nat.reduceSub,
      BitVec.extractLsb'_eq_self, BitVec.reduceExtractLsb', BitVec.reduceToNat]
    all_goals rfl
  refine of_word _ 0x2F ?_ ?_ ?_ ?_
  · rw [h]
    simp (disch := decide) only [fld_cast, extract_high, extract_low, Nat.reduceSub,
      BitVec.extractLsb'_eq_self, BitVec.reduceExtractLsb', BitVec.reduceToNat]
  · rw [h]
    simp (disch := decide) only [fld_cast, extract_high, extract_low, Nat.reduceSub,
      BitVec.extractLsb'_eq_self, BitVec.reduceExtractLsb', BitVec.reduceToNat]
    rfl
  · exact ⟨by decide, hd⟩
  · intro _
    rw [slotClaim, h]
    simp (disch := decide) only [fld_cast, extract_high, extract_low, Nat.reduceSub,
      BitVec.extractLsb'_eq_self, BitVec.reduceExtractLsb', BitVec.reduceToNat]
    rfl

theorem mchb l c : Statement (.mchb l c) := by
  have h : rawOf (.mchb l c) = BitVec.cast (by decide) (46#6 ++ l ++ 0#3 ++ c ++ 0#19) := rfl
  have hd : decodeC (rawOf (.mchb l c)) = some (.mchb l c) := by
    rw [h]
    simp (disch := decide) only [decodeC, fld_cast, extract_high, extract_low, Nat.reduceSub,
      BitVec.extractLsb'_eq_self, BitVec.reduceExtractLsb', BitVec.reduceToNat]
    all_goals rfl
  refine of_word _ 0x2E ?_ ?_ ?_ ?_
  · rw [h]
    simp (disch := decide) only [fld_cast, extract_high, extract_low, Nat.reduceSub,
      BitVec.extractLsb'_eq_self, BitVec.reduceExtractLsb', BitVec.reduceToNat]
  · rw [h]
    simp (disch := decide) only [fld_cast, extract_high, extract_low, Nat.reduceSub,
      BitVec.extractLsb'_eq_self, BitVec.reduceExtractLsb', BitVec.reduceToNat]
    rfl
  · exact ⟨by decide, hd⟩
  · intro _
    rw [slotClaim, h]
    simp (disch := decide) only [fld_cast, extract_high, extract_low, Nat.reduceSub,
      BitVec.extractLsb'_eq_self, BitVec.reduceExtractLsb', BitVec.reduceToNat]
    rfl

theorem mche l c v f r : Statement (.mche l c v f r) := by
  have h : rawOf (.mche l c v f r) = BitVec.cast (by decide) (46#6 ++ l ++ 1#3 ++ c ++ v ++ f ++ 0#6 ++ r) := rfl
  have hd : decodeC (rawOf (.mche l c v f r)) = some (.mche l c v f r) := by
    rw [h]
    simp (disch := decide) only [decodeC, fld_cast, extract_high, extract_low, Nat.reduceSub,
      BitVec.extractLsb'_eq_self, BitVec.reduceExtractLsb', BitVec.reduceToNat]
    all_goals rfl
  refine of_word _ 0x2E ?_ ?_ ?_ ?_
  · rw [h]
    simp (disch := decide) only [fld_cast, extract_high, extract_low, Nat.reduceSub,
      BitVec.extractLsb'_eq_self, BitVec.reduceExtractLsb', BitVec.reduceToNat]
  · rw [h]
    simp (disch := decide) only [fld_cast, extract_high, extract_low, Nat.reduceSub,
      BitVec.extractLsb'_eq_self, BitVec.reduceExtractLsb', BitVec.reduceToNat]
    rfl
  · exact ⟨by decide, hd⟩
  · intro _
    rw [slotClaim, h]
    simp (disch := decide) only [fld_cast, extract_high, extract_low, Nat.reduceSub,
      BitVec.extractLsb'_eq_self, BitVec.reduceExtractLsb', BitVec.reduceToNat]
    rfl

theorem mzero l c : Statement (.mzero l c) := by
  have h : rawOf (.mzero l c) = BitVec.cast (by decide) (46#6 ++ l ++ 2#3 ++ c ++ 0#19) := rfl
  have hd : decodeC (rawOf (.mzero l c)) = some (.mzero l c) := by
    rw [h]
    simp (disch := decide) only [decodeC, fld_cast, extract_high, extract_low, Nat.reduceSub,
      BitVec.extractLsb'_eq_self, BitVec.reduceExtractLsb', BitVec.reduceToNat]
    all_goals rfl
  refine of_word _ 0x2E ?_ ?_ ?_ ?_
  · rw [h]
    simp (disch := decide) only [fld_cast, extract_high, extract_low, Nat.reduceSub,
      BitVec.extractLsb'_eq_self, BitVec.reduceExtractLsb', BitVec.reduceToNat]
  · rw [h]
    simp (disch := decide) only [fld_cast, extract_high, extract_low, Nat.reduceSub,
      BitVec.extractLsb'_eq_self, BitVec.reduceExtractLsb', BitVec.reduceToNat]
    rfl
  · exact ⟨by decide, hd⟩
  · intro _
    rw [slotClaim, h]
    simp (disch := decide) only [fld_cast, extract_high, extract_low, Nat.reduceSub,
      BitVec.extractLsb'_eq_self, BitVec.reduceExtractLsb', BitVec.reduceToNat]
    rfl

theorem mred l c : Statement (.mred l c) := by
  have h : rawOf (.mred l c) = BitVec.cast (by decide) (46#6 ++ l ++ 3#3 ++ c ++ 0#19) := rfl
  have hd : decodeC (rawOf (.mred l c)) = some (.mred l c) := by
    rw [h]
    simp (disch := decide) only [decodeC, fld_cast, extract_high, extract_low, Nat.reduceSub,
      BitVec.extractLsb'_eq_self, BitVec.reduceExtractLsb', BitVec.reduceToNat]
    all_goals rfl
  refine of_word _ 0x2E ?_ ?_ ?_ ?_
  · rw [h]
    simp (disch := decide) only [fld_cast, extract_high, extract_low, Nat.reduceSub,
      BitVec.extractLsb'_eq_self, BitVec.reduceExtractLsb', BitVec.reduceToNat]
  · rw [h]
    simp (disch := decide) only [fld_cast, extract_high, extract_low, Nat.reduceSub,
      BitVec.extractLsb'_eq_self, BitVec.reduceExtractLsb', BitVec.reduceToNat]
    rfl
  · exact ⟨by decide, hd⟩
  · intro _
    rw [slotClaim, h]
    simp (disch := decide) only [fld_cast, extract_high, extract_low, Nat.reduceSub,
      BitVec.extractLsb'_eq_self, BitVec.reduceExtractLsb', BitVec.reduceToNat]
    rfl

theorem mlda l c v : Statement (.mlda l c v) := by
  have h : rawOf (.mlda l c v) = BitVec.cast (by decide) (46#6 ++ l ++ 4#3 ++ c ++ v ++ 0#13) := rfl
  have hd : decodeC (rawOf (.mlda l c v)) = some (.mlda l c v) := by
    rw [h]
    simp (disch := decide) only [decodeC, fld_cast, extract_high, extract_low, Nat.reduceSub,
      BitVec.extractLsb'_eq_self, BitVec.reduceExtractLsb', BitVec.reduceToNat]
    all_goals rfl
  refine of_word _ 0x2E ?_ ?_ ?_ ?_
  · rw [h]
    simp (disch := decide) only [fld_cast, extract_high, extract_low, Nat.reduceSub,
      BitVec.extractLsb'_eq_self, BitVec.reduceExtractLsb', BitVec.reduceToNat]
  · rw [h]
    simp (disch := decide) only [fld_cast, extract_high, extract_low, Nat.reduceSub,
      BitVec.extractLsb'_eq_self, BitVec.reduceExtractLsb', BitVec.reduceToNat]
    rfl
  · exact ⟨by decide, hd⟩
  · intro _
    rw [slotClaim, h]
    simp (disch := decide) only [fld_cast, extract_high, extract_low, Nat.reduceSub,
      BitVec.extractLsb'_eq_self, BitVec.reduceExtractLsb', BitVec.reduceToNat]
    rfl

theorem csend g o w l v : Statement (.csend g o w l v) := by
  have h : rawOf (.csend g o w l v) = BitVec.cast (by decide) (65#7 ++ g ++ o ++ w ++ l ++ v ++ 0#6) := rfl
  have hd : decodeN (rawOf (.csend g o w l v)) = some (.csend g o w l v) := by
    rw [h]
    simp (disch := decide) only [decodeN, fld_cast, extract_high, extract_low, Nat.reduceSub,
      BitVec.extractLsb'_eq_self, BitVec.reduceExtractLsb', BitVec.reduceToNat]
    all_goals rfl
  refine of_word _ 0x20 ?_ ?_ ?_ ?_
  · rw [h]
    simp (disch := decide) only [fld_cast, extract_high, extract_low, Nat.reduceSub,
      BitVec.extractLsb'_eq_self, BitVec.reduceExtractLsb', BitVec.reduceToNat]
  · rw [h]
    simp (disch := decide) only [fld_cast, extract_high, extract_low, Nat.reduceSub,
      BitVec.extractLsb'_eq_self, BitVec.reduceExtractLsb', BitVec.reduceToNat]
    rfl
  · exact hd
  · exact fun hf => absurd hf (by rw [classOf]; decide)

theorem cred d s l t o v r : Statement (.cred d s l t o v r) := by
  have h : rawOf (.cred d s l t o v r) = BitVec.cast (by decide) (67#7 ++ d ++ s ++ l ++ t ++ o ++ v ++ r ++ 0#3) := rfl
  have hd : decodeN (rawOf (.cred d s l t o v r)) = some (.cred d s l t o v r) := by
    rw [h]
    simp (disch := decide) only [decodeN, fld_cast, extract_high, extract_low, Nat.reduceSub,
      BitVec.extractLsb'_eq_self, BitVec.reduceExtractLsb', BitVec.reduceToNat]
    all_goals rfl
  refine of_word _ 0x21 ?_ ?_ ?_ ?_
  · rw [h]
    simp (disch := decide) only [fld_cast, extract_high, extract_low, Nat.reduceSub,
      BitVec.extractLsb'_eq_self, BitVec.reduceExtractLsb', BitVec.reduceToNat]
  · rw [h]
    simp (disch := decide) only [fld_cast, extract_high, extract_low, Nat.reduceSub,
      BitVec.extractLsb'_eq_self, BitVec.reduceExtractLsb', BitVec.reduceToNat]
    rfl
  · exact hd
  · exact fun hf => absurd hf (by rw [classOf]; decide)

theorem ccopy d s l v : Statement (.ccopy d s l v) := by
  have h : rawOf (.ccopy d s l v) = BitVec.cast (by decide) (69#7 ++ d ++ s ++ l ++ v ++ 0#12) := rfl
  have hd : decodeN (rawOf (.ccopy d s l v)) = some (.ccopy d s l v) := by
    rw [h]
    simp (disch := decide) only [decodeN, fld_cast, extract_high, extract_low, Nat.reduceSub,
      BitVec.extractLsb'_eq_self, BitVec.reduceExtractLsb', BitVec.reduceToNat]
    all_goals rfl
  refine of_word _ 0x22 ?_ ?_ ?_ ?_
  · rw [h]
    simp (disch := decide) only [fld_cast, extract_high, extract_low, Nat.reduceSub,
      BitVec.extractLsb'_eq_self, BitVec.reduceExtractLsb', BitVec.reduceToNat]
  · rw [h]
    simp (disch := decide) only [fld_cast, extract_high, extract_low, Nat.reduceSub,
      BitVec.extractLsb'_eq_self, BitVec.reduceExtractLsb', BitVec.reduceToNat]
    rfl
  · exact hd
  · exact fun hf => absurd hf (by rw [classOf]; decide)

theorem cwait k a n : Statement (.cwait k a n) := by
  have h : rawOf (.cwait k a n) = BitVec.cast (by decide) (71#7 ++ k ++ a ++ n ++ 0#16) := rfl
  have hd : decodeN (rawOf (.cwait k a n)) = some (.cwait k a n) := by
    rw [h]
    simp (disch := decide) only [decodeN, fld_cast, extract_high, extract_low, Nat.reduceSub,
      BitVec.extractLsb'_eq_self, BitVec.reduceExtractLsb', BitVec.reduceToNat]
    all_goals rfl
  refine of_word _ 0x23 ?_ ?_ ?_ ?_
  · rw [h]
    simp (disch := decide) only [fld_cast, extract_high, extract_low, Nat.reduceSub,
      BitVec.extractLsb'_eq_self, BitVec.reduceExtractLsb', BitVec.reduceToNat]
  · rw [h]
    simp (disch := decide) only [fld_cast, extract_high, extract_low, Nat.reduceSub,
      BitVec.extractLsb'_eq_self, BitVec.reduceExtractLsb', BitVec.reduceToNat]
    rfl
  · exact hd
  · exact fun hf => absurd hf (by rw [classOf]; decide)

theorem csig a v : Statement (.csig a v) := by
  have h : rawOf (.csig a v) = BitVec.cast (by decide) (73#7 ++ a ++ v ++ 0#17) := rfl
  have hd : decodeN (rawOf (.csig a v)) = some (.csig a v) := by
    rw [h]
    simp (disch := decide) only [decodeN, fld_cast, extract_high, extract_low, Nat.reduceSub,
      BitVec.extractLsb'_eq_self, BitVec.reduceExtractLsb', BitVec.reduceToNat]
    all_goals rfl
  refine of_word _ 0x24 ?_ ?_ ?_ ?_
  · rw [h]
    simp (disch := decide) only [fld_cast, extract_high, extract_low, Nat.reduceSub,
      BitVec.extractLsb'_eq_self, BitVec.reduceExtractLsb', BitVec.reduceToNat]
  · rw [h]
    simp (disch := decide) only [fld_cast, extract_high, extract_low, Nat.reduceSub,
      BitVec.extractLsb'_eq_self, BitVec.reduceExtractLsb', BitVec.reduceToNat]
    rfl
  · exact hd
  · exact fun hf => absurd hf (by rw [classOf]; decide)

theorem cloop c n : Statement (.cloop c n) := by
  have h : rawOf (.cloop c n) = BitVec.cast (by decide) (75#7 ++ c ++ n ++ 0#8) := rfl
  have hd : decodeN (rawOf (.cloop c n)) = some (.cloop c n) := by
    rw [h]
    simp (disch := decide) only [decodeN, fld_cast, extract_high, extract_low, Nat.reduceSub,
      BitVec.extractLsb'_eq_self, BitVec.reduceExtractLsb', BitVec.reduceToNat]
    all_goals rfl
  refine of_word _ 0x25 ?_ ?_ ?_ ?_
  · rw [h]
    simp (disch := decide) only [fld_cast, extract_high, extract_low, Nat.reduceSub,
      BitVec.extractLsb'_eq_self, BitVec.reduceExtractLsb', BitVec.reduceToNat]
  · rw [h]
    simp (disch := decide) only [fld_cast, extract_high, extract_low, Nat.reduceSub,
      BitVec.extractLsb'_eq_self, BitVec.reduceExtractLsb', BitVec.reduceToNat]
    rfl
  · exact hd
  · exact fun hf => absurd hf (by rw [classOf]; decide)

theorem cend : Statement (.cend) := by
  have h : rawOf (.cend) = BitVec.cast (by decide) (2583691264#32) := rfl
  have hd : decodeN (rawOf (.cend)) = some (.cend) := by
    rw [h]
    simp (disch := decide) only [decodeN, fld_cast, extract_high, extract_low, Nat.reduceSub,
      BitVec.extractLsb'_eq_self, BitVec.reduceExtractLsb', BitVec.reduceToNat]
    all_goals rfl
  refine of_word _ 0x26 ?_ ?_ ?_ ?_
  · rw [h]
    simp (disch := decide) only [fld_cast, extract_high, extract_low, Nat.reduceSub,
      BitVec.extractLsb'_eq_self, BitVec.reduceExtractLsb', BitVec.reduceToNat]
  · rw [h]
    simp (disch := decide) only [fld_cast, extract_high, extract_low, Nat.reduceSub,
      BitVec.extractLsb'_eq_self, BitVec.reduceExtractLsb', BitVec.reduceToNat]
    rfl
  · exact hd
  · exact fun hf => absurd hf (by rw [classOf]; decide)

theorem crv m : Statement (.crv m) := by
  have h : rawOf (.crv m) = BitVec.cast (by decide) (79#7 ++ m ++ 0#21) := rfl
  have hd : decodeN (rawOf (.crv m)) = some (.crv m) := by
    rw [h]
    simp (disch := decide) only [decodeN, fld_cast, extract_high, extract_low, Nat.reduceSub,
      BitVec.extractLsb'_eq_self, BitVec.reduceExtractLsb', BitVec.reduceToNat]
    all_goals rfl
  refine of_word _ 0x27 ?_ ?_ ?_ ?_
  · rw [h]
    simp (disch := decide) only [fld_cast, extract_high, extract_low, Nat.reduceSub,
      BitVec.extractLsb'_eq_self, BitVec.reduceExtractLsb', BitVec.reduceToNat]
  · rw [h]
    simp (disch := decide) only [fld_cast, extract_high, extract_low, Nat.reduceSub,
      BitVec.extractLsb'_eq_self, BitVec.reduceExtractLsb', BitVec.reduceToNat]
    rfl
  · exact hd
  · exact fun hf => absurd hf (by rw [classOf]; decide)

theorem cbw s r : Statement (.cbw s r) := by
  have h : rawOf (.cbw s r) = BitVec.cast (by decide) (81#7 ++ s ++ r ++ 0#15) := rfl
  have hd : decodeN (rawOf (.cbw s r)) = some (.cbw s r) := by
    rw [h]
    simp (disch := decide) only [decodeN, fld_cast, extract_high, extract_low, Nat.reduceSub,
      BitVec.extractLsb'_eq_self, BitVec.reduceExtractLsb', BitVec.reduceToNat]
    all_goals rfl
  refine of_word _ 0x28 ?_ ?_ ?_ ?_
  · rw [h]
    simp (disch := decide) only [fld_cast, extract_high, extract_low, Nat.reduceSub,
      BitVec.extractLsb'_eq_self, BitVec.reduceExtractLsb', BitVec.reduceToNat]
  · rw [h]
    simp (disch := decide) only [fld_cast, extract_high, extract_low, Nat.reduceSub,
      BitVec.extractLsb'_eq_self, BitVec.reduceExtractLsb', BitVec.reduceToNat]
    rfl
  · exact hd
  · exact fun hf => absurd hf (by rw [classOf]; decide)

theorem cnop : Statement (.cnop) := by
  have h : rawOf (.cnop) = BitVec.cast (by decide) (1308622848#32) := rfl
  have hd : decodeN (rawOf (.cnop)) = some (.cnop) := by
    rw [h]
    simp (disch := decide) only [decodeN, fld_cast, extract_high, extract_low, Nat.reduceSub,
      BitVec.extractLsb'_eq_self, BitVec.reduceExtractLsb', BitVec.reduceToNat]
    all_goals rfl
  refine of_word _ 0x13 ?_ ?_ ?_ ?_
  · rw [h]
    simp (disch := decide) only [fld_cast, extract_high, extract_low, Nat.reduceSub,
      BitVec.extractLsb'_eq_self, BitVec.reduceExtractLsb', BitVec.reduceToNat]
  · rw [h]
    simp (disch := decide) only [fld_cast, extract_high, extract_low, Nat.reduceSub,
      BitVec.extractLsb'_eq_self, BitVec.reduceExtractLsb', BitVec.reduceToNat]
    rfl
  · exact hd
  · exact fun hf => absurd hf (by rw [classOf]; decide)

theorem colProgramStart x0 : Statement (.colProgramStart x0) := of_event _ rfl

theorem cpResultWrite x0 x1 : Statement (.cpResultWrite x0 x1) := of_event _ rfl

theorem longOpLand x0 x1 x2 : Statement (.longOpLand x0 x1 x2) := of_event _ rfl

theorem copyUnit x0 x1 x2 : Statement (.copyUnit x0 x1 x2) := of_event _ rfl

theorem copyComplete x0 x1 x2 : Statement (.copyComplete x0 x1 x2) := of_event _ rfl

theorem flipComplete x0 x1 : Statement (.flipComplete x0 x1) := of_event _ rfl

theorem nodeRetire x0 : Statement (.nodeRetire x0) := of_event _ rfl

theorem launchDoorbell x0 x1 : Statement (.launchDoorbell x0 x1) := of_event _ rfl

theorem launchRecordConsume x0 : Statement (.launchRecordConsume x0) := of_event _ rfl

theorem launchRequest x0 x1 x2 x3 : Statement (.launchRequest x0 x1 x2 x3) := of_event _ rfl

theorem dispatch x0 : Statement (.dispatch x0) := of_event _ rfl

theorem gangMigrate x0 : Statement (.gangMigrate x0) := of_event _ rfl

theorem haltLine x0 : Statement (.haltLine x0) := of_event _ rfl

theorem copyAbandon x0 x1 x2 : Statement (.copyAbandon x0 x1 x2) := of_event _ rfl

theorem colContextStop x0 : Statement (.colContextStop x0) := of_event _ rfl

theorem pctlResume x0 x1 : Statement (.pctlResume x0 x1) := of_event _ rfl

theorem pctlAbort x0 x1 : Statement (.pctlAbort x0 x1) := of_event _ rfl

theorem pctlReplay x0 x1 : Statement (.pctlReplay x0 x1) := of_event _ rfl

theorem pctlBarrier x0 x1 : Statement (.pctlBarrier x0 x1) := of_event _ rfl

theorem pctlStop x0 x1 : Statement (.pctlStop x0 x1) := of_event _ rfl

theorem partitionBarrier x0 : Statement (.partitionBarrier x0) := of_event _ rfl

theorem vfGrant x0 : Statement (.vfGrant x0) := of_event _ rfl

theorem sliceEnd x0 : Statement (.sliceEnd x0) := of_event _ rfl

theorem forcedEpilogue x0 : Statement (.forcedEpilogue x0) := of_event _ rfl

theorem epilogueSave x0 : Statement (.epilogueSave x0) := of_event _ rfl

theorem fullStop x0 : Statement (.fullStop x0) := of_event _ rfl

theorem vfctxRootWrite x0 x1 x2 : Statement (.vfctxRootWrite x0 x1 x2) := of_event _ rfl

theorem vfctxCommit x0 x1 : Statement (.vfctxCommit x0 x1) := of_event _ rfl

theorem tqheadWrite x0 x1 : Statement (.tqheadWrite x0 x1) := of_event _ rfl

theorem htqheadWrite x0 : Statement (.htqheadWrite x0) := of_event _ rfl

theorem fmtcfgWrite x0 x1 x2 : Statement (.fmtcfgWrite x0 x1 x2) := of_event _ rfl

theorem pbenchWrite x0 x1 : Statement (.pbenchWrite x0 x1) := of_event _ rfl

theorem winctlWrite x0 x1 x2 : Statement (.winctlWrite x0 x1 x2) := of_event _ rfl

theorem windowUnitArrive x0 : Statement (.windowUnitArrive x0) := of_event _ rfl

theorem residencyReport x0 x1 x2 x3 : Statement (.residencyReport x0 x1 x2 x3) := of_event _ rfl

theorem flitRetransmit x0 : Statement (.flitRetransmit x0) := of_event _ rfl

theorem creditFlit x0 x1 : Statement (.creditFlit x0 x1) := of_event _ rfl

theorem linkDown x0 x1 : Statement (.linkDown x0 x1) := of_event _ rfl

theorem udpRetransmit x0 : Statement (.udpRetransmit x0) := of_event _ rfl

theorem udpUnitTimeout x0 : Statement (.udpUnitTimeout x0) := of_event _ rfl

theorem uncorrectableEcc x0 : Statement (.uncorrectableEcc x0) := of_event _ rfl

theorem scxGo x0 x1 : Statement (.scxGo x0 x1) := of_event _ rfl

theorem scxComplete x0 : Statement (.scxComplete x0) := of_event _ rfl

theorem llcmntWriteback x0 x1 : Statement (.llcmntWriteback x0 x1) := of_event _ rfl

theorem llcmntWbInvalidate x0 x1 : Statement (.llcmntWbInvalidate x0 x1) := of_event _ rfl

theorem llcmntDone x0 : Statement (.llcmntDone x0) := of_event _ rfl

theorem coldStart : Statement (.coldStart) := of_event _ rfl

theorem devctlWarm x0 : Statement (.devctlWarm x0) := of_event _ rfl

theorem devctlReady x0 : Statement (.devctlReady x0) := of_event _ rfl

theorem recgo x0 x1 : Statement (.recgo x0 x1) := of_event _ rfl

theorem lifecycleAdvance x0 x1 : Statement (.lifecycleAdvance x0 x1) := of_event _ rfl

theorem dbgctlReq x0 : Statement (.dbgctlReq x0) := of_event _ rfl

theorem dbgctlLoad x0 x1 : Statement (.dbgctlLoad x0 x1) := of_event _ rfl

theorem snapctlFire x0 : Statement (.snapctlFire x0) := of_event _ rfl

theorem qpwrReq x0 x1 : Statement (.qpwrReq x0 x1) := of_event _ rfl

theorem p2Entry x0 : Statement (.p2Entry x0) := of_event _ rfl

theorem p1Entry x0 : Statement (.p1Entry x0) := of_event _ rfl

theorem p1Wake x0 : Statement (.p1Wake x0) := of_event _ rfl

theorem powerOff : Statement (.powerOff) := of_event _ rfl

theorem powerWindowEnd x0 x1 : Statement (.powerWindowEnd x0 x1) := of_event _ rfl

theorem permitCharge x0 : Statement (.permitCharge x0) := of_event _ rfl

theorem permitRefill x0 : Statement (.permitRefill x0) := of_event _ rfl

theorem boostFallEnd x0 : Statement (.boostFallEnd x0) := of_event _ rfl

theorem boostStepChange x0 : Statement (.boostStepChange x0) := of_event _ rfl

theorem registerWrite x0 x1 x2 : Statement (.registerWrite x0 x1 x2) := of_event _ rfl

theorem bucketAccrual x0 : Statement (.bucketAccrual x0) := of_event _ rfl

theorem linkRetrain x0 x1 x2 : Statement (.linkRetrain x0 x1 x2) := of_event _ rfl

theorem arrivalAcknowledgement x0 x1 : Statement (.arrivalAcknowledgement x0 x1) := of_event _ rfl

theorem refusedUnit x0 : Statement (.refusedUnit x0) := of_event _ rfl

theorem getUnitReturn x0 x1 : Statement (.getUnitReturn x0 x1) := of_event _ rfl

theorem hostMemoryAccess x0 x1 x2 x3 : Statement (.hostMemoryAccess x0 x1 x2 x3) := of_event _ rfl

theorem debugWindowAccess x0 x1 x2 : Statement (.debugWindowAccess x0 x1 x2) := of_event _ rfl

theorem contextWindowAccess x0 x1 x2 : Statement (.contextWindowAccess x0 x1 x2) := of_event _ rfl

theorem tlbInvalidate : Statement (.tlbInvalidate) := of_event _ rfl

end Sys2Proof.Laws.Words
end

