-- ==== Sys2Proof/Laws/Meaning.lean ====
section
/-! SUPPORT. The laws of meaning: what `exec` answers for a word that is alone, by the word's effect. -/

namespace Sys2Proof.Machine

variable (s : State) (b : BenchId) (c : CoreId) (t : StreamId) (i : Instr)

/-- The meaning of every word is the one that performs it. -/
theorem exec_word (h : classOf i ≠ .event) : exec i s = runWord i s := by
  cases i <;> first | rfl | exact absurd rfl h

/-- A word of the common group, last of its bundle and of no group that a die or a mask keeps from issuing. -/
structure Instr.common (i : Instr) : Prop where
  word : Laws.Words.Statement i
  cls : classOf i = .common
  last : lastOf i = true
  slot : slotOf i = 1
  plain : Instr.plain i = true
  free : groupD i = false ∧ groupCK i = false

/-- A word of no group issues everywhere. -/
theorem groupStop_free (x : Ctx) (h : groupD i = false ∧ groupCK i = false) : groupStop x s i = none := by
  simp [groupStop, h.1, h.2]

/-- A common word that is alone comes to its effect. -/
theorem exec_common (k : Instr.common i) (ha : s.alone b c t) (hs : specOk (s.gang b).vcount i = true) :
    exec i s = .next (if t = 2 then (s.issuing b c t 1).alone s 1 (wordEffect i (s.issuing b c t 1) s)
      else settle (s.issuing b c t 1) s (wordEffect i (s.issuing b c t 1) s)) := by
  have hl : (rawOf i).getLsbD 25 = true := (k.word.2.1 (by rw [k.cls]; decide)).trans k.last
  have hn : slotClaim (rawOf i) = 1 := (k.word.2.2 (by rw [k.cls]; decide)).trans k.slot
  rw [exec_word s i (by rw [k.cls]; decide), runWord_stream s b c t i ha.1]
  by_cases ht : t = 2
  · subst ht
    rw [if_pos rfl, runStream_bundle s b c i 1 ⟨ha, hs, groupStop_free s i _ k.free⟩ hl (by rw [k.cls]; rfl) hn (by omega)
      (by omega) k.plain]
  · rw [if_neg ht, runStream_alone s b c t i 1 ht hl (by rw [k.cls]; rfl)]

/-- A common word that is performed. -/
theorem does_common (s' : State) (k : Instr.common i) (ha : s.alone b c t) (hs : specOk (s.gang b).vcount i = true)
    (he : wordEffect i (s.issuing b c t 1) s = .ok s') : s.does b c t 1 i s' := by
  intro hg
  rw [exec_word s i (by rw [k.cls]; decide)]
  exact runWord_common s b c t i s' ha ((k.word.2.1 (by rw [k.cls]; decide)).trans k.last) k.cls
    ((k.word.2.2 (by rw [k.cls]; decide)).trans k.slot) k.plain hs (groupStop_free s i _ k.free) he hg

/-- A common word that takes a fault at issue. -/
theorem traps_common (f : Trap) (k : Instr.common i) (ha : s.alone b c t) (hs : specOk (s.gang b).vcount i = true)
    (he : wordEffect i (s.issuing b c t 1) s = .trap f) : s.traps b c t 1 i f := by
  unfold State.traps State.trapsIn
  rw [exec_common s b c t i k ha hs, he]
  split <;> rfl

/-- A common word that takes a fault in the state that its accesses leave. -/
theorem trapsIn_common (s' : State) (f : Trap) (k : Instr.common i) (ha : s.alone b c t) (hs : specOk (s.gang b).vcount i = true)
    (he : wordEffect i (s.issuing b c t 1) s = .fault s' f) : s.trapsIn b c t 1 i s' f := by
  unfold State.trapsIn
  rw [exec_common s b c t i k ha hs, he]
  split <;> rfl

/-- What stands in CP for a common word with operands that are not permitted. -/
theorem traps_spec (k : Instr.common i) (ha : s.alone b c 2) (hs : specOk (s.gang b).vcount i = false) :
    s.traps b c 2 1 i { cause := 0x03 } := by
  have hl : (rawOf i).getLsbD 25 = true := (k.word.2.1 (by rw [k.cls]; decide)).trans k.last
  have hn : slotClaim (rawOf i) = 1 := (k.word.2.2 (by rw [k.cls]; decide)).trans k.slot
  have hd := bundleDefect_single (soleWord s b c i) i 1 (s.gang b).vcount rfl hn (by omega) (by omega) hl
  unfold State.traps State.trapsIn
  rw [exec_word s i (by rw [k.cls]; decide), runWord_stream s b c 2 i ha.1,
    runStream_single s b c i (ha.2 rfl).1 hl (by rw [k.cls]; rfl)]
  unfold issueBundle
  simp only [hd, hs, Bool.false_eq_true, if_false]
  rfl

/-- A word of SC, LD or ST that is performed. -/
theorem does_scalar (n : Nat) (s' : State) (hw : Laws.Words.Statement i) (hl : lastOf i = true) (hc : classOf i ≠ .event)
    (ht : t ≠ 2) (hf : (classOf i).fits t = true) (ha : s.performs b c t)
    (he : wordEffect i (s.issuing b c t n) s = .ok s') : s.does b c t n i s' := by
  intro hg
  rw [exec_word s i hc]
  exact runWord_scalar s b c t i n s' ha ht ((hw.2.1 hc).trans hl) hf he hg

/-- A word of SC, LD or ST comes to its effect. -/
theorem exec_scalar (n : Nat) (hw : Laws.Words.Statement i) (hl : lastOf i = true) (hc : classOf i ≠ .event) (ht : t ≠ 2)
    (hf : (classOf i).fits t = true) (ha : s.performs b c t) :
    exec i s = .next (settle (s.issuing b c t n) s (wordEffect i (s.issuing b c t n) s)) := by
  rw [exec_word s i hc, runWord_stream s b c t i ha, runStream_alone s b c t i n ht ((hw.2.1 hc).trans hl) hf]

/-- A word of CP that is a whole bundle comes to its effect. -/
theorem exec_cp (n : Nat) (hw : Laws.Words.Statement i) (hc : classOf i = .c) (hl : lastOf i = true) (hs : slotOf i = n)
    (h1 : 1 ≤ n) (h5 : n ≤ 5) (hp : Instr.plain i = true) (ha : s.aloneInCp b c n i) :
    exec i s = .next ((s.issuing b c 2 n).alone s n (wordEffect i (s.issuing b c 2 n) s)) := by
  have hl' : (rawOf i).getLsbD 25 = true := (hw.2.1 (by rw [hc]; decide)).trans hl
  have hn : slotClaim (rawOf i) = n := (hw.2.2 (by rw [hc]; decide)).trans hs
  rw [exec_word s i (by rw [hc]; decide), runWord_stream s b c 2 i ha.1.1,
    runStream_bundle s b c i n ha hl' (by rw [hc]; rfl) hn h1 h5 hp]

/-- A vector or special-function word of CP that is a whole bundle and is performed. -/
theorem does_ring (n : Nat) (s' : State) (e : Option Tile) (hw : Laws.Words.Statement i) (hc : classOf i = .c)
    (hl : lastOf i = true) (hs : slotOf i = n) (h1 : 1 ≤ n) (h5 : n ≤ 5) (hp : Instr.plain i = true)
    (ha : s.aloneInCp b c n i) (he : wordEffect i (s.issuing b c 2 n) s = .ring s' e) :
    s.does b c 2 n i s' [(n, e)] := by
  intro hg
  rw [exec_word s i (by rw [hc]; decide)]
  exact runWord_ring s b c i n s' e ha ((hw.2.1 (by rw [hc]; decide)).trans hl) (by rw [hc]; rfl)
    ((hw.2.2 (by rw [hc]; decide)).trans hs) h1 h5 hp he hg

/-- Any other word of CP that is a whole bundle and is performed. -/
theorem does_cp (n : Nat) (s' : State) (hw : Laws.Words.Statement i) (hc : classOf i = .c)
    (hl : lastOf i = true) (hs : slotOf i = n) (h1 : 1 ≤ n) (h5 : n ≤ 5) (hp : Instr.plain i = true)
    (ha : s.aloneInCp b c n i) (he : wordEffect i (s.issuing b c 2 n) s = .ok s') : s.does b c 2 n i s' := by
  intro hg
  rw [exec_word s i (by rw [hc]; decide)]
  exact runWord_cp s b c i n s' ha ((hw.2.1 (by rw [hc]; decide)).trans hl) (by rw [hc]; rfl)
    ((hw.2.2 (by rw [hc]; decide)).trans hs) h1 h5 hp he hg

end Sys2Proof.Machine
end

