-- ==== Sys2Proof/Laws/Tiles.lean ====
section
/-! SUPPORT. The laws of the vector words' shared operations: reading sources and delivering a result change nothing but what
stands on the benches. -/

namespace Sys2Proof.Machine

/-- One state differs from another in what stands on the benches alone. -/
def State.benchesOnly (s s' : State) : Prop := s' = { s with benches := s'.benches }

variable (s : State)

theorem State.benchesOnly_refl : s.benchesOnly s := rfl

theorem State.benchesOnly.trans {s t u : State} (h : s.benchesOnly t) (h' : t.benchesOnly u) : s.benchesOnly u := by
  unfold State.benchesOnly at *
  rw [h'] ; rw [h]

theorem State.benchesOnly.memWf {s t : State} (h : s.benchesOnly t) (hs : s.memWf) : t.memWf := by
  rw [h]; exact hs

theorem updGang_benchesOnly (b : BenchId) (f : Gang → Gang) : s.benchesOnly (s.updGang b f) := by
  unfold State.updGang
  split <;> rfl

theorem updCore_benchesOnly (b : BenchId) (c : CoreId) (f : Core → Core) : s.benchesOnly (s.updCore b c f) :=
  updGang_benchesOnly s b _

theorem updStream_benchesOnly (b : BenchId) (c : CoreId) (t : StreamId) (f : Stream → Stream) :
    s.benchesOnly (s.updStream b c t f) := updGang_benchesOnly s b _

/-! ### Sources (R55, R246) -/

/-- A blocked queue traps or waits in the state given. -/
theorem blocked_benchesOnly (k : Core) (t : StreamId) (p : Bool) (cause : Nat) :
    (blocked k t p cause s).holds s.benchesOnly := by
  unfold blocked
  split
  · trivial
  · exact s.benchesOnly_refl

/-- A pop takes an entry off its queue, or the word traps or waits. -/
theorem popQueue_benchesOnly (x : Ctx) (n : Fin 4) :
    (∀ r, popQueue x s n = .error r → r.holds s.benchesOnly) ∧
      ∀ t f s', popQueue x s n = .ok (t, f, s') → s.benchesOnly s' := by
  unfold popQueue
  dsimp only
  constructor
  · intro r h
    split at h
    · cases h; trivial
    · split at h
      · cases h; exact blocked_benchesOnly _ _ _ _ _
      · split at h
        · cases h; exact s.benchesOnly_refl
        · split at h <;> cases h
  · intro t f s' h
    split at h
    · cases h
    · split at h
      · cases h
      · split at h
        · cases h
        · split at h <;> cases h <;> exact updCore_benchesOnly _ _ _ _

/-- Reading a source changes nothing but the benches; where it cannot be read the word traps or waits. -/
theorem readSource_benchesOnly (x : Ctx) (a : BitVec 6) (z : Nat) (wide : Bool) :
    (∀ r, readSource x s a z wide = .error r → r.holds s.benchesOnly) ∧
      ∀ t s', readSource x s a z wide = .ok (t, s') → s.benchesOnly s' := by
  unfold readSource
  constructor
  · intro r h
    split at h
    · split at h
      · next hp => cases h; exact (popQueue_benchesOnly s x _).1 _ hp
      · cases h
    · split at h
      · split at h <;> cases h
        exact s.benchesOnly_refl
      · cases h
        trivial
  · intro t s' h
    split at h
    · split at h
      · cases h
      · next hp =>
        cases h
        exact ((popQueue_benchesOnly s x _).2 _ _ _ hp).trans (updCore_benchesOnly _ _ _ _)
    · split at h
      · split at h <;> cases h
        exact s.benchesOnly_refl
      · cases h

theorem Res.holds_trans {s t : State} (h : s.benchesOnly t) (r : Res) (hr : r.holds t.benchesOnly) : r.holds s.benchesOnly := by
  cases r <;> first | exact h.trans hr | trivial

/-- Reading two sources. -/
theorem readTwo_benchesOnly (x : Ctx) (a b : BitVec 6) (z : Nat) (wide : Bool) :
    (∀ r, readTwo x s a b z wide = .error r → r.holds s.benchesOnly) ∧
      ∀ t u s', readTwo x s a b z wide = .ok (t, u, s') → s.benchesOnly s' := by
  unfold readTwo
  constructor
  · intro r h
    split at h
    · next ha => cases h; exact (readSource_benchesOnly s x _ _ _).1 _ ha
    · next ha =>
      split at h
      · cases h
      · split at h
        · next hb =>
          cases h
          exact Res.holds_trans ((readSource_benchesOnly s x _ _ _).2 _ _ ha) _ ((readSource_benchesOnly _ x _ _ _).1 _ hb)
        · cases h
  · intro t u s' h
    split at h
    · cases h
    · next ha =>
      split at h
      · cases h; exact (readSource_benchesOnly s x _ _ _).2 _ _ ha
      · split at h
        · cases h
        · next hb =>
          cases h
          exact ((readSource_benchesOnly s x _ _ _).2 _ _ ha).trans ((readSource_benchesOnly _ x _ _ _).2 _ _ hb)

/-! ### Results (R247) -/

/-- A push reserves the youngest slot of its queue, or the word traps or waits. -/
theorem pushQueue_benchesOnly (x : Ctx) (n : Fin 4) (t : Tile) :
    (∀ r, pushQueue x s n t = .error r → r.holds s.benchesOnly) ∧
      ∀ s', pushQueue x s n t = .ok s' → s.benchesOnly s' := by
  unfold pushQueue
  dsimp only
  constructor
  · intro r h
    split at h
    · cases h; trivial
    · split at h
      · cases h; exact blocked_benchesOnly _ _ _ _ _
      · cases h
  · intro s' h
    split at h
    · cases h
    · split at h
      · cases h
      · cases h; exact updCore_benchesOnly _ _ _ _

/-- A result is delivered to its destination, which stands on the bench; or the word traps or waits. -/
theorem deliverTile_benchesOnly (x : Ctx) (d : BitVec 6) (z : Nat) (t : Tile) (f : Lanes) :
    (deliverTile x s d z t f).holds s.benchesOnly := by
  unfold deliverTile
  dsimp only
  split
  · split
    · trivial
    · exact (updCore_benchesOnly _ _ _ _).trans (updCore_benchesOnly _ _ _ _)
  · split
    · exact (updCore_benchesOnly _ _ _ _).trans (updCore_benchesOnly _ _ _ _)
    · split
      · exact updCore_benchesOnly _ _ _ _
      · split
        · next h => exact (pushQueue_benchesOnly s x _ _).1 _ h
        · next h => exact ((pushQueue_benchesOnly s x _ _).2 _ h).trans (updCore_benchesOnly _ _ _ _)

/-- A predicate is delivered to its register, or the word traps. -/
theorem deliverPred_benchesOnly (x : Ctx) (d : BitVec 6) (z : Nat) (p : Pred) (f : Lanes) (prefixed : Bool) :
    (deliverPred x s d z p f prefixed).holds s.benchesOnly := by
  unfold deliverPred
  dsimp only
  split
  · trivial
  · exact updCore_benchesOnly _ _ _ _

/-- A word that the selection keeps from issuing changes nothing. -/
theorem guarded_benchesOnly (x : Ctx) (r : Res) (h : r.holds s.benchesOnly) : (guarded x s r).holds s.benchesOnly := by
  unfold guarded
  split
  · exact s.benchesOnly_refl
  · exact h

end Sys2Proof.Machine
end

