-- ==== Sys2Proof/Tests/Slice0.lean ====
section
/-! SUPPORT. Tests of the model: terms that are no instruction, words written out from the encodings, single steps with
results worked out by hand from the specification, and states that meet the hypotheses of the statements. -/

set_option Elab.async false

namespace Sys2Proof.Tests

open Sys2Proof.Machine

/-! ### Small states -/

/-- The next state of an outcome has a property. -/
def after (o : Out) (p : State → Bool) : Bool := match o with
  | .next s => p s
  | _ => false

/-- Did a computation end well? -/
def good {ε α : Type} : Except ε α → Bool
  | .ok _ => true
  | .error _ => false

/-- A stream of core 0 of bench 0 performs; the first GiB is mapped to itself. -/
def at0 (t : StreamId) (f : Core → Core := id) : State :=
  let s := placeFor State.reset (streamFormat t) 0
  let s := s.updGang 0 fun g => { g with cores := g.cores.set 0 (f g.cores[0]) }
  { s with cur := some (.stream 0 0 t), agenda := [] }

/-- The same, with a change of the performing stream. -/
def atS (t : StreamId) (f : Stream → Stream) : State := at0 t fun k => { k with streams := k.streams.set t.toFin (f k.streams[t.toFin]) }

/-- A stream whose s1 and s2 hold numbers. -/
def regs (x y : Word) (st : Stream) : Stream := (st.setS 1 x).setS 2 y

/-- Register 3 of the performing stream after an instruction. -/
def gives3 (t : StreamId) (x y : Word) (i : Instr) (v : Word) : Bool :=
  after (exec i (atS t (regs x y))) fun s => (s.stream 0 0 t).sreg 3 == v

/-- A context performs a command of a program with some registers. -/
def ctx0 (f : ColRun → ColRun := id) : State :=
  let s := placeFor State.reset .col 0
  { s.setRun 0 (f placedRun) with cur := some (.context 0), agenda := [] }

/-! ### Terms that are no instruction (Table 18.3, order 3) -/

theorem test_ill_q : illFormed (.aluAdd 1 3 1 2 0 8) = some .reservedQ := by decide
theorem test_ill_w : illFormed (.aluAdd 1 3 1 2 2 0) = some .reservedW := by decide
theorem test_ill_cond : illFormed (.cmp 1 1 10 1 2 0) = some .reservedCond := by decide
theorem test_ill_field : illFormed (.bfBfx 1 3 1 60 4) = some .fieldTooWide := by decide
theorem test_ill_loop : illFormed (.loop 1 1 0) = some .loopShape := by decide
theorem test_ill_kloop : illFormed (.kloop 1 0 1 0 1 3) = some .loopShape := by decide
theorem test_ill_lds : illFormed (.lds 1 3 1 3 1 1 0) = some .unsignedDoubleword := by decide
theorem test_ill_fork : illFormed (.fork 0) = some .forkMask := by decide
theorem test_ill_amo : illFormed (.amo 9 3 0 0 3 1 2) = some .amoShape := by decide
theorem test_ill_fence : illFormed (.fence 0 0) = some .fenceKind := by decide
theorem test_ill_format : illFormed (.vld 4 1 8 15 0 0) = some .reservedFormat := by decide
theorem test_ill_rm : illFormed (.vf32 1 4 1 2 0 5) = some .reservedRM := by decide
theorem test_ill_unused : illFormed (.vf32 1 4 1 2 7 0) = some .unusedField := by decide
theorem test_ill_fn : illFormed (.vi32 1 4 1 2 14 0 0) = some .reservedFN := by decide
theorem test_ill_usat : illFormed (.vi32 1 4 1 2 0 1 0) = some .reservedUSat := by decide
theorem test_ill_code : illFormed (.cbw 64 3) = some .reservedCode := by decide
theorem test_ill_psel : illFormed (.psel 0 0 0 0 0) = some .emptyPsel := by decide

/-! ### Words written out from the encodings (Tables 19.1, 20.1, 35.2, 35.3; the worked encodings) -/

theorem test_word_alu : decode .sc 0x06308802#32 = .ok (.aluAdd 1 3 1 2 0 2) := by decide
theorem test_word_li : decode .cp 0x1A46789A#32 = .ok (.li 1 4 0x6789A) := by decide
theorem test_word_lih : decode .ld 0x1E412345#32 = .ok (.lih 1 4 0x12345) := by decide
theorem test_word_pbr : decode .ld 0x32400008#32 = .ok (.pbr 1 1 8) := by decide
theorem test_word_pbr_reg : decode .st 0x33FF0000#32 = .ok (.pbrReg 1 7 31) := by decide
theorem test_word_br : decode .sc 0x3640000B#32 = .ok (.br 1 1 11) := by decide
theorem test_word_brl : decode .st 0x36600000#32 = .ok (.brl 1 1 0) := by decide
theorem test_word_kloop : decode .sc 0x3B914003#32 = .ok (.kloop 1 1 0 2 5 3) := by decide
theorem test_word_loop : decode .cp 0x3A018001#32 = .ok (.loop 1 6 1) := by decide
theorem test_word_tlwait : decode .sc 0x4A642800#32 = .ok (.tlwait 1 4 5) := by decide
theorem test_word_fork : decode .sc 0x52C00000#32 = .ok (.fork 6) := by decide
theorem test_word_strl : decode .sc 0x5FE8C000#32 = .ok (.strl 3 2 17 16 0) := by decide
theorem test_word_futreg : decode .sc 0x6A9CC000#32 = .ok (.futreg 7 6) := by decide
theorem test_word_colgo : decode .sc 0x725CFB80#32 = .ok (.colgo 1 14 15 23) := by decide
theorem test_word_boost : decode .sc 0x76940000#32 = .ok (.boost 5) := by decide
theorem test_word_vld : decode .ld 0x52211060#32 = .ok (.vld 4 4 8 3 0 0) := by decide
theorem test_word_vst : decode .st 0x5A111000#32 = .ok (.vst 2 4 8 0 0) := by decide
theorem test_word_vld_in_sc : decode .sc 0x5A111000#32 ≠ .ok (.vst 2 4 8 0 0) := by decide
theorem test_word_fma : decode .cp 0x52203498#32 = .ok (.vf32 1 4 1 41 3 0) := by decide
theorem test_word_not_last : decode .cp 0x50203498#32 = .ok (.vf32 0 4 1 41 3 0) := by decide
theorem test_word_ckadd : decode .cp 0xAE40C391#32 = .ok (.ckAdd 1 8 6 7 1) := by decide
theorem test_word_mma : decode .cp 0xB6002000#32 = .ok (.mma 1 0 0 4 0 0 0 0) := by decide
theorem test_word_mlda : decode .cp 0xBB070000#32 = .ok (.mlda 1 0 56) := by decide
theorem test_word_mche : decode .cp 0xBA404000#32 = .ok (.mche 1 0 2 0 0) := by decide
theorem test_word_csend : decode .col 0x824A00C0#32 = .ok (.csend 2 5 0 1 1) := by decide
theorem test_word_cred : decode .col 0x86642040#32 = .ok (.cred 3 2 1 0 0 1 0) := by decide
theorem test_word_ccopy : decode .col 0x8A642000#32 = .ok (.ccopy 3 2 1 0) := by decide
theorem test_word_cwait : decode .col 0x8F690000#32 = .ok (.cwait 1 6 9) := by decide
theorem test_word_crv : decode .col 0x9F600000#32 = .ok (.crv 11) := by decide
theorem test_word_cbw : decode .col 0xA2808000#32 = .ok (.cbw 64 1) := by decide
theorem test_word_cend : decode .col 0x9A000000#32 = .ok .cend := by decide
theorem test_word_zero : decode .cp 0x03000000#32 = .error .opZero := by decide
theorem test_word_rm : decode .cp 0x5220349D#32 = .error (.illFormed .reservedRM) := by decide

/-! ### One step of a scalar word (20, 21) -/

theorem test_add_wraps : gives3 0 0xFFFFFFFFFFFFFFFF 2 (.aluAdd 1 3 1 2 0 0) 1 = true := by decide +kernel
theorem test_add_half : gives3 1 0x7FFFFFFF 1 (.aluAdd 1 3 1 2 1 0) 0xFFFFFFFF80000000 = true := by decide +kernel
theorem test_mulh : gives3 3 0x8000000000000000 2 (.aluMulh 1 3 1 2 0 0) 0xFFFFFFFFFFFFFFFF = true := by decide +kernel
theorem test_div_by_zero : gives3 0 5 0 (.aluDiv 1 3 1 2 0 0) 0xFFFFFFFFFFFFFFFF = true := by decide +kernel
theorem test_div_overflow : gives3 2 0x8000000000000000 0xFFFFFFFFFFFFFFFF (.aluDiv 1 3 1 2 0 0) 0x8000000000000000 = true := by
  decide +kernel
theorem test_sar_64 : gives3 0 0x8000000000000000 64 (.aluSar 1 3 1 2 0 0) 0x8000000000000000 = true := by decide +kernel
theorem test_clz_zero : gives3 0 0 0 (.alu2Clz 1 3 1 1 0) 32 = true := by decide +kernel
theorem test_bswap : gives3 0 0x0102030405060708 0 (.alu2Bswap 1 3 1 0 0) 0x0807060504030201 = true := by decide +kernel
theorem test_addi_sign : gives3 1 5 0 (.addi 1 3 1 0x7FFF) 4 = true := by decide +kernel
theorem test_bfx_sign : gives3 0 0xF0 0 (.bfBfx 1 3 1 4 3) 0xFFFFFFFFFFFFFFFF = true := by decide +kernel
theorem test_false_predicate : gives3 0 1 2 (.aluAdd 1 3 1 2 0 2) 0 = true := by decide +kernel
theorem test_s0_discards :
    after (exec (.addi 1 0 1 1) (atS 0 (regs 1 2))) (fun s => (s.stream 0 0 0).sreg 0 == 0 && (s.stream 0 0 0).pc == 0x20004) = true := by
  decide +kernel
theorem test_lih : after (exec (.lih 1 4 0x12345) (atS 0 fun st => st.setS 4 0x6789A))
    (fun s => (s.stream 0 0 0).sreg 4 == 0x123456789A) = true := by decide +kernel
theorem test_cmp_less : after (exec (.cmp 1 2 2 1 2 0) (atS 0 (regs 0xFFFFFFFFFFFFFFFF 1)))
    (fun s => (s.stream 0 0 0).flag 2) = true := by decide +kernel
theorem test_br_taken : after (exec (.br 1 1 0) (atS 0 fun st => st.setB 1 0x20040))
    (fun s => (s.stream 0 0 0).pc == 0x20040) = true := by decide +kernel
theorem test_br_invalid : after (exec (.br 1 1 0) (at0 0)) (fun s => (s.part 0).hcause == 0x04 && (s.part 0).halt == .raised) = true := by
  decide +kernel
theorem test_loop_zero : after (exec (.loop 1 1 4) (atS 0 (regs 0 0))) (fun s => (s.stream 0 0 0).pc == 0x20014) = true := by
  decide +kernel
theorem test_loop_starts : after (exec (.loop 1 1 4) (atS 0 (regs 3 0)))
    (fun s => (s.stream 0 0 0).pc == 0x20004 && (s.stream 0 0 0).loops.length == 1) = true := by decide +kernel
theorem test_trap_next : after (exec (.trap 1 7) (at0 0)) (fun s => (s.stream 0 0 0).pc == 0x20004 && (s.part 0).hcause == 0x20) = true := by
  decide +kernel

/-! ### One step of memory, streams and nodes -/

/-- A set of class W, and the same range of class R, in every stream's own view. -/
def withSets (st : Stream) : Stream := { st with sets := (st.sets.set 0 ⟨0x1000, 0x100⟩).set 4 ⟨0x1000, 0x100⟩ }

theorem test_sts_scratch : after (exec (.sts 1 2 1 1 1 2) (atS 0 fun st => withSets (regs 0x1000 0xABCDEF st)))
    (fun s => (s.core 0 0).scratch == [(0x1004, 0xEF), (0x1005, 0xCD)]) = true := by decide +kernel
theorem test_lds_scratch_sign : after (exec (.lds 1 3 1 0 0 1 3)
      (at0 0 fun k => { k with scratch := [(0x1003, 0x80)], streams := k.streams.set 0 (withSets (regs 0x1000 0 k.streams[0])) }))
    (fun s => (s.stream 0 0 0).sreg 3 == 0xFFFFFFFFFFFFFF80) = true := by decide +kernel
theorem test_scratch_undeclared : after (exec (.sts 1 2 1 1 1 2) (atS 0 (regs 0x1000 5))) (fun s => (s.part 0).hcause == 0x06) = true := by
  decide +kernel
theorem test_sts_device : after (exec (.sts 1 2 1 2 0 0) (atS 0 (regs 0x40000 0x0102030405060708)))
    (fun s => physRead s 0x40000 8 == 0x05060708) = true := by decide +kernel
theorem test_lds_device : after (exec (.lds 1 3 1 3 0 0 1) (atS 1 (regs (0x20000 - 8) 0))) (fun s => (s.stream 0 0 1).sreg 3 == 0) = true := by
  decide +kernel
theorem test_lds_misaligned : after (exec (.lds 1 3 1 3 0 0 0) (atS 0 (regs 0x20001 0))) (fun s => (s.part 0).hcause == 0x05) = true := by
  decide +kernel
theorem test_amo_add : after (exec (.amo 0 3 0 0 3 1 2) ({ atS 0 (regs 0x40000 5) with mem := placedMem [(0x40000, 7)] 0 }))
    (fun s => (s.stream 0 0 0).sreg 3 == 7 && physRead s 0x40000 8 == 12) = true := by decide +kernel
theorem test_cas_fails : after (exec (.cas 0 0 0 3 1 4 2) (atS 0 fun st => (regs 0x40000 5 st).setS 4 1))
    (fun s => (s.stream 0 0 0).sreg 3 == 0 && physRead s 0x40000 8 == 0) = true := by decide +kernel
theorem test_flip_waits : after (exec (.flip 1) (at0 1)) (fun s => (s.stream 0 0 1).wait == .flip false 0x20004) = true := by decide +kernel
theorem test_end_in_sc : after (exec (.endStream 1) (at0 0)) (fun s => (s.part 0).hcause == 0x01) = true := by decide +kernel
theorem test_fork : after (exec (.fork 1) (atS 0 fun st => st.setB 1 0x20040)) (fun s =>
    (s.stream 0 0 1).status == .running && (s.stream 0 0 1).pc == 0x20040 && (s.stream 0 0 2).status == .idle) = true := by decide +kernel
theorem test_tsig_then_twait : after (exec (.tsig 1 0) (at0 1)) (fun s =>
    after (exec (.twait 1 1) { s with cur := some (.stream 0 0 1) }) fun _ => true) = true := by decide +kernel
theorem test_futinit : after (exec (.futinit 1) { atS 0 (regs 0x40000 0) with mem := placedMem [(0x40001, 9)] 0 })
    (fun s => physRead s 0x40000 8 == 0) = true := by decide +kernel
theorem test_nself : after (exec (.nself 3) (at0 0)) (fun s => (s.stream 0 0 0).sreg 3 == 0x30000) = true := by decide +kernel
theorem test_nexit : after (exec (.nexit 1) (at0 0)) (fun s => (s.core 0 0).retired.isSome) = true := by decide +kernel
theorem test_barb : after (exec .barb (at0 0)) (fun s => (s.core 0 0).barbs == 1) = true := by decide +kernel
theorem test_colgo : after (exec (.colgo 1 1 2 3) (atS 0 (regs 0x20000 0x20100)))
    (fun s => (s.stream 0 0 0).sreg 3 == 1 && (s.ctxs[1]).pend.isSome) = true := by decide +kernel
theorem test_capq : after (exec (.capq 3) (at0 0)) (fun s => (s.stream 0 0 0).pc == 0x20004) = true := by decide +kernel

/-! ### Copies, tiles, commands, events -/

/-- A stream with a box of 16 elements in one row at s8 to s11, at an address in s4. -/
def boxed (st : Stream) : Stream := ((withSets st).setS 4 0x40000).setS 8 0x0001000100010010

theorem test_vld_begins : after (exec (.vld 4 4 8 0 0 0) (atS 1 boxed)) (fun s =>
    (s.core 0 0).copies.length == 1 && (s.core 0 0).v[4].pending && (s.stream 0 0 1).issued == 1) = true := by decide +kernel
theorem test_vst_begins : after (exec (.vst 4 4 8 0 0) (atS 3 boxed)) (fun s => (s.core 0 0).copies.length == 1) = true := by
  decide +kernel
theorem test_vst_unit : after (exec (.vst 4 4 8 0 0) (at0 3 fun k => { k with
      v := k.v.set 4 { vis := 0x3F800000, hid := 0 }, streams := k.streams.set 3 (boxed k.streams[3]) }))
    (fun s => after (exec (.copyUnit 0 0 0) s) fun s => physRead s 0x40000 4 == 0x3F800000 &&
      after (exec (.copyComplete 0 0 0) s) fun s => (s.core 0 0).copies.isEmpty) = true := by decide +kernel
theorem test_vf32_add : after (exec (.vf32 1 4 1 2 0 0) (at0 2 fun k => { k with
      v := (k.v.set 1 { vis := 0x3F800000, hid := 0 }).set 2 { vis := 0x40000000, hid := 0 } }))
    (fun s => (s.core 0 0).v[4].written && after (exec (.cpResultWrite 0 0) s) fun s =>
      tileElem (s.core 0 0).v[4].hid 4 0 == 0x40400000) = true := by decide +kernel
theorem test_mma_idle : after (exec (.mma 1 0 1 4 0 0 0 0) (at0 2)) (fun s => (s.part 0).hcause == 0x03) = true := by decide +kernel
/-- R77: the sum 2^-126 - 2^-150 is a tie that rounds to 2^-126; cut terms make a subnormal sum inexact. -/
theorem test_group_flags : ordGroup (0x007FFFFF#32, 0) [(.fin false 1 (-150), 0)] = (0x00800000#32, fNX) ∧
    ordGroup (0#32, 0) [(.fin false 1 (-100), 0), (.fin true 1 (-100), 0), (.fin false 1 (-140), 0)] =
      (0x00010000#32, fUF ||| fNX) := by decide +kernel
theorem test_mlda : after (exec (.mlda 1 0 1) (at0 2)) (fun s => (s.core 0 0).acc[0] == .ordered (List.replicate 1024 (0, 0))) = true := by decide +kernel
theorem test_bundle_collects : after (exec (.vf32 0 4 1 2 0 0) (at0 2)) (fun s =>
    (s.stream 0 0 2).bundle.length == 1 && !(s.core 0 0).v[4].written) = true := by decide +kernel
theorem test_ccopy : after (exec (.ccopy 1 2 3 1) { ctx0 (fun r => { r with g := #v[0, 0x40000, 0x40040, 8, 0, 0, 0, 0, 0, 0, 0, 0, 0, 0, 0, 0] })
      with mem := placedMem [(0x40040, 9)] 0 })
    (fun s => physRead s 0x40000 8 == 9 && (s.colRun 0).any fun r => r.g[1] == 0x40008 && r.pcw == 1) = true := by decide +kernel
theorem test_cend : after (exec .cend (ctx0 id)) (fun s => (s.colRun 0).isNone) = true := by decide +kernel
theorem test_flip_exchanges : after (exec (.flipComplete 0 0) (at0 0 fun k => { k with
      streams := k.streams.set 0 { k.streams[0] with wait := .flip false 0x20004 }
      v := k.v.set 1 { vis := 5, hid := 6, written := true } }))
    (fun s => (s.core 0 0).v[1] == { vis := 6, hid := 5 } && (s.core 0 0).phase == 1 && (s.stream 0 0 0).pc == 0x20004) = true := by
  decide +kernel
/-- SC of core 0 and the copy engines of the four cores write records (R133). -/
theorem test_halt_line : after (exec (.trap 1 7) (at0 0)) (fun s => after (exec (.haltLine 0) s) fun s =>
    (s.part 0).halt == .reached && (s.gang 0).halted && (s.part 0).tq.tail == 5) = true := by decide +kernel
theorem test_window_closed : after (exec (.windowUnitArrive
    { isPut := true, peer := 1, tenant := 0, part := 0, win := 0, cells := [(0, 9)], xfer := 0, total := 1 }) State.reset)
    (fun s => s.mem == []) = true := by decide +kernel
theorem test_power_off : after (exec .powerOff State.reset) (fun s => after (exec (.devctlReady 0xFFFFFFFFFFFFFFFF) s)
    fun s => s.dev.off && !s.dev.ready) = true := by decide +kernel
theorem test_step_first : after (step (State.reset.withFetchWord 32 0x1A46789A)) (fun s => (s.stream 0 0 0).sreg 4 == 0x6789A) = true := by
  decide +kernel

/-! ### States that meet the hypotheses of the statements

A statement's hypotheses are met by the states below, each clause's at its own: `mayGo` is the condition under which a word
`does` what it does. -/

/-- Does a stream go on after a word? -/
def mayGo (x : Ctx) (s : State) (pushes : List (Nat × Option Tile) := []) : Bool :=
  let a := ((x.st (x.closed s pushes)).advance x.next).onward
  a == x.next || a == x.pc || fetchable (x.closed s pushes) (whoStream (x.closed s pushes) x.b x.c) a

theorem goesOn_of_mayGo {x : Ctx} {s : State} {pushes : List (Nat × Option Tile)} (h : mayGo x s pushes = true) :
    x.goesOn s pushes := by
  simpa [mayGo, Ctx.goesOn, Ctx.leadsOn, or_assoc] using h

/-- A computation answers, and its answer has a property. -/
def okAnd {ε α : Type} (e : Except ε α) (p : α → Bool) : Bool := match e with
  | .ok a => p a
  | .error _ => false

/-- A computation ends in an error that has a property. -/
def errAnd {ε α : Type} (e : Except ε α) (p : ε → Bool) : Bool := match e with
  | .ok _ => false
  | .error a => p a

/-- Stream t of core 0 is alone, and goes on where its word is done. -/
def ready (s : State) (t : StreamId) (slot : Nat := 1) : Bool :=
  decide (s.alone 0 0 t) && mayGo (s.issuing 0 0 t slot) s

/-- A body of the placed stream's next n words. -/
def frame (kloop flips : Bool) (words n iter : Nat) : LoopFrame :=
  { kloop := kloop, flips := flips, pre := false, stages := 2, word := 0x1FFFC, first := 0x20000
    last := BitVec.ofNat 64 (0x20000 + 4 * words), n := n, norig := n, iter := iter }

theorem witness_ScalarArithmetic : (∀ t : StreamId, ready (at0 t) t = true) ∧ (1 : BitVec 2).toNat < 2 ∧ (9 : BitVec 4).toNat < 10 ∧
    ((at0 0).stream 0 0 0).pred 0 = true ∧ ((at0 0).stream 0 0 0).pred 2 = false := by decide +kernel

/-- A value that LI and then LIH build in s4. -/
def builds (v : Word) : Bool :=
  decide (-(2 ^ 39 : Int) ≤ v.toInt) && decide (v.toInt < 2 ^ 39) && ready (at0 0) 0 &&
    after (exec (.li 1 4 (v.extractLsb' 0 20)) (at0 0)) fun s1 => ready s1 0 &&
      after (exec (.lih 1 4 (v.extractLsb' 20 20)) s1) fun s2 => (s2.stream 0 0 0).sreg 4 == v

theorem witness_ConstantsBuilt : (4 : BitVec 5) ≠ 0 ∧ builds 0x7FFFFFFFFF = true ∧ builds 0xFFFFFF8000000000 = true := by
  decide +kernel

theorem witness_FlagFunctions : (∀ t : StreamId, ready (at0 t) t = true) ∧
    (let w : IWord := 0x2A000001#32
     (fld w 26 6).toNat = 0x0A ∧ fld w 0 13 ≠ 0) ∧
    (let w : IWord := 0x2A018000#32
     (fld w 26 6).toNat = 0x0A ∧ fld w 13 3 = 4 ∧ fld w 16 3 ≠ 0) := by decide +kernel

theorem witness_RegistersHold : (∀ t : StreamId, ready (at0 t) t = true) ∧ (0 : BitVec 6).toNat + (63 : BitVec 6).toNat + 1 ≤ 64 ∧
    (63 : BitVec 6).toNat + (0 : BitVec 6).toNat + 1 ≤ 64 := by decide +kernel

theorem witness_Branches : (∀ t : StreamId, ready (at0 t) t = true) ∧ (7 : BitVec 5).toNat < 8 ∧ 8 ≤ (8 : BitVec 5).toNat ∧
    (let s := atS 0 fun st => st.setB 1 0x20040
     let x := s.issuing 0 0 0 1
     s.alone 0 0 0 ∧ (s.stream 0 0 0).pred 0 = true ∧ (s.stream 0 0 0).pred 2 = false ∧ (s.stream 0 0 0).loops = [] ∧
     fetchable (x.closed s) (whoStream (x.closed s) 0 0) 0x20040 = true ∧
     fetchable (x.closed s) (whoStream (x.closed s) 0 0) ((s.stream 0 0 0).breg 2) = false) := by decide +kernel

/-- SC stands in a body, with b1 at an address. -/
def inBody (f : LoopFrame) (a : Word) : State := atS 0 fun st => { st.setB 1 a with loops := [f] }

theorem witness_Branches_in_loops : ∀ k : Bool,
    (let f := frame k false 4 3 0
     let s := inBody f 0x20010
     let x := s.issuing 0 0 0 1
     s.alone 0 0 0 ∧ (s.stream 0 0 0).loops = [f] ∧ f.first.toNat ≤ (s.stream 0 0 0).pc.toNat ∧
     (s.stream 0 0 0).pc.toNat < f.last.toNat ∧ (s.stream 0 0 0).breg 1 = f.last ∧
     (∀ a ∈ [0x2000C, 0x20010, 0x20014], fetchable (x.closed s) (whoStream (x.closed s) 0 0) (BitVec.ofNat 64 a) = true) ∧
     f.first.toNat ≤ (0x2000C : Word).toNat ∧ (0x2000C : Word).toNat < f.last.toNat ∧ f.last.toNat < (0x20014 : Word).toNat) := by
  decide +kernel

/-- SC stands in a body, to which an address leads from outside, or that encloses a LOOP's body left for the address. -/
def nested (k : Bool) (outer : List LoopFrame) (a : Word) : State :=
  atS 0 fun st => { st.setB 1 a with loops := frame k false 4 3 0 :: outer }

/-- BR out of a LOOP's body: no loop outside, or an enclosing body that ends there, holds the target, or is left too; and ends
of bodies whose first word can and cannot be fetched. -/
theorem witness_Branches_out_of_loops :
    (let st (a : Word) (outer : List LoopFrame) : Bool :=
       let s := nested false outer a
       let x := s.issuing 0 0 0 1
       decide (s.alone 0 0 0 ∧ (s.stream 0 0 0).pred 0 = true ∧ (s.stream 0 0 0).breg 1 = a) &&
         fetchable (x.closed s) (whoStream (x.closed s) 0 0) a && decide ((frame false false 4 3 0).last.toNat < a.toNat)
     st 0x20044 [] = true ∧ st 0x20020 [frame false false 8 3 0] = true ∧ st 0x20018 [frame false false 8 3 0] = true ∧
     (∀ k : Bool, st 0x20044 [frame k false 8 3 0] = true) ∧ (frame false false 8 3 0).last = 0x20020 ∧
     (0x20018 : Word).toNat < (frame false false 8 3 0).last.toNat ∧ (frame false false 8 3 0).last.toNat < (0x20044 : Word).toNat ∧
     st 0x20044 [frame false false 8 3 0, frame false false 32 3 0] = true ∧ st 0x20044 [frame false false 8 3 0, frame true false 10 3 0] = true ∧
     (0x20044 : Word).toNat < (frame false false 32 3 0).last.toNat ∧ (frame true false 10 3 0).last.toNat < (0x20044 : Word).toNat) ∧
    (let at' (first : Word) : Bool :=
       let s := inBody { frame false false 4 3 0 with first := first } 0x20010
       let x := s.issuing 0 0 0 1
       let st := ({ x.st (x.closed s) with wait := .none }).endIter 0x20010 false (s.stream 0 0 0).loops
       st.onward == 0x20010 || st.onward == x.pc || fetchable (x.closed s) (whoStream (x.closed s) 0 0) st.onward
     at' 0x20004 = true ∧ at' 0x8000000000000000 = false) := by decide +kernel

/-- Is a LOOP of SC, of n words and r1 iterations, admitted, with loops already active? -/
def loopCase (l : List LoopFrame) (cnt : Word) (n : Nat) (p : Bool → Bool → Bool → Bool) : Bool :=
  let s := atS 0 fun st => { st.setS 1 cnt with loops := l }
  let x := s.issuing 0 0 0 1
  let st := s.stream 0 0 0
  let f : LoopFrame := { kloop := false, flips := false, pre := false, stages := 0, word := st.pc, first := st.pc + 4
                         last := st.pc + 4 + 4 * BitVec.ofNat 64 n, n := cnt.toNat, norig := cnt.toNat, iter := 0 }
  ready s 0 && p (decide (2 ≤ (st.loops.filter fun y => !y.kloop).length))
    (st.loops.any fun g => decide (g.first.toNat ≤ st.pc.toNat) && decide (st.pc.toNat < g.last.toNat) &&
      decide (g.last.toNat < f.last.toNat)) (bodyClosed x s f)

theorem witness_LoopsStart :
    loopCase [] 0 4 (fun deep crosses closed => !deep && !crosses && closed) = true ∧
    loopCase [] 3 4 (fun deep crosses closed => !deep && !crosses && closed) = true ∧
    loopCase [frame false false 9 3 0, frame false false 9 3 0] 3 4 (fun deep _ _ => deep) = true ∧
    loopCase [frame false false 4 3 0] 3 4 (fun _ crosses _ => crosses) = true := by decide +kernel

/-- A loop of no iteration ends where the body of a LOOP ends, whose first word can, or cannot, be fetched. -/
def skips (first : Word) (k : Bool) : Bool :=
  let s := atS 0 fun st => { st.setS 1 0 with loops := [{ frame false false 5 3 0 with stages := 0, word := 0x1FFF8, first := first }] }
  let x := s.issuing 0 0 0 1
  let st := s.stream 0 0 0
  let f : LoopFrame := { frame k false 4 0 0 with stages := 2, word := st.pc, first := st.pc + 4, last := st.pc + 4 + 16 }
  let past := (x.st (x.closed s)).advance f.last
  decide (s.alone 0 0 0) && bodyClosed x s f &&
    (past.onward == f.last || past.onward == x.pc || fetchable (x.closed s) (whoStream (x.closed s) 0 0) past.onward)

theorem witness_LoopsStart_skips : ∀ k : Bool, skips 0x1FFFC k = true ∧ skips 0x8000000000000000 k = false := by decide +kernel

/-- In CP a body whose last word has L = 0 is not closed: the word in memory is zero. -/
theorem witness_LoopsStart_open_body :
    (let s := at0 2
     let x := s.issuing 0 0 2 1
     let f : LoopFrame := { frame false false 4 3 0 with stages := 0, word := 0x20000, first := 0x20004, last := 0x20014 }
     s.alone 0 0 2 ∧ (s.stream 0 0 2).loops = [] ∧ bodyClosed x s f = false) := by decide +kernel

theorem witness_LoopsStart_kloop :
    (let s := at0 0
     let st := s.stream 0 0 0
     s.alone 0 0 0 ∧ st.rem = none ∧ st.loops = [] ∧ st.kdesc.getLsbD 63 = true ∧
     bodyClosed (s.issuing 0 0 0 1) s { frame true false 4 0 0 with word := st.pc, first := st.pc + 4, last := st.pc + 20 } = true) ∧
    (frame true false 4 3 0).kloop = true := by decide +kernel

/-- The descriptor of a KLOOP.P: eight doublewords at 0x40000, the bits that have no meaning zero or not. -/
def descState (m : List Host.Cell) : State :=
  { atS 0 (fun st => { st with kdesc := 0x40000 }) with mem := placedMem m 0 }

theorem witness_LoopsStart_descriptor :
    okAnd (readDoublewords (descState []) ((descState []).issuing 0 0 0 1) 0x40000 8)
      (fun y => y.1 == [0, 0, 0, 0, 0, 0, 0, 0]) = true ∧
    okAnd (readDoublewords (descState [(0x40030, 1)]) ((descState []).issuing 0 0 0 1) 0x40000 8)
      (fun y => y.1 == [0, 0, 0, 0, 0, 0, 1, 0]) = true ∧
    ((descState []).stream 0 0 0).kdesc.getLsbD 63 = false := by decide +kernel

/-- A loop's last word is performed: the body is the word before it and itself. -/
def atEnd (f : LoopFrame) : State := atS 0 fun st => { st with loops := [{ f with first := 0x1FFFC, last := 0x20004 }] }

theorem witness_LoopIterations : ∀ k g : Bool,
    (let f : LoopFrame := { frame k g 1 3 1 with stages := if k then 2 else 0 }
     let s := atEnd f
     let x := s.issuing 0 0 0 1
     s.alone 0 0 0 ∧ (s.stream 0 0 0).pc + 4 = (0x20004 : Word) ∧ (k = true → 1 ≤ f.stages) ∧ (s.stream 0 0 0).wait = .none ∧
     1 + 1 < 3 + 2 - 1 ∧ 3 ≤ 2 + 1 ∧ 3 + 2 - 1 ≤ 3 + 1 ∧ fetchable (x.closed s) (whoStream (x.closed s) 0 0) 0x1FFFC = true) := by
  decide +kernel

/-- Bodies whose first word cannot be fetched, and a body that ends inside another. -/
theorem witness_LoopIterations_ends :
    (let s := atS 0 fun st => { st with loops := [{ frame false false 1 3 0 with stages := 0, first := 0x8000000000000000 }] }
     let x := s.issuing 0 0 0 1
     s.alone 0 0 0 ∧ (s.stream 0 0 0).pc + 4 = (0x20004 : Word) ∧ fetchable (x.closed s) (whoStream (x.closed s) 0 0) 0x8000000000000000 = false ∧
     0 + 1 < 3) ∧
    (let r := [frame false false 4 3 0]
     let s := atS 0 fun st => { st with loops := frame false false 1 3 2 :: r }
     s.alone 0 0 0 ∧ (∀ g ∈ r.head?, g.last ≠ (0x20004 : Word)) ∧ 3 ≤ 2 + 1) ∧
    (let s := atEnd (frame true true 1 3 3)
     ready s 0 = true ∧ 3 + 2 - 1 ≤ 3 + 1) := by decide +kernel

/-- LDS and STS at offset 0 of a scratch address, one doubleword; do the sets of the stream permit them? -/
def scratchCase (a : Nat) : Bool × Bool × Bool :=
  let s := atS 0 fun st => withSets (regs (BitVec.ofNat 64 a) 5 st)
  (ready s 0 && decide (a < 2 ^ 26 ∧ a % 2 ^ 24 + 8 ≤ (s.gang 0).scratchSize ∧ a / 2 ^ 24 = 0), decide (a % 8 = 0),
    decide (∃ i : Fin 16, 4 ≤ i.val ∧ i.val < 8 ∧ (((s.stream 0 0 0).sets[i]).holds a 8 = true)))

theorem witness_ScratchLoadsAndStores :
    scratchCase 0x1000 = (true, true, true) ∧ scratchCase 0x10F8 = (true, true, true) ∧ scratchCase 0x10F9 = (true, false, false) ∧
    scratchCase 0x1100 = (true, true, false) ∧ scratchCase (42 * 2 ^ 16 - 8) = (true, true, false) ∧
    scratchCase (42 * 2 ^ 16) = (false, true, false) ∧ scratchCase (2 ^ 24) = (false, true, false) ∧
    scratchCase (2 ^ 26) = (false, true, false) := by decide +kernel

theorem witness_DeviceAccesses : ∀ t : StreamId,
    (let s := atS t (regs 0x40000 5)
     ready s t = true ∧ okAnd (access s (whoStream s 0 0) 0x40000 .read false) (fun y => y.1 == 0x40000 &&
       (s.core 0 0).l1.all fun e => e.1 != lineOf y.1) = true ∧
     okAnd (homeAccess s (whoStream s 0 0) 0x40000 8 .write false) (fun y => y.1 == 0x40000) = true ∧
     (0x40000 : Word).toNat % 8 = 0 ∧ (0x40001 : Word).toNat % 8 ≠ 0 ∧
     errAnd (access s (whoStream s 0 0) 0x40000000 .read false) (fun f => f == .page 0 1) = true ∧
     errAnd (access s (whoStream s 0 0) 0x800000000000 .write false) (fun f => f == .page 0 0) = true) := by decide +kernel

/-- A bench whose translation of 0x40000 it already holds, without a permission or checked. -/
def held (rd wr chk : Bool) : State :=
  let s := at0 0
  { s with tlb := [{ unit := 0, root1 := (s.gang 0).root, root2 := ((s.vf 0).s2root.setWidth 64) <<< 12, vpage := 4, ppage := 4
                     rd := rd, wr := wr, ex := true, chk := chk }] }

theorem witness_DeviceAccesses_protection :
    errAnd (access (held true false false) (whoStream (held true false false) 0 0) 0x40000 .write false) (fun f => f == .prot) = true ∧
    errAnd (access (held false true false) (whoStream (held false true false) 0 0) 0x40000 .read false) (fun f => f == .prot) = true := by
  decide +kernel

theorem witness_MovesAndStatus : (∀ t : StreamId, ready (at0 t) t = true) ∧ (7 : BitVec 5).toNat < 8 ∧ 8 ≤ (8 : BitVec 5).toNat ∧
    (let face : Face Word := { vis := 0, hid := 0, written := true, tag := { stream := 1, async := false, pc := 4 } }
     let s := at0 0 fun k => { k with c := k.c.set 7 face }
     s.alone 0 0 0 ∧ (s.core 0 0).c[7].written = true ∧ (s.core 0 0).c[7].tag.stream ≠ 0 ∧ (s.core 0 0).c[0].written = false) ∧
    (4 : Word).toNat < 5 ∧ 5 ≤ (5 : Word).toNat ∧ (0x8000000000000040 : Word).extractLsb' 48 15 = 0 ∧
    (0x8000000000000040 : Word).extractLsb' 0 6 = 0 ∧ (0x1000000000000 : Word).extractLsb' 48 15 ≠ 0 ∧ (0x20 : Word).extractLsb' 0 6 ≠ 0 ∧
    (0x005 : BitVec 12).toNat ∉ [0x000, 0x001, 0x002, 0x003, 0x004, 0x008, 0x010, 0x011, 0x012, 0x013, 0x018, 0x019, 0x01A] := by
  decide +kernel

theorem witness_StreamControl : (∀ t : StreamId, (at0 t).alone 0 0 t ∧ ready (at0 t) t = true) ∧
    (let s := atS 0 fun st => { st with loops := [frame true true 4 3 0] }
     s.alone 0 0 0 ∧ ((s.stream 0 0 0).loops.any (·.flips)) = true) ∧
    ((at0 0).stream 0 0 0).loops = [] ∧ ((at0 0).stream 0 0 0).wait = .none := by decide +kernel

/-- A stream whose partition has the first bench, with a copy outstanding. -/
def owned (t : StreamId) (f : Stream → Stream) : State := (atS t f).updPart 0 fun p => { p with bench := 1 }

theorem witness_SetsTimelinesTokens_sets :
    (let holds (base len : Nat) : Bool := decide (2 ^ 26 ≤ base ∨ (base / 2 ^ 24 % 4 ≠ 0 ∧ base / 2 ^ 24 % 4 ≠ 0) ∨
       ((at0 0).gang 0).scratchSize < base % 2 ^ 24 + len)
     holds 0 (42 * 2 ^ 16) = false ∧ holds 0 (42 * 2 ^ 16 + 1) = true ∧ holds (2 ^ 24) 1 = true ∧ holds (2 ^ 26) 1 = true) ∧
    ready (at0 3) 3 = true := by decide +kernel

theorem witness_SetsTimelinesTokens_timelines :
    (let s := owned 0 (regs 1 0)
     let c (n : Nat) (p : Nat → Bool) : Bool := okAnd (counterOf (s.issuing 0 0 0 1) s (BitVec.ofNat 64 n)) p
     let e (n : Nat) (k : Nat) : Bool := errAnd (counterOf (s.issuing 0 0 0 1) s (BitVec.ofNat 64 n)) fun f => f.cause == k
     ready s 0 = true ∧ c 0 (· == 0) = true ∧ c 15 (· == 0) = true ∧ e 16 0x11 = true ∧ e 1023 0x11 = true ∧ c 1024 (· == 0) = true ∧
     c 1031 (· == 0) = true ∧ e 1032 3 = true ∧ e 1087 3 = true ∧ c 1088 (· == 0) = true ∧ c 1151 (· == 0) = true ∧
     e 1152 3 = true ∧ (s.gang 0).former = [] ∧ (s.scx[3]).busy = false ∧ (s.part (s.gang 0).part).bench.getLsbD 0 = true ∧
     (s.part (s.gang 0).part).bench.getLsbD 1 = false ∧ (s.gang? 0).isSome = true ∧
     ((s.stream 0 0 0).sreg 2).toNat ≤ 0 ∧ 0 < ((s.stream 0 0 0).sreg 1).toNat) := by decide +kernel

/-- A gang that has come from bench 1 to bench 0, a bench 2 with no node, and a copy context at work. -/
theorem witness_SetsTimelinesTokens_names :
    (let s := ((owned 0 (regs 1 0)).updGang 0 fun g => { g with former := [1] }).updPart 0 fun p => { p with bench := 5 }
     let s := (s.updScx 1 fun y => { y with busy := true, num := 3 }).updCtx 2 fun k => { k with issued := 4, pend := some { placedRun.prog with num := 4 } }
     let c (n : Nat) (v : Nat) : Bool := okAnd (counterOf (s.issuing 0 0 0 1) s (BitVec.ofNat 64 n)) (· == v)
     ready s 0 = true ∧ (1 : BenchId) ∈ (s.gang 0).former ∧ (s.part 0).bench.getLsbD 0 = true ∧ (s.part 0).bench.getLsbD 1 = false ∧
     c 16 0 = true ∧ (s.gang? 2).isNone = true ∧ c 32 0 = true ∧ (s.ctxs[2]).run.isNone = true ∧ c 1026 3 = true ∧ c 1029 2 = true ∧
     c 1028 0 = true) := by decide +kernel

theorem witness_SetsTimelinesTokens_tokens :
    (let s := at0 0 fun k => { k with tok := #v[0, 255, 1, 0] }
     s.alone 0 0 0 ∧ ready s 0 = true ∧ (s.stream 0 0 0).wait = .none ∧ (s.core 0 0).tok[1] = 255 ∧ (s.core 0 0).tok[2] ≠ 0 ∧
     (s.core 0 0).tok[3] = 0 ∧ (s.core 0 1).tok[0] ≠ 255 ∧
     ((s.core 0 0).streams.all fun st => (st.wait.tokenOf 2).isNone) = true) ∧
    (let s := at0 0 fun k => { k with
       tok := #v[0, 255, 1, 0]
       streams := (k.streams.set 0 { k.streams[0] with wait := .token 2 5 }).set 1 { k.streams[1] with wait := .token 2 5 } }
     s.alone 0 0 0 ∧ ((s.stream 0 0 0).wait.tokenOf 2) = some 5 ∧ ((s.core 0 0).streams[1]).wait.tokenOf 2 = some 5 ∧
     (0 : StreamId).toNat < 1) := by decide +kernel

theorem witness_BundlesForm : (∀ t : StreamId, (at0 t).performs 0 0 t) ∧ (at0 2).alone 0 0 2 ∧
    classOf (.nop 0) ≠ .event ∧ (rawOf (.nop 0)).getLsbD 25 = false ∧ (rawOf (.nop 1)).getLsbD 25 = true ∧
    (classOf (.barb)).fits 1 = false ∧ (rawOf .barb).getLsbD 25 = true ∧ (classOf (.barb)).fits 2 = false ∧
    (classOf (.nop 0)).fits 2 = true := by decide +kernel

/-- CP holds a PSEL and is to perform the immediate move that ends its bundle. -/
def selected (u v z : BitVec 1) : State := atS 2 fun st =>
  { st with bundle := [{ addr := st.pc, raw := rawOf (.psel 1 u 1 v z), instr := some (.psel 1 u 1 v z) }] }

theorem witness_BundlesForm_selected : ∀ v : BitVec 1,
    (let s := selected 1 v 0
     let x := { s.issuing 0 0 2 2 with next := (s.stream 0 0 2).pc + 8 }
     s.performs 0 0 2 ∧ 24 ≤ (s.gang 0).vcount ∧ (s.stream 0 0 2).sxOnly = false ∧ (s.stream 0 0 2).bundle.length = 1 ∧
     (s.stream 0 0 2).k.getLsbD 1 = false ∧ ((s.core 0 0).v[4]).written = false ∧ (s.core 0 0).results = [] ∧
     mayGo x s = true ∧ mayGo x s [(2, some 0)] = true) := by decide +kernel

theorem witness_StreamsStartCoresRetire_fork :
    (let s := atS 0 fun st => (st.setB 1 0x20040).setB 2 0x20080
     let fetches (t : Fin 4) : Bool := fetchable s (whoStream s 0 0) ((s.stream 0 0 0).b[t.val])
     ready s 0 0 = true ∧ (∀ t : Fin 4, t ≠ 0 → ((s.core 0 0).streams[t]).status = .idle) ∧ fetches 1 = true ∧ fetches 2 = true ∧
     fetches 3 = false) ∧
    (let s := at0 0 fun k => { k with streams := k.streams.set 3 { k.streams[3] with status := .ended } }
     s.alone 0 0 0 ∧ ((s.core 0 0).streams[3]).status ≠ .idle) := by decide +kernel

theorem witness_StreamsStartCoresRetire_exit :
    (let s := at0 0 fun k => { k with streams := k.streams.set 1 { k.streams[1] with status := .running } }
     s.alone 0 0 0 ∧ ((s.core 0 0).streams[1]).status = .running) ∧
    (let s := at0 0 fun k => { k with streams := k.streams.set 1 { k.streams[1] with status := .ended } }
     s.alone 0 0 0 ∧ (∀ t : Fin 4, t ≠ 0 → ((s.core 0 0).streams[t]).status ≠ .running) ∧ (s.core 0 0).drained = true) ∧
    (let s := at0 0 fun k => { k with results := [{ writes := [], flags := 0 }] }
     s.alone 0 0 0 ∧ (∀ t : Fin 4, t ≠ 0 → ((s.core 0 0).streams[t]).status ≠ .running) ∧ (s.core 0 0).drained = false) := by
  decide +kernel

theorem witness_JoinWaits :
    (let s := at0 0 fun k => { k with streams := k.streams.set 1 { k.streams[1] with status := .running } }
     s.alone 0 0 0 ∧ ((s.core 0 0).streams[1]).status = .running) ∧
    (let s := at0 0 fun k => { k with streams := k.streams.set 1 { k.streams[1] with status := .ended } }
     ready s 0 0 = true ∧ ∀ t : Fin 4, t ≠ 0 → ((s.core 0 0).streams[t]).status ≠ .running) := by decide +kernel

/-- A word of an atomic at an address in s1, which memory holds 7 at; may it read and write there? -/
def atomicCase (a : Word) : Bool :=
  let s := { atS 0 (regs a 5) with mem := placedMem [(0x40000, 7)] 0 }
  let who := whoStream s 0 0
  ready s 0 0 && okAnd (translate s who a) (fun y => y.1.pa == a.toNat && y.1.rd && y.1.wr && decide (a.toNat < apertureBase)) &&
    okAnd (homeAccess s who a 8 .update true) (fun y => y.1 == a.toNat && mayGo ((s.issuing 0 0 0 0)) y.2) &&
    okAnd (homeAccess s who a 8 .read true) (fun y => y.1 == a.toNat) && okAnd (homeAccess s who a 8 .write true) (fun y => y.1 == a.toNat)

theorem witness_AtomicsAndOrdering : atomicCase 0x40000 = true ∧ (0x40000 : Word).toNat % 16 = 0 ∧ (8 : BitVec 4).toNat < 9 ∧
    physRead { atS 0 (regs 0x40000 5) with mem := placedMem [(0x40000, 7)] 0 } 0x40000 16 = 7 ∧
    (4 : BitVec 5).getLsbD 0 = false ∧ (3 : BitVec 5).getLsbD 0 = true := by decide +kernel

theorem witness_AtomicsAndOrdering_faults : (at0 0).alone 0 0 0 ∧ (0x40004 : Word).toNat % 8 ≠ 0 ∧
    okAnd (translate (held true false false) (whoStream (held true false false) 0 0) 0x40000) (fun y => !y.1.wr) = true ∧
    okAnd (translate (held false true false) (whoStream (held false true false) 0 0) 0x40000) (fun y => !y.1.rd) = true := by
  decide +kernel

theorem witness_AtomicsAndOrdering_barriers : ready (at0 0) 0 0 = true ∧ ((1 : BitVec 2).getLsbD 0 = true ∧ (1 : BitVec 2) ≠ 0) ∧
    (let s := atS 0 fun st => { st with wait := .barrier }
     s.alone 0 0 0 ∧ ∀ q : CoreId, (s.core 0 0).barbs ≤ (s.core 0 q).barbs) := by decide +kernel

/-- A word that resolves, initialises or registers on a future at an address in s1, with a record in s2, in a memory. -/
def futState (a n : Word) (m : List Host.Cell) : State := { atS 0 (regs a n) with mem := placedMem m 0 }

/-- The future word that a stream's access finds there. -/
def futWord (s : State) (a : Word) (kind : Word → AccKind) (p : Nat → Word → State → Bool) : Bool :=
  okAnd (translate s (whoStream s 0 0) a) (fun _ => true) &&
    okAnd (futureAccess s (whoStream s 0 0) a kind) fun y => p y.1 y.2.1 y.2.2

/-- How FUTINIT accesses a word. -/
def initKind (w : Word) : AccKind := if initBad w then .read else .update

/-- Does an effect come to performed? -/
def performs (r : Res) : Bool := match r with
  | .ok _ => true
  | _ => false

theorem witness_Futures :
    (let s := futState 0x40000 0x30080 []
     ready s 0 0 = true ∧ (∀ l, (s.stream 0 0 0).wait ≠ .place l) ∧ (0x40004 : Word).toNat % 8 ≠ 0 ∧ (0x40000 : Word).toNat % 8 = 0) := by
  refine ⟨by decide +kernel, fun l => ?_, by decide, by decide⟩
  have h : ((futState 0x40000 0x30080 []).stream 0 0 0).wait = .none := by decide +kernel
  rw [h]; exact nofun

theorem witness_Futures_states :
    futWord (futState 0x40000 0 [(0x40007, 0xC0)]) 0x40000 initKind (fun _ w _ => initBad w && !futureOk w) = true ∧
    futWord (futState 0x40000 0 [(0x40006, 1)]) 0x40000 initKind (fun _ w _ => initBad w && futureOk w) = true ∧
    futWord (futState 0x40000 0 []) 0x40000 initKind (fun _ w _ => !initBad w) = true ∧
    futWord (futState 0x40000 0 [(0x40007, 0x40)]) 0x40000 futureKind (fun pa w s => futureOk w && decide (2 ^ 62 ≤ w.toNat) &&
      errAnd (resolveBy s 0 (s.gang 0).space 0x40000 pa 1 7) fun t => t.cause == 0x0C) = true ∧
    futWord (futState 0x40000 0 []) 0x40000 futureKind (fun pa w s => futureOk w && decide (w.toNat < 2 ^ 62) &&
      okAnd (resolveBy s 0 (s.gang 0).space 0x40000 pa 2 0xFFFFFFFF) fun y => y.2.isEmpty && performs (placeAll (s.issuing 0 0 0 0) y.1 [])) = true ∧
    1 ≤ 2 ∧ 2 ≤ 2 ∧ 0xFFFFFFFF < 2 ^ 32 := by decide +kernel

theorem witness_Futures_registration :
    (let case (m : List Host.Cell) (p : Nat → Word → Bool) : Bool :=
       let s := futState 0x40000 0x30080 m
       let x := s.issuing 0 0 0 0
       okAnd (recordAt x s 0x30080 (registerKind s (whoStream s 0 0) 0x40000 0x30080)) fun y =>
         y.1 == 0x30080 && okAnd (futureAt x y.2 0x40000 futureKind) fun z => p (physRead y.2 (y.1 + 112) 8) z.2.1
     case [] (fun n w => n == 0 && futureOk w && decide (w.toNat < 2 ^ 62)) = true ∧
     case [(0x300F7, 0x40)] (fun n _ => decide (2 ^ 62 ≤ n)) = true ∧
     case [(0x40007, 0xC0)] (fun n w => decide (n < 2 ^ 62) && !futureOk w) = true ∧
     case [(0x40007, 0x80)] (fun n w => decide (n < 2 ^ 62) && futureOk w && decide (2 ^ 62 ≤ w.toNat)) = true) ∧
    (0x30080 : Word).toNat % 128 = 0 ∧ (0x30088 : Word).toNat % 128 ≠ 0 := by decide +kernel

/-- Registrations that update the record, and those that only read it. -/
theorem witness_Futures_kinds :
    (let kind (m : List Host.Cell) (f n : Word) : AccKind := let s := futState 0x40000 0x30080 m; registerKind s (whoStream s 0 0) f n
     kind [] 0x40000 0x30080 = .update ∧ kind [(0x30090, 1), (0x40007, 0x40)] 0x40000 0x30080 = .update ∧
     kind [(0x40007, 0x40)] 0x40000 0x30080 = .read ∧ kind [(0x300F7, 0x40)] 0x40000 0x30080 = .read ∧
     kind [(0x40007, 0xC0)] 0x40000 0x30080 = .read ∧ kind [] 0x40000000 0x30080 = .read ∧ kind [] 0x40000 0x40000000 = .read) := by
  decide +kernel

theorem witness_Futures_counts :
    (let case (m : List Host.Cell) : Bool × Bool :=
       let s := futState 0x40000 0x30080 m
       let y := decrement s 0 (s.gang 0).space 0x30080 0x40000 Clock.zero
       (y.2, performs (placeAll (s.issuing 0 0 0 0) y.1 [(0x30080, 0, true)]))
     (case [(0x30090, 2)]).1 = false ∧ case [(0x30090, 1)] = (true, true)) := by decide +kernel

theorem witness_NodesSubmitted :
    (let s := futState 0x30080 0 []
     let x := s.issuing 0 0 0 0
     ready s 0 0 = true ∧ (s.stream 0 0 0).wait = .none ∧ okAnd (recordAt x s 0x30080 .update) (fun y =>
       y.1 == 0x30080 && physRead y.2 (y.1 + 16) 4 == 0 && performs (placeAll x (physWrite (releaseAt y.2 0 3 y.1) (y.1 + 112) 8
         (2 ^ 62)) [(0x30080, 0, true)])) = true ∧ (0x30088 : Word).toNat % 128 ≠ 0) ∧
    (let s := futState 0x30080 0 [(0x30090, 1)]
     okAnd (recordAt (s.issuing 0 0 0 0) s 0x30080 .update) (fun y => physRead y.2 (y.1 + 16) 4 == 1) = true) := by
  decide +kernel

theorem witness_NodesSubmitted_places :
    (let s := atS 0 fun st => { st with wait := .place [(0x30080, 0, 1)] }
     ready s 0 0 = true ∧ (s.stream 0 0 0).wait = .place [(0x30080, 0, 1)] ∧ (placeRest s [(0x30080, 0, 1)]).2 = []) := by
  decide +kernel

theorem witness_NodesSubmitted_no_place :
    (let s := (atS 0 fun st => { st with wait := .place [(0x30080, 0, 1)] }).updPart 0 fun p => { p with defHead := 0x80 }
     s.alone 0 0 0 ∧ (placeRest s [(0x30080, 0, 1)]).2 = [(0x30080, 0, 1)]) := by decide +kernel

theorem witness_ProgramsAndQueries :
    (let s := atS 0 (regs 0x20000 0x20100)
     ready s 0 0 = true ∧ (s.vf 0).feat.getLsbD 2 = false ∧ (s.ctxs[1]).pend = none) ∧
    (let s := (at0 0).updVf 0 fun f => { f with feat := 4 }
     s.alone 0 0 0 ∧ (s.vf (s.gang 0).vf).feat.getLsbD 2 = true) ∧
    (let s := (at0 0).updCtx 1 fun c => { c with pend := some placedRun.prog }
     s.alone 0 0 0 ∧ (s.ctxs[1]).pend.isSome = true) ∧
    (({} : ColCtx).run = none ∧ ({ run := some placedRun } : ColCtx).run = some placedRun) ∧
    (2 : Word).toNat ≤ 2 ∧ 2 < (3 : Word).toNat := by decide +kernel

theorem witness_BoxAddresses : (28 : BitVec 5).toNat ≤ 28 ∧
    (let d := ((boxed {}).sreg 8).toNat
     15 < d % 2 ^ 16 ∧ 0 < d / 2 ^ 16 % 2 ^ 16 ∧ 0 < d / 2 ^ 32 % 2 ^ 16) := by decide +kernel

/-- A stream with a box as `boxed` and a conversion from F16, at an address in device memory or in scratch. -/
def boxedAs (tf : Nat) (a : Word) (st : Stream) : Stream :=
  ((withSets st).setS 4 a).setS 8 (0x0001000100010010 ||| (BitVec.ofNat 64 tf <<< 60))

theorem roomFor_of_none {s : State} {b : BenchId} {c : CoreId} (t : StreamId) (h : (s.core b c).copies = []) : s.roomFor b c t := by
  simp [State.roomFor, h]

/-- Copies of a stream: from device memory or to it, with a conversion, and of scratch; a face already written. -/
def copyCases (t : StreamId) : Prop :=
    (let s := atS t (boxedAs 0 0x40000)
     let y := readBoxGroup (s.stream 0 0 t) 8
     ready s t 0 = true ∧ (s.core 0 0).copies = [] ∧ (31 : BitVec 5).toNat < (s.gang 0).vcount ∧ (8 : BitVec 5).toNat ≤ 28 ∧ y.1.count = 16 ∧
     y.2 = 0 ∧ y.1.fits 4 = true ∧ y.1.aligned 4 0x40000 = true ∧ ((s.core 0 0).v[4]).written = false) ∧
    (let s := atS t (boxedAs 2 0x40000)
     let y := readBoxGroup (s.stream 0 0 t) 8
     ready s t 0 = true ∧ noConversion 0 y.2 = false ∧ y.1.fits (Fmt.ofCode y.2).size = true ∧ y.1.aligned 4 0x40000 = true) ∧
    (let s := atS t (boxedAs 0 0x1000)
     let y := readBoxGroup (s.stream 0 0 t) 8
     ready s t 0 = true ∧ boxInScratch (s.gang 0) 0 y.1 0x1000 4 false = true ∧ y.1.aligned 4 0x1000 = true ∧
     boxInSets (s.issuing 0 0 t 0) s y.1 0x1000 4 (t == 3) = true) ∧
    (let s := at0 t fun k => { k with v := k.v.set 4 { vis := 0, hid := 0, written := true } }
     s.alone 0 0 t ∧ ((s.core 0 0).v[4]).written = true)

theorem witness_TileCopies : copyCases 1 ∧ copyCases 3 := by unfold copyCases; decide +kernel

/-- GATHER and SCATTER of four elements by an index array in scratch. -/
def gatherCases (t : StreamId) : Prop :=
    (let s := atS t fun st => (((withSets st).setS 4 0x40000).setS 8 0x1000).setS 9 4
     let st := s.stream 0 0 t
     ready s t 0 = true ∧ (s.core 0 0).copies = [] ∧ 0 < (st.sreg 9).toNat ∧ (st.sreg 9).toNat ≤ 16 * cols 4 ∧ st.sreg 10 = 0 ∧ st.sreg 11 = 0 ∧
     scratchRange (s.gang 0) 0 0x1000 16 false = true ∧ (0x40000 : Word).toNat % 4 = 0 ∧ 11 ≤ (11 : BitVec 4).toNat ∧
     (packed 4).allAddrs 0x1000 4 (fun e => st.mayRead e.toNat 4) = true)

theorem witness_TileCopies_gather : gatherCases 1 ∧ gatherCases 3 := by unfold gatherCases; decide +kernel

theorem witness_OtherCopies_queues :
    (let s := at0 1 fun k => { k with
       q := (k.q.set 0 { k.q[0] with cfg := 0x4000 }), streams := k.streams.set 1 (boxedAs 0 0x40000 k.streams[1]) }
     ready s 1 0 = true ∧ (s.core 0 0).copies = [] ∧ ((s.core 0 0).q[0]).refused = false ∧
     ((s.core 0 0).q[0]).entries.length < ((s.core 0 0).q[0]).depth ∧ ((s.core 0 0).q[0]).sfmt = 0) ∧
    (let s := at0 3 fun k => { k with
       q := (k.q.set 2 { cfg := 0x4000, entries := [{ landed := true, tile := 5, id := 0 }] })
       streams := k.streams.set 3 (boxedAs 0 0x40000 k.streams[3]) }
     ready s 3 0 = true ∧ (s.core 0 0).copies = [] ∧ ((s.core 0 0).q[2]).refused = false ∧ ((s.core 0 0).q[2]).kfmt = 0) := by
  decide +kernel

/-- SPCP of 16 elements of the own core's scratch, and PREF. -/
theorem witness_OtherCopies_scratch :
    (let s := atS 3 fun st => (boxedAs 0 0x1000 st).setS 5 0x1080
     let y := readBoxGroup (s.stream 0 0 3) 8
     ready s 3 0 = true ∧ (s.core 0 0).copies = [] ∧ y.1.count ≠ 0 ∧ y.2 = 0 ∧ y.1.aligned 4 0x1000 = true ∧
     boxInScratch (s.gang 0) 0 y.1 0x1000 4 true = true ∧ boxInScratch (s.gang 0) 0 (packed 16) 0x1080 4 true = true ∧
     boxInSets (s.issuing 0 0 3 0) s y.1 0x1000 4 false = true ∧ boxInSets (s.issuing 0 0 3 0) s (packed 16) 0x1080 4 true = true) ∧
    ready (atS 1 (boxedAs 0 0x40000)) 1 0 = true := by decide +kernel

/-- A partition whose third window is open to a peer, and a stream with a box at an offset of it. -/
def windowed (t : StreamId) (off : Word) (ctl : Word) : State :=
  (atS t fun st => (boxedAs 0 (0x3000000000000 ||| off) st).setS 5 0x1000).updPart 0 fun p => { p with
    windows := p.windows.set 3 { base := 0, ctl := ctl, peer := 5 } }

/-- PUT and GET through it, with scratch or a tile at the near end; an offset of which the box ends at the span's end, and one
past. -/
def windowCases (t : StreamId) : Prop :=
  let ctl : Word := 0xB000000000000001
  let s := windowed t 0xFFC0 ctl
  let y := readBoxGroup (s.stream 0 0 t) 8
  let permits (off ctl : Word) : Bool :=
    let s := windowed t off ctl
    windowEnd (s.issuing 0 0 t 0) s (t == 3) ((s.stream 0 0 t).sreg 4) (readBoxGroup (s.stream 0 0 t) 8).1 4
  ready s t 0 = true ∧ (s.core 0 0).copies = [] ∧ y.1.count ≠ 0 ∧ y.2 = 0 ∧ ((s.stream 0 0 t).sreg 4).toNat < 2 ^ 54 ∧
  y.1.aligned 4 0xFFC0 = true ∧ y.1.fits 4 = true ∧ (5 : BitVec 5).toNat < (s.gang 0).vcount ∧
  boxInScratch (s.gang 0) 0 (packed 16) 0x1000 4 false = true ∧
  boxInSets (s.issuing 0 0 t 0) s (packed 16) 0x1000 4 (t == 1) = true ∧ ((s.core 0 0).v[5]).written = false ∧
  permits 0xFFC0 ctl = true ∧ permits 0xFFC4 ctl = false ∧ permits 0xFFC0 0x8000000000000001 = false

theorem witness_OtherCopies_windows : windowCases 1 ∧ windowCases 3 := by unfold windowCases; decide +kernel

/-- A stream with copies outstanding, each in a closed batch of its own or in the open one. -/
def batches (n : Nat) (openToo : Bool) : State :=
  let k (m : Nat) : Copy := { stream := 1, num := m, pc := 0, slack := 0, kind := .toFar, far := .device, base := 0, shape := .box 1 1 1 1 0 0 0
                              z := 4, frm := 0, data := [0], todo := [(0, 1)], inPhase := false }
  at0 1 fun y => { y with
    copies := (List.range n).map k
    streams := y.streams.set 1 { y.streams[1] with closed := (List.range (if openToo then n - 1 else n)).map fun m => [m]
                                                   openBatch := if openToo then [n - 1] else [] } }

theorem witness_CopiesIssue_batches :
    (let out (s : State) (y : List Nat) : Bool := (s.core 0 0).copies.any fun k => k.stream == 1 && y.contains k.num
     let full (s : State) : Bool := decide (16 ≤ (((s.stream 0 0 1).closed.filter (out s)).length)) && out s (s.stream 0 0 1).openBatch
     ready (batches 17 true) 1 0 = true ∧ full (batches 17 true) = true ∧ full (batches 16 true) = false ∧ full (batches 16 false) = false ∧
     (((batches 16 false).stream 0 0 1).closed.filter (out (batches 16 false))).length = 16) := by decide +kernel

theorem witness_CopiesIssue : ready (at0 1) 1 0 = true ∧ ready (at0 3) 3 0 = true ∧ 28 < (29 : BitVec 5).toNat ∧ (28 : BitVec 5).toNat ≤ 28 ∧
    32 ≤ (32 : BitVec 6).toNat ∧ (31 : BitVec 6).toNat < ((at0 1).gang 0).vcount ∧ (readBoxGroup ((at0 1).stream 0 0 1) 8).1.count = 0 ∧
    ((at0 1).core 0 0).copies = [] ∧
    (let s := at0 1 fun y => { y with copies := ((batches 32 false).core 0 0).copies, streams := y.streams.set 1 (boxedAs 0 0x40000 y.streams[1]) }
     s.alone 0 0 1 ∧ (readBoxGroup (s.stream 0 0 1) 8).1.count ≠ 0 ∧ 32 ≤ (s.core 0 0).copies.length) := by decide +kernel

/-- Nothing at issue refuses a word of CP. -/
def inCp (s : State) (slot : Nat) (i : Instr) : Bool :=
  decide (s.alone 0 0 2) && specOk (s.gang 0).vcount i && (groupStop (s.issuing 0 0 2 slot) s i).isNone && mayGo (s.issuing 0 0 2 slot) s

theorem aloneInCp_of_inCp {s : State} {slot : Nat} {i : Instr} (h : inCp s slot i = true) : s.aloneInCp 0 0 slot i := by
  simp only [inCp, Bool.and_eq_true, decide_eq_true_eq, Option.isNone_iff_eq_none] at h
  exact ⟨h.1.1.1, h.1.1.2, h.1.2⟩

/-- A result is delivered. -/
def rings (r : Res) (pushes : Option Tile → Bool) : Bool := match r with
  | .ring _ e => pushes e
  | _ => false

/-- CP of core 0 with a tile in v1 and v2, cross scalars, ring entries and queues. -/
def tiles : State := at0 2 fun k => { k with
  v := (k.v.set 1 { vis := 0x3F800000, hid := 0 }).set 2 { vis := 0x40000000, hid := 0 }
  c := k.c.set 0 { vis := 3, hid := 0 }, za := k.za.set 0 (some 7)
  q := (((k.q.set 0 { cfg := 0x4000, entries := [{ landed := true, tile := 9, id := 0 }] }).set 1
    { cfg := 0x4000, entries := [{ landed := false, tile := 0, id := 1 }] }).set 2 { cfg := 0x4000 }).set 3 { cfg := 0x000F } }

theorem witness_OperandsAndResults : (tiles.gang? 0).isSome = true ∧
    (let k := tiles.core 0 0
     (k.q[0]).refused = false ∧ (k.q[0]).entries.map (·.landed) = [true] ∧ (k.q[0]).sfmt = (k.q[0]).kfmt ∧
     (k.q[1]).refused = false ∧ (k.q[1]).entries.map (·.landed) = [false] ∧ (k.q[3]).refused = true ∧ (k.q[2]).refused = false ∧
     (k.q[2]).entries.length < (k.q[2]).depth ∧ (k.v[4]).written = false) ∧
    (let k := (at0 2 fun k => { k with v := k.v.set 4 { vis := 0, hid := 0, written := true, tag := ⟨1, true, 0⟩ } }).core 0 0
     (k.v[4]).written = true ∧ (k.v[4]).tag.async = true) ∧
    (let waits (y : Result) : Bool := (tiles.updCore 0 0 fun k => { k with results := [y] }).core 0 0 |>.results.any fun y => y.slot == 2 && y.depth == 1
     waits { writes := [], flags := 0, slot := 2, depth := 1 } = true ∧ waits { writes := [], flags := 0, slot := 2, depth := 2 } = false ∧
     (tiles.core 0 0).za.toList[0]?.getD none = some 7) ∧
    (31 : BitVec 6).toNat < 32 ∧ 32 ≤ (39 : BitVec 6).toNat ∧ (39 : BitVec 6).toNat < 40 ∧ (51 : BitVec 6).toNat < 52 ∧
    56 ≤ (63 : BitVec 6).toNat := by decide +kernel

/-- Words on tiles v1 and v2 with a destination d: operands that read, and a result that is delivered. -/
def twoTiles (i : Instr) (slot : Nat) (d : BitVec 6) : Bool :=
  let x := tiles.issuing 0 0 2 slot
  inCp tiles slot i && okAnd (readTwo x tiles 1 2 4 false) (fun y => y.1 == 0x3F800000 && y.2.1 == 0x40000000 &&
    rings (deliverTile x y.2.2 d 4 0 0) fun e => e == some 0 && mayGo x y.2.2 [(slot, e)])

theorem witness_VectorArithmetic : (∀ f : BitVec 4, twoTiles (.vf32 1 4 1 2 f 0) 2 4 = true) ∧ twoTiles (.vf64 1 63 1 2 0 0) 2 63 = true ∧
    twoTiles (.vf16 1 32 1 2 5 0) 2 32 = true ∧ twoTiles (.vbf16 1 54 1 2 0 0) 2 54 = true ∧ vfUnary 0 = false ∧ vfUnary 7 = true := by
  decide +kernel

theorem witness_VectorArithmetic_integers : (∀ f : BitVec 4, twoTiles (.vi32 1 4 1 2 f 0 0) 2 4 = true) ∧
    twoTiles (.vi16 1 4 1 2 4 0 0) 2 4 = true ∧ twoTiles (.vi8 1 4 1 2 12 0 0) 2 4 = true ∧ twoTiles (.vi64 1 4 1 2 0 1 1) 2 4 = true ∧
    twoTiles (.vlogic 1 4 1 2 5) 2 4 = true ∧ twoTiles (.vlogic 1 4 1 0 6) 2 4 = true ∧ twoTiles (.vcvt 1 4 1 0 2 0) 2 4 = true ∧
    twoTiles (.sf32 1 4 1 0 0) 5 4 = true := by decide +kernel

theorem witness_Predicates : twoTiles (.vfcmp 1 0 1 2 0 0) 2 4 = true ∧ twoTiles (.vicmp 1 7 1 2 5 6) 2 4 = true ∧
    twoTiles (.pred 1 7 0 1 0) 2 4 = true ∧ twoTiles (.pred 1 7 0 3 8) 2 4 = true ∧ twoTiles (.ckInbox 1 7 1 2 1) 3 4 = true ∧
    (∀ d : Fin 8, ((tiles.core 0 0).p[d]).written = false) := by decide +kernel

theorem witness_VectorMoves : twoTiles (.vmoveMov 1 4 1) 2 4 = true ∧ twoTiles (.vmoveSel 1 4 1 2 3) 2 4 = true ∧
    twoTiles (.vmoveImm 1 4 5) 2 4 = true ∧ twoTiles (.vmoveIota 1 4) 2 4 = true ∧ twoTiles (.vmoveXtr 1 4 1 56) 2 4 = true ∧
    twoTiles (.vmoveIns 1 4 1 63) 2 4 = true ∧ twoTiles (.vrot 1 4 1 31 0) 2 4 = true ∧ twoTiles (.vrot 1 4 1 56 7) 2 4 = true ∧
    twoTiles (.vbc 1 4 1 15 1) 2 4 = true ∧ twoTiles (.vbc 1 4 1 63 0) 2 4 = true ∧ twoTiles (.vperm 1 4 1 2) 2 4 = true := by
  decide +kernel

theorem witness_ReductionsTransposesFlags : twoTiles (.vred 1 4 1 0 0 0) 2 4 = true ∧ twoTiles (.vtrg 1 24 2) 2 4 = true ∧
    twoTiles (.xfRd 1 4) 2 4 = true ∧ twoTiles (.xfClr 1 1) 2 4 = true ∧ twoTiles (.xfSet 1 1) 2 4 = true ∧
    (∀ n : Fin 8, ((tiles.core 0 0).v[24 + n.val]).written = false) := by decide +kernel

/-- A core with a long operation that has not landed. -/
def busyWith (g : LongKind) : State := at0 2 fun k => { k with longs := [{ kind := g, writes := [], flags := 0 }] }

theorem witness_LongOperations : twoTiles (.vsort 1 30 1 2 0) 2 4 = true ∧ twoTiles (.sf64 1 31 1 0 0) 5 4 = true ∧
    twoTiles (.sf64 1 63 1 0 0) 5 63 = true ∧ twoTiles (.sf64 1 54 1 0 0) 5 54 = true ∧ twoTiles (.cksplit 1 30 56 60 1) 3 4 = true ∧
    (tiles.core 0 0).longs = [] ∧ ((busyWith .vsort).core 0 0).longs.map (·.kind) = [.vsort] ∧
    inCp (busyWith .vsort) 2 (.vsort 1 4 1 2 0) = true ∧ inCp (busyWith .sf64) 5 (.sf64 1 4 1 0 0) = true ∧
    inCp (busyWith .cksplit) 3 (.cksplit 1 4 56 60 1) = true := by decide +kernel

/-- A chain in a0 of core 0. -/
def chained (a : Acc) : State := at0 2 fun k => { k with acc := k.acc.set 0 a }

theorem witness_LongOperations_mche : inCp (chained .opened) 4 (.mche 1 0 4 0 0) = true ∧ inCp (chained .opened) 4 (.mche 1 0 4 11 0) = true ∧
    inCp (chained (.exact true [])) 4 (.mche 1 0 4 11 0) = true ∧ inCp (at0 2) 4 (.mche 1 0 4 0 0) = true ∧
    ((chained .opened).core 0 0).accBusy 0 = false ∧ (Acc.exact true []).isInt = true ∧ Acc.opened ≠ Acc.idle ∧
    (Acc.exact false []).isInt = false := by decide +kernel

theorem witness_CurveWords : twoTiles (.ckEnc 1 4 1 0) 3 4 = true ∧ twoTiles (.ckDec 1 4 1 6) 3 4 = true ∧
    twoTiles (.ckNext 1 4 1 2 1) 3 4 = true ∧ twoTiles (.ckAdd 1 30 1 2 1) 3 4 = true ∧ twoTiles (.ckSub 1 38 1 2 1) 3 4 = true ∧
    (30 : BitVec 6).toNat < 31 ∧ (38 : BitVec 6).toNat = 32 + 6 ∧ ((tiles.core 0 0).v[30]).written = false ∧
    ((tiles.core 0 0).v[31]).written = false := by decide +kernel

theorem witness_MatrixWordsAndSums :
    (let s := { chained .opened with ticks := 1 }
     inCp s 4 (.mchb 1 0) = true ∧ inCp s 4 (.mzero 1 0) = true ∧ inCp s 4 (.mlda 1 0 1) = true ∧ (s.core 0 0).accBusy 0 = false ∧
     inCp s 4 (.mma 1 0 1 4 0 0 0 0) = true ∧ inCp s 4 (.mmaq 1 0 1 0 0 0) = true ∧ sourceBad (s.issuing 0 0 2 4) s 1 = false ∧
     okAnd (readSource (s.issuing 0 0 2 4) s 1 (mmaSize 0) false) (fun y => y.1 == 0) = true) ∧
    (let s := at0 2 fun k => { k with longs := [{ kind := .mred, writes := [], flags := 0, acc := 0 }] }
     inCp s 4 (.mchb 1 0) = true ∧ (s.core 0 0).accBusy 0 = true) ∧
    (inCp (at0 2) 4 (.mma 1 0 1 4 0 0 0 0) = true ∧ ((at0 2).core 0 0).acc[0] = .idle) := by decide +kernel

/-- The block of an MMA at a scratch address in s4, of one core. -/
def blockAt (a : Word) (f : BitVec 3) : Option Nat :=
  let s := at0 2 fun k => { k with
    acc := k.acc.set 0 .opened
    streams := k.streams.set 2 { (k.streams[2]).setS 4 a with sets := (k.streams[2]).sets.set 0 ⟨0x1000, 0x1000⟩ } }
  (mmaCheck (s.issuing 0 0 2 4) s ((s.stream 0 0 2).sreg 4) (64 * mmaK f 0 * mmaSize f) false).map (·.cause)

theorem witness_MatrixWordsAndSums_blocks : mmaK 0 0 = 8 ∧ mmaSize 0 = 2 ∧ blockAt 0x1000 0 = none ∧ blockAt 0x1020 0 = some 5 ∧
    blockAt 0x2000 0 = some 6 ∧ blockAt (2 ^ 26) 0 = some 6 := by decide +kernel

/-- The block of an MMA with MC in core 1, which exports it, or not. -/
theorem witness_MatrixWordsAndSums_multicast : ∀ x : Bool,
    (let s := (at0 2).updCore 0 1 fun k => { k with
       streams := k.streams.set 3 { k.streams[3] with sets := (k.streams[3]).sets.set 12 ⟨0x1001000, if x then 0x1000 else 0x40⟩ } }
     let check (a : Word) (n : Nat) (mc : Bool) := (mmaCheck (s.issuing 0 0 2 4) s a n mc).map (·.cause)
     check 0x1001000 0x400 true = (if x then none else some 6) ∧ check 0x1001000 0x400 false = some 6 ∧
     check 0x1001020 0x400 true = some 5 ∧ check 0x3FFFFC0 0x80 true = some 6 ∧
     0xFFFFC0 + 0x80 > (s.gang 0).scratchSize) := by decide +kernel

theorem witness_MatrixWordsAndSums_queue :
    (let s := at0 2 fun k => { k with
       acc := k.acc.set 0 .opened
       q := k.q.set 0 { cfg := BitVec.ofNat 18 (2 ^ 13 * 4 + 0x33), entries := List.replicate 4 { landed := true, tile := 0, id := 0 } } }
     let x := s.issuing 0 0 2 4
     inCp s 4 (.mmaq 1 0 1 0 0 0) = true ∧ sourceBad x s 52 = false ∧ ((s.core 0 0).q[0]).kfmt = mmaCode 0 ∧
     (mmaK 0 0 + 64 / mmaSize 0 - 1) / (64 / mmaSize 0) ≤ ((s.core 0 0).q[0]).depth ∧
     okAnd (popMany x 52 ((mmaK 0 0 + 64 / mmaSize 0 - 1) / (64 / mmaSize 0)) s) (fun y => mayGo x y.2) = true) := by decide +kernel

theorem witness_MatrixWordsAndSums_sums : 1023 < 1024 ∧ (Acc.opened).clash (decide ((2 : BitVec 3).toNat < 2)) = false ∧
    (Acc.opened).clash (decide ((1 : BitVec 3).toNat < 2)) = false ∧
    (∀ i l, Acc.opened = .exact i l → l.length = 1024) ∧ (∀ l, Acc.opened = .ordered l → l.length = 1024) := by
  refine ⟨by decide, by decide, by decide, nofun, nofun⟩

/-- The CPs of cores 1 to 3 stand at an MRED of their a0, and those of a partition's first core at one too. -/
def meets (a : Acc) (w : Wait) : State :=
  (at0 2 fun k => { k with acc := k.acc.set 0 a }).updGang 0 fun g => { g with
    cores := Vector.ofFn fun q => if q = 0 then g.cores[0] else { g.cores[q] with
      acc := (g.cores[q]).acc.set 0 .opened
      streams := (g.cores[q]).streams.set 2 { (g.cores[q]).streams[2] with status := .running, wait := w } } }

theorem witness_MredMeets :
    (let s := meets .opened (.rendezvous 0)
     inCp s 4 (.mred 1 0) = true ∧ (s.core 0 0).accBusy 0 = false ∧ (s.stream 0 0 2).wait ≠ .reduced ∧
     (∀ q : CoreId, q ≠ 0 → (s.stream 0 q 2).wait = .rendezvous 0) ∧ (∀ q : CoreId, (s.core 0 q).acc[0] = .opened)) ∧
    (let s := meets .idle (.rendezvous 0)
     inCp s 4 (.mred 1 0) = true ∧ (s.core 0 0).acc[0] = .idle ∧ (0 : CoreId).toNat = 0) ∧
    (let s := meets .opened .none
     inCp s 4 (.mred 1 0) = true ∧ (s.stream 0 1 2).wait = .none) := by decide +kernel

/-- A context's registers: an address, another, a length, a count. -/
def colRegs (a b n k : Word) : State := { ctx0 (fun r => { r with
    g := ((((r.g.set 1 a).set 2 b).set 3 n).set 4 k).set 5 0x3FFF }) with mem := placedMem [(0x40040, 9)] 0 }

/-- The program that performs. -/
def runOf (s : State) : ColRun := (s.colRun 0).getD placedRun

theorem witness_CollectiveCommands_control :
    (let s := colRegs 0x40000 0x40044 0 3
     let r := runOf s
     let who := whoContext s 0 r.prog
     s.commands 0 r ∧ maskResident s r.prog (r.reg 1) = true ∧ (r.reg 1).toNat % 8 = 0 ∧ (r.reg 2).toNat % 8 ≠ 0 ∧
     okAnd (homeAccess s who (r.reg 1) 8 .read false) (fun y => y.1 == 0x40000) = true ∧
     okAnd (homeAccess s who (r.reg 1) 8 .write false) (fun y => y.1 == 0x40000) = true ∧ bodyHolds s who (r.pc + 4) 3 = false ∧
     r.reg 3 = 0 ∧ r.reg 4 ≠ 0) ∧
    (let s := (colRegs 2 1088 0 0).updPart 0 fun p => { p with windows := p.windows.set 1 { ctl := 0x8000000000000000, peer := 5 } }
     let r := runOf s
     s.commands 0 r ∧ maskResident s r.prog (r.reg 1) = false ∧ okAnd (colCounter s r.prog (r.reg 2)) (fun v => v == 0) = true ∧
     (r.reg 3).toNat ≤ 0) ∧
    (let s := { colRegs 0 0 0 3 with mem := placedMem [(0x20007, 0x9A)] 0 }
     let r := runOf s
     s.commands 0 r ∧ bodyHolds s (whoContext s 0 r.prog) (r.pc + 4) 1 = true) := by decide +kernel

/-- Ranges of a CCOPY or a CRED: a length, and two addresses. -/
def copyRanges (dst src n : Word) (p : Bool → Bool → Bool → Bool → Bool) : Bool :=
  let s := colRegs dst src n 0
  let r := runOf s
  let who := whoContext s 0 r.prog
  decide (s.commands 0 r) && p (decide (n.toNat = 0 ∨ n.toNat % 8 ≠ 0)) (decide (dst.toNat % 8 = 0 ∧ src.toNat % 8 = 0))
    (decide (dst.toNat < src.toNat + n.toNat ∧ src.toNat < dst.toNat + n.toNat))
    (okAnd (homeAccess s who src 8 .read false) fun y => okAnd (homeAccess y.2 who dst 8 .write false) fun _ => true)

theorem witness_CollectiveCommands_data :
    copyRanges 0x40000 0x40008 8 (fun bad al lap ok => !bad && al && !lap && ok) = true ∧
    copyRanges 0x40000 0x40008 16 (fun bad al lap _ => !bad && al && lap) = true ∧
    copyRanges 0x40000 0x40008 0 (fun bad _ _ _ => bad) = true ∧ copyRanges 0x40000 0x40008 12 (fun bad _ _ _ => bad) = true ∧
    copyRanges 0x40004 0x40008 8 (fun bad al _ _ => !bad && !al) = true ∧
    (let s := colRegs 0x40000 0x40040 8 0
     let r := runOf s
     let who := whoContext s 0 r.prog
     okAnd (homeAccess s who 0x40000 8 .read false) (fun y => okAnd (homeAccess y.2 who 0x40040 8 .read false) fun z =>
       okAnd (homeAccess z.2 who 0x40000 8 .write false) fun w => w.1 == 0x40000 && y.1 == 0x40000 && z.1 == 0x40040) = true) := by
  decide +kernel

/-- CRED and CSEND at misaligned addresses, and commands whose accesses fail at once or at the second one. -/
theorem witness_CollectiveCommands_faults :
    (Fmt.ofCode 0).size = 4 ∧ (0x40002 : Word).toNat % 4 ≠ 0 ∧ (0x40004 : Word).toNat % 4 = 0 ∧ (0x40004 : Word).toNat % 8 ≠ 0 ∧
    (let s := colRegs 0x40000 0x40000000 8 0
     let who := whoContext s 0 (runOf s).prog
     s.commands 0 (runOf s) ∧ errAnd (homeAccess s who 0x40000000 8 .read false) (fun f => f == .page 0 1) = true ∧
     okAnd (homeAccess s who 0x40000 8 .read false) (fun y =>
       errAnd (homeAccess y.2 who 0x40000000 8 .write false) fun f => f == .page 0 1) = true) := by decide +kernel

/-- A CSEND of one unit at an offset of window 1, from 0x40040: window, residency, rendezvous. -/
def sendCase (off : Word) (rv : Word) (here : Bool) (ctl : Word) (p : Bool → Bool → Bool) : Bool :=
  let s := (colRegs off 0x40040 8 0).updPart 0 fun p => { p with windows := p.windows.set 1 { ctl := ctl, peer := 5 } }
  let s : State := { s with links := { s.links with resident := if here then [(false, 5, 0, 0)] else [] } }
  let r : ColRun := { runOf s with rv := rv }
  let s : State := { s.setRun 0 r with cur := some (.context 0) }
  let win := (s.part r.prog.part).windows[1]
  decide (s.commands 0 r) && s.links.reaches (win.peer.getLsbD 8) (win.peer.setWidth 8) && good (homeAccess s (whoContext s 0 r.prog) 0x40040 8 .read false) &&
    p (decide (r.done = 0 ∧ (r.rv.getLsbD 1 = false ∨ win.permits true r.prog.tenant r.prog.bench = false ∨ win.size < off.toNat + 8)))
      (s.resident win r.prog.tenant)

theorem witness_CollectiveCommands_send :
    sendCase 0xFFF8 2 true 0xA000000000000001 (fun shut here => !shut && here) = true ∧
    sendCase 0xFFF8 2 false 0xA000000000000001 (fun shut here => !shut && !here) = true ∧
    sendCase 0x10000 2 true 0xA000000000000001 (fun shut _ => shut) = true ∧
    sendCase 0xFFF8 0 true 0xA000000000000001 (fun shut _ => shut) = true ∧
    sendCase 0xFFF8 2 true 0x8000000000000001 (fun shut _ => shut) = true := by decide +kernel

theorem witness_FaultsTaken : ((at0 0).gang? 0).isSome = true ∧ ((at0 0).part 0).halt = .none ∧ (runOf (ctx0 id)).halted = false ∧
    ((ctx0 id).colRun 0).isSome = true ∧ ((ctx0 id).part 0).halt = .none ∧
    (let s := (at0 0).updPart 0 fun p => { p with halt := .raised, hseq := 0xFFFFFFFF }
     (s.gang? 0).isSome = true ∧ (s.part 0).halt ≠ .none ∧ (s.part 0).halt ≠ .resuming) ∧
    255 < 256 ∧ 15 < 16 ∧ 7 < 8 := by decide +kernel

/-- A store's copy with a slack, whose one element is to be performed. -/
def storeCopy (num slack : Nat) : Copy :=
  { stream := 3, num := num, pc := 0x20000, slack := slack, kind := .toFar, far := .device, base := 0x40000, shape := .box 1 1 1 1 0 0 0
    z := 4, frm := 0, data := [7], todo := [(0, 1)], inPhase := false }

/-- Core 0 of bench 0 has results, long operations and copies outstanding. -/
def outstanding : State := at0 3 fun k => { k with
  results := [{ writes := [], flags := 1 }]
  longs := [{ kind := .sf64, writes := [{ reg := .v 3, data := 5, mask := BitVec.allOnes 4096 }], flags := 0 },
            { kind := .sf64, writes := [], flags := 0, entry := some (2, 1, 5) }]
  copies := [storeCopy 1 2, storeCopy 2 1, storeCopy 3 1] }

theorem witness_ResultsLand :
    (let s := outstanding
     let free (k : Copy) : Bool := (k.state == .active || k.state == .replaying) && todoCount k.todo != 0 && sendable s 0 k
     s.dev.off = false ∧ (s.gang? 0).isSome = true ∧ (s.core 0 0).copies = [storeCopy 1 2] ++ storeCopy 2 1 :: [storeCopy 3 1] ∧
     free (storeCopy 1 2) = true ∧ free (storeCopy 2 1) = true ∧ (storeCopy 2 1).slack < (storeCopy 1 2).slack ∧
     (storeCopy 2 1).slack ≤ (storeCopy 3 1).slack ∧ (s.core 0 0).longs.length = 2 ∧ (s.core 0 0).results.length = 1 ∧
     okAnd (homeAccess s (whoStream s 0 0) ((storeCopy 2 1).addr 0) 8 .write false) (fun y => y.1 == 0x40000 &&
       (y.2.part (y.2.gang 0).part).halt == .none) = true) ∧
    (let s := at0 1 fun k => { k with copies := [{ storeCopy 1 0 with todo := [], kind := .toFace 3 0 0 }, { storeCopy 2 0 with todo := [] }] }
     (s.core 0 0).copies.map (fun k => (todoCount k.todo, k.asked.length, k.state)) = [(0, 0, .active), (0, 0, .active)]) := by
  decide +kernel

/-- SC of core 0 waits at its FLIP, its core's other streams IDLE or at the end of a KLOOP.F iteration. -/
def flips (loop : Bool) : State := at0 0 fun k => { k with
  results := if loop then [{ writes := [], flags := 0, entry := some (2, 7), slot := 2 }] else []
  v := k.v.set 1 { vis := 5, hid := 6, written := true }
  streams := (k.streams.set 0 { k.streams[0] with wait := .flip false 0x20004 }).set 1
    (if loop then { k.streams[1] with status := .running, wait := .flip true 0x20004, loops := [frame true true 4 3 0] } else k.streams[1]) }

theorem witness_FlipsComplete : ∀ loop : Bool,
    (let s := flips loop
     let k := s.core 0 0
     s.dev.off = false ∧ (s.gang? 0).isSome = true ∧ (s.gang 0).halted = false ∧ (s.gang 0).stop = .none ∧ (s.gang 0).epilogue = false ∧
     (s.stream 0 0 0).status = .running ∧ (s.stream 0 0 0).wait = .flip false 0x20004 ∧ (s.stream 0 0 2).status = .idle ∧
     (s.stream 0 0 3).status = .idle ∧ (if loop then (s.stream 0 0 1).status = .running ∧ (s.stream 0 0 1).wait = .flip true 0x20004
       else (s.stream 0 0 1).status = .idle) ∧
     (∀ r ∈ k.results, r.writes = [] ∧ r.entry.isSome = true) ∧ k.longs = [] ∧ k.copies = [] ∧ (∀ u : StreamId, (s.stream 0 0 u).fault = none) ∧
     (k.v.toList.all fun f => !f.pending) = true ∧ (k.c.toList.all fun f => !f.pending) = true ∧ (k.p.toList.all fun f => !f.pending) = true ∧
     (∀ o : CoreId, (s.core 0 o).copies = []) ∧ (setsConflict (k.streams.map (·.next))).isNone = true ∧ (s.gang 0).vcount = 32) := by
  decide +kernel

/-- Streams of core 0 at a flip: SC in JOIN or at its FLIP, LD and CP at the end of an iteration of a loop, ST IDLE. -/
def pipelined (epilogue : Bool) (sc : Wait) (f : LoopFrame) : State :=
  let ends (st : Stream) : Stream := { st with status := .running, wait := .flip true f.last, loops := [f], pc := f.first }
  let s := at0 0 fun k => { k with
    streams := ((k.streams.set 0 { k.streams[0] with wait := sc }).set 1 (ends k.streams[1])).set 2 (ends k.streams[2]) }
  s.updGang 0 fun g => { g with epilogue := epilogue }

/-- May the flip of core 0 complete? -/
def mayFlip (s : State) : Bool :=
  let k := s.core 0 0
  (s.gang 0).stop == .none && !(s.gang 0).halted && k.gathered && flipLanded (s.gang 0) 0 &&
    (k.streams.toList.all fun st => st.fault.isNone) && (setsConflict (k.streams.map (·.next))).isNone

theorem witness_FlipsComplete_pipelined : (∀ epilogue : Bool, ∀ iter ∈ [0, 2, 3],
      let f : LoopFrame := { frame true true 4 3 iter with pre := epilogue }
      mayFlip (pipelined epilogue .join f) = true ∧ ((pipelined epilogue .join f).gang 0).epilogue = epilogue ∧
      ((pipelined epilogue .join f).stream 0 0 1).wait = .flip true f.last) ∧
    (∀ iter ∈ [0, 2],
      let s := atS 0 fun st => { st with wait := .flip false 0x20010, loops := [frame false false 4 3 iter] }
      mayFlip s = true ∧ (frame false false 4 3 iter).last = 0x20010) ∧
    mayFlip (atS 0 fun st => { st with wait := .flip false 0x20008, loops := [frame false false 4 3 0] }) = true := by
  decide +kernel

/-- R40, R41: the next iteration of a KLOOP.F begins past the flip, and after the last the loop is left. -/
theorem test_flip_pipelined :
    after (exec (.flipComplete 0 0) (pipelined false .join (frame true true 4 3 0))) (fun s =>
      let st := s.stream 0 0 1
      st.pc == 0x20000 && st.loops == [frame true true 4 3 1] && st.k == 3 && st.wait == .none &&
        (s.stream 0 0 0).wait == .join && (s.core 0 0).rb == 1) = true ∧
    after (exec (.flipComplete 0 0) (pipelined false .join (frame true true 4 3 3))) (fun s =>
      (s.stream 0 0 2).pc == 0x20010 && (s.stream 0 0 2).loops.isEmpty && (s.stream 0 0 2).k == 0) = true := by decide +kernel

/-- R144: in a forced epilogue the flip that ends iteration 0 of 3 lowers N to 1, and the one past the drain stops with 2
left. -/
theorem test_flip_epilogue :
    after (exec (.flipComplete 0 0) (pipelined true .join { frame true true 4 3 0 with pre := true })) (fun s =>
      (s.stream 0 0 1).loops == [{ frame true true 4 3 1 with pre := true, n := 1 }] && (s.stream 0 0 1).k == 2) = true ∧
    after (exec (.flipComplete 0 0) (pipelined true .join { frame true true 4 3 1 with pre := true, n := 1 })) (fun s =>
      (s.stream 0 0 1).wait == .epilogue 0x1FFFC 2 && (s.stream 0 0 1).pc == 0x20010 && (s.stream 0 0 1).loops.isEmpty) = true := by
  decide +kernel

/-- Two streams declare one range for the next phase, both as W. -/
theorem witness_FlipsComplete_overlap :
    (let s := (flips true).updGang 0 fun g => { g with cores := g.cores.map fun k => { k with
       streams := k.streams.mapIdx fun i st => if i < 2 then { st with next := st.next.set 4 ⟨0x1000, 0x100⟩ } else st } }
     (s.core 0 0).gathered = true ∧ flipLanded (s.gang 0) 0 = true ∧ (∀ u : StreamId, (s.stream 0 0 u).fault = none) ∧
     (setsConflict ((s.core 0 0).streams.map (·.next))).isSome = true) := by decide +kernel

/-- A gang whose cores have retired, its record's FUTURE at an address, a memory. -/
def retiring (yields : Bool) (m : List Host.Cell) : State :=
  { (at0 0).updGang 0 fun g => { g with cores := g.cores.map fun k => { k with retired := some { yields := yields, operand := 7 } } } with
    mem := placedMem m 0 }

theorem witness_NodesRetire :
    (let ok (s : State) : Bool := !s.dev.off && (s.gang? 0).isSome && ((s.gang 0).cores.all fun k => k.retired.isSome) &&
       (s.part (s.gang 0).part).halt == .none && (vfRead (releaseOnly s 0 3) (s.gang 0).space (0x30000 + 112)).isSome
     let fut (s : State) : Word := ((vfRead s (s.gang 0).space (0x30000 + 24)).getD 0) &&& 0xFFFFFFFFFFF8#64
     let to40000 : Host.Cell := (0x3001A, 4)
     let looked (s : State) : State := vfTouch s (s.gang 0).space (0x30000 + 24) 8 .read
     ok (retiring true []) = true ∧ ok (retiring false []) = true ∧ fut (retiring false []) = 0 ∧ ok (retiring false [to40000]) = true ∧
     fut (retiring false [to40000]) = 0x40000 ∧
     (let s := retiring false [to40000]
      let s := looked s
      okAnd (futureAccess s (whoStream s 0 0) 0x40000 futureKind) (fun y => okAnd (resolveBy y.2.2 0 (s.gang 0).space 0x40000 y.1 1 7) fun z =>
        z.2.isEmpty && (vfRead z.1 (s.gang 0).space (0x30000 + 112)).isSome) = true) ∧
     (let s := looked (retiring false [to40000, (0x40007, 0x40)])
      okAnd (futureAccess s (whoStream s 0 0) 0x40000 futureKind) (fun y => errAnd (resolveBy y.2.2 0 (s.gang 0).space 0x40000 y.1 1 7) fun t =>
        t.cause == 0x0C) = true)) := by decide +kernel

/-- A partition of benches 0 to 8 whose function's slice runs, with one ready node at 0x30080. -/
def dispatching : State :=
  let s := placeFor State.reset .sc 0
  ((s.setGang 0 none).updPart 0 fun p => { p with
    bench := 0x1FF, granted := some 0, pool := [{ node := 0x30080, vf := 0, ready := 1, prio := 4, passes := 0 }] }).updVf 0 fun f =>
      { f with partEn := true }

theorem witness_NodesPlaced :
    (let s := { dispatching with dev := { dispatching.dev with ready := true } }
     let e : PoolEntry := { node := 0x30080, vf := 0, ready := 1, prio := 4, passes := 0 }
     s.dev.off = false ∧ s.dev.ready = true ∧ (s.part 0).halt = .none ∧ (s.part 0).barrier = false ∧ (s.part 0).granted = some 0 ∧
     e ∈ (s.part 0).pool ∧ freeBenches s 0 = [0, 1, 2, 3, 4, 5, 6, 7, 8] ∧ (readRecord s (s.entrySpace e) 0x30080).isSome = true ∧
     e.runsOn 8 = true ∧ isLean 8 = true ∧
     ((readRecord s (s.entrySpace e) 0x30080).map fun d => (savedOf s 0 0x30080 d).isNone) = some true) := by
  decide +kernel

/-- CP of core 0 of a lean bench waits for an extended one, in a partition with some benches. -/
def moving (benches : Word) : State :=
  let s := placeFor State.reset .cp 0
  ((s.setGang 8 (some { s.gang 0 with stop := .migrate 0 2 })).setGang 0 none).updPart 0 fun p => { p with bench := benches }

theorem witness_NodesPlaced_migration :
    (let ok (s : State) : Bool := !s.dev.off && (s.gang? 8).isSome && (s.gang 8).stop == .migrate 0 2 && !(s.gang 8).halted &&
       (s.gang 8).cores.all fun k => k.results.isEmpty && k.longs.isEmpty && k.copies.isEmpty
     ok (moving 0x100) = true ∧ (partBenches (moving 0x100) 0).all isLean = true ∧ ok (moving 0x101) = true ∧
     (0 : BenchId) ∈ partBenches (moving 0x101) 0 ∧ (moving 0x101).gang? 0 = none ∧ isLean 0 = false) := by decide +kernel

theorem witness_Launches :
    (let s := State.reset.updVf 95 fun f => { f with lq := { f.lq with base := 0x40, head := 5, tail := 6 } }
     s.dev.off = false ∧ s.dev.ready = false ∧ ({ s.dev with ready := true } : Device).off = false ∧ (95 : VfId).toNat < 96 ∧ ((21 : BitVec 32) - (s.vf 95).lq.head).toNat ≤ 2 ^ (s.vf 95).lq.log2n ∧
     2 ^ (s.vf 95).lq.log2n < ((22 : BitVec 32) - (s.vf 95).lq.head).toNat) := by decide +kernel

/-- A launch ring of function 0 at 0x40000 with one record, and a memory. -/
def launching (m : List Host.Cell) (base : BitVec 36) : State :=
  let s := placeFor State.reset .sc 0
  { (s.setGang 0 none).updVf 0 fun f => { f with partEn := true, lqEn := true, lq := { f.lq with base := base, tail := 1 } } with
    mem := placedMem m 0, dev := { s.dev with ready := true } }

theorem witness_Launches_records :
    (let ring (s : State) : Bool := s.dev.ready && (s.vf 0).lqEn && (s.vf 0).launching.isEmpty && (s.vf 0).requests.isEmpty &&
       (s.vf 0).lq.head != (s.vf 0).lq.tail
     let record (s : State) : Option (List Word) := launchRecord s 0 (2 ^ 12 * (s.vf 0).lq.base.toNat)
     let node (l : List Word) : Nat := bits (l[0]!) 7 41 * 2 ^ 7
     let pending : List Host.Cell := [(0x30090, 2), (0x40000, 0x80), (0x40002, 3)]
     let good (s : State) : Bool := ring s && (record s).any launchOk
     ring (launching [] 0x40) = true ∧ record (launching [] 0x80000000) = none ∧
     (record (launching [(0x40000, 1)] 0x40)).map launchOk = some false ∧ good (launching [] 0x40) = true ∧
     ((record (launching [] 0x40)).bind fun l => readRecord (launching [] 0x40) ((launching [] 0x40).space 0) (node l)).isSome = true ∧
     ((record (launching pending 0x40)).bind fun l => (readRecord (launching pending 0x40) ((launching pending 0x40).space 0) (node l)).map fun d => bits (d[2]!) 0 32) = some 2 ∧
     ((record (launching [(0x40005, 0x80)] 0x40)).map fun l => (readRecord (launching [(0x40005, 0x80)] 0x40) ((launching [(0x40005, 0x80)] 0x40).space 0) (node l)).isSome) = some false) := by
  decide +kernel

/-- A launch-validation table at 0x40000 whose first entry admits tenant 3 to function 0 for one range of nodes, and an open
window. -/
def requests (en : Bool) : State :=
  let s := launching [(0x40000, 3), (0x40007, 0x80), (0x40008, 1), (0x40010, 0x80), (0x40019, 1)] 0x40
  { s.updPart 0 fun p => { p with windows := p.windows.set 2 { ctl := 0x8800000300000000 } } with
    dev := { s.dev with lvtEn := en, lvtBase := 0x200 } }

theorem witness_Launches_requests :
    (let s := requests true
     let entry (j : Nat) : Word := BitVec.ofNat 64 (physRead s (2 ^ 9 * s.dev.lvtBase.toNat + 8 * j) 8)
     s.links.tilrak.getLsbD 15 = true ∧ s.links.eth.getLsbD 11 = true ∧ s.dev.lvtEn = true ∧ (entry 0).getLsbD 63 = true ∧
     (entry 0).extractLsb' 0 16 = (3 : BitVec 16) ∧ (entry 0).extractLsb' 16 40 = 0 ∧ ((entry 0).extractLsb' 56 7).toNat < 96 ∧
     (entry 1).toNat = 1 ∧ (entry 2).toNat = 0x80 ∧ (entry 3).toNat = 0x100 ∧ (∀ j : Fin 30, entry (34 + j.val) = 0) ∧
     (s.vf 0).partEn = true ∧ ((s.part 0).windows[2]).ctl.getLsbD 63 = true ∧ ((s.part 0).windows[2]).ctl.getLsbD 59 = true ∧
     ((s.part 0).windows[2]).ctl.extractLsb' 32 16 = (3 : BitVec 16) ∧ (requests false).dev.lvtEn = false) := by decide +kernel

theorem witness_HaltsStopUnits :
    (let s := (at0 0).updPart 0 fun p => { p with halt := .raised }
     s.dev.off = false ∧ (s.part 0).halt = .raised ∧ (s.gang? 0).isSome = true ∧ (s.gang 0).part = 0 ∧
     (s.part 0).tq.used + (haltRecords (s.updGang 0 fun g => { g with cores := g.cores.map Core.completeIssued }) 0).length ≤
       2 ^ (s.part 0).tq.log2n ∧ (s.part 0).tq.log2n < 32) ∧
    (let s := (at0 3 fun k => { k with copies := [storeCopy 1 0] }).updGang 0 fun g => { g with halted := true }
     (s.core 0 0).copies = [storeCopy 1 0] ∧ (s.gang 0).halted = true ∧ todoCount (storeCopy 1 0).todo ≠ 0) ∧
    (let s := ctx0 id
     let r := runOf s
     s.colRun 0 = some r ∧ r.prog.part = 0 ∧ r.done = 0 ∧ r.halted = false ∧ r.fault = none ∧ (s.part 0).halt = .none ∧
     (s.part 0).granted ≠ some r.prog.vf ∧ ((s.updPart 0 fun p => { p with halt := .reached }).part 0).halt = .reached) := by
  decide +kernel

theorem witness_PartitionCommands :
    (let s := ((at0 0).updGang 0 fun g => { g with halted := true }).updPart 0 fun p => { p with halt := .reached }
     s.dev.off = false ∧ (s.part 0).halt = .reached ∧ (∀ q : CoreId, (s.core 0 q).copies = []) ∧ (s.gang 0).part = 0 ∧
     ((vfRead s (s.gang 0).space ((s.gang 0).record.toNat + 24)).getD 0) &&& 0xFFFFFFFFFFF8#64 = 0 ∧
     (vfRead s (s.gang 0).space ((s.gang 0).record.toNat + 112)).isSome = true ∧ (s.gang 0).haltCause = none) ∧
    (let i : StopInfo := { cause := 0x19, slot := 0, pc := 0, addr := 0, aux0 := 0, aux1 := 0 }
     let s := (at0 0).updGang 0 fun g => { g with stop := .masked 0 0 i true }
     (s.part 0).halt = .none ∧ (s.gang 0).part = 0 ∧ (s.gang 0).stop = .masked 0 0 i true) ∧
    ((atS 0 fun st => { st with wait := .pageFault }).stream 0 0 0).wait = .pageFault ∧
    (let k := { storeCopy 1 0 with state := .paused }
     let s := at0 3 fun y => { y with copies := [k] }
     (s.core 0 0).copies = [k] ∧ k.stream = (3 : BitVec 64).extractLsb' 0 2 ∧ BitVec.ofNat 32 k.num = (1 : BitVec 32)) ∧
    (let s := (ctx0 fun r => { r with wait := .pageFault })
     (runOf s).wait = .pageFault ∧ s.colRun 0 = some (runOf s) ∧ (runOf s).prog.part = 0) ∧
    (let s := (ctx0 id).updScx 0 fun y => { y with busy := true, paused := true }
     (s.scx[0]).part = 0 ∧ (s.scx[0]).busy = true ∧ (s.scx[0]).paused = true) ∧
    (let s := (at0 0).updVf 0 fun f => { f with saveCount := 1 }
     (s.gang 0).halted = false ∧ (s.gang 0).stop = .none ∧ 0 < (s.vf 0).saveCount.toNat ∧ (s.vf 0).saved = [] ∧ (s.gang 0).vf.toNat < 96 ∧
     (s.part 0).halt = .none ∧ ((s.updPart 0 fun p => { p with halt := .reached }).part 0).halt ≠ .none ∧
     ∀ q : CoreId, (s.core 0 q).results = [] ∧ (s.core 0 q).longs = [] ∧ (s.core 0 q).copies = []) ∧
    ((at0 0).vf 0).saveCount.toNat = 0 := by decide +kernel

/-- Function 5 of partition 0 has a record to launch; so has function 7, or not. -/
def workFor (two : Bool) : State :=
  let s := State.reset.updVf 5 fun f => { f with partEn := true, lqEn := true, lq := { f.lq with tail := 1 } }
  let s := if two then s.updVf 7 fun f => { f with partEn := true, lqEn := true, lq := { f.lq with tail := 1 } } else s
  { s with dev := { s.dev with ready := true } }

theorem witness_SlicesAndBarriers_turns :
    (let s := workFor true
     s.dev.off = false ∧ (5 : VfId).toNat < 96 ∧ s.dev.ready = true ∧ (s.part 0).granted = none ∧ hasWork s 0 5 = true ∧
     hasWork s 0 7 = true ∧ (s.vf 5).saved = [] ∧ (s.part 0).lastVf = none ∧
     ((List.range 96).all fun w => !hasWork s 0 (BitVec.ofNat 7 w) || decide (5 ≤ w)) = true) ∧
    (let s := (workFor false).updPart 0 fun p => { p with granted := some 5 }
     (s.part 0).granted = some 5 ∧ ((List.range 96).all fun w => !hasWork s 0 (BitVec.ofNat 7 w) || decide (w = 5)) = true) ∧
    (let s := (workFor false).updVf 7 fun f => { f with partEn := true, bucket := 999 }
     (s.vf 7).partEn = true ∧ (s.vf 7).lq.head = (s.vf 7).lq.tail ∧ (s.vf 7).requests = [] ∧ (s.vf 7).launching = [] ∧
     hasNodes s 7 = false ∧ (s.vf 7).bucket.toNat < (s.vf 7).slice.toNat) := by decide +kernel

/-- A gang whose function's slice has ended, its cores at JOIN or at an epilogue's end, its record's EPI set, with a free
slot. -/
def sliceEnded (epilogue : Bool) : State :=
  let sc (st : Stream) : Stream := { st with status := .running, wait := .join }
  let ld (st : Stream) : Stream := { st with status := .running, wait := if epilogue then .epilogue 0x20000 2 else .none
                                             loops := [{ frame true true 4 3 0 with pre := true }] }
  let core (k : Core) : Core := { k with streams := (k.streams.set 0 (sc k.streams[0])).set 1 (ld k.streams[1]) }
  let s := ((at0 0).updGang 0 fun g => { g with epilogue := epilogue, pre := true, cores := g.cores.map core }).updVf 0 fun f => { f with saveCount := 1 }
  { s with mem := placedMem [(0x30014, 2)] 0 }

theorem witness_SlicesAndBarriers_images :
    (let ok (s : State) : Bool := (s.gang? 0).isSome && (s.gang 0).vf == 0 && !(s.gang 0).halted && (s.gang 0).stop == .none &&
       (s.part 0).granted.isNone && (s.vf 0).saveCount == 1 && (s.vf 0).saved.isEmpty &&
       (s.gang 0).pre && (readRecord s (s.gang 0).space 0x30000).isSome &&
       ((s.gang 0).cores.all fun k => k.results.isEmpty && k.longs.isEmpty && k.copies.isEmpty)
     ok (sliceEnded false) = true ∧ (∀ c : CoreId, ((sliceEnded false).stream 0 c 0).wait = .join ∧ ((sliceEnded false).stream 0 c 2).status = .idle ∧
       ((sliceEnded false).stream 0 c 1).loops.map (·.pre) = [true]) ∧
     ok (sliceEnded true) = true ∧ ((sliceEnded true).gang 0).epilogue = true ∧
     (∀ c : CoreId, ((sliceEnded true).stream 0 c 0).wait = .join ∧ ((sliceEnded true).stream 0 c 1).wait = .epilogue 0x20000 2 ∧
       ((sliceEnded true).stream 0 c 2).status = .idle ∧ ((sliceEnded true).stream 0 c 3).status = .idle)) := by decide +kernel

theorem witness_SlicesAndBarriers_barrier :
    (let s (gen : BitVec 16) := State.reset.updPart 0 fun p => { p with barrier := true, gen := gen, shbase := 0x40, shlo := 1, shhi := 1 }
     (∀ gen ∈ [0, 65535], let s := s (BitVec.ofNat 16 gen)
      s.dev.off = false ∧ (s.part 0).barrier = true ∧ s.benches.all (·.isNone) = true ∧ (s.vfs.all fun f => f.saved.isEmpty) = true ∧
      (s.part 0).waiting = [] ∧ (s.part 0).pool = [] ∧ (s.part 0).numbers = []) ∧ (s 0xFFFF |>.part 0).gen = 0xFFFF) := by
  decide +kernel

theorem witness_HostRegisters :
    (let s := at0 0
     s.dev.off = false ∧ (95 : VfId).toNat < 96 ∧ partIdle s 0 = false ∧ partIdle State.reset 0 = true ∧
     ({ s.dev with ready := true } : Device).ready = true ∧ State.reset.dev.ready = false ∧ (s.gang 0).stop = .none ∧ (s.vf 95).ctxPend = false ∧ (((0xFFFFFFFFFFFFFFFF : Word)).getLsbD 62 = true) ∧
     ((State.reset.updVf 95 fun f => { f with ctxPend := true }).vf 95).ctxPend = true ∧
     regAt .pf0 0x200004 = none ∧ regAt .pf0 4 = none ∧ regAt .pf0 0x1FF000 = none) ∧
    (let s := State.reset.updPart 1 fun p => { p with bench := 1 }
     s.dev.benchmap.getLsbD 63 = true ∧ (s.part 1).bench.getLsbD 0 = true ∧ (s.part 0).bench = 0 ∧ (0 : BenchId).getLsbD 3 = false ∧
     (State.resetOf .zp448 1 0 (Vector.replicate 8 1)).dev.benchmap.getLsbD 1 = false) ∧
    (let s := State.reset.updPart 0 fun p => { p with windows := (p.windows.set 63 { ctl := 0x8000000000000001 }).set 0 { base := 0xFFFFFFFF0000 } }
     ((s.part 0).windows[63]).ctl.getLsbD 63 = true ∧ ((s.part 0).windows[0]).ctl.getLsbD 63 = false ∧
     2 ^ 16 * ((((s.part 0).windows[0]).base.extractLsb' 16 32).toNat + ((1 : Word).extractLsb' 0 32).toNat) = 2 ^ 48 ∧
     2 ^ 48 < 2 ^ 16 * ((((s.part 0).windows[0]).base.extractLsb' 16 32).toNat + ((2 : Word).extractLsb' 0 32).toNat) ∧
     (0x8000000000000000 : Word).extractLsb' 0 32 = 0) ∧
    (let d : FmtRegion := { base := 0, limit := 3, store := 0x100 }
     d.base.toNat / 2 ^ 21 = 0 ∧ d.limit.toNat / 2 ^ 21 = 0 ∧ (d.limit.toNat - d.base.toNat + 1) % 4 = 0 ∧
     (d.store.toNat + 3 * (d.limit.toNat - d.base.toNat + 1) / 4 - 1) / 2 ^ 21 = 0 ∧ -12 ≤ (12 : BitVec 5).toInt ∧
     (12 : BitVec 5).toInt ≤ 12 ∧ 12 < (13 : BitVec 5).toInt ∧ ({ d with limit := 4 } : FmtRegion).limit.toNat % 4 = 0) ∧
    (0x3000000000 : Word).getLsbD 36 = true ∧ (0x1200000000 : Word).getLsbD 33 = true := by decide +kernel

/-- A unit of a put, or of a get, at an offset of a window of one 64 KiB granule. -/
def unitAt (put : Bool) (off : Nat) : UnitMsg :=
  { isPut := put, peer := 1, tenant := 3, part := 0, win := 2, cells := [(off, 9)], xfer := 0, total := 1 }

theorem witness_UnitsArrive :
    (let s := ((at0 0).updPart 0 fun p => { p with granted := some 0, windows := p.windows.set 2 { base := 0x40000, ctl := 0xB000000300000001 } })
     let opens (u : UnitMsg) : Prop := let win := (s.part u.part).windows[u.win.toFin]
       win.ctl.getLsbD 63 = true ∧ win.ctl.getLsbD (if u.isPut then 61 else 60) = true ∧
       win.ctl.extractLsb' 32 16 = u.tenant ∧ ∀ c ∈ u.cells, c.1 < 2 ^ 16 * (win.ctl.extractLsb' 0 32).toNat
     s.dev.off = false ∧ opens (unitAt true 0xFFFF) ∧ opens (unitAt false 0) ∧ ¬ opens (unitAt true 0x10000) ∧
     ¬ opens { unitAt true 0 with tenant := 4 } ∧
     okAnd (homeAccess s (whoWindow s 0) 0x4FFF8 8 .write false) (fun y => y.1 == 0x4FFF8 && decide (y.2.links = s.links ∧ y.2.parts = s.parts)) = true ∧
     okAnd (homeAccess s (whoWindow s 0) 0x40000 8 .read false) (fun y => y.1 == 0x40000) = true) := by decide +kernel

/-- A unit that a copy of LD, or a CSEND, sent to a neighbour, and the copy that asked. -/
def outUnit (o : Origin) (eth : Bool) : OutUnit := { tag := 7, origin := o, eth := eth, dest := 5, msg := unitAt true 0x40000 }

theorem witness_LinksAndFailures :
    (let k := { storeCopy 1 0 with stream := 1, todo := [], asked := [(0, 7)], kind := .toScratch 0x1000 }
     let s := at0 1 fun y => { y with copies := [k] }
     s.dev.off = false ∧ s.links.out = [] ∧ (s.gang? 0).isSome = true ∧ (s.core 0 0).copies = [k] ∧ k.asked = [(0, 7)] ∧
     k.state = .active ∧ (∀ c : CoreId, c ≠ 0 → (s.core 0 c).copies = []) ∧ (s.part (s.gang 0).part).halt = .none ∧
     s.benches.toList.tail.all (·.isNone) = true) ∧
    (∀ eth : Bool,
      (let u := outUnit (.copy 5 0 3 1 0x20000 0 0) eth
       let s := at0 3 fun y => { y with copies := [storeCopy 1 0] }
       let s := { s with links := { s.links with out := [u], tilrak := 1, eth := 1 } }
       s.links.out = [u] ∧ (s.gang? 0).isSome = true ∧ (s.gang 0).part = 0 ∧ (s.gang 0).run = 0 ∧ s.benches.toList.tail.all (·.isNone) = true ∧
       (s.core 0 0).copies = [storeCopy 1 0] ∧ (storeCopy 1 0).stream = 3 ∧ (storeCopy 1 0).xfer = u.msg.xfer ∧ (s.links.setPort u.eth 0 false).reaches u.eth u.dest = false) ∧
      (let s := ctx0 id
       let r := runOf s
       s.colRun 0 = some r ∧ r.prog.num = 1 ∧ r.halted = false ∧ r.fault = none)) := by decide +kernel

theorem witness_DeviceStarts : ({ State.reset with dev := { State.reset.dev with off := true } } : State).dev.off = true ∧
    classOf .tlbInvalidate = .event ∧ Instr.tlbInvalidate ≠ .coldStart ∧ State.reset.dev.lc ≠ 2 ∧ State.reset.dev.off = false ∧
    ({ State.reset.dev with lc := 2 } : Device).lc = 2 ∧ (0x8000000000000000 : Word).getLsbD 63 = true ∧ (0 : Word).getLsbD 63 = false ∧
    (0x4000000000000000 : Word).getLsbD 62 = true ∧ (1 : Word).getLsbD 0 = true ∧ ({ State.reset.dev with stage := 15 } : Device).stage = 15 ∧
    State.reset.dev.recLen.toNat ≤ 2 ^ 26 := by decide +kernel

/-- One of the cases of a cold start holds, whatever the image read and its checks (log 5). -/
theorem witness_DeviceStarts_images (n : Nat) : Config.flashImage n = none ∨ ∃ f, Config.flashImage n = some f ∧
    (Config.imageCheck 1 f ≠ 0 ∨ Config.imageCheck 1 f = 0) := by
  cases h : Config.flashImage n with
  | none => exact .inl rfl
  | some f => exact .inr ⟨f, rfl, (Decidable.em (Config.imageCheck 1 f = 0)).symm⟩

theorem witness_DebugAccess :
    (let d := State.reset.dev
     d.off = false ∧ d.lc.toNat < (2 : BitVec 2).toNat ∧ (2 : BitVec 2).toNat ≤ 2 ∧ d.lc.toNat < 2 ∧ ([] : List Byte).length ≤ 4096 ∧
     ({ d with dbg := 2, tokMask := 1, ready := true } : Device).tokMask.getLsbD 0 = true ∧ ({ d with dbg := 2, lc := 0 } : Device).dbg = 2 ∧ d.dbg ≠ 2 ∧
     0x29FFFF < ((at0 0).gang 0).scratchSize ∧ (State.reset.quads[0]).pwr = 0) ∧
    (let s := (at0 0).updGang 0 fun g => { g with halted := true }
     s.gang? (s.part 0).ctxsel = some (s.gang 0) ∧ (s.gang 0).part = 0 ∧ (s.gang 0).halted = true ∧ (31 : BitVec 5).toNat < (s.gang 0).vcount) ∧
    ((at0 0).gang 0).halted = false ∧ ((at0 0).gang 0).stop = .none ∧
    (let d : Device := { State.reset.dev with dbg := 2, lc := 1, tokMask := 3 }
     let m (x : Word) : Word := ((State.reset.updPart 0 fun p => { p with bench := x }).part 0).bench
     d.dbg = 2 ∧ m 1 ≠ 0 ∧ m 1 &&& ~~~d.tokMask = 0 ∧ m 4 &&& ~~~d.tokMask ≠ 0 ∧ (0x5000000000000000 : Word).extractLsb' 60 4 = (5 : BitVec 4)) ∧
    ((State.reset.updQuad 3 fun q => { q with pwr := 2 }).quads[3]).pwr = 2 := by decide +kernel

theorem witness_PowerEvents :
    (let s := (at0 0).updPart 0 fun p => { p with bench := 1, pwrlim := 5, step := 1 }
     let s1 := s.updQuad 0 fun q => { q with step := 1, req := 2 }
     s.dev.off = false ∧ (s.quads[0]).pwr = 0 ∧ (s.quads[1]).req = 0 ∧ (s1.quads[0]).req = 2 ∧ s.dev.lc ≠ 2 ∧ (s.gang? 0).isSome = true ∧
     (s.part 0).bench.getLsbD 0 = true ∧ s.dev.benchmap.getLsbD 0 = true ∧ (s1.quads[0]).step ≠ 0 ∧ (s1.quads[0]).fall = false ∧
     (s.part 0).permits = 64 ∧ ((s.updPart 0 fun p => { p with permits := 1 }).part 0).permits = 1 ∧ (s.quads[0]).step = 0 ∧
     8 ≤ (s.part 0).permits ∧ (s.part 0).pwrlim.toNat ≠ 0 ∧ (s.part 0).pwrlim.toNat < 6 ∧ (s.part 0).halt = .none ∧
     ({ s.dev with pkgpwr := 3000 } : Device).pkgpwr.toNat < 3001 ∧ (s.gang 0).part = 0 ∧
     (∀ i : BitVec 2, (s.colRun i).isNone = true)) := by decide +kernel

theorem witness_EnginesAct :
    (let go (src : Word) (len : BitVec 32) : State := (at0 0).updScx 3 fun y => { y with src := src, dst := 0x40040, len := len }
     let vf (x : Word) : BitVec 7 := x.extractLsb' 32 7
     (go 0x40000 8).dev.off = false ∧ ((go 0x40000 8).scx[3]).busy = false ∧ (0x8000007F00000000 : Word).getLsbD 63 = true ∧
     vf 0x8000007F00000000 = 127 ∧ (vf 0x8000005F00000000).toNat = 95 ∧ 96 ≤ (vf 0x8000006000000000).toNat ∧
     ((go 0x40004 8).scx[3]).src.toNat % 8 ≠ 0 ∧ ((go 0x40000 0).scx[3]).len = 0 ∧ ((go 0x40000 8).scx[3]).len ≠ 0) ∧
    (let s := (at0 0).updScx 3 fun y => { y with src := 0x40000, dst := 0x40040, len := 8, busy := true, todo := [(0, 1)] }
     (s.scx[3]).busy = true ∧ (s.scx[3]).paused = false ∧ (s.scx[3]).todo = [(0, 1)] ∧
     okAnd (homeAccess s (whoScx s 3) 0x40000 8 .read false) (fun y => okAnd (homeAccess y.2 (whoScx s 3) 0x40040 8 .write false) fun z =>
       decide (z.2.scx = s.scx)) = true) ∧
    (∀ n : BitVec 2, (((at0 0).updQuad 0 fun q => { q with mnt := n }).quads[0]).mnt = n) ∧
    (let s := at0 3 fun y => { y with copies := [storeCopy 1 0] }
     s.moving 0 = true ∧ (s.stream 0 0 3).status = .running ∧ (s.stream 0 0 3).fault = none ∧ (s.part 0).halt ≠ .reached ∧
     State.reset.dev.stage ≠ 6 ∧ State.reset.dev.ready = false ∧ ({ s.dev with ready := true } : Device).ready = true ∧
     (s.core 0 0).copies = [storeCopy 1 0]) ∧
    (let s := (at0 0).updCtx 1 fun c => { c with pend := some { placedRun.prog with args := 0x40000 } }
     (s.colRun 1).isNone = true ∧ (s.ctxs[1]).saved = [] ∧ (s.ctxs[1]).pend.isSome = true ∧ (s.part 0).halt = .none ∧
     (0x40000 : Word).toNat % 8 = 0 ∧
     okAnd (loadArgs 1 (newRun { placedRun.prog with args := 0x40000 }) (s.updCtx 1 fun c => { c with pend := none, flg := 0 }) 15 0)
       (fun _ => true) = true) := by decide +kernel

theorem witness_ScalarWordsFrame : ready (at0 3) 3 = true ∧ after (exec (.addi 1 5 5 1) (at0 3)) (fun _ => true) = true ∧
    after (exec (.cmp 1 7 0 1 2 0) (at0 3)) (fun _ => true) = true ∧ after (exec (.pbr 1 7 1) (at0 3)) (fun _ => true) = true ∧
    after (exec (.lds 1 3 1 3 0 1 0) (atS 0 fun st => withSets (regs 0x1000 5 st))) (fun _ => true) = true ∧
    after (exec (.sts 1 2 1 3 1 0) (atS 0 fun st => withSets (regs 0x1000 5 st))) (fun _ => true) = true ∧
    (let s := atS 0 (regs 0x40000 5)
     after (exec (.sts 1 2 1 3 0 0) s) (fun s' => okAnd (homeAccess s (whoStream s 0 0) 0x40000 8 .write false) fun y => y.1 == 0x40000 &&
       decide ((y.2.stream 0 0 0).fault = (s'.stream 0 0 0).fault)) = true ∧
     after (exec (.amo 8 3 0 3 3 1 2) s) (fun s' => okAnd (homeAccess s (whoStream s 0 0) 0x40000 8 .update true) fun y => y.1 == 0x40000 &&
       decide ((y.2.stream 0 0 0).fault = (s'.stream 0 0 0).fault)) = true) := by decide +kernel

theorem witness_TileWordsFrame : inCp tiles 2 (.vf32 1 4 1 2 0 0) = true ∧ classOf (.vf32 1 4 1 2 0 0) = .c ∧
    after (exec (.vf32 1 4 1 2 0 0) tiles) (fun _ => true) = true := by decide +kernel

theorem witness_MemoryReadsWrites : (at0 0).memWf ∧ 0x7FFFFFFFF8 + 8 ≤ 2 ^ 39 ∧ Memory.wf [(0, 1), (5, 2)] = true ∧
    Memory.wf [(0, 1), (5, 0)] = false := by unfold State.memWf; decide +kernel

theorem witness_EncodingsAgree : classOf (.mche 1 7 31 11 4) ≠ .event ∧ WellFormed (.mche 1 7 31 11 4) ∧ classOf (.cbw 64 2) ≠ .event ∧ WellFormed (.cbw 64 2) := by
  unfold WellFormed; decide +kernel

theorem witness_StepsRunWords :
    (let s := { at0 0 with agenda := [.event .powerOff] }
     (nextTurn s).1 = .event .powerOff ∧ classOf .powerOff = .event) ∧
    (let s := { at0 3 with agenda := [.stream 0 0 3], mem := placedMem [] 0x5A111000 }
     (nextTurn s).1 = .stream 0 0 3 ∧ (nextTurn s).2.canIssue 0 0 3 = true ∧ (nextTurn s).2.canIssue 0 0 1 = false ∧
     ((fetchWord s (whoStream s 0 0) 0x20000).map fun y => decode .st y.1) = some (.ok (.vst 2 4 8 0 0)) ∧
     (fetchWord s (whoStream s 0 0) 0x8000000000000000).isNone = true ∧ (fetchWord s (whoStream s 0 0) 0x20002).isNone = true ∧
     errAnd (homeAccess s (whoStream s 0 0) 0x40000000 4 .fetch false) (fun f => f == .page 0 1) = true) ∧
    (let s := { ctx0 id with agenda := [.context 0], mem := placedMem [] 0x9A000000 }
     (nextTurn s).1 = .context 0 ∧ (runOf s).ready = true ∧
     ((fetchWord s (whoContext s 0 (runOf s).prog) (runOf s).pc).map fun y => decode .col y.1) = some (.ok .cend)) := by decide +kernel

theorem witness_StepKeepsMemory : (State.reset.withFetchWord 32 0x1A46789A).memWf ∧
    after (step (State.reset.withFetchWord 32 0x1A46789A)) (fun s => Memory.wf s.mem) = true := by unfold State.memWf; decide +kernel

theorem witness_StepKeepsBounds : (let s := State.reset.withFetchWord 32 0x1A46789A
     (∀ v : Fin 96, 100 ≤ (s.vfs[v]).slice.toNat ∧ (s.vfs[v]).saveCount.toNat ≤ 64) ∧ (s.parts.all fun p => decide (p.permits ≤ 64)) = true) ∧
    after (step (State.reset.withFetchWord 32 0x1A46789A)) (fun _ => true) = true := by decide +kernel

/-! ### More of them: each clause that has hypotheses of its own -/

/-- Transfers where a loop is active: BRL to an address that does and does not end the body, and BR of called code. -/
theorem witness_Branches_called : ∀ k inner ends : Bool,
    (let f : LoopFrame := { frame k false 4 3 0 with first := if inner then 0x20000 else 0x30000, last := if inner then 0x20010 else 0x30010 }
     let a : Word := if ends then f.last else 0x20044
     let s := inBody f a
     let x := s.issuing 0 0 0 1
     let linked := x.upd s fun y => y.setS 31 ((s.stream 0 0 0).pc + 4)
     s.alone 0 0 0 ∧ (s.stream 0 0 0).pred 0 = true ∧ (s.stream 0 0 0).loops = [f] ∧ (s.stream 0 0 0).breg 1 = a ∧
     (f.first.toNat ≤ (s.stream 0 0 0).pc.toNat ↔ inner = true) ∧ (a = f.last ↔ ends = true) ∧
     fetchable (x.closed linked) (whoStream (x.closed linked) 0 0) a = true ∧
     fetchable (x.closed s) (whoStream (x.closed s) 0 0) a = true) := by decide +kernel

/-- CP holds a PSEL and is to perform the last word of its bundle, in a slot. -/
def selects (n : Nat) (i : Instr) (u v z : BitVec 1) : Bool :=
  let s := (selected u v z).updCore 0 0 fun k => { k with q := k.q.set 2 { cfg := 0x4000 } }
  let st := s.stream 0 0 2
  let x : Ctx := { s.issuing 0 0 2 n with next := st.pc + 8, word := st.pc + 4, sel :=
    { blocked := v == 1 && !st.k.getLsbD 1, pred := if u = 1 then some ((s.core 0 0).p[1]).vis else none, zero := z == 1 } }
  decide (s.performs 0 0 2 ∧ classOf i = .c ∧ (rawOf i).getLsbD 25 = true ∧ slotClaim (rawOf i) = n ∧ st.sxOnly = false) &&
    specOk (s.gang 0).vcount i && (groupStop x s i).isNone && mayGo x s &&
    (match wordEffect i x s with
      | .ok _ => v == 1
      | .ring s' e => v == 0 && mayGo x s' [(n, e)]
      | _ => false)

theorem witness_BundlesForm_selections : ∀ u v z : BitVec 1,
    (selects 2 (.vf32 1 4 1 2 0 0) u v z && selects 2 (.vf32 1 32 1 2 0 0) u v z && selects 2 (.vfcmp 1 3 1 2 0 0) u v z &&
     selects 3 (.vmoveImm 1 54 5) u v z == false && selects 2 (.vmoveImm 1 54 5) u v z && selects 2 (.vtrg 1 0 2) u v z) = true ∧
    (selected u v z).performs 0 0 2 ∧ ((selected u v z).core 0 0).p[3].written = false := by decide +kernel

theorem witness_AtomicsAndOrdering_sizes :
    (let s := atS 0 (regs 0x40000 5)
     (∀ n ∈ [1, 2, 4, 8, 16], ∀ k ∈ [AccKind.read, .write, .update],
       okAnd (homeAccess s (whoStream s 0 0) 0x40000 n k true) (fun y => y.1 == 0x40000) = true)) ∧
    (0x40002 : Word).toNat % 4 ≠ 0 ∧ (0x40008 : Word).toNat % 16 ≠ 0 ∧ 2 ≤ (2 : BitVec 2).toNat ∧
    (let s := { at0 0 with tlb := [{ unit := 0, root1 := ((at0 0).gang 0).root, root2 := (((at0 0).vf 0).s2root.setWidth 64) <<< 12
                                     vpage := 4, ppage := apertureBase / 2 ^ 16, rd := true, wr := true, ex := true, chk := false }] }
     okAnd (translate s (whoStream s 0 0) 0x40000) (fun y => decide (apertureBase ≤ y.1.pa)) = true) := by decide +kernel

theorem witness_Futures_protection :
    (let s := held true false false
     errAnd (recordAt (s.issuing 0 0 0 0) s 0x40000 (registerKind s (whoStream s 0 0) 0x40000 0x40000)) (fun f => f == .prot)) = true ∧
    (0x40000 : Word).toNat % 128 = 0 ∧ (held true false false).alone 0 0 0 := by decide +kernel

/-- A program pends on a context: it must wait for one that runs, and need wait for none. -/
theorem witness_ProgramsAndQueries_pending : ∀ runs : Bool,
    (let s := (at0 0).updCtx 1 fun c => { c with pend := some placedRun.prog, run := if runs then some placedRun else none }
     ready s 0 0 = true ∧ (s.ctxs[1]).pend.isSome = true ∧ (s.ctxs[1]).run.isSome = runs ∧ (s.ctxs[1]).saved.isEmpty = true) := by
  decide +kernel

/-- QLD: a queue with room or none, formats that differ or are refused, other streams at the flip or not, copies outstanding. -/
def qldState (depth n copies : Nat) (cfg : Nat) : State := at0 1 fun k => { k with
  q := k.q.set 0 { cfg := BitVec.ofNat 18 (2 ^ 13 * depth + cfg), entries := List.replicate n { landed := true, tile := 0, id := 0 } }
  copies := ((batches copies false).core 0 0).copies, streams := k.streams.set 1 (boxedAs 0 0x40000 k.streams[1]) }

theorem witness_OtherCopies_full_queue :
    (let core (s : State) := s.core 0 0
     let q (s : State) := (core s).q[0]
     let shape (s : State) : Bool := let h := readBoxGroup (s.stream 0 0 1) 8
       h.1.count == 16 && h.2 == 0 && h.1.fits 4 && h.1.aligned 4 0x40000 && decide (s.alone 0 0 1)
     shape (qldState 2 1 32 0) = true ∧ (q (qldState 2 1 32 0)).depth = 2 ∧ 32 ≤ (core (qldState 2 1 32 0)).copies.length ∧
     (q (qldState 2 1 32 0)).refused = false ∧ shape (qldState 2 2 0 0) = true ∧ (core (qldState 2 2 0 0)).othersArrived 1 = true ∧
     (q (qldState 2 0 0 2)).sfmt ≠ 0 ∧ (q (qldState 2 0 0 0x0F)).refused = true ∧
     shape (qldState 2 0 0 0xF0) = true ∧ (q (qldState 2 0 0 0xF0)).sfmt = 0 ∧ (q (qldState 2 0 0 0xF0)).refused = true ∧
     ((readBoxGroup ((qldState 2 0 0 0xF0).stream 0 0 1) 8).1.aligned 4 0x40002) = false ∧
     (let s := (qldState 2 2 0 0).updStream 0 0 0 fun st => { st with status := .running }
      (core s).othersArrived 1 = false ∧ (q s).fpol = false) ∧
     (q (qldState 2 2 0 0x1000)).fpol = true ∧ (q (qldState 2 2 0 0x1000)).depth ≤ (q (qldState 2 2 0 0x1000)).entries.length) ∧
    (let s := (qldState 2 1 0 0).updStream 0 0 1 fun st => { st with wait := .reserved 7 }
     ready s 1 0 = true ∧ (s.stream 0 0 1).wait = .reserved 7 ∧ (s.core 0 0).copies = []) := by decide +kernel

/-- QST: an entry that has landed or not, or none; formats that convert; a number of copies outstanding. -/
def qstState (cfg copies : Nat) (entries : List QEntry) : State := at0 3 fun k => { k with
  q := k.q.set 2 { cfg := BitVec.ofNat 18 (0x4000 + cfg), entries := entries }
  copies := ((batches copies false).core 0 0).copies, streams := k.streams.set 3 (boxedAs 0 0x40000 k.streams[3]) }

theorem witness_OtherCopies_output_queue :
    (let landed : List QEntry := [{ landed := true, tile := 5, id := 0 }]
     let away : List QEntry := [{ landed := false, tile := 0, id := 0 }]
     let q (s : State) := (s.core 0 0).q[2]
     let shape (s : State) : Bool := let h := readBoxGroup (s.stream 0 0 3) 8
       h.1.count == 16 && h.2 == 0 && h.1.fits 4 && h.1.aligned 4 0x40000 && decide (s.alone 0 0 3) && !(q s).refused
     shape (qstState 0 0 landed) = true ∧ shape (qstState 2 0 landed) = true ∧ (q (qstState 2 0 landed)).sfmt = 2 ∧
     (q (qstState 2 0 landed)).kfmt = 0 ∧ shape (qstState 0 0 away) = true ∧ shape (qstState 0 0 []) = true ∧
     ((qstState 0 0 []).core 0 0).othersArrived 3 = true ∧ (q (qstState 0x800 0 [])).epol = true ∧
     (let s := (qstState 0 0 []).updStream 0 0 0 fun st => { st with status := .running }
      (s.core 0 0).othersArrived 3 = false ∧ (q s).epol = false) ∧
     (q (qstState 0x20 0 landed)).kfmt ≠ 0 ∧ (q (qstState 0x0F 0 [])).refused = true ∧ (q (qstState 0x0F 0 [])).kfmt = 0 ∧
     ((readBoxGroup ((qstState 0x0F 0 []).stream 0 0 3) 8).1.aligned 4 0x40002) = false ∧
     shape (qstState 0 32 landed) = true ∧ 32 ≤ ((qstState 0 32 landed).core 0 0).copies.length) ∧
    (let s := (qstState 0 0 []).updStream 0 0 3 fun st => { st with wait := .popped 5 0 }
     ready s 3 0 = true ∧ (s.stream 0 0 3).wait = .popped 5 0 ∧ (s.core 0 0).copies = []) := by decide +kernel

/-- Copy words that begin nothing: no element, a register or a group out of range; and those that wait for a place. -/
theorem witness_CopiesIssue_words : ∀ u ∈ [(1 : StreamId), 3],
    (let s := at0 u fun k => { k with q := (k.q.set 0 { cfg := 0x4000 }).set 2 { cfg := 0x4000 } }
     let h := readBoxGroup (s.stream 0 0 u) 8
     ready s u 0 = true ∧ (s.stream 0 0 u).wait = .none ∧ (s.core 0 0).copies = [] ∧ h.1.count = 0 ∧ h.2 = 0 ∧ h.1.fits 4 = true ∧
     (s.stream 0 0 u).sreg 9 = 0 ∧ (31 : BitVec 6).toNat < (s.gang 0).vcount ∧ 28 < (29 : BitVec 5).toNat ∧
     ((s.core 0 0).q[0]).sfmt = 0 ∧ ((s.core 0 0).q[2]).kfmt = 0 ∧ ((s.core 0 0).q[0]).refused = false ∧ ((s.core 0 0).q[2]).refused = false) ∧
    (let s := (atS u (boxedAs 2 0x40000)).updGang 0 fun g => { g with vcount := 24 }
     noConversion 0 (readBoxGroup (s.stream 0 0 u) 8).2 = false ∧ (s.gang 0).vcount ≤ (24 : BitVec 6).toNat) ∧
    (let s := (atS u (boxedAs 0 0x40000)).updCore 0 0 fun k => { k with copies := ((batches 32 false).core 0 0).copies }
     let i : Instr := if u = 1 then .vld 4 4 8 0 0 0 else .vst 4 4 8 0 0
     s.alone 0 0 u ∧ 32 ≤ (s.core 0 0).copies.length ∧
     performs (wordEffect i (s.issuing 0 0 u 0) (s.updCore 0 0 fun k => { k with copies := [] })) = true) := by decide +kernel

/-- An input queue that is empty, holds an entry not landed, or converts; a full output queue. -/
def queueState (cfg : Nat) (input output : List QEntry) : State := at0 2 fun k => { k with
  q := (k.q.set 0 { cfg := BitVec.ofNat 18 (0x2000 + cfg), entries := input }).set 2 { cfg := 0x2000, entries := output } }

theorem witness_OperandsAndResults_queues :
    (let e : QEntry := { landed := true, tile := 5, id := 0 }
     let q (s : State) := (s.core 0 0).q[0]
     (q (queueState 0 [] [])).refused = false ∧ (q (queueState 0 [] [])).entries.isEmpty = true ∧
     (q (queueState 2 [e] [])).refused = false ∧ (q (queueState 2 [e] [])).sfmt ≠ (q (queueState 2 [e] [])).kfmt ∧
     (q (queueState 0 [{ e with landed := false }] [])).entries.map (·.landed) = [false] ∧
     (((queueState 0 [] [e]).core 0 0).q[2]).depth ≤ (((queueState 0 [] [e]).core 0 0).q[2]).entries.length ∧
     (((queueState 0 [] [e]).core 0 0).q[2]).refused = false ∧ (((queueState 0 [] [e]).gang? 0).isSome = true)) := by decide +kernel

/-- The CPs of four cores hold accumulators of some kinds, those of cores 1 to 3 at an MRED that memory holds. -/
def rendezvous (a : CoreId → Acc) (w : Wait) : State :=
  let s := (at0 2).updGang 0 fun g => { g with
    cores := Vector.ofFn fun q => { g.cores[q] with
      acc := (g.cores[q]).acc.set 0 (a (BitVec.ofNat 2 q.val))
      streams := if q = 0 then (g.cores[q]).streams else (g.cores[q]).streams.set 2 { (g.cores[q]).streams[2] with
        status := .running, pc := 0x20000, wait := w } } }
  { s with mem := placedMem [] (rawOf (.mred 1 0)).toNat }

theorem witness_MredMeets_kinds :
    (let meets (a : CoreId → Acc) : Bool := let s := rendezvous a (.rendezvous 0)
       inCp s 4 (.mred 1 0) && (List.range 3).all (fun q => let c := BitVec.ofNat 2 (q + 1)
         atIssue s 0 c && s.atRendezvous 0 c == some 0) && (s.stream 0 0 2).wait == .none && !(s.core 0 0).busy .mred
     meets (fun _ => .opened) = true ∧ meets (fun q => if q = 2 then .idle else .opened) = true ∧
     meets (fun q => if q = 3 then .ordered [] else .opened) = true ∧ (Acc.ordered []).state ≠ Acc.opened.state) ∧
    (let s := (rendezvous (fun _ => .opened) (.rendezvous 0)).updCore 0 0 fun k => { k with
       longs := [{ kind := .mred, writes := [], flags := 0, acc := 5 }] }
     inCp s 4 (.mred 1 0) = true ∧ (s.core 0 0).busy .mred = true) := by decide +kernel

/-- No port that is up leads to the peer of the window. -/
theorem witness_CollectiveCommands_unreachable :
    (let l : Links := { apart := (List.range 16).map fun n => (false, BitVec.ofNat 4 n, 5) }
     l.reaches false 5 = false ∧ l.reaches false 6 = true ∧ l.reaches true 5 = true) := by decide +kernel

theorem witness_ResultsLand_entries :
    (let s := at0 2 fun k => { k with results := [{ writes := [], flags := 0, entry := some (2, 7) }]
                                      q := k.q.set 2 { cfg := 0x4000, entries := [{ landed := false, tile := 5, id := 7 }] } }
     s.dev.off = false ∧ ((s.core 0 0).results.map (·.entry)) = [some (2, 7)]) ∧
    (∀ kind ∈ [CopyKind.toFar, .addFar],
      (let k : Copy := { storeCopy 1 0 with kind := kind, todo := [(0, 1)] }
       let s := at0 3 fun y => { y with copies := [k] }
       k.state = .active ∧ k.fault = none ∧ k.reads = [] ∧ k.todo = [(0, 1)] ∧ k.far = .device ∧
       okAnd (homeAccess s (whoStream s 0 0) (BitVec.ofNat 64 ((k.addr 0).toNat / 8 * 8)) 8 (if kind = .toFar then .write else .update) false)
         (fun y => y.1 == 0x40000 && (y.2.part (y.2.gang 0).part).halt == .none) = true)) := by decide +kernel

/-- The future of a node lies in a checked page, which another bench wrote last. -/
theorem witness_NodesRetire_race :
    (let s : State := { retiring false [(0x3001A, 4), (0x50000, 5), (0x50003, 0x41)] with tlb := (held true true true).tlb }
     let s := s.updPart 0 fun p => { p with shbase := 0x50, shlo := 4, shhi := 4 }
     let s := vfTouch s (s.gang 0).space (0x30000 + 24) 8 .read
     errAnd (futureAccess s (whoStream s 0 0) 0x40000 futureKind) (fun f => f == .race 0x41000005) = true) := by decide +kernel

/-- The future of a node lies at an address that is not mapped. -/
theorem witness_NodesRetire_page :
    (let s := retiring false [(0x3001B, 0x40)]
     let s := vfTouch s (s.gang 0).space (0x30000 + 24) 8 .read
     ((vfRead s (s.gang 0).space (0x30000 + 24)).getD 0) = 0x40000000 ∧
     errAnd (futureAccess s (whoStream s 0 0) 0x40000000 futureKind) (fun f => f == .page 0 1) = true) := by decide +kernel

/-- The future of a node, EMPTY, lies on a page that may not be written. -/
theorem witness_NodesRetire_protection :
    (let s : State := { retiring false [(0x3001A, 4)] with tlb := (held true false false).tlb }
     let s := vfTouch s (s.gang 0).space (0x30000 + 24) 8 .read
     errAnd (futureAccess s (whoStream s 0 0) 0x40000 futureKind) (fun f => f == .prot) = true ∧
     ((s.core 0 0).retired.map (·.yields)) = some false ∧ (s.part (s.gang 0).part).halt = .none) := by decide +kernel

theorem witness_NodesPlaced_moves : ((moving 0x101).gang 8).leaving = false ∧ ((moving 0x101).gang 8).halted = false ∧
    ((moving 0x101).part ((moving 0x101).gang 8).part).halt = .none ∧ ((moving 0x101).quads[0]).pwr ≠ 2 := by decide +kernel

theorem witness_HaltsStopUnits_kinds :
    (let k : Copy := { storeCopy 1 0 with kind := .toScratch 0x1000, asked := [(0, 7)], todo := [(0, 1)] }
     let s := (at0 3 fun y => { y with copies := [k] }).updGang 0 fun g => { g with halted := true }
     (s.core 0 0).copies = [k] ∧ (s.gang 0).halted = true ∧ k.state = .active ∧ k.asked ≠ []) ∧
    (let s := (ctx0 fun r => { r with halted := true, wait := .pageFault }).updPart 0 fun p => { p with halt := .reached }
     s.colRun 0 = some (runOf s) ∧ (runOf s).halted = true ∧ (runOf s).fault = none ∧ (s.part 0).granted ≠ some (runOf s).prog.vf) ∧
    (let s := (ctx0 fun r => { r with done := 3, wait := .pageFault }).updPart 0 fun p => { p with halt := .reached }
     (runOf s).halted = false ∧ (runOf s).wait = .pageFault ∧ (s.part 0).halt = .reached) := by decide +kernel

theorem witness_PartitionCommands_more :
    (let s := ((atS 0 fun st => { st with wait := .bodyEnd, pc := 0x20010, loops := [frame true true 4 3 0] }).updGang 0 fun g =>
       { g with halted := true, haltCause := some 0x20 }).updPart 0 fun p => { p with halt := .reached }
     (s.part 0).halt = .reached ∧ (∀ q : CoreId, (s.core 0 q).copies = []) ∧ s.benches.toList.tail.all (·.isNone) = true ∧
     (s.stream 0 0 0).wait = .bodyEnd) ∧
    (let i : StopInfo := { cause := 0x19, slot := 0, pc := 0, addr := 0, aux0 := 0, aux1 := 0 }
     let s := (at0 0).updGang 0 fun g => { g with stop := .masked 0 0 i false }
     (s.part 0).halt = .none ∧ (s.gang 0).stop = .masked 0 0 i false ∧
     ((vfRead s (s.gang 0).space ((s.gang 0).record.toNat + 24)).getD 0) &&& 0xFFFFFFFFFFF8#64 = 0) ∧
    (let s := State.reset.updCtx 1 fun c => { c with saved := [{ placedRun with wait := .pageFault }] }
     s.colRun 1 = none ∧ (s.ctxs[1]).saved.map (·.wait) = [.pageFault]) := by decide +kernel

theorem witness_SlicesAndBarriers_no_slot :
    (let s := (sliceEnded true).updVf 0 fun f => { f with saveCount := 0 }
     (s.gang? 0).isSome = true ∧ (s.gang 0).halted = false ∧ (s.gang 0).stop = .none ∧ (s.gang 0).leaving = false ∧
     (s.gang 0).epilogue = true ∧ (s.vf 0).saveCount.toNat = 0 ∧
     ∀ q : CoreId, (s.core 0 q).results = [] ∧ (s.core 0 q).longs = [] ∧ (s.core 0 q).copies = [] ∧
       (s.stream 0 q 0).wait = .join ∧ (s.stream 0 q 1).wait = .epilogue 0x20000 2 ∧ (s.stream 0 q 2).status = .idle ∧
       (s.stream 0 q 3).status = .idle) ∧
    (sliceEnded false).benches.toList.all (fun g => g.all fun g => !g.leaving) = true := by decide +kernel

theorem witness_HostRegisters_more :
    (let s (free : Bool) : State := { State.reset with dev := { State.reset.dev with
       held := [0x19#512], htq := { State.reset.dev.htq with head := 0, tail := if free then 0 else 1 } } }
     (s true).dev.held = [0x19#512] ∧ (s true).dev.htq.used < 2 ^ (s true).dev.htq.log2n ∧ (s false).dev.htq.used = 1 ∧
     (∀ b : BenchId, ((s true).gang? b).isNone = true) ∧ State.reset.dev.held = []) ∧
    State.reset.snapInFlight = false ∧ ((0x1200000000 : Word).getLsbD 36 = true ∧ (0x1200000000 : Word).getLsbD 33 = true) ∧
    ({ State.reset.dev with kind := .zm480 } : Device).kind = .zm480 ∧ 3000 < (0xFFFF : Word).toNat % 2 ^ 16 ∧
    ({ State.reset.dev with ready := true } : Device).ready = true := by decide +kernel

/-- A window of one 64 KiB granule at 0x40000, open for puts and gets, whose page is checked and was written by a bench. -/
def opened (chk : Bool) : State :=
  let s := (at0 0).updPart 0 fun p => { p with granted := some 0, shbase := 0x50, shlo := 4, shhi := 4
                                               windows := p.windows.set 2 { base := 0x40000, ctl := 0xB000000300000001 } }
  let w := whoWindow s 0
  { s with mem := placedMem [(0x50003, 0x40)] 0
           tlb := [{ unit := w.unit, root1 := w.root1.getD 0, root2 := w.root2, vpage := 4, ppage := 4, rd := true, wr := true, ex := true, chk := chk }] }

theorem witness_UnitsArrive_races :
    errAnd (homeAccess (opened true) (whoWindow (opened true) 0) 0x40000 8 .write false) (fun f => f == .race 0x40000000) = true ∧
    okAnd (homeAccess (opened false) (whoWindow (opened false) 0) 0x40000 8 .read false) (fun y => y.1 == 0x40000) = true ∧
    (let s := (opened false).updVf 0 fun f => { f with root := 0 }
     errAnd (homeAccess s (whoWindow s 0) 0x40000 8 .read false) (fun f => f == .page 0 0) = true) ∧
    (unitAt true 0).cells ≠ [] ∧ (∀ c ∈ (unitAt true 7).cells, c.1 / 8 = 0) := by decide +kernel

theorem witness_LinksAndFailures_scratch :
    (let k : Copy := { storeCopy 1 0 with stream := 1, todo := [(0, 1)], asked := [(0, 7)], kind := .toScratch 0x1000, data := [] }
     let s := at0 1 fun y => { y with copies := [k] }
     (s.core 0 0).copies = [k] ∧ k.todo = [(0, 1)] ∧ k.reads = [] ∧ k.got = [] ∧ k.data = [] ∧ k.asked = [(0, 7)] ∧ k.state = .active) := by
  decide +kernel

theorem witness_DeviceStarts_more :
    (let d := State.reset.dev
     d.recLen.toNat ≤ 2 ^ 26 ∧ 2 ^ 26 < ({ d with recLen := 0x4000001 } : Device).recLen.toNat ∧ ({ d with stage := 6 } : Device).stage = 6 ∧
     (0 : Word).getLsbD 62 = false ∧ (0 : Word).getLsbD 0 = false ∧ d.stage ≠ 15 ∧ ({ d with stage := 15, lc := 1 } : Device).lc ≠ 2) ∧
    (let s : State := { State.reset with dev := { State.reset.dev with off := true } }
     s.dev.off = true ∧ classOf (.devctlWarm 0) = .event ∧ classOf (.devctlReady 0) = .event ∧ classOf (.recgo 0 []) = .event ∧
     classOf .powerOff = .event) := by decide +kernel

/-- A device whose image is the one last accepted starts warm. -/
theorem witness_DeviceStarts_warm (n : Nat) :
    let s : State := { State.reset with ticks := n, dev := { State.reset.dev with imageHash := Config.imageHash (Config.hbmImage n) } }
    Config.imageHash (Config.hbmImage s.ticks) = s.dev.imageHash ∧ s.dev.lc ≠ 2 ∧ s.dev.stage ≠ 15 := 
  ⟨rfl, show State.reset.dev.lc ≠ 2 by decide +kernel, show State.reset.dev.stage ≠ 15 by decide +kernel⟩

theorem witness_DebugAccess_more :
    (let s := (at0 0).updGang 0 fun g => { g with halted := true }
     (at0 0).gang? 1 = none ∧ ((at0 0).quads[0]).pwr ≠ 2 ∧ (0x5FFFFF : Nat) < 6 * 2 ^ 20 ∧
     ((s.updQuad 0 fun q => { q with pwr := 2 }).quads[0]).pwr = 2 ∧ 2 ^ 16 * (s.gang 0).pb1.toNat + ((s.gang 0).scratchSize - 1) < 6 * 2 ^ 20 ∧
     s.gang? (s.part 1).ctxsel = some (s.gang 0) ∧ (s.gang 0).part ≠ 1 ∧ (31 : BitVec 5).toNat < (s.gang 0).vcount ∧
     (State.reset.gang? 0).isNone = true) := by decide +kernel

theorem witness_EnginesAct_errors :
    (let sts : IWord := rawOf (.sts 1 2 1 3 0 0)
     let s := { atS 2 (regs 0x40000 5) with mem := placedMem [] sts.toNat, agenda := [.stream 0 0 2] }
     let w : BundleWord := { addr := 0x20000, raw := sts, instr := some (.sts 1 2 1 3 0 0) }
     let look := lookWords (bundleCtx s 0 0 [w]) s [(1, w)]
     bundleFrom s (whoStream s 0 0) (s.stream 0 0 2).pc 6 = [w] ∧ isAccess w = true ∧ bundleDefect (s.gang 0).vcount [w] = none ∧
     mayGo (bundleCtx s 0 0 [w]) s = true ∧ look.waits.isNone = true ∧ look.refused.isEmpty = true ∧ (s.stream 0 0 2).status = .running ∧ (s.stream 0 0 2).wait = .none ∧
     (s.stream 0 0 2).fault = none) ∧
    (let k : Copy := { storeCopy 1 0 with kind := .prefetch }
     k.kind = .prefetch ∧ (storeCopy 1 0).kind ≠ .prefetch) ∧
    (let s := ((at0 0).updCtx 1 fun c => { c with pend := some placedRun.prog }).updPart 0 fun p => { p with halt := .reached }
     (s.colRun 1).isNone = true ∧ (s.ctxs[1]).saved = [] ∧ (s.part 0).halt = .reached) ∧
    ((State.reset.updPart 0 fun p => { p with halt := .resuming }).part 0).halt = .resuming := by decide +kernel

theorem witness_StepsRunWords_refused :
    (let s := { at0 3 with agenda := [.stream 0 0 3], mem := placedMem [] 0x03000000 }
     (nextTurn s).2.canIssue 0 0 3 = true ∧
     ((fetchWord s (whoStream s 0 0) 0x20000).map fun y => good (decode .st y.1)) = some false) ∧
    (let s := { at0 2 with agenda := [.stream 0 0 2], mem := placedMem [] 0x03000000 }
     ((fetchWord s (whoStream s 0 0) 0x20000).map fun y => good (decode .cp y.1)) = some false ∧ (s.stream 0 0 2).bundle = []) ∧
    (let s := { ctx0 id with agenda := [.context 0], mem := placedMem [] 0x03000000 }
     ((fetchWord s (whoContext s 0 (runOf s).prog) (runOf s).pc).map fun y => good (decode .col y.1)) = some false) ∧
    (0x03000000 : IWord).getLsbD 25 = true ∧ (0x01000000 : IWord).getLsbD 25 = false ∧ good (decode .cp 0x01000000#32) = false := by
  decide +kernel

theorem witness_NumbersRound : Fmt.e4m3.shape = some { eb := 4, fb := 3, noInf := true } ∧ (2 ^ 4 - 1 < 2 ^ 4 ∧ 7 < 2 ^ 3) ∧
    (23 + 3 ≤ (2 ^ 26).log2) ∧ Fmt.f32.read 0x7FC00000 = .nan false ∧ Fmt.f32.read 0x7F800001 = .nan true ∧
    Fmt.f32.read 0xFF800000 = .inf true ∧ Fmt.f32.read 0x80000000 = .fin true 0 (-149) ∧ Fmt.f32.read 0x3F800000 = .fin false (2 ^ 23) (-23) ∧
    Fmt.bf16.shape = some { eb := 8, fb := 7 } := by decide +kernel

/-- A real number strictly between two whole ones of 27 digits. -/
theorem witness_NumbersRound_sticky : ((2 ^ 26 : Nat) : ℝ) * 2 ^ (0 : ℤ) < 2 ^ 26 + 1 / 2 ∧
    (2 ^ 26 + 1 / 2 : ℝ) < ((2 ^ 26 : Nat) + 1) * 2 ^ (0 : ℤ) := by norm_num

theorem witness_IntegersKeysAndSums : (255 : Nat) < 2 ^ (8 * 2 ^ 0) ∧ Fmt.lg8.isFloat = true ∧ Fmt.f32.size ≤ 8 ∧
    inBox 2 5 0 (ckEnd 2 - 1) = true ∧ inBox 2 5 (ckEnd 2 - 1) 0 = false ∧
    ([{ val := 0, sat := false, nvs := false }] : List ExactElem)[0]? = some { val := 0, sat := false, nvs := false } ∧
    ([(0x3F800000#32, 0)] : List OrdElem)[0]? = some (0x3F800000#32, 0) := by decide +kernel

/-- A copy of LD with one element to land: where from, and where to. -/
def landing (far : CopyEnd) (kind : CopyKind) (base : Word) : Copy :=
  { storeCopy 1 0 with stream := 1, kind := kind, far := far, base := base, data := if far = .scratch then [0x3F800000] else [] }

/-- Core 0 with that copy, a queue entry to fill, and 1.0 in device memory. -/
def landsIn (k : Copy) : State :=
  { at0 1 fun y => { y with copies := [k], q := y.q.set 0 { cfg := 0x4000, entries := [{ landed := false, tile := 0, id := 7 }] } } with
    mem := placedMem [(0x40002, 0x80), (0x40003, 0x3F)] 0 }

theorem witness_ResultsLand_landings : (∀ kind ∈ [CopyKind.toFace 3 0 0, .toFace 3 0 1, .toQueue 0 7], ∀ far ∈ [CopyEnd.device, .scratch],
      (let k := landing far kind 0x40000
       let s := landsIn k
       k.state = .active ∧ k.fault = none ∧ k.reads = [] ∧ k.todo = [(0, 1)] ∧ k.far = far ∧
       (far = .device → okAnd (homeAccess s (whoStream s 0 0) (BitVec.ofNat 64 ((k.addr 0).toNat / 8 * 8)) 8 .read false) (fun y =>
         y.1 == 0x40000 && (y.2.part (y.2.gang 0).part).halt == .none) = true) ∧
       (s.part (s.gang 0).part).halt = .none)) ∧
    (let k := landing .scratch .toFar 0x1004
     k.state = .active ∧ k.far = .scratch ∧ (k.addr 0).toNat / 2 ^ 24 = 0 ∧ (0x1000 + 0 * 4) / 2 ^ 24 % 4 = (0 : CoreId).toNat) ∧
    (let k : Copy := { storeCopy 1 0 with kind := .addFar, todo := [(0, 2)], shape := .indexed [1, 1], data := [5, 6] }
     let s := landsIn k
     k.todo = [(0, 2)] ∧ k.far = .device ∧ k.addr 1 = k.addr 0 ∧
     okAnd (homeAccess s (whoStream s 0 0) (BitVec.ofNat 64 ((k.addr 0).toNat / 8 * 8)) 8 .update false) (fun y =>
       y.1 == 0x40000 && (y.2.part (y.2.gang 0).part).halt == .none) = true) ∧
    (let k := landing .scratch (.toScratch 0x1000) 0x1004
     k.kind = .toScratch 0x1000 ∧ k.far = .scratch ∧ k.reads = [] ∧ k.todo = [(0, 1)]) := by decide +kernel

/-- VSORT writes two tiles, CKSPLIT a tile and a cross scalar. -/
theorem witness_ResultsLand_writes :
    (let all := BitVec.allOnes 4096
     let o (l : List FaceWrite) : LongOp := { kind := .cksplit, writes := l, flags := 0 }
     let l : List FaceWrite := [{ reg := .v 30, data := 5, mask := all }, { reg := .v 31, data := 6, mask := all }, { reg := .c 3, data := 7, mask := all }]
     let s := at0 2 fun k => { k with longs := [o l] }
     (s.core 0 0).longs.length = 1 ∧ (∀ w ∈ l, w.mask = all) ∧ (l.map (·.reg)).Nodup ∧ s.dev.off = false) := by decide +kernel

/-- A stopped gang whose record names a future at 0x40000, EMPTY with no waiters. -/
def aborting : State :=
  let s := ((at0 0).updGang 0 fun g => { g with halted := true, haltCause := some 0x20 }).updPart 0 fun p => { p with halt := .reached }
  { s with mem := placedMem [(0x3001A, 4)] 0 }

theorem witness_PartitionCommands_future :
    (let s := aborting
     let g := s.gang 0
     let s1 := (updRecord (vfTouch (keepRecord s 0) g.space (0x30000 + 24) 8 .read) g.space 0x30000 14 fun _ =>
       BitVec.ofNat 64 (3 * 2 ^ 62 + (0x100 + 0x20))).retire 0
     s.dev.off = false ∧ (s.part 0).halt = .reached ∧ g.part = 0 ∧ g.record = 0x30000 ∧
     ((vfRead s g.space (0x30000 + 24)).getD 0) &&& 0xFFFFFFFFFFF8#64 = 0x40000 ∧
     g.stranded = [] ∧ placeStranded s1 g.stranded = s1 ∧
     okAnd (futureAccess s1 (whoVf s1 g.space) 0x40000 futureKind) (fun y =>
       y.1 == 0x40000 && futureOk y.2.1 && decide (y.2.1.toNat < 2 ^ 62)) = true) := by decide +kernel

/-- R122, R137: an aborted gang's future is resolved FAILED with the code 0x100 + C. -/
theorem test_abort_future : after (exec (.pctlAbort 0 0) aborting) (fun s =>
    physRead s 0x40000 8 == 2 * 2 ^ 62 + 0x120 && (s.gang? 0).isNone) = true := by decide +kernel

/-- A halt in which a store's copy was abandoned with one element left. -/
def abandoned : State :=
  ((at0 3 fun k => { k with copies := [{ storeCopy 1 0 with state := .abandoned }] }).updGang 0 fun g => { g with halted := true }).updPart 0
    fun p => { p with halt := .reached }

theorem witness_PartitionCommands_replay :
    (let s := abandoned
     let k := { storeCopy 1 0 with state := .abandoned }
     (s.part 0).halt = .reached ∧ (∀ q : CoreId, q ≠ 0 → (s.core 0 q).copies = []) ∧ (s.core 0 0).copies = [k] ∧ k.fault = none ∧
     k.kind = .toFar ∧ k.far = .device ∧ k.reads = [] ∧ k.asked = [] ∧ k.todo = [(0, 1)] ∧ s.benches.toList.tail.all (·.isNone) = true ∧
     good (homeAccess s (whoStream s 0 0) 0x40000 8 .write false) = true) := by decide +kernel

/-- R137, R138: RESUME performs what an abandoned copy has left before HALT clears. -/
theorem test_resume_replays : after (exec (.pctlResume 0 0) abandoned) (fun s => physRead s 0x40000 4 == 7 && (s.part 0).halt == .none &&
    !(s.gang 0).halted && (s.core 0 0).copies.all fun k => k.state == .active && k.todo.isEmpty) = true := by decide +kernel

/-- A barrier asked for while a node at 0x30080 waits to start, whose line carries a vector. -/
def barring (gen : BitVec 16) : State :=
  let s := (placeFor State.reset .sc 0).setGang 0 none
  { s.updPart 0 fun p => { p with barrier := true, gen := gen, bench := 1, waiting := [(0x30080, 0)], spillBase := 0x60, shbase := 0x50 } with
    llc := [{ line := 0x30080 / 128, part := 0, way := 0, carried := [(0, Vector.replicate 64 5)], data := none, dirty := false }] }

theorem witness_SlicesAndBarriers_starts :
    (let s := barring 3
     s.dev.off = false ∧ s.memWf ∧ (s.part 0).barrier = true ∧ s.benches.all (·.isNone) = true ∧ (s.vfs.all fun f => f.saved.isEmpty) = true ∧
     (s.part 0).waiting = [(0x30080, 0)] ∧ vfAddr s (s.space 0) 0x30080 .read = some 0x30080 ∧
     (carried s 0 (lineOf 0x30080)).isSome = true ∧ (s.part 0).gen ≠ 0xFFFF) := by unfold State.memWf; decide +kernel

/-- R112: the start vector of a node that has not started is zero after a barrier. -/
theorem test_barrier_starts : after (exec (.partitionBarrier 0) (barring 3)) (fun s =>
    (carried s 0 (lineOf 0x30080)).isNone && (s.part 0).gen == 4 && !(s.part 0).barrier) = true := by decide +kernel

/-- Partition 0, with or without a ready node whose record asks for an extended bench. -/
def benchless (needs : Bool) : State :=
  let s := (placeFor State.reset .sc 0).setGang 0 none
  { s.updPart 0 fun p => { p with bench := 1, pool := [{ node := 0x30080, vf := 0, ready := 1, prio := 4, passes := 0, ext := needs }] } with
    mem := placedMem (if needs then [(0x30094, 1)] else []) 0 }

theorem witness_HostRegisters_benchless :
    (∀ needs : Bool,
      (let s := benchless needs
       s.dev.off = false ∧ partIdle s 0 = true ∧ (s.part 0).spoilCount = 0 ∧ (s.part 0).defHead = 0 ∧ (s.part 0).numbers.isEmpty = true ∧
       (s.part 0).pool.map (·.ext) = [needs] ∧
       ((vfRead s (s.space 0) (0x30080 + 24)).getD 0) &&& 0xFFFFFFFFFFF8#64 = 0)) ∧
    (∀ b : BenchId, (0xFF00 : Word).getLsbD b.toNat = true → b.getLsbD 3 = true) ∧ (0 : Word).getLsbD 0 = false := by decide +kernel

/-- R122: a ready node that needs an extended bench fails with code 0x1A when PBENCH leaves the partition none. -/
theorem test_benchless : after (exec (.pbenchWrite 0 0) (benchless true)) (fun s =>
    physRead s (0x30080 + 112) 8 == 3 * 2 ^ 62 + 0x1A && (s.part 0).pool.isEmpty && (s.part 0).bench == 0 && (s.part 0).tq.tail == 1) = true := by
  decide +kernel

/-- The unit of a copy that the engine has completed, and of one in a halt that the units have reached. -/
theorem witness_LinksAndFailures_engine :
    (let u := { outUnit (.copy 0 0 3 1 0x20000 0 0) false with addr := 0x40000, index := 3 }
     let s := at0 3
     u.addr = 0x40000 ∧ (s.core 0 0).copies = [] ∧ (s.part (s.gang 0).part).halt ≠ .reached ∧ (s.gang 0).run = 0 ∧ (s.gang 0).run ≠ 1 ∧
     ((s.updPart 0 fun p => { p with halt := .reached }).part 0).halt = .reached) := by decide +kernel

/-- R297: a unit whose sender has left the device is charged to no later run of its record. -/
theorem test_unit_of_run_gone : after (exec (.refusedUnit ⟨7, none⟩)
      (let s := at0 3 fun y => { y with copies := [storeCopy 1 0] }
       { s with links := { s.links with out := [outUnit (.copy 0 0 3 1 0x20000 0 9) false] } }))
    (fun s => (s.core 0 0).copies == [storeCopy 1 0] && (s.part 0).hcause == 0x12 && (s.part 0).tq.tail == 1 &&
      (s.gang 0).haltCause == none) = true := by decide +kernel

/-- R298: a put refused in its one unit is not counted when the unit is sent again. -/
theorem test_refused_put_never_counts :
    (let s := ((at0 0).updPart 0 fun p => { p with granted := some 0, windows := p.windows.set 2 { base := 0x40000, ctl := 0xB000000300000001 } })
     after (exec (.windowUnitArrive { unitAt true 0x10000 with total := 1 }) s) (fun t =>
       after (exec (.windowUnitArrive { unitAt true 0 with total := 1 }) t) fun u =>
         t.links.reply == .refused && u.links.reply == .performed && ((u.part 0).windows[2]).arrivals == 0)) = true := by decide +kernel

/-- R137: the earliest fault of a gang names the code of its ABORT; one that masked-feature stopped fails with 0x119. -/
theorem test_abort_causes : ∀ masked : Bool,
    (let s := at0 1
     let s := { s with dev := { s.dev with snapEn := 0 } }
     let s := takeFault (takeFault s 0 0 1 0 0x20000 { cause := 0x06 }) 0 0 0 0 0x20000 { cause := 0x20 }
     let s := if masked then s.updGang 0 fun g => { g with stop := .masked 0 0 { cause := 0x19, slot := 0, pc := 0, addr := 0, aux0 := 0, aux1 := 0 } true } else s
     after (exec (.pctlAbort 0 0) s) fun t => (t.gang? 0).isNone && physRead t (0x30000 + 112) 8 == 3 * 2 ^ 62 + (if masked then 0x119 else 0x106)) = true := by
  decide +kernel

/-- R170: two VSORT words of one bundle issue together. -/
theorem test_two_vsorts :
    (let first : Instr := .vsort 0 4 1 2 0
     let s := atS 2 fun st => { st with bundle := [{ addr := 0x20000, raw := rawOf first, instr := some first }] }
     after (exec (.vsort 1 8 1 2 0) s) fun t => (t.core 0 0).longs.length == 2 && (t.stream 0 0 2).pc == 0x20008) = true := by decide +kernel

/-- R335: another program counter clears the mark of a bundle issued but for its SX word. -/
theorem test_pc_clears_issued : (({ pc := 0x20000, sxOnly := true } : Stream).setPc 0x30000).sxOnly = false ∧
    (({ pc := 0x20000, sxOnly := true } : Stream).setPc 0x20000).sxOnly = true := by decide +kernel

/-- R322: in P3 the debug port reads DBGSTAT, whose PWR is 3, and nothing else. -/
theorem test_debug_in_P3 : (let s : State := { State.reset with dev := { State.reset.dev with off := true, dbg := 2 } }
    after (exec (.debugWindowAccess false (.reg 0x18) 0) s) (fun t => t.out == [3, 0, 0, 0, 0, 0, 0, 0]) = true ∧
    after (exec (.debugWindowAccess false (.reg 0) 0) s) (fun t => t.out == [0, 0, 0, 0, 0, 0, 0, 0]) = true) := by decide +kernel

/-- R185: BR out of the body of a LOOP to an address of the enclosing body ends the inner loop alone. -/
theorem test_br_leaves_loop : after (exec (.br 1 1 0) (nested false [frame false false 8 3 0] 0x20018)) (fun s =>
    (s.stream 0 0 0).pc == 0x20018 && (s.stream 0 0 0).loops == [frame false false 8 3 0]) = true := by decide +kernel

/-- R56, R235: a queue with formats that convert neither way refuses the push, but not the copy of no element. -/
theorem test_refused_queue : after (exec (.qld 52 4 8 0 0 0) (qldState 2 0 0 0xF0)) (fun s => (s.part 0).hcause == 0x03) = true ∧
    after (exec (.qld 52 4 12 0 0 0) (qldState 2 0 0 0xF0)) (fun s => (s.part 0).halt == .none && (s.stream 0 0 1).issued == 1) = true := by
  decide +kernel

/-! ### Translation, shadow, futures, nodes that become ready, resumption, sums over the bench -/

/-- A table whose every entry is a pointer to itself, one with a leaf of 64 KiB at level 3, and one bad at level 0. -/
theorem witness_DeviceAccesses_walks :
    (let rd (e : Word) : State → Nat → Walked Word := fun s _ => (.ok e, s)
     (∀ (e : Word) s a, (rd e s a).1 = .ok e) ∧ ((0x1#64).extractLsb' 8 44).toNat * 2 ^ 8 = 0 ∧
     (walk (rd 1) 0 0x12345678 State.reset 0 walkLevels).1 = .error (.page 0 3) ∧
     (walk (rd 0) 1 0x12345678 State.reset 0 walkLevels).1 = .error (.page 1 0) ∧
     (walk (rd 3) 0 0x12345678 State.reset 0 walkLevels).1 = .error (.page 0 0)) ∧
    (let s := at0 0
     let w := whoStream s 0 0
     w.root1.isSome = true ∧ w.en2 = true ∧ s.tlb = [] ∧ ((held true true false).tlb.head?.map (·.vpage)) = some 4 ∧
     (translation s w 0x40000).1.toOption.map (·.pa) = some 0x40000 ∧
     okAnd (walk (guestTableRead w) 0 0x40000 s (w.root1.getD 0).toNat walkLevels).1 (fun l => l.pa == 0x40000) = true ∧
     okAnd (stage2 s w 0x40000).1 (fun l => l.pa == 0x40000) = true) := by
  refine ⟨⟨fun _ _ _ => rfl, ?_⟩, ?_⟩ <;> decide +kernel

/-- Page 4 is checked, the shadow of its granules lies from 0x50000 on, memory holds something, and each bench's clock is 3. -/
def shadowed (m : List Host.Cell) : State :=
  { (held true true true).updPart 0 fun p => { p with shbase := 0x50, shlo := 4, shhi := 4 } with
    mem := placedMem m 0
    clocks := Vector.ofFn fun b => Vector.ofFn fun k => if b = k then 3 else 0 }

/-- R110: after a write of bench 0, a write of bench 0 again passes, and one of bench 1, which is not ordered after it, does
not. -/
theorem witness_DeviceAccesses_shadow :
    Memory.wf (shadowed []).mem = true ∧ 2 ^ 16 * ((shadowed []).part 0).shlo.toNat ≤ 0x40080 ∧
    okAnd (raceCheck (shadowed []) 0 (some 0) 0x40080 true false) (fun s =>
      physRead s 0x50023 1 == 0x40 && good (raceCheck s 0 (some 0) 0x40080 true false) &&
        errAnd (raceCheck s 0 (some 1) 0x40080 true false) (fun e => bits e 24 6 == 0)) = true ∧
    okAnd (raceCheck (shadowed []) 0 (some 2) 0x40080 false false) (fun s =>
      physRead s 0x50027 1 == 8 && errAnd (raceCheck s 0 (some 1) 0x40080 true false) (fun e => bits e 26 6 == 2)) = true ∧
    errAnd (access (shadowed [(0x50000, 3), (0x50003, 0x41)]) (whoStream (shadowed []) 0 0) 0x40000 .write false)
      (fun f => f == .race 0x41000003) = true := by decide +kernel

/-- The record of a node at 0x30080, of good pools and queues, with other bytes; whether its function has a partition. -/
def becoming (assigned : Bool) (m : List Host.Cell) : State :=
  let s := dispatching.updVf 0 fun f => { f with partEn := assigned }
  let ok : List Host.Cell := [(0x300A9, 8), (0x300AA, 0x2A), (0x300AB, 0x18), (0x300B1, 0x40), (0x300B5, 0x40), (0x300B9, 0x40), (0x300BD, 0x40)]
  { s.updPart 0 fun p => { p with pool := [] } with mem := placedMem (m.foldl (fun l c => Memory.set l c.1 c.2) ok) 0 }

/-- R122, Table 14.4: the code that the first failing check gives, and STATE and RESULT of the record. -/
theorem witness_NodesSubmitted_checks :
    (let code (s : State) : Nat := (((readRecord s (s.space 0) 0x30080).bind fun d => dispatchCheck s 0 d).getD 0)
     let result (s : State) : Nat := physRead (makeReady 3 s [(0x30080, 0, true)]).1 (0x30080 + 112) 8
     code (becoming true []) = 0 ∧ result (becoming true []) = 2 ^ 62 ∧
     code (becoming false [(0x30080, 1)]) = 5 ∧ result (becoming false []) = 3 * 2 ^ 62 + 5 ∧
     code (becoming true [(0x30080, 1), (0x30096, 0x40)]) = 2 ∧ code (becoming true [(0x300A8, 3)]) = 0 ∧
     code (becoming true [(0x300A8, 3), (0x300B2, 2)]) = 3 ∧ code (becoming true [(0x30094, 0x40)]) = 4 ∧
     code (becoming true [(0x30094, 0xC0)]) = 0 ∧ code (becoming true [(0x30094, 1)]) = 0 ∧
     code ((becoming true [(0x30094, 1)]).updPart 0 fun p => { p with bench := 0x100 }) = 0x1A) := by decide +kernel

/-- R123: a node takes the next ready number, in the pool, in the spoil queue, on the deferred list, or waits. -/
theorem witness_NodesSubmitted_placement :
    (let s (f : Part → Part) : State := (becoming true [(0x30094, 0x20)]).updPart 0 f
     let place (s : State) (waits : Bool) := placeNode s 0 0 0x30080 9 waits
     let plain (f : Part → Part) : State := (becoming true []).updPart 0 f
     ((place (plain id) true).1.part 0).pool.map (fun e => (e.node, e.ready)) = [(0x30080, 9)] ∧
     ((place (s fun p => { p with defHead := 0x80 }) true).1.part 0).pool.length = 1 ∧
     (let t := (place (plain fun p => { p with spoilBase := 0x60, spoilCap := 4, spoilCount := 1 }) true).1
      (t.part 0).spoilCount = 2 ∧ physRead t 0x60008 8 = 0x30080 ∧ (t.part 0).numbers = [(0x30080, 0, 9)]) ∧
     (place (plain fun p => { p with spoilCount := 1 }) true).2 = false ∧
     (let t := (place (plain fun p => { p with spoilCount := 1 }) false).1
      (t.part 0).defHead = 0x30080 ∧ (t.part 0).defTail = 0x30080) ∧
     (let t := (place (plain fun p => { p with defHead := 0x30100, defTail := 0x30100 }) false).1
      (t.part 0).defTail = 0x30080 ∧ physRead t (0x30100 + 32) 8 = 0x30080) ∧
     (let t := drainSpoil 0 2 ((plain fun p => { p with spoilBase := 0x60, spoilCap := 4, spoilCount := 1, numbers := [(0x30080, 0, 9)] }).updVf 0 id)
      (t.part 0).spoilCount = 0)) := by decide +kernel

/-- A node whose RESUME names a full-stop image, at 0x60000000, of a gang that stood on bench 1. -/
def resumable : State :=
  let s := placeFor State.reset .sc 0
  let y : SavedGang :=
    { slot := 0, addr := 0x60000000, full := true, bench := 1, clock := Vector.replicate 64 4
      gang := { s.gang 0 with ready := 6, tenant := 5 } }
  { (s.setGang 0 none).updVf 0 fun f => { f with saved := [y] } with
    mem := placedMem [(0x3007B, 0x60), (0x3007F, 0xC0)] 0 }

/-- R147, Table 14.7: the gang stands on the new bench as it was saved, and its record's RESUME is zero. -/
theorem witness_NodesPlaced_resumption :
    (let s := resumable
     let e : PoolEntry := { node := 0x30000, vf := 0, ready := 6, prio := 0, passes := 0, own := some ((s.space 0).root) }
     let d := (readRecord s (s.entrySpace e) 0x30000).getD []
     (d[15]!).toNat / 2 ^ 62 = 3 ∧ (savedOf s 0 0x30000 d).isSome = true ∧ (0 : VfId).toNat < 96 ∧
     (let t := dispatchTo s 0 2 e d
      (t.gang 2).tenant = 5 ∧ (t.gang 2).former = [1] ∧ physRead t (0x30000 + 120) 8 = 0 ∧ physRead t (0x30000 + 112) 8 = 2 ^ 63 ∧
      (t.vf 0).saved.isEmpty = true ∧ (t.clocks[2])[2] = 5 ∧ (t.clocks[2])[3] = 4) ∧
     (s.part 0).pool = [] ∧ (s.part 0).numbers = [] ∧ ((returnSaved s 0 0).part 0).pool.map (fun e => (e.ready, e.own.isSome)) = [(6, true)]) := by
  decide +kernel

/-- R76: the bounds are met once, by the whole sum. -/
theorem witness_MredMeets_sums :
    (let top : ExactElem := ⟨BitVec.ofNat 112 (2 ^ 111 - 1), false, false⟩
     let one (n : Bool) : ExactElem := ⟨1, false, n⟩
     let less : ExactElem := ⟨BitVec.ofInt 112 (-1), false, false⟩
     ExactElem.bench [top, one false, less, one true] = ⟨BitVec.ofNat 112 (2 ^ 111 - 1), true, true⟩ ∧
     ExactElem.bench [top, one false, less, less] = ⟨BitVec.ofNat 112 (2 ^ 111 - 2), false, false⟩ ∧
     ExactElem.bench [⟨5, true, false⟩, one false, one false, one false] = ⟨8, true, false⟩) ∧
    OrdElem.bench (0x3F800000, 1) (0x33000000, 0) (0x40000000, 0) (0x40400000, 4) = (0x40C00000, 5) ∧
    ((List.replicate 1024 (⟨0, false, false⟩ : ExactElem))[1023]?).isSome = true := by decide +kernel

/-- Table 00.1: a ZP448 has 56 enabled benches, half of them lean. -/
theorem test_benches_of_a_zp448 : (let d := (State.resetOf .zp448 1 0 #v[0, 1, 2, 3, 4, 5, 6, 7]).dev
    let on := ((List.range 64).map (BitVec.ofNat 6)).filter fun b : BenchId => d.benchmap.getLsbD b.toNat
    (on.length, (on.filter isLean).length, (on.filter fun b => !isLean b).length) = (56, 28, 28)) := by decide +kernel

/-- R305: ADV of CRED where the source's register is the destination's, and where the length's is the destination's. -/
theorem test_cred_adv : (advanceRed 1 1 1 2 (runOf (colRegs 0x40 8 0 0))).reg 1 = 0x50 ∧
    (advanceRed 1 2 1 2 (runOf (colRegs 0x40 8 0 0))).reg 1 = 0x50 ∧ (advanceRed 1 2 1 2 (runOf (colRegs 0x40 8 0 0))).reg 2 = 16 := by
  decide +kernel

/-- R147, R150: a node that was pre-empted before a COMMIT is found through the root of its gang. -/
theorem test_resumes_after_commit : (let s := resumable.updVf 0 fun f => { f with root := f.root + 1 }
    ((readRecord s (s.entrySpace { node := 0x30000, vf := 0, ready := 6, prio := 0, passes := 0, own := some (resumable.space 0).root })
      0x30000).map fun d => (savedOf s 0 0x30000 d).isSome) = some true) := by decide +kernel

end Sys2Proof.Tests
end

section
/-! SUPPORT. Device memory as bytes: what a write of several bytes leaves at each address, and that canonical memories
which read alike are the same list. -/

namespace Sys2Proof.Machine

/-! ### Several bytes in a list of cells -/

/-- A byte outside the bytes written. -/
theorem Memory.get_write_outside (m : List Host.Cell) (a n v b : Nat) (h : b < a ∨ a + n ≤ b) :
    Memory.get (Memory.write m a n v) b = Memory.get m b := by
  induction n generalizing m a v with
  | zero => rfl
  | succ n ih =>
    unfold Memory.write
    rw [ih _ _ _ (by omega), Memory.get_set_ne _ _ _ _ (by omega)]

/-- Byte `j + 1` of a number is byte `j` of what is left above its lowest byte. -/
theorem byte_of_rest (v j : Nat) : v / 256 / 2 ^ (8 * j) % 256 = v / 2 ^ (8 * (j + 1)) % 256 := by
  rw [Nat.div_div_eq_div_mul, show 8 * (j + 1) = 8 + 8 * j by ring, pow_add, show 2 ^ 8 = 256 from rfl]

/-- A byte among the bytes written: byte `j` of the number (R5). -/
theorem Memory.get_write_inside (m : List Host.Cell) (a n v j : Nat) (hm : Memory.wf m = true) (hj : j < n) :
    (Memory.get (Memory.write m a n v) (a + j)).toNat = v / 2 ^ (8 * j) % 256 := by
  induction n generalizing m a v j with
  | zero => omega
  | succ n ih =>
    unfold Memory.write
    cases j with
    | zero =>
      rw [Memory.get_write_outside _ _ _ _ _ (by omega), Nat.add_zero, Memory.get_set_self m a _ hm]
      simp
    | succ j =>
      rw [show a + (j + 1) = a + 1 + j by omega, ih _ _ _ _ (Memory.wf_set m a _ hm) (by omega), byte_of_rest]

/-- A read delivers the number whose bytes it finds, least significant first (R5). -/
theorem Memory.read_of_bytes (m : List Host.Cell) (a n v : Nat)
    (h : ∀ j, j < n → (Memory.get m (a + j)).toNat = v / 2 ^ (8 * j) % 256) : Memory.read m a n = v % 2 ^ (8 * n) := by
  induction n generalizing a v with
  | zero => simp [Memory.read, Nat.mod_one]
  | succ n ih =>
    have h0 : (Memory.get m a).toNat = v % 256 := by simpa using h 0 (by omega)
    have hrest : Memory.read m (a + 1) n = v / 256 % 2 ^ (8 * n) := by
      refine ih (a + 1) (v / 256) fun j hj => ?_
      rw [show a + 1 + j = a + (j + 1) by omega, h (j + 1) (by omega), byte_of_rest]
    unfold Memory.read
    rw [h0, hrest, show 8 * (n + 1) = 8 + 8 * n by ring, pow_add, Nat.mod_mul, show 2 ^ 8 = 256 from rfl]

/-- What was written is read (R96). -/
theorem Memory.read_write (m : List Host.Cell) (a n v : Nat) (hm : Memory.wf m = true) :
    Memory.read (Memory.write m a n v) a n = v % 2 ^ (8 * n) :=
  Memory.read_of_bytes _ _ _ _ fun j hj => Memory.get_write_inside m a n v j hm hj

/-- Memory that nothing has written reads zero (log 32). -/
@[simp] theorem Memory.read_nil (a n : Nat) : Memory.read [] a n = 0 := by
  induction n generalizing a with
  | zero => rfl
  | succ n ih => simp [Memory.read, Memory.get, ih]

/-- The canonical form above a bound, cell by cell. -/
theorem Memory.above_cons {lo : Nat} (x : Host.Cell) (l : List Host.Cell) :
    Memory.above lo (x :: l) = true ↔ lo ≤ x.1 ∧ x.2 ≠ 0 ∧ Memory.above (x.1 + 1) l = true := by
  simp [Memory.above, and_assoc]

/-- The lowest address listed is the lowest that does not read zero: two lists that read alike do not begin at different
addresses. -/
theorem Memory.le_head_of_get {lo lo' : Nat} (x y : Host.Cell) (l r : List Host.Cell)
    (hm : Memory.above lo (x :: l) = true) (hm' : Memory.above lo' (y :: r) = true)
    (h : Memory.get (x :: l) x.1 = Memory.get (y :: r) x.1) : y.1 ≤ x.1 := by
  obtain ⟨-, hx, -⟩ := (Memory.above_cons x l).mp hm
  by_contra hlt
  have hz := Memory.get_below (lo := y.1) (a := x.1) (y :: r)
    ((Memory.above_cons y r).mpr ⟨le_refl _, ((Memory.above_cons y r).mp hm').2⟩) (by omega)
  rw [hz] at h
  exact hx (by simpa [Memory.get] using h)

/-- Canonical memories above any bounds that read alike are equal. -/
theorem Memory.eq_of_get_above {lo lo' : Nat} (m m' : List Host.Cell) (hm : Memory.above lo m = true)
    (hm' : Memory.above lo' m' = true) (h : ∀ a, Memory.get m a = Memory.get m' a) : m = m' := by
  induction m generalizing lo lo' m' with
  | nil =>
    cases m' with
    | nil => rfl
    | cons y r => exact absurd (h y.1).symm (by simpa [Memory.get] using ((Memory.above_cons y r).mp hm').2.1)
  | cons x l ih =>
    cases m' with
    | nil => exact absurd (h x.1) (by simpa [Memory.get] using ((Memory.above_cons x l).mp hm).2.1)
    | cons y r =>
      obtain ⟨-, -, hl⟩ := (Memory.above_cons x l).mp hm
      obtain ⟨-, -, hr⟩ := (Memory.above_cons y r).mp hm'
      have hxy : x.1 = y.1 := Nat.le_antisymm (Memory.le_head_of_get y x r l hm' hm (h y.1).symm)
        (Memory.le_head_of_get x y l r hm hm' (h x.1))
      have hv : x.2 = y.2 := by simpa [Memory.get, hxy] using h x.1
      have hrest : l = r := by
        refine ih r hl hr fun a => ?_
        by_cases ha : a = x.1
        · rw [Memory.get_below l hl (by omega), Memory.get_below r hr (by omega)]
        · simpa [Memory.get, ha, hxy ▸ ha] using h a
      rw [hrest, Prod.ext hxy hv]

/-- Canonical memories that read alike are equal. -/
theorem Memory.eq_of_get (m m' : List Host.Cell) (hm : Memory.wf m = true) (hm' : Memory.wf m' = true)
    (h : ∀ a, Memory.get m a = Memory.get m' a) : m = m' := Memory.eq_of_get_above m m' hm hm' h

/-! ### HBM -/

/-- A byte of HBM. -/
theorem physByte_hbm (s : State) (a : Nat) (h : a < 2 ^ 39) : physByte s a = Memory.get s.mem a := if_pos h

/-- A read of HBM. -/
theorem physRead_hbm (s : State) (pa n : Nat) (h : pa + n ≤ 2 ^ 39) : physRead s pa n = Memory.read s.mem pa n := by
  induction n generalizing pa with
  | zero => rfl
  | succ n ih => simp only [physRead, Memory.read, physByte_hbm s pa (by omega), ih (pa + 1) (by omega)]

/-- A write of HBM changes the bytes of memory and nothing else. -/
theorem physWrite_hbm (s : State) (pa n v : Nat) (h : pa + n ≤ 2 ^ 39) :
    physWrite s pa n v = { s with mem := Memory.write s.mem pa n v } := by
  induction n generalizing s pa v with
  | zero => rfl
  | succ n ih =>
    have hset : ∀ x, physSet s pa x = { s with mem := Memory.set s.mem pa x } := fun x =>
      if_pos (show pa < 2 ^ 39 by omega)
    unfold physWrite Memory.write
    rw [ih _ _ _ (by omega), hset]

/-- Other bytes of HBM keep their values. -/
theorem physByte_physWrite_outside (s : State) (pa n v a : Nat) (h : pa + n ≤ 2 ^ 39) (ha : a < 2 ^ 39)
    (ho : a < pa ∨ pa + n ≤ a) : physByte (physWrite s pa n v) a = physByte s a := by
  rw [physByte_hbm _ _ ha, physByte_hbm _ _ ha, physWrite_hbm s pa n v h]
  exact Memory.get_write_outside _ _ _ _ _ ho

/-- The bytes written. -/
theorem physByte_physWrite_inside (s : State) (pa n v j : Nat) (hm : s.memWf) (h : pa + n ≤ 2 ^ 39) (hj : j < n) :
    (physByte (physWrite s pa n v) (pa + j)).toNat = v / 2 ^ (8 * j) % 256 := by
  rw [physByte_hbm _ _ (by omega), physWrite_hbm s pa n v h]
  exact Memory.get_write_inside _ _ _ _ _ hm hj

/-- What was written to HBM is read (R96). -/
theorem physRead_physWrite (s : State) (pa n v : Nat) (hm : s.memWf) (h : pa + n ≤ 2 ^ 39) :
    physRead (physWrite s pa n v) pa n = v % 2 ^ (8 * n) := by
  rw [physRead_hbm _ _ _ h, physWrite_hbm s pa n v h]
  exact Memory.read_write _ _ _ _ hm

/-- Settles O52: a write of HBM is a write of the list of bytes, whose canonical form determines it. -/
theorem memoryReadsWrites : Obligations.MemoryReadsWrites := by
  unfold Obligations.MemoryReadsWrites
  refine ⟨fun s pa n v hm h => ⟨physWrite_memWf s pa n v hm, physRead_physWrite s pa n v hm h,
    fun a ha ho => physByte_physWrite_outside s pa n v a h ha ho,
    fun j hj => physByte_physWrite_inside s pa n v j hm h hj, ?_⟩, Memory.eq_of_get, fun s => ?_⟩
  · rw [physWrite_hbm s pa n v h]
  · rw [physRead_hbm _ _ _ (by decide)]
    exact Memory.read_nil 0 8

end Sys2Proof.Machine
end

section
/-! SUPPORT. What the words of CP other than the common group keep: memory and what stands before it, the clocks, the other
benches, and of the gang's cores the scratchpads, the tokens and the scalar side of the streams (R9, R48, R58). -/

namespace Sys2Proof.Machine

/-! ### The frame -/

/-- Of a stream: its scalar and branch registers, its declared sets and its status, and its flags while no loop is active. -/
structure Stream.Kept (st st' : Stream) : Prop where
  s : st'.s = st.s
  b : st'.b = st.b
  sets : st'.sets = st.sets
  next : st'.next = st.next
  status : st'.status = st.status
  loops : st.loops = [] → st'.f = st.f ∧ st'.loops = []

theorem Stream.Kept.refl (st : Stream) : st.Kept st := ⟨rfl, rfl, rfl, rfl, rfl, fun h => ⟨rfl, h⟩⟩

theorem Stream.Kept.trans {a b c : Stream} (h : a.Kept b) (h' : b.Kept c) : a.Kept c where
  s := h'.s.trans h.s
  b := h'.b.trans h.b
  sets := h'.sets.trans h.sets
  next := h'.next.trans h.next
  status := h'.status.trans h.status
  loops h0 := ⟨(h'.loops (h.loops h0).2).1.trans (h.loops h0).1, (h'.loops (h.loops h0).2).2⟩

/-- Of a core: its scratchpad, tokens, phase, rotation, and of its streams what `Stream.Kept` says. -/
structure Core.Kept (k k' : Core) : Prop where
  scratch : k'.scratch = k.scratch
  tok : k'.tok = k.tok
  phase : k'.phase = k.phase
  rb : k'.rb = k.rb
  streams : ∀ u : StreamId, (k.streams[u.toFin]).Kept k'.streams[u.toFin]

theorem Core.Kept.trans {a b c : Core} (h : a.Kept b) (h' : b.Kept c) : a.Kept c where
  scratch := h'.scratch.trans h.scratch
  tok := h'.tok.trans h.tok
  phase := h'.phase.trans h.phase
  rb := h'.rb.trans h.rb
  streams u := (h.streams u).trans (h'.streams u)

/-- A core that keeps its streams whole. -/
theorem Core.Kept.of_streams {k k' : Core} (hs : k'.streams = k.streams := by rfl)
    (scratch : k'.scratch = k.scratch := by rfl) (tok : k'.tok = k.tok := by rfl)
    (phase : k'.phase = k.phase := by rfl) (rb : k'.rb = k.rb := by rfl) : k.Kept k' :=
  ⟨scratch, tok, phase, rb, fun u => by rw [hs]; exact Stream.Kept.refl _⟩

theorem Core.Kept.refl (k : Core) : k.Kept k := .of_streams

/-- Of the device, around a bench: all memory and what an access passes, the clocks, functions and contexts, the other
benches, and of the bench's cores what `Core.Kept` says. -/
structure State.Kept (b : BenchId) (s s' : State) : Prop where
  mem : s'.mem = s.mem
  llc : s'.llc = s.llc
  tlb : s'.tlb = s.tlb
  quads : s'.quads = s.quads
  clocks : s'.clocks = s.clocks
  vfs : s'.vfs = s.vfs
  ctxs : s'.ctxs = s.ctxs
  others : ∀ b', b' ≠ b → s'.gang? b' = s.gang? b'
  cores : ∀ q : CoreId, (s.core b q).Kept (s'.core b q)

variable {s : State} {b : BenchId}

theorem State.Kept.refl (s : State) : s.Kept b s := ⟨rfl, rfl, rfl, rfl, rfl, rfl, rfl, fun _ _ => rfl, fun _ => .refl _⟩

theorem State.Kept.trans {s t u : State} (h : s.Kept b t) (h' : t.Kept b u) : s.Kept b u where
  mem := h'.mem.trans h.mem
  llc := h'.llc.trans h.llc
  tlb := h'.tlb.trans h.tlb
  quads := h'.quads.trans h.quads
  clocks := h'.clocks.trans h.clocks
  vfs := h'.vfs.trans h.vfs
  ctxs := h'.ctxs.trans h.ctxs
  others b' hb := (h'.others b' hb).trans (h.others b' hb)
  cores q := (h.cores q).trans (h'.cores q)

theorem State.Kept.memWf {s t : State} (h : s.Kept b t) (hs : s.memWf) : t.memWf := by
  unfold State.memWf
  rw [h.mem]
  exact hs

/-- A change of the bench's gang that keeps each core. -/
theorem State.kept_updGang (f : Gang → Gang) (hf : ∀ q : CoreId, (s.core b q).Kept ((s.updGang b f).core b q)) :
    s.Kept b (s.updGang b f) := by
  refine ⟨?_, ?_, ?_, ?_, ?_, ?_, ?_, fun b' hb => ?_, hf⟩ <;> simp_all

/-- A change of one core that keeps what is to be kept of it. -/
theorem State.kept_updCore {c : CoreId} {f : Core → Core} (hf : (s.core b c).Kept (f (s.core b c))) :
    s.Kept b (s.updCore b c f) := by
  refine State.kept_updGang _ fun q => ?_
  change (s.core b q).Kept ((s.updCore b c f).core b q)
  by_cases hq : q = c
  · subst hq
    cases hg : s.gang? b with
    | none => simpa [State.updCore, State.updGang, hg] using Core.Kept.refl _
    | some g => rwa [State.core_updCore_self s b q f (by simp [hg])]
  · rw [State.core_updCore_ne s b c q f hq]
    exact .refl _

/-- A change of one stream that keeps what is to be kept of it. -/
theorem State.kept_updStream {c : CoreId} {t : StreamId} {f : Stream → Stream}
    (hf : (s.stream b c t).Kept (f (s.stream b c t))) : s.Kept b (s.updStream b c t f) := by
  refine State.kept_updCore ⟨rfl, rfl, rfl, rfl, fun u => ?_⟩
  by_cases hu : u = t
  · subst hu
    simpa [State.stream] using hf
  · have hne : t.toNat ≠ u.toNat := fun e => hu (BitVec.eq_of_toNat_eq e).symm
    simpa [hne] using Stream.Kept.refl _

/-- What the frame does not name may change. -/
theorem State.kept_agenda (l : List Turn) : s.Kept b { s with agenda := l } :=
  ⟨rfl, rfl, rfl, rfl, rfl, rfl, rfl, fun _ _ => rfl, fun _ => .refl _⟩

/-! ### Taking a fault -/

/-- Raising the halt line touches no bench. -/
theorem raiseHalt_kept (p : PartId) (cause unit : Nat) (b' : BenchId) (c : CoreId) (t : StreamId) :
    s.Kept b (raiseHalt s p cause unit b' c t).1 := by
  rw [raiseHalt_frame]
  exact ⟨rfl, rfl, rfl, rfl, rfl, rfl, rfl, fun _ _ => rfl, fun _ => .refl _⟩

theorem blame_kept (cause : Nat) : s.Kept b (s.blame b cause) := by
  refine State.kept_updGang _ fun q => ?_
  unfold State.core State.gang
  rw [State.gang?_updGang_self]
  cases s.gang? b <;> exact .refl _

/-- A context-stopping fault stops the stream, and keeps its registers. -/
theorem takeFault_kept (c : CoreId) (t : StreamId) (slot : Nat) (pc : Word) (f : Trap) :
    s.Kept b (takeFault s b c t slot pc f) := by
  unfold takeFault
  exact ((raiseHalt_kept _ _ _ _ _ _).trans (blame_kept _)).trans
    (State.kept_updStream ⟨rfl, rfl, rfl, rfl, rfl, fun h => ⟨rfl, h⟩⟩)

end Sys2Proof.Machine
end

section
/-! SUPPORT. The words of CP other than the common group, one lemma for each effect: each keeps what `State.Kept` names. -/

namespace Sys2Proof.Machine

variable {s : State} {x : Ctx}

/-- What a word of CP other than the common group comes to: it is performed, waits or traps, keeping what `State.Kept` names;
it meets no memory, and is stopped by no group of its own. -/
def Res.tileKept (b : BenchId) (s : State) : Res → Prop
  | .ok s' | .ring s' _ | .stay s' | .halt s' => s.Kept b s'
  | .trap _ => True
  | _ => False

/-- The same of an operation that words share: its result, or what the word comes to where there is none. -/
def tileResult {α : Type} (b : BenchId) (s : State) (st : α → State) : Except Res α → Prop
  | .error r => r.tileKept b s
  | .ok a => s.Kept b (st a)

theorem Res.tileKept_of_kept {b : BenchId} {s t : State} (h : s.Kept b t) {r : Res} (hr : r.tileKept b t) : r.tileKept b s := by
  cases r
  case ok | ring | stay | halt => exact h.trans hr
  all_goals exact hr

/-- What a word comes to where a shared operation gives no result. -/
theorem tileResult.error {α : Type} {b : BenchId} {s : State} {st : α → State} {e : Except Res α} (he : tileResult b s st e)
    {r : Res} (h : e = .error r) : r.tileKept b s := by
  subst h
  exact he

/-- The state with which a word goes on from a shared operation. -/
theorem tileResult.ok {α : Type} {b : BenchId} {s : State} {st : α → State} {e : Except Res α} (he : tileResult b s st e)
    {a : α} (h : e = .ok a) : s.Kept b (st a) := by
  subst h
  exact he

/-! ### Cores -/

/-- A checked write marks its register (R50). -/
theorem checkWrite_kept {k k' : Core} {r : Reg} {tag : Tag} (h : k.checkWrite r tag = .ok k') : k.Kept k' := by
  unfold Core.checkWrite at h
  dsimp only at h
  split at h
  · cases h
  · split at h <;> cases h <;> exact .of_streams

theorem markAll_kept {tag : Tag} (l : List Reg) {k k' : Core} (h : markAll k tag l = .ok k') : k.Kept k' := by
  induction l generalizing k with
  | nil => cases h; exact .refl _
  | cons r l ih =>
    unfold markAll at h
    split at h
    · cases h
    · next hr => exact (checkWrite_kept hr).trans (ih h)

theorem land_kept (k : Core) (w : FaceWrite) : k.Kept (k.land w) := by
  unfold Core.land
  split <;> exact .of_streams

theorem foldl_kept {α : Type} (f : Core → α → Core) (hf : ∀ (k : Core) (a : α), k.Kept (f k a)) (l : List α) (k : Core) :
    k.Kept (l.foldl f k) := by
  induction l generalizing k with
  | nil => exact .refl _
  | cons a l ih => exact (hf k a).trans (ih _)

/-- A result that lands keeps the scalar side (R58, R169). -/
theorem perform_kept (k : Core) (r : Result) : k.Kept (k.perform r) := by
  have hw := foldl_kept Core.land land_kept r.writes k
  unfold Core.perform
  dsimp only
  split
  · exact hw.trans .of_streams
  · exact hw.trans .of_streams

theorem performAll_kept (k : Core) : k.Kept k.performAll :=
  (foldl_kept Core.perform perform_kept k.results k).trans .of_streams

/-! ### Sources and results (R246, R247) -/

theorem blocked_tile (k : Core) (t : StreamId) (p : Bool) (cause : Nat) : (blocked k t p cause s).tileKept x.b s := by
  unfold blocked
  split
  exacts [trivial, .refl _]

theorem popQueue_tile (n : Fin 4) : tileResult x.b s (fun y => y.2.2) (popQueue x s n) := by
  unfold popQueue
  dsimp only
  split
  · trivial
  · split
    · exact blocked_tile _ _ _ _
    · split
      · exact State.Kept.refl _
      · split <;> dsimp only [tileResult] <;> exact State.kept_updCore .of_streams

theorem pushQueue_tile (n : Fin 4) (t : Tile) : tileResult x.b s id (pushQueue x s n t) := by
  unfold pushQueue
  dsimp only
  split
  · trivial
  · split
    · exact blocked_tile _ _ _ _
    · dsimp only [tileResult, id]
      exact State.kept_updCore .of_streams

theorem readSource_tile (a : BitVec 6) (z : Nat) (wide : Bool) : tileResult x.b s Prod.snd (readSource x s a z wide) := by
  unfold readSource
  split
  · split
    · next h => exact (popQueue_tile _).error h
    · next h =>
      dsimp only [tileResult]
      exact ((popQueue_tile _).ok h).trans (State.kept_updCore .of_streams)
  · split
    · split <;> exact State.Kept.refl _
    · trivial

theorem readTwo_tile (a b : BitVec 6) (z : Nat) (wide : Bool) :
    tileResult x.b s (fun y => y.2.2) (readTwo x s a b z wide) := by
  unfold readTwo
  split
  · next h => exact (readSource_tile _ _ _).error h
  · next h =>
    have ha := (readSource_tile _ _ _).ok h
    split
    · exact ha
    · split
      · next h' => exact Res.tileKept_of_kept ha ((readSource_tile _ _ _).error h')
      · next h' => exact ha.trans ((readSource_tile _ _ _).ok h')

theorem deliverTile_tile (s : State) (d : BitVec 6) (z : Nat) (t : Tile) (f : Lanes) :
    (deliverTile x s d z t f).tileKept x.b s := by
  unfold deliverTile
  dsimp only
  split
  · split
    · trivial
    · next h =>
      exact (State.kept_updCore (checkWrite_kept h)).trans (State.kept_updCore .of_streams)
  · split
    · exact (State.kept_updCore .of_streams).trans (State.kept_updCore .of_streams)
    · split
      · exact State.kept_updCore .of_streams
      · split
        · next h => exact (pushQueue_tile _ _).error h
        · next h => exact ((pushQueue_tile _ _).ok h).trans (State.kept_updCore .of_streams)

theorem deliverPred_tile (s : State) (d : BitVec 6) (z : Nat) (p : Pred) (f : Lanes) (prefixed : Bool) :
    (deliverPred x s d z p f prefixed).tileKept x.b s := by
  unfold deliverPred
  dsimp only
  split
  · trivial
  · next h => exact State.kept_updCore ((checkWrite_kept h).trans .of_streams)

theorem guarded_tile {r : Res} (h : r.tileKept x.b s) : (guarded x s r).tileKept x.b s := by
  unfold guarded
  split
  exacts [State.Kept.refl _, h]

/-- A word that reads A and goes on from there. -/
theorem readSource_then {a : BitVec 6} {z : Nat} {wide : Bool} {k : Tile → State → Res}
    (hk : ∀ t s', (k t s').tileKept x.b s') :
    (match readSource x s a z wide with
      | .error r => r
      | .ok (t, s') => k t s').tileKept x.b s := by
  split
  · next h => exact (readSource_tile _ _ _).error h
  · next h => exact Res.tileKept_of_kept ((readSource_tile _ _ _).ok h) (hk _ _)

/-- A word that reads A and B and goes on from there. -/
theorem readTwo_then {a b : BitVec 6} {z : Nat} {wide : Bool} {k : Tile → Tile → State → Res}
    (hk : ∀ t u s', (k t u s').tileKept x.b s') :
    (match readTwo x s a b z wide with
      | .error r => r
      | .ok (t, u, s') => k t u s').tileKept x.b s := by
  split
  · next h => exact (readTwo_tile _ _ _ _).error h
  · next h => exact Res.tileKept_of_kept ((readTwo_tile _ _ _ _).ok h) (hk _ _ _)

/-! ### The vector words (R245 to R265) -/

theorem effElems_tile (z : Nat) (wide reads : Bool) (d a b : BitVec 6) (f : Nat → Nat → Nat → Nat × XFlags) :
    (effElems z wide reads d a b f x s).tileKept x.b s :=
  guarded_tile (readTwo_then fun _ _ _ => deliverTile_tile _ _ _ _ _)

theorem effUnary_tile (z : Nat) (wide : Bool) (d a : BitVec 6) (f : Nat → Nat × XFlags) :
    (effUnary z wide d a f x s).tileKept x.b s :=
  guarded_tile (readSource_then fun _ _ => deliverTile_tile _ _ _ _ _)

theorem effWhole_tile (z : Nat) (wide : Bool) (d a : BitVec 6) (f : State → Tile → Tile) :
    (effWhole z wide d a f x s).tileKept x.b s :=
  guarded_tile (readSource_then fun _ _ => deliverTile_tile _ _ _ _ _)

theorem effVf_tile (fmt : Fmt) (sh : FShape) (d a b : BitVec 6) (f : BitVec 4) (r : BitVec 3) :
    (effVf fmt sh d a b f r x s).tileKept x.b s := by
  unfold effVf
  dsimp only
  split
  exacts [effUnary_tile _ _ _ _ _, effElems_tile _ _ _ _ _ _ _]

theorem effCompare_tile (z : Nat) (d a b : BitVec 6) (f : Nat → Nat → Bool × XFlags) :
    (effCompare z d a b f x s).tileKept x.b s :=
  guarded_tile (readTwo_then fun _ _ _ => deliverPred_tile _ _ _ _ _ _)

theorem effVfcmp_tile (d a b : BitVec 6) (f : BitVec 4) (t : BitVec 3) : (effVfcmp d a b f t x s).tileKept x.b s :=
  effCompare_tile _ _ _ _ _

theorem effVicmp_tile (d a b : BitVec 6) (f : BitVec 4) (t : BitVec 3) : (effVicmp d a b f t x s).tileKept x.b s := by
  unfold effVicmp
  exact effCompare_tile _ _ _ _ _

theorem effVi_tile (z : Nat) (d a b : BitVec 6) (f : BitVec 4) (u sat : BitVec 1) :
    (effVi z d a b f u sat x s).tileKept x.b s := by
  unfold effVi
  split
  exacts [effUnary_tile _ _ _ _ _, effElems_tile _ _ _ _ _ _ _]

theorem effVlogic_tile (d a b : BitVec 6) (f : BitVec 4) : (effVlogic d a b f x s).tileKept x.b s := by
  unfold effVlogic
  split
  · exact effWhole_tile _ _ _ _ _
  · refine guarded_tile ?_
    split
    · next h => exact (readTwo_tile _ _ _ _).error h
    · next h => exact Res.tileKept_of_kept ((readTwo_tile _ _ _ _).ok h) (deliverTile_tile _ _ _ _ _)

theorem effVcvt_tile (d a : BitVec 6) (src dst : BitVec 4) (r : BitVec 3) : (effVcvt d a src dst r x s).tileKept x.b s :=
  guarded_tile (readSource_then fun _ _ => deliverTile_tile _ _ _ _ _)

theorem effMov_tile (d a : BitVec 6) : (effMov d a x s).tileKept x.b s := effWhole_tile _ _ _ _ _

theorem effImm_tile (d : BitVec 6) (i : BitVec 12) : (effImm d i x s).tileKept x.b s := guarded_tile (deliverTile_tile _ _ _ _ _)

theorem effIota_tile (d : BitVec 6) : (effIota d x s).tileKept x.b s := guarded_tile (deliverTile_tile _ _ _ _ _)

theorem effXtr_tile (d a b : BitVec 6) : (effXtr d a b x s).tileKept x.b s := effWhole_tile _ _ _ _ _

theorem effIns_tile (d a b : BitVec 6) : (effIns d a b x s).tileKept x.b s := effWhole_tile _ _ _ _ _

theorem effVrot_tile (d a b : BitVec 6) (f : BitVec 4) : (effVrot d a b f x s).tileKept x.b s := effWhole_tile _ _ _ _ _

theorem effVbc_tile (d a b : BitVec 6) (f : BitVec 4) : (effVbc d a b f x s).tileKept x.b s := effWhole_tile _ _ _ _ _

theorem effSel_tile (d a b : BitVec 6) (p : BitVec 3) : (effSel d a b p x s).tileKept x.b s :=
  guarded_tile (readTwo_then fun _ _ _ => deliverTile_tile _ _ _ _ _)

theorem effVperm_tile (d a b : BitVec 6) : (effVperm d a b x s).tileKept x.b s :=
  guarded_tile (readTwo_then fun _ _ _ => deliverTile_tile _ _ _ _ _)

theorem effVred_tile (d a : BitVec 6) (e f : BitVec 4) (r : BitVec 3) : (effVred d a e f r x s).tileKept x.b s :=
  guarded_tile (readSource_then fun _ _ => deliverTile_tile _ _ _ _ _)

theorem effVtrg_tile (d : BitVec 6) (f : BitVec 4) : (effVtrg d f x s).tileKept x.b s := by
  refine guarded_tile ?_
  dsimp only
  split
  · trivial
  · next h => exact State.kept_updCore ((markAll_kept _ h).trans .of_streams)

theorem effVsort_tile (d a b : BitVec 6) (f : BitVec 1) : (effVsort d a b f x s).tileKept x.b s := by
  refine guarded_tile ?_
  split
  · exact .refl _
  · split
    · next h => exact (readTwo_tile _ _ _ _).error h
    · next h =>
      dsimp only
      split
      · trivial
      · next h' => exact ((readTwo_tile _ _ _ _).ok h).trans (State.kept_updCore ((markAll_kept _ h').trans .of_streams))

theorem effPred_tile (d a b : BitVec 6) (f : BitVec 4) : (effPred d a b f x s).tileKept x.b s :=
  guarded_tile (deliverPred_tile _ _ _ _ _ _)

theorem effXfRd_tile (d : BitVec 6) : (effXfRd d x s).tileKept x.b s := by
  refine guarded_tile ?_
  have hp : s.Kept x.b (x.updCore s Core.performAll) := State.kept_updCore (performAll_kept _)
  have hd := Res.tileKept_of_kept hp (deliverTile_tile _ d 4 (lanesTile (x.core (x.updCore s Core.performAll)).xf) 0)
  dsimp only
  split
  · next h => rw [h] at hd; exact hd
  · exact hd

theorem effXfChange_tile (set : Bool) (a : BitVec 6) : (effXfChange set a x s).tileKept x.b s := by
  refine guarded_tile ?_
  have hp : s.Kept x.b (x.updCore s Core.performAll) := State.kept_updCore (performAll_kept _)
  split
  · next h => exact Res.tileKept_of_kept hp ((readSource_tile _ _ _).error h)
  · next h => exact (hp.trans ((readSource_tile _ _ _).ok h)).trans (State.kept_updCore .of_streams)

/-! ### The curve words (R285 to R291) -/

theorem effCkCode_tile (enc : Bool) (d a : BitVec 6) (q : BitVec 3) : (effCkCode enc d a q x s).tileKept x.b s := by
  unfold effCkCode
  exact effUnary_tile _ _ _ _ _

theorem effCkAdd_tile (sub : Bool) (d a b : BitVec 6) (q : BitVec 3) : (effCkAdd sub d a b q x s).tileKept x.b s := by
  refine guarded_tile ?_
  split
  · next h => exact (readTwo_tile _ _ _ _).error h
  · next h =>
    have hr := (readTwo_tile _ _ _ _).ok h
    dsimp only
    split
    · split
      · trivial
      · next h' => exact hr.trans (State.kept_updCore ((markAll_kept _ h').trans .of_streams))
    · exact hr.trans (State.kept_updCore .of_streams)

theorem effCkInbox_tile (d a b : BitVec 6) (q : BitVec 3) : (effCkInbox d a b q x s).tileKept x.b s :=
  guarded_tile (readSource_then fun _ _ => deliverPred_tile _ _ _ _ _ _)

theorem effCkNext_tile (d a b : BitVec 6) (q : BitVec 3) : (effCkNext d a b q x s).tileKept x.b s :=
  guarded_tile (readSource_then fun _ _ => deliverTile_tile _ _ _ _ _)

theorem effCksplit_tile (d a b : BitVec 6) (q : BitVec 3) : (effCksplit d a b q x s).tileKept x.b s := by
  refine guarded_tile ?_
  dsimp only
  split
  · exact .refl _
  · split
    · trivial
    · next h => exact State.kept_updCore ((markAll_kept _ h).trans .of_streams)

/-! ### The special functions (R278 to R284) -/

theorem effSf32_tile (d a : BitVec 6) (f : BitVec 4) (r : BitVec 3) : (effSf32 d a f r x s).tileKept x.b s :=
  effUnary_tile _ _ _ _ _

theorem effSf64_tile (d a : BitVec 6) (f : BitVec 4) (r : BitVec 3) : (effSf64 d a f r x s).tileKept x.b s := by
  refine guarded_tile ?_
  split
  · exact .refl _
  · dsimp only
    split
    · next h => exact (readSource_tile _ _ _).error h
    · next h =>
      have hr := (readSource_tile _ _ _).ok h
      split
      · split
        · trivial
        · next h' => exact (hr.trans (State.kept_updCore (checkWrite_kept h'))).trans (State.kept_updCore .of_streams)
      · split
        · exact hr.trans (State.kept_updCore .of_streams)
        · split
          · next h' => exact Res.tileKept_of_kept hr ((pushQueue_tile _ _).error h')
          · next h' => exact (hr.trans ((pushQueue_tile _ _).ok h')).trans (State.kept_updCore .of_streams)

/-! ### The matrix words (R266 to R277) -/

theorem onAcc_tile (i : BitVec 3) (e : Effect) (h : (e x s).tileKept x.b s) : (onAcc i e x s).tileKept x.b s := by
  refine guarded_tile ?_
  split
  exacts [.refl _, h]

theorem effMma_tile (c : BitVec 3) (a : BitVec 6) (sb : BitVec 5) (f : BitVec 3) (kx : BitVec 4) (t m : BitVec 1) :
    (effMma c a sb f kx t m x s).tileKept x.b s := by
  refine onAcc_tile _ _ ?_
  dsimp only
  split
  · trivial
  · split
    · trivial
    · split
      · next h => exact (readSource_tile _ _ _).error h
      · next h => exact ((readSource_tile _ _ _).ok h).trans (State.kept_updCore .of_streams)

theorem popMany_tile (q : BitVec 6) (n : Nat) (s : State) : tileResult x.b s Prod.snd (popMany x q n s) := by
  induction n generalizing s with
  | zero => exact State.Kept.refl _
  | succ n ih =>
    unfold popMany
    split
    · next h => exact (readSource_tile _ _ _).error h
    · next s' h =>
      have hr : s.Kept x.b s' := (readSource_tile _ _ _).ok h
      split
      · next h' => exact Res.tileKept_of_kept hr ((ih _).error h')
      · next h' =>
        have hp := (ih _).ok h'
        exact hr.trans hp

theorem effMmaq_tile (c : BitVec 3) (a : BitVec 6) (q : BitVec 1) (f : BitVec 3) (kx : BitVec 4) :
    (effMmaq c a q f kx x s).tileKept x.b s := by
  refine onAcc_tile _ _ ?_
  extract_lets
  split
  · trivial
  · split
    · next h => exact (readSource_tile _ _ _).error h
    · next h =>
      have hr := (readSource_tile _ _ _).ok h
      split
      · next h' =>
        have hp := Res.tileKept_of_kept hr ((popMany_tile _ _ _).error h')
        split
        · exact .refl _
        · exact hp
      · next h' => exact (hr.trans ((popMany_tile _ _ _).ok h')).trans (State.kept_updCore .of_streams)

theorem effMchb_tile (c : BitVec 3) : (effMchb c x s).tileKept x.b s := onAcc_tile _ _ (State.kept_updCore .of_streams)

theorem effMzero_tile (c : BitVec 3) : (effMzero c x s).tileKept x.b s := onAcc_tile _ _ (State.kept_updCore .of_streams)

theorem effMlda_tile (c : BitVec 3) (v : BitVec 6) : (effMlda c v x s).tileKept x.b s := by
  refine onAcc_tile _ _ ?_
  split
  · next h => exact (readSource_tile _ _ _).error h
  · next h => exact ((readSource_tile _ _ _).ok h).trans (State.kept_updCore .of_streams)

theorem effMche_tile (c : BitVec 3) (v : BitVec 6) (f : BitVec 4) (r : BitVec 3) : (effMche c v f r x s).tileKept x.b s := by
  refine onAcc_tile _ _ ?_
  dsimp only
  split
  · trivial
  · split
    · exact .refl _
    · split
      · trivial
      · next h => exact State.kept_updCore ((checkWrite_kept h).trans .of_streams)

/-- A change of what a stream waits for. -/
theorem State.kept_wait (b : BenchId) (c : CoreId) (t : StreamId) (w : Wait) :
    s.Kept b (s.updStream b c t fun st => { st with wait := w }) :=
  State.kept_updStream ⟨rfl, rfl, rfl, rfl, rfl, fun h => ⟨rfl, h⟩⟩

/-- A fold of operations each of which keeps what is to be kept. -/
theorem State.kept_foldl {α : Type} {b : BenchId} (f : State → α → State) (hf : ∀ (s : State) (a : α), s.Kept b (f s a))
    (l : List α) (s : State) : s.Kept b (l.foldl f s) := by
  induction l generalizing s with
  | nil => exact .refl _
  | cons a l ih => exact (hf s a).trans (ih _)

theorem effMred_tile (c : BitVec 3) : (effMred c x s).tileKept x.b s := by
  refine guarded_tile ?_
  split
  · exact .refl _
  · split
    · exact .refl _
    · have hw : s.Kept x.b (x.upd s fun st => { st with wait := .rendezvous c }) := State.kept_wait _ _ _ _
      dsimp only
      split
      · exact hw
      · split
        · split
          · trivial
          · exact hw.trans (takeFault_kept _ _ _ _ _)
        · exact (hw.trans (State.kept_foldl _
            (fun s y => (State.kept_updCore .of_streams).trans (State.kept_wait _ _ _ _)) _ _)).trans (State.kept_agenda _)

end Sys2Proof.Machine
end

section
/-! SUPPORT. A bundle of one word of CP: looking at the word, meeting the other cores, and going on keep what the word keeps. -/

namespace Sys2Proof.Machine

variable {s : State} {x : Ctx}

/-- The effect of every word of CP other than the common group. -/
theorem wordEffect_tile (i : Instr) (h : classOf i = .c) : (wordEffect i x s).tileKept x.b s := by
  cases i
  case vf32 | vf64 | vf16 | vbf16 => exact effVf_tile _ _ _ _ _ _ _
  case vfcmp => exact effVfcmp_tile _ _ _ _ _
  case vicmp => exact effVicmp_tile _ _ _ _ _
  case vi32 | vi16 | vi8 | vi64 => exact effVi_tile _ _ _ _ _ _ _
  case vlogic => exact effVlogic_tile _ _ _ _
  case vcvt => exact effVcvt_tile _ _ _ _ _
  case vmoveMov => exact effMov_tile _ _
  case vmoveXtr => exact effXtr_tile _ _ _
  case vmoveIns => exact effIns_tile _ _ _
  case vrot => exact effVrot_tile _ _ _ _
  case vbc => exact effVbc_tile _ _ _ _
  case vmoveSel => exact effSel_tile _ _ _ _
  case vmoveImm => exact effImm_tile _ _
  case vmoveIota => exact effIota_tile _
  case vred => exact effVred_tile _ _ _ _ _
  case vtrg => exact effVtrg_tile _ _
  case vperm => exact effVperm_tile _ _ _
  case vsort => exact effVsort_tile _ _ _ _
  case pred => exact effPred_tile _ _ _ _
  case xfRd => exact effXfRd_tile _
  case xfClr | xfSet => exact effXfChange_tile _ _
  case psel => exact State.Kept.refl _
  case sf32 => exact effSf32_tile _ _ _ _
  case ckEnc | ckDec => exact effCkCode_tile _ _ _ _
  case sf64 => exact effSf64_tile _ _ _ _
  case ckAdd | ckSub => exact effCkAdd_tile _ _ _ _ _
  case ckInbox => exact effCkInbox_tile _ _ _ _
  case ckNext => exact effCkNext_tile _ _ _ _
  case cksplit => exact effCksplit_tile _ _ _ _
  case mma => exact effMma_tile _ _ _ _ _ _ _
  case mmaq => exact effMmaq_tile _ _ _ _ _
  case mchb => exact effMchb_tile _
  case mzero => exact effMzero_tile _
  case mche => exact effMche_tile _ _ _ _
  case mred => exact effMred_tile _
  case mlda => exact effMlda_tile _ _
  all_goals cases h

/-! ### Going on -/

/-- The end of an iteration touches no register but the stage flags of an active loop (R183, R184). -/
theorem endIter_fields (l : List LoopFrame) (st : Stream) (a : Word) (atFlip : Bool) :
    (st.endIter a atFlip l).s = st.s ∧ (st.endIter a atFlip l).b = st.b ∧ (st.endIter a atFlip l).sets = st.sets ∧
      (st.endIter a atFlip l).next = st.next ∧ (st.endIter a atFlip l).status = st.status := by
  induction l generalizing st atFlip with
  | nil => exact ⟨rfl, rfl, rfl, rfl, rfl⟩
  | cons f r ih =>
    unfold Stream.endIter
    split
    · split
      · exact ⟨rfl, rfl, rfl, rfl, rfl⟩
      · split
        · dsimp only
          unfold Stream.startIter
          split <;> exact ⟨rfl, rfl, rfl, rfl, rfl⟩
        · obtain ⟨h1, h2, h3, h4, h5⟩ := ih (st.leave f) false
          rw [h1, h2, h3, h4, h5]
          unfold Stream.leave
          split <;> exact ⟨rfl, rfl, rfl, rfl, rfl⟩
    · exact ⟨rfl, rfl, rfl, rfl, rfl⟩

theorem endIter_kept (st : Stream) (a : Word) (atFlip : Bool) : st.Kept (st.endIter a atFlip st.loops) := by
  obtain ⟨h1, h2, h3, h4, h5⟩ := endIter_fields st.loops st a atFlip
  exact ⟨h1, h2, h3, h4, h5, fun h => by rw [h]; exact ⟨rfl, rfl⟩⟩

/-- The stream goes on. -/
theorem advance_kept (st : Stream) (next : Word) : st.Kept (st.advance next) := by
  unfold Stream.advance
  split
  · exact .refl _
  · have h := endIter_kept { st with wait := .none } next false
    exact ⟨h.s, h.b, h.sets, h.next, h.status, h.loops⟩

/-- A word that goes on, or faults instead, keeps what its effect keeps. -/
theorem goOn_kept {s0 : State} (h : s0.Kept x.b s) : s0.Kept x.b (goOn x s0 s) := by
  unfold goOn leads
  dsimp only
  split
  · exact h.trans (State.kept_updStream (f := fun _ => _) (advance_kept _ _))
  · exact takeFault_kept _ _ _ _ _

/-- Whatever a word of CP other than the common group comes to. -/
theorem settle_kept {r : Res} (h : r.tileKept x.b s) : s.Kept x.b (settle x s r) := by
  cases r
  case ok | ring => exact goOn_kept h
  case stay | halt => exact h
  case trap => exact takeFault_kept _ _ _ _ _
  all_goals exact h.elim

/-! ### Bundles -/

/-- A bundle of such words that is being looked at. -/
structure Issue.tileKept (b : BenchId) (s : State) (y : Issue) : Prop where
  state : s.Kept b y.s
  refused : ∀ z ∈ y.refused, z.2.tileKept b s
  waits : ∀ t ∈ y.waits, s.Kept b t
  control : y.control = none
  late : y.late = none

/-- Looking at a word. -/
theorem Issue.word_tile {y : Issue} (hy : y.tileKept x.b s) (n : Nat) (w : BundleWord) (i : Instr) (hc : classOf i = .c)
    (hg : groupStop (x.at' n w) y.s i = none) : (y.word x n w i).tileKept x.b s := by
  obtain ⟨hs, hr, hw, hct, hl⟩ := hy
  have he : (wordEffect i (x.at' n w) y.s).tileKept x.b s := Res.tileKept_of_kept hs (wordEffect_tile i hc)
  unfold Issue.word
  simp only [hg]
  cases hres : wordEffect i (x.at' n w) y.s <;> rw [hres] at he
  case ok => exact ⟨he, hr, hw, hct, hl⟩
  case ring => exact ⟨he, hr, hw, hct, hl⟩
  case stay | halt => exact ⟨hs, hr, fun t ht => by cases ht; exact he, hct, hl⟩
  case trap =>
    exact ⟨hs, fun z hz => (List.mem_append.mp hz).elim (hr z) fun hz => by cases List.mem_singleton.mp hz; exact trivial,
      hw, hct, hl⟩
  all_goals exact he.elim

/-- Cores that have not reached issue drop their rendezvous. -/
theorem dropStale_kept : s.Kept x.b (dropStale s x) := State.kept_foldl _ (fun _ _ => State.kept_wait _ _ _ _) _ _

/-- Looking at MRED (R275). -/
theorem Issue.mred_tile {y : Issue} (hy : y.tileKept x.b s) (n : Nat) (w : BundleWord) (i : Instr) (hc : classOf i = .c)
    (hg : ∀ u, groupStop (x.at' n w) u i = none) : (y.mred x s n w i).tileKept x.b s := by
  have ⟨hs, hr, hw, hct, hl⟩ := hy
  have he : (wordEffect i (x.at' n w) (dropStale s x)).tileKept x.b s :=
    Res.tileKept_of_kept dropStale_kept (wordEffect_tile i hc)
  have refuse (r : Res) (h : r.tileKept x.b s) : ({ y with refused := y.refused ++ [(n, r)] } : Issue).tileKept x.b s :=
    ⟨hs, fun z hz => (List.mem_append.mp hz).elim (hr z) fun hz => by cases List.mem_singleton.mp hz; exact h, hw, hct, hl⟩
  unfold Issue.mred
  split
  · exact hy
  · dsimp only
    split
    · split
      · exact refuse _ trivial
      · exact hy
    · split
      · split
        · exact hy
        · have hz := Issue.word_tile (x := x) (y := { y with s := dropStale y.s x })
            ⟨hs.trans dropStale_kept, hr, hw, hct, hl⟩ n w i hc (hg _)
          exact ⟨hz.state.trans (State.kept_wait _ _ _ _), hz.refused, hz.waits, hz.control, hz.late⟩
      · next h => rw [h] at he; exact ⟨hs, hr, fun t ht => by cases ht; exact he, hct, hl⟩
      · next h => rw [h] at he; exact ⟨hs, hr, fun t ht => by cases ht; exact he, hct, hl⟩
      · exact refuse _ he

/-- The refusal that a bundle raises is one of its refusals. -/
theorem mem_of_worst {l : List (Nat × Res)} {z : Nat × Res} (h : worst l = some z) : z ∈ l := by
  induction l generalizing z with
  | nil => cases h
  | cons y r ih =>
    unfold worst at h
    split at h
    · cases h; exact List.mem_cons_self
    · next u hu =>
      cases h
      split
      · exact List.mem_cons_of_mem _ (ih hu)
      · exact List.mem_cons_self

theorem Issue.held_tile {y : Issue} (hy : y.tileKept x.b s) : (y.held x s).tileKept x.b s := by
  unfold Issue.held
  split
  · exact ⟨hy.state, hy.refused, fun t ht => by cases ht; exact State.kept_wait _ _ _ _, hy.control, hy.late⟩
  · exact hy

/-- Ring entries are no part of the scalar side. -/
theorem pushRing_kept (k : Core) (y : Nat × Option Tile) : k.Kept (pushRing k y) := by
  unfold pushRing
  dsimp only
  split <;> exact .of_streams

/-- What such a bundle comes to. -/
theorem Issue.finish_tile {y : Issue} (hy : y.tileKept x.b s) (ws : List BundleWord) : s.Kept x.b (y.finish x s ws) := by
  obtain ⟨hs, hr, hw, hct, hl⟩ := hy
  have raised (l : List (Nat × Res)) (h : ∀ z ∈ l, z.2.tileKept x.b s) (t : State)
      (ht : ((worst l).map fun z => settle { x with slot := z.1 } s z.2) = some t) : s.Kept x.b t := by
    obtain ⟨z, hz, rfl⟩ := Option.map_eq_some_iff.mp ht
    exact settle_kept (x := { x with slot := z.1 }) (h z (mem_of_worst hz))
  have hcleared : s.Kept x.b (x.upd y.s Stream.cleared) :=
    hs.trans (State.kept_updStream ⟨rfl, rfl, rfl, rfl, rfl, fun h => ⟨rfl, h⟩⟩)
  have hclosed : s.Kept x.b (y.closed x) := 
    hcleared.trans (State.kept_updCore (f := fun k => y.pushes.foldl pushRing k) (foldl_kept _ pushRing_kept _ _))
  unfold Issue.finish
  dsimp only
  split
  · split
    · next ht => exact raised _ (fun z hz => hr z (List.mem_filter.mp hz).1) _ ht
    · exact (hw _ ‹_›).trans (State.kept_updStream ⟨rfl, rfl, rfl, rfl, rfl, fun h => ⟨rfl, h⟩⟩)
  · split
    · next ht =>
      refine raised _ (fun z hz => (List.mem_append.mp hz).elim (hr z) fun hz => ?_) _ ht
      obtain ⟨t, -, rfl⟩ := List.mem_map.mp hz
      trivial
    · rw [hl]
      have ho : y.outcome (y.closed x) = .ok (y.closed x) := by simp [Issue.outcome, hct]
      rw [ho]
      exact goOn_kept (x := { x with slot := y.transferSlot ws }) hclosed

/-- What stops a word by its group is the same wherever on its bench it stands. -/
theorem groupStop_bench (y : Ctx) (h : x.b = y.b) (i : Instr) : groupStop x s i = groupStop y s i := by
  unfold groupStop isMasked Ctx.gang
  rw [h]

/-- The only word of a bundle stands in one slot. -/
theorem bySlot_sole (w : BundleWord) : ∃ n, bySlot (slotted 2 [w]) = [(n, w)] := by
  have h6 : slotClaim w.raw ≤ 6 := by unfold slotClaim; dsimp only; split_ifs <;> omega
  obtain h | h | h | h | h | h | h : slotClaim w.raw = 0 ∨ slotClaim w.raw = 1 ∨ slotClaim w.raw = 2 ∨
    slotClaim w.raw = 3 ∨ slotClaim w.raw = 4 ∨ slotClaim w.raw = 5 ∨ slotClaim w.raw = 6 := by omega
  all_goals simp [slotted, h, bySlot, inSlot, List.range_succ]

/-- MRED belongs to no group. -/
theorem groupStop_mred (w : BundleWord) (i : Instr) (hi : w.instr = some i) (hm : isMred w = true) (u : State) :
    groupStop x u i = none := by
  unfold isMred at hm
  rw [hi] at hm
  cases i <;> cases hm
  rfl

/-- A bundle of one such word. -/
theorem performBundle_sole (w : BundleWord) (i : Instr) (n : Nat) (hi : w.instr = some i) (hc : classOf i = .c)
    (hg : groupStop x s i = none) : s.Kept x.b (performBundle s x [w] [(n, w)] none) := by
  have h0 : ({ s := s } : Issue).tileKept x.b s :=
    ⟨.refl _, fun _ h => absurd h List.not_mem_nil, fun t h => absurd h (by simp), rfl, rfl⟩
  unfold performBundle lookWords
  refine Issue.finish_tile ?_ _
  cases hm : isMred w
  · have hw := Issue.held_tile (Issue.word_tile h0 n w i hc ((groupStop_bench x rfl i).trans hg))
    simp only [List.filter, hm, Bool.not_false, List.foldl_cons, List.foldl_nil, hi]
    exact ⟨hw.state, hw.refused, hw.waits, hw.control, by simpa using hw.late⟩
  · have hw := Issue.mred_tile (Issue.held_tile h0) n w i hc (groupStop_mred w i hi hm)
    simp only [List.filter, hm, Bool.not_true, List.foldl_cons, List.foldl_nil, hi]
    exact ⟨hw.state, hw.refused, hw.waits, hw.control, by simpa using hw.late⟩

/-- A word of CP other than the common group, alone and refused by nothing at issue. -/
theorem exec_tile {s' : State} {b : BenchId} {c : CoreId} {slot : Nat} {i : Instr} (ha : s.aloneInCp b c slot i)
    (hc : classOf i = .c) (h : exec i s = .next s') : s.Kept b s' := by
  obtain ⟨⟨hp, hb⟩, hspec, hgrp⟩ := ha
  obtain ⟨hb, hsx⟩ := hb rfl
  rw [exec_word s i (by rw [hc]; decide), runWord_stream s b c 2 i hp] at h
  cases h
  have hfit : (classOf i).fits 2 = true := by rw [hc]; rfl
  unfold runStream
  rw [if_pos ⟨rfl, hfit⟩]
  unfold collectWord
  dsimp only
  split
  · rw [hb]
    unfold issueBundle
    dsimp only
    split
    · exact takeFault_kept _ _ _ _ _
    · obtain ⟨n, hn⟩ := bySlot_sole { addr := _, raw := rawOf i, instr := some i }
      rw [hsx, List.nil_append, hn]
      exact performBundle_sole (x := bundleCtx s b c _) _ i n rfl hc
        (by exact (groupStop_bench (s.issuing b c 2 slot) rfl i).trans hgrp)
  · exact State.kept_updStream ⟨rfl, rfl, rfl, rfl, rfl, fun h => ⟨rfl, h⟩⟩

/-- Settles O51: each such word keeps what `State.Kept` names, and so does going on after it. -/
theorem tileWordsFrame : Obligations.TileWordsFrame := by
  unfold Obligations.TileWordsFrame
  intro s s' b c slot i ha hc h
  have k := exec_tile ha hc h
  refine ⟨k.mem, k.llc, k.tlb, k.quads, k.clocks, k.vfs, k.ctxs, k.others, fun q => ?_⟩
  have kq := k.cores q
  exact ⟨kq.scratch, kq.tok, kq.phase, kq.rb, fun u =>
    ⟨(kq.streams u).s, (kq.streams u).b, (kq.streams u).sets, (kq.streams u).next, (kq.streams u).status,
      fun hl => ((kq.streams u).loops hl).1⟩⟩

end Sys2Proof.Machine
end

section
/-! SUPPORT. The state after reset: what each unit holds, and the registers of the blocks by their offsets. -/

namespace Sys2Proof.Machine

/-! ### Units after reset -/

theorem reset_gang? (b : BenchId) : State.reset.gang? b = none := by
  simp [State.gang?, State.reset, State.resetOf]

theorem reset_part (p : PartId) : State.reset.part p = {} := by simp [State.part, State.reset, State.resetOf]

theorem reset_vf (v : VfId) : State.reset.vf v = {} := by
  unfold State.vf
  by_cases h : v.toNat < 96 <;> simp [State.reset, State.resetOf, h]

theorem reset_colRun (i : BitVec 2) : State.reset.colRun i = none := by
  simp [State.colRun, State.reset, State.resetOf]

/-- No format region is enabled after reset (Table 08.3). -/
theorem reset_regionOf (a : Nat) : regionOf State.reset a = none := by
  have hq : State.reset.quads[(homeQuad a).toFin] = {} := by simp [State.reset, State.resetOf]
  unfold regionOf
  rw [hq, List.find?_eq_none]
  intro e he
  have hr : e.2 = {} := by
    obtain ⟨-, h2⟩ := List.of_mem_zip (a := e.1) (b := e.2) he
    simpa using h2
  simp [hr, FmtRegion.covers]

/-- All memory reads zero after reset (R316; log 32). -/
theorem reset_physByte (a : Nat) : physByte State.reset a = 0 := by
  unfold physByte
  rw [reset_regionOf]
  split
  · rfl
  · split <;> rfl

/-! ### The bench fuse map (R2) -/

/-- A bit of a union of single bits. -/
theorem getLsbD_foldl_or (f : Nat → Nat) (l : List Nat) (m : Word) (i : Nat) (hi : i < 64) :
    (l.foldl (fun m d => m ||| (1#64 <<< f d)) m).getLsbD i = (m.getLsbD i || l.any fun d => i == f d) := by
  induction l generalizing m with
  | nil => simp
  | cons d l ih =>
    have h1 : (1#64 <<< f d).getLsbD i = (i == f d) := by
      rw [Bool.eq_iff_iff]
      simp [hi]
      omega
    rw [List.foldl_cons, ih, List.any_cons, BitVec.getLsbD_or, h1, Bool.or_assoc]

/-- BENCHMAP of a ZP448: on each compute die, every bench but the one that the fuse map disables. -/
theorem benchmap_zp448 (d : Device) (h : d.kind = .zp448) (die : Fin 8) (n : BitVec 3) :
    d.benchmap.getLsbD (8 * die.val + n.toNat) = true ↔ n ≠ d.fuses[die] := by
  have hn := n.isLt
  have hi : 8 * die.val + n.toNat < 64 := by omega
  unfold Device.benchmap PartKind.disabled
  rw [h, BitVec.getLsbD_not, getLsbD_foldl_or (fun die => 8 * die + (d.fuses[die]!).toNat) _ _ _ hi]
  have hany : ((List.range 8).any fun k => 8 * die.val + n.toNat == 8 * k + (d.fuses[k]!).toNat) = true ↔ n = d.fuses[die] := by
    rw [List.any_eq_true]
    constructor
    · rintro ⟨k, hk, he⟩
      have hf := (d.fuses[k]!).isLt
      rw [List.mem_range] at hk
      rw [beq_iff_eq] at he
      obtain rfl : k = die.val := by omega
      refine BitVec.eq_of_toNat_eq ?_
      simpa [hk] using he
    · exact fun h => ⟨die.val, List.mem_range.mpr die.isLt, by simp [h]⟩
  rw [decide_eq_true hi, Bool.true_and, show (0 : Word).getLsbD (8 * die.val + n.toNat) = false from BitVec.getLsbD_zero,
    Bool.false_or, Bool.not_eq_true', ← Bool.not_eq_true, hany]

/-- BENCHMAP of the other parts names every bench. -/
theorem benchmap_whole (d : Device) (h : d.kind ≠ .zp448) : d.benchmap = 0xFFFFFFFFFFFFFFFF#64 := by
  unfold Device.benchmap PartKind.disabled
  cases hk : d.kind
  case zp448 => exact absurd hk h
  all_goals exact BitVec.not_zero

/-! ### Registers by their offsets (Tables 36.4, 36.7, 36.9, 36.11) -/

/-- A register of PF BAR0. -/
theorem readBar_pf0 (s : State) (o : Nat) (r : HostReg) (h : regAt .pf0 o = some r) : readBar s .pf0 o = readReg s r := by
  simp [readBar, barPresent, h]

theorem regAt_part (p : PartId) (o : Nat) (h : o < 0x10000) :
    regAt .pf0 (0x200000 + 0x10000 * p.toNat + o) = partReg p o := by
  have hp := p.isLt
  unfold regAt
  dsimp only
  rw [if_neg (by omega), if_pos (by omega),
    show (0x200000 + 0x10000 * p.toNat + o - 0x200000) / 0x10000 = p.toNat by omega,
    show (0x200000 + 0x10000 * p.toNat + o) % 0x10000 = o by omega, BitVec.ofNat_toNat, BitVec.setWidth_eq]

theorem regAt_quad (q : QuadId) (o : Nat) (h : o < 0x10000) :
    regAt .pf0 (0x600000 + 0x10000 * q.toNat + o) = quadReg q o := by
  have hq := q.isLt
  unfold regAt
  dsimp only
  rw [if_neg (by omega), if_neg (by omega), if_pos (by omega),
    show (0x600000 + 0x10000 * q.toNat + o - 0x600000) / 0x10000 = q.toNat by omega,
    show (0x600000 + 0x10000 * q.toNat + o) % 0x10000 = o by omega, BitVec.ofNat_toNat, BitVec.setWidth_eq]

theorem regAt_vf (v : VfId) (hv : v.toNat < 96) (o : Nat) (h : o < 0x1000) :
    regAt .pf0 (0x800000 + 0x1000 * v.toNat + o) = vfReg v o := by
  unfold regAt
  dsimp only
  rw [if_neg (by omega), if_neg (by omega), if_neg (by omega), if_pos (by omega),
    show (0x800000 + 0x1000 * v.toNat + o - 0x800000) / 0x1000 = v.toNat by omega,
    show (0x800000 + 0x1000 * v.toNat + o) % 0x1000 = o by omega, BitVec.ofNat_toNat, BitVec.setWidth_eq]

/-- A register of a partition, after reset. -/
theorem readBar_reset_part (p : PartId) (o : Nat) (r : HostReg) (h : o < 0x10000) (hr : partReg p o = some r) :
    readBar State.reset .pf0 (0x200000 + 0x10000 * p.toNat + o) = readReg State.reset r :=
  readBar_pf0 _ _ _ ((regAt_part p o h).trans hr)

/-! ### The statement's parts -/

/-- BENCHMAP as the host reads it (Table 36.5). -/
theorem readBar_benchmap (s : State) : readBar s .pf0 0x050 = s.dev.benchmap :=
  readBar_pf0 s 0x050 .benchmap rfl

theorem reset_quad_register (q : QuadId) : readBar State.reset .pf0 (0x600408 + 0x10000 * q.toNat) = 0 := by
  have h : readBar State.reset .pf0 (0x600000 + 0x10000 * q.toNat + 0x408) = readReg State.reset (.qpwr q) :=
    readBar_pf0 _ _ _ (regAt_quad q _ (by decide))
  have hq : State.reset.quads[q.toFin] = {} := by simp [State.reset, State.resetOf]
  rw [show 0x600408 + 0x10000 * q.toNat = 0x600000 + 0x10000 * q.toNat + 0x408 by omega, h, readReg, hq]
  decide

theorem reset_vf_registers (v : VfId) (hv : v.toNat < 96) :
    readBar State.reset .pf0 (0x800000 + 0x1000 * v.toNat) = 1000 ∧ readReg State.reset (.lqcfg v) = 0x40 ∧
      readReg State.reset (.vfctx v false) = 0 := by
  have h : readBar State.reset .pf0 (0x800000 + 0x1000 * v.toNat + 0) = readReg State.reset (.vfbud v) :=
    readBar_pf0 _ _ _ (regAt_vf v hv _ (by decide))
  refine ⟨h.trans ?_, ?_, ?_⟩ <;> simp only [readReg, reset_vf] <;> decide

theorem reset_part_registers (p : PartId) :
    readBar State.reset .pf0 (0x200000 + 0x10000 * p.toNat) = 0 ∧
    readBar State.reset .pf0 (0x200010 + 0x10000 * p.toNat) = 0x4000 ∧
    readBar State.reset .pf0 (0x200100 + 0x10000 * p.toNat) = 3 ∧
    readBar State.reset .pf0 (0x200118 + 0x10000 * p.toNat) = 0 := by
  have h0 := readBar_reset_part p 0 (.pbench p) (by decide) rfl
  have h1 := readBar_reset_part p 0x10 (.pboost p) (by decide) rfl
  have h2 := readBar_reset_part p 0x100 (.tqcfg p) (by decide) rfl
  have h3 := readBar_reset_part p 0x118 (.pstat p) (by decide) rfl
  rw [show 0x200010 + 0x10000 * p.toNat = 0x200000 + 0x10000 * p.toNat + 0x10 by omega, h1,
    show 0x200100 + 0x10000 * p.toNat = 0x200000 + 0x10000 * p.toNat + 0x100 by omega, h2,
    show 0x200118 + 0x10000 * p.toNat = 0x200000 + 0x10000 * p.toNat + 0x118 by omega, h3]
  refine ⟨h0.trans ?_, ?_, ?_, ?_⟩ <;> simp only [readReg, reset_part] <;> decide

/-- Settles O56: every unit is the one of `State.resetOf`, and each register is read at its offset. -/
theorem resetState : Obligations.ResetState := by
  unfold Obligations.ResetState
  refine ⟨fun kind lc rollback fuses => ⟨rfl, rfl, rfl, rfl, rfl, readBar_benchmap _,
      fun h => benchmap_whole _ h, fun h => benchmap_zp448 (State.resetOf kind lc rollback fuses).dev h⟩,
    State.reset_memWf, reset_gang?, reset_physByte, reset_colRun, ?_, ?_, ?_, ?_, ?_, ?_, reset_vf_registers,
    reset_part_registers, reset_quad_register, fun v => ?_, fun p => ?_⟩
  case refine_7 => simp [State.reset, State.resetOf]
  case refine_8 => rw [reset_part]
  all_goals rw [readBar_pf0 _ _ _ rfl]; decide

end Sys2Proof.Machine
end

section
/-! SUPPORT. Every operation of the model keeps device memory in its canonical form (O57): what the results of the model's
operations carry, and the rules for the operations that change parts of the state. -/

namespace Sys2Proof.Machine

/-! ### The states that results carry -/

/-- The state of a result that is refused, or of one that is not, meets `P`; `st` picks the latter's state. -/
def HoldsOr {α : Type} (P : State → Prop) (st : α → State) : Except Res α → Prop
  | .error r => r.holds P
  | .ok a => P (st a)

/-- The state that a command's result carries, if it carries one, meets `P`. -/
def ColRes.holds (P : State → Prop) : ColRes → Prop
  | .done s _ => P s
  | .more s _ => P s
  | .ended s => P s
  | .fault _ => True
  | .refused s _ => P s
  | .mem s _ _ => P s

/-- The state that a command's operation carries, or that of the result it is refused with, meets `P`. -/
def HoldsOrCol {α : Type} (P : State → Prop) (st : α → State) : Except ColRes α → Prop
  | .error r => r.holds P
  | .ok a => P (st a)

/-- The state that a turn's first part leaves meets `P`. -/
def Fetched.holds (P : State → Prop) : Fetched → Prop
  | .word _ s => P s
  | .done s => P s

/-- The next state, where there is one, meets `P`. -/
def outHolds (P : State → Prop) : Host.Outcome State Fault Refusal → Prop
  | .next s => P s
  | _ => True

/-! ### Changing a part of the state -/

variable {s : State}

/-- A state with the same memory. -/
theorem State.memWf_of_mem {t : State} (e : t.mem = s.mem) (h : s.memWf) : t.memWf := by
  unfold State.memWf
  rw [e]
  exact h

theorem setGang_memWf (b : BenchId) (g : Option Gang) (h : s.memWf) : (s.setGang b g).memWf := h

theorem updCore_memWf (b : BenchId) (c : CoreId) (f : Core → Core) (h : s.memWf) : (s.updCore b c f).memWf :=
  updGang_memWf s b _ h

theorem updStream_memWf (b : BenchId) (c : CoreId) (t : StreamId) (f : Stream → Stream) (h : s.memWf) :
    (s.updStream b c t f).memWf := updCore_memWf b c _ h

theorem updVf_memWf (v : VfId) (f : Vf → Vf) (h : s.memWf) : (s.updVf v f).memWf := h

theorem updCtx_memWf (i : BitVec 2) (f : ColCtx → ColCtx) (h : s.memWf) : (s.updCtx i f).memWf := h

theorem setRun_memWf (i : BitVec 2) (r : ColRun) (h : s.memWf) : (s.setRun i r).memWf := h

theorem updScx_memWf (i : BitVec 2) (f : Scx → Scx) (h : s.memWf) : (s.updScx i f).memWf := h

theorem updWindow_memWf (p : PartId) (n : BitVec 6) (f : Window → Window) (h : s.memWf) :
    (s.updWindow p n f).memWf := h

theorem updDev_memWf (f : Device → Device) (h : s.memWf) : (s.updDev f).memWf := h

theorem updQuad_memWf (q : QuadId) (f : Quad → Quad) (h : s.memWf) : (s.updQuad q f).memWf := h

theorem raiseHalt_memWf (p : PartId) (cause unit : Nat) (b : BenchId) (c : CoreId) (t : StreamId) (h : s.memWf) :
    (raiseHalt s p cause unit b c t).1.memWf := by
  rw [raiseHalt_frame]
  exact h

theorem blame_memWf (b : BenchId) (cause : Nat) (h : s.memWf) : (s.blame b cause).memWf := updGang_memWf s b _ h

end Sys2Proof.Machine
end

section
/-! SUPPORT. Scalar accesses, releases and acquires keep device memory in its canonical form (R97, R105 to R109). -/

namespace Sys2Proof.Machine

theorem llcUpdate_memWf (s : State) (l : LlcLine) (h : s.memWf) : (llcUpdate s l).memWf := h

theorem writeBackLine_memWf (s : State) (l : LlcLine) (h : s.memWf) : (writeBackLine s l).memWf :=
  (writeBackLine_served s l).memWf h

theorem carriedLook_memWf (s : State) (p : PartId) (line : Nat) (h : s.memWf) : (carriedLook s p line).memWf :=
  (carriedLook_served s p line).memWf h

theorem llcServe_memWf (s : State) (p : Option PartId) (pa n : Nat) (h : s.memWf) : (llcServe s p pa n).memWf :=
  (llcServe_served s p pa n).memWf h

theorem translate_memWf {s s' : State} {w : Who} {va : Word} {l : Leaf} (he : translate s w va = .ok (l, s'))
    (h : s.memWf) : s'.memWf := (translate_passed _ _ _ _ _ he).memWf h

theorem takeCopyFault_memWf (s : State) (b : BenchId) (c : CoreId) (k : Copy) (f : Trap) (h : s.memWf) :
    (takeCopyFault s b c k f).1.memWf := blame_memWf (h := raiseHalt_memWf (h := h) ..) ..

theorem scratchWrite_memWf (s : State) (b : BenchId) (a n v : Nat) (h : s.memWf) : (scratchWrite s b a n v).memWf :=
  updCore_memWf (h := h) ..

theorem memTrap_memWf (x : Ctx) (s : State) (at' va : Word) (f : MemFault) (h : s.memWf) :
    (memTrap x s at' va f).holds State.memWf := by
  unfold memTrap
  grind [missed_memWf, Res.holds]

theorem loadDevice_memWf (s : State) (x : Ctx) (va : Word) (n : Nat) (h : s.memWf) : HoldsOr State.memWf Prod.snd
    (loadDevice s x va n) := by
  unfold loadDevice
  grind [updCore_memWf, access_memWf, watch_memWf, memTrap_memWf, llcServe_memWf, Res.holds, HoldsOr]

theorem storeDevice_memWf (s : State) (x : Ctx) (va : Word) (n v : Nat) (h : s.memWf) : HoldsOr State.memWf id
    (storeDevice s x va n v) := by
  unfold storeDevice
  grind [homeAccess_memWf, updCore_memWf, physWrite_memWf, memTrap_memWf, Res.holds, HoldsOr]

theorem askBarrier_memWf (s : State) (p : PartId) (own : BitVec 24) (h : s.memWf) : (askBarrier s p own).memWf := by
  unfold askBarrier
  grind [updPart_memWf]

theorem tick_memWf (s : State) (b : BenchId) (h : s.memWf) : (tick s b).memWf := by
  unfold tick
  grind [State.memWf, askBarrier_memWf]

theorem carryMore_memWf (s : State) (p : PartId) (line : Nat) (c : Clock) (h : s.memWf) : (carryMore s p line c).memWf :=
  setCarried_memWf (h := h) ..

theorem releaseAt_memWf (s : State) (b : BenchId) (scope pa : Nat) (h : s.memWf) : (releaseAt s b scope pa).memWf := by
  unfold releaseAt
  grind [tick_memWf, carryMore_memWf]

theorem releaseOnly_memWf (s : State) (b : BenchId) (scope : Nat) (h : s.memWf) : (releaseOnly s b scope).memWf := by
  unfold releaseOnly
  grind [tick_memWf]

theorem joinClock_memWf (s : State) (b : BenchId) (c : Clock) (h : s.memWf) : (joinClock s b c).memWf := by
  unfold joinClock
  grind [State.memWf, askBarrier_memWf]

theorem acquireL1_memWf (s : State) (x : Ctx) (scope : Nat) (h : s.memWf) : (acquireL1 s x scope).memWf := by
  unfold acquireL1
  grind [updCore_memWf]

theorem acquireAt_memWf (s : State) (x : Ctx) (scope pa : Nat) (h : s.memWf) : (acquireAt s x scope pa).memWf := by
  unfold acquireAt
  grind [carriedLook_memWf, acquireL1_memWf, joinClock_memWf]

end Sys2Proof.Machine
end

section
/-! SUPPORT. The words of the common scalar group keep device memory in its canonical form (R173 to R195). -/

namespace Sys2Proof.Machine

theorem writeS_memWf (d : BitVec 5) (v : Word) (x : Ctx) (s : State) (h : s.memWf) : (writeS d v x s).holds State.memWf := by
  unfold writeS
  grind [updStream_memWf, Res.holds]

theorem effAlu_memWf (fn : Nat) (d a b : BitVec 5) (w : BitVec 2) (q : BitVec 4) (x : Ctx) (s : State) (h : s.memWf) :
    (effAlu fn d a b w q x s).holds State.memWf := by
  unfold effAlu
  grind [writeS_memWf, Res.holds]

theorem effAlu2_memWf (fn : Nat) (d a b : BitVec 5) (w : BitVec 2) (q : BitVec 4) (x : Ctx) (s : State) (h : s.memWf) :
    (effAlu2 fn d a b w q x s).holds State.memWf := by
  unfold effAlu2
  grind [writeS_memWf, Res.holds]

theorem effAddi_memWf (d a : BitVec 5) (i : BitVec 15) (x : Ctx) (s : State) (h : s.memWf) :
    (effAddi d a i x s).holds State.memWf := writeS_memWf (h := h) ..

theorem effLogi_memWf (fn : Nat) (d a : BitVec 5) (i : BitVec 13) (x : Ctx) (s : State) (h : s.memWf) :
    (effLogi fn d a i x s).holds State.memWf := writeS_memWf (h := h) ..

theorem effShi_memWf (fn : Nat) (d a : BitVec 5) (n : BitVec 6) (x : Ctx) (s : State) (h : s.memWf) :
    (effShi fn d a n x s).holds State.memWf := writeS_memWf (h := h) ..

theorem effLi_memWf (d : BitVec 5) (i : BitVec 20) (x : Ctx) (s : State) (h : s.memWf) : (effLi d i x s).holds State.memWf :=
  writeS_memWf (h := h) ..

theorem effLih_memWf (d : BitVec 5) (i : BitVec 20) (x : Ctx) (s : State) (h : s.memWf) :
    (effLih d i x s).holds State.memWf := writeS_memWf (h := h) ..

theorem effCmp_memWf (f : BitVec 3) (c : BitVec 4) (a b : BitVec 5) (q : BitVec 4) (x : Ctx) (s : State) (h : s.memWf) :
    (effCmp f c a b q x s).holds State.memWf := by
  unfold effCmp
  grind [updStream_memWf, Res.holds]

theorem effCmpi_memWf (f : BitVec 3) (c : BitVec 4) (a : BitVec 5) (i : BitVec 13) (x : Ctx) (s : State) (h : s.memWf) :
    (effCmpi f c a i x s).holds State.memWf := by
  unfold effCmpi
  grind [updStream_memWf, Res.holds]

theorem effFop_memWf (fn : Nat) (d a b : BitVec 3) (x : Ctx) (s : State) (h : s.memWf) :
    (effFop fn d a b x s).holds State.memWf := by
  unfold effFop
  grind [updStream_memWf, Res.holds]

theorem effBf_memWf (fn : Nat) (d a : BitVec 5) (p n : BitVec 6) (x : Ctx) (s : State) (h : s.memWf) :
    (effBf fn d a p n x s).holds State.memWf := writeS_memWf (h := h) ..

theorem effPbr_memWf (b : BitVec 3) (i : BitVec 21) (x : Ctx) (s : State) (h : s.memWf) :
    (effPbr b i x s).holds State.memWf := by
  unfold effPbr
  grind [updStream_memWf, Res.holds]

theorem effPbrReg_memWf (b : BitVec 3) (a : BitVec 5) (x : Ctx) (s : State) (h : s.memWf) :
    (effPbrReg b a x s).holds State.memWf := by
  unfold effPbrReg
  grind [updStream_memWf, Res.holds]

theorem effBr_memWf (link : Bool) (b : BitVec 3) (q : BitVec 4) (x : Ctx) (s : State) (h : s.memWf) :
    (effBr link b q x s).holds State.memWf := by
  unfold effBr
  grind [updStream_memWf, Res.holds]

theorem startLoop_memWf (f : LoopFrame) (x : Ctx) (s : State) (h : s.memWf) : (startLoop f x s).holds State.memWf := by
  unfold startLoop
  grind [updStream_memWf, Res.holds]

theorem closedLook_memWf (x : Ctx) (s : State) (f : LoopFrame) (h : s.memWf) : (closedLook x s f).memWf := by
  unfold closedLook
  grind [fetchLook_memWf]

theorem readDoublewords_memWf (x : Ctx) : ∀ (n : Nat) (s : State) (a : Word), s.memWf →
    HoldsOr State.memWf Prod.snd (readDoublewords s x a n)
  | 0, _, _, h => h
  | n + 1, s, a, h => by
    have ih := readDoublewords_memWf x n
    unfold readDoublewords
    grind [homeAccess_memWf, memTrap_memWf, Res.holds, HoldsOr]

theorem effLoop_memWf (c : BitVec 5) (n : BitVec 14) (x : Ctx) (s : State) (h : s.memWf) :
    (effLoop c n x s).holds State.memWf := by
  unfold effLoop
  grind [illegalOperand, closedLook_memWf, startLoop_memWf, Res.holds]

theorem effKloop_memWf (fl p : BitVec 1) (t : BitVec 3) (c : BitVec 5) (n : BitVec 14) (x : Ctx) (s : State)
    (h : s.memWf) : (effKloop fl p t c n x s).holds State.memWf := by
  unfold effKloop
  grind [updStream_memWf, illegalOperand, closedLook_memWf, startLoop_memWf, readDoublewords_memWf, Res.holds, HoldsOr]

theorem effLds_memWf (d b : BitVec 5) (z : BitVec 2) (u p : BitVec 1) (o : BitVec 11) (x : Ctx) (s : State) (h : s.memWf) :
    (effLds d b z u p o x s).holds State.memWf := by
  unfold effLds
  grind [writeS_memWf, loadDevice_memWf, Res.holds, HoldsOr]

theorem effSts_memWf (d b : BitVec 5) (z : BitVec 2) (p : BitVec 1) (o : BitVec 11) (x : Ctx) (s : State) (h : s.memWf) :
    (effSts d b z p o x s).holds State.memWf := by
  unfold effSts
  grind [scratchWrite_memWf, storeDevice_memWf, Res.holds, HoldsOr]

theorem effMovc_memWf (d y : BitVec 5) (x : Ctx) (s : State) (h : s.memWf) : (effMovc d y x s).holds State.memWf := by
  unfold effMovc
  grind [writeS_memWf, illegalOperand, Res.holds]

theorem effMovtc_memWf (y a : BitVec 5) (x : Ctx) (s : State) (h : s.memWf) : (effMovtc y a x s).holds State.memWf := by
  unfold effMovtc
  grind [updCore_memWf, illegalOperand, Res.holds]

theorem effMovb_memWf (y a : BitVec 5) (x : Ctx) (s : State) (h : s.memWf) : (effMovb y a x s).holds State.memWf := by
  unfold effMovb
  grind [updStream_memWf, illegalOperand, Res.holds]

theorem effRdsr_memWf (d : BitVec 5) (r : BitVec 12) (x : Ctx) (s : State) (h : s.memWf) :
    (effRdsr d r x s).holds State.memWf := by
  unfold effRdsr
  grind [writeS_memWf, illegalOperand, Res.holds]

theorem effWrsr_memWf (a : BitVec 5) (r : BitVec 12) (x : Ctx) (s : State) (h : s.memWf) :
    (effWrsr a r x s).holds State.memWf := by
  unfold effWrsr
  grind [updStream_memWf, illegalOperand, Res.holds]

theorem effFlip_memWf (x : Ctx) (s : State) (h : s.memWf) : (effFlip x s).holds State.memWf := by
  unfold effFlip
  grind [updStream_memWf, illegalInstruction, Res.holds]

theorem effEnd_memWf (x : Ctx) (s : State) (h : s.memWf) : (effEnd x s).holds State.memWf := by
  unfold effEnd
  grind [updStream_memWf, illegalInstruction, Res.holds]

theorem effPdecl_memWf (cl sl : BitVec 2) (b n : BitVec 5) (x : Ctx) (s : State) (h : s.memWf) :
    (effPdecl cl sl b n x s).holds State.memWf := by
  unfold effPdecl
  grind [updStream_memWf, illegalOperand, Res.holds]

theorem effTlwait_memWf (i n : BitVec 5) (x : Ctx) (s : State) (h : s.memWf) : (effTlwait i n x s).holds State.memWf := by
  unfold effTlwait
  grind [acquireL1_memWf, Res.holds]

theorem effTlrd_memWf (d i : BitVec 5) (x : Ctx) (s : State) (h : s.memWf) : (effTlrd d i x s).holds State.memWf := by
  unfold effTlrd
  grind [writeS_memWf, Res.holds]

theorem effTsig_memWf (t : CoreId) (x : Ctx) (s : State) (h : s.memWf) : (effTsig t x s).holds State.memWf := by
  unfold effTsig
  grind [updCore_memWf, Res.holds]

theorem effTwait_memWf (src : CoreId) (x : Ctx) (s : State) (h : s.memWf) : (effTwait src x s).holds State.memWf := by
  unfold effTwait
  grind [updStream_memWf, updCore_memWf, acquireL1_memWf, Res.holds]

theorem effNop_memWf (x : Ctx) (s : State) (h : s.memWf) : (effNop x s).holds State.memWf := h

theorem effTrap_memWf (x : Ctx) (s : State) (h : s.memWf) : (effTrap x s).holds State.memWf := h

theorem effBrk_memWf (x : Ctx) (s : State) (h : s.memWf) : (effBrk x s).holds State.memWf := h

end Sys2Proof.Machine
end

section
/-! SUPPORT. Nodes, futures, the ready pool and migration keep device memory in its canonical form (R115 to R131). -/

namespace Sys2Proof.Machine

theorem vfTouch_memWf (s : State) (sp : Space) (a n : Nat) (k : AccKind) (h : s.memWf) : (vfTouch s sp a n k).memWf := by
  unfold vfTouch
  grind [vfMissed_memWf, homeAccess_memWf]

theorem vfWrite_memWf (s : State) (sp : Space) (a : Nat) (x : Word) (h : s.memWf) : (vfWrite s sp a x).memWf := by
  unfold vfWrite
  grind [vfMissed_memWf, homeAccess_memWf, physWrite_memWf]

theorem updRecord_memWf (s : State) (sp : Space) (node i : Nat) (f : Word → Word) (h : s.memWf) :
    (updRecord s sp node i f).memWf := by
  unfold updRecord
  grind [vfMissed_memWf, homeAccess_memWf, physWrite_memWf]

theorem setState_memWf (s : State) (sp : Space) (node st : Nat) (h : s.memWf) : (setState s sp node st).memWf :=
  updRecord_memWf (h := h) ..

theorem setsTouch_memWf (s : State) (sp : Space) (d : List Word) (h : s.memWf) : (setsTouch s sp d).memWf := by
  unfold setsTouch
  grind [vfTouch_memWf]

theorem leave_memWf (s : State) (b : BenchId) (h : s.memWf) : (State.leave s b).memWf := h

theorem vacate_memWf (s : State) (b : BenchId) (h : s.memWf) : (State.vacate s b).memWf := by
  unfold State.vacate
  grind [leave_memWf, updPart_memWf]

theorem forget_memWf (s : State) (run : Nat) (h : s.memWf) : (State.forget s run).memWf := h

theorem retire_memWf (s : State) (b : BenchId) (h : s.memWf) : (State.retire s b).memWf :=
  forget_memWf (h := vacate_memWf (h := h) ..) ..

theorem enterPool_memWf (s : State) (p : PartId) (v : VfId) (node num : Nat) (own : Option Word) (h : s.memWf) :
    (enterPool s p v node num own).memWf := h

theorem spoilAppend_memWf (s : State) (p : PartId) (v : VfId) (node : Nat) (h : s.memWf) : (spoilAppend s p v node).memWf :=
  updPart_memWf (h := devWrite_memWf (h := h) ..) ..

theorem deferAppend_memWf (s : State) (p : PartId) (v : VfId) (node : Nat) (h : s.memWf) :
    (deferAppend s p v node).memWf := by
  unfold deferAppend
  grind [vfWrite_memWf, updPart_memWf]

theorem drainSpoil_memWf (p : PartId) : ∀ (n : Nat) (s : State), s.memWf → (drainSpoil p n s).memWf
  | 0, _, h => h
  | n + 1, s, h => by
    have ih := drainSpoil_memWf p n
    unfold drainSpoil
    grind [enterPool_memWf, spoilAppend_memWf, updPart_memWf, atHome_memWf, vfTouch_memWf]

theorem placeNode_memWf (s : State) (p : PartId) (v : VfId) (node num : Nat) (waits : Bool) (h : s.memWf) :
    (placeNode s p v node num waits).1.memWf := by
  unfold placeNode
  grind [deferAppend_memWf, enterPool_memWf, spoilAppend_memWf, updPart_memWf]

theorem futureAccess_memWf {s s' : State} {w : Who} {f : Word} {kind : Word → AccKind} {pa : Nat} {v : Word}
    (he : futureAccess s w f kind = .ok (pa, v, s')) (h : s.memWf) : s'.memWf := by
  unfold futureAccess at he
  grind [homeAccess_memWf]

theorem recordOnly_memWf (s : State) (p : PartId) (cause : Nat) (addr aux0 aux1 : Word) (h : s.memWf) :
    (recordOnly s p cause addr aux0 aux1).memWf := trapRecord_memWf (h := h) ..

theorem joinStart_memWf (s : State) (p : PartId) (sp : Space) (node : Nat) (c : Clock) (h : s.memWf) :
    (joinStart s p sp node c).memWf := by
  unfold joinStart
  grind [carryMore_memWf]

theorem decrement_memWf (s : State) (p : PartId) (sp : Space) (node : Nat) (fut : Word) (c : Clock) (h : s.memWf) :
    (decrement s p sp node fut c).1.memWf := by
  unfold decrement
  grind [recordOnly_memWf, joinStart_memWf, updRecord_memWf, vfTouch_memWf]

theorem setFI_memWf (s : State) (sp : Space) (node : Nat) (h : s.memWf) : (setFI s sp node).memWf :=
  updRecord_memWf (h := h) ..

theorem releaseWaiters_memWf (p : PartId) (sp : Space) (fut : Word) (failed : Bool) (c : Clock) :
    ∀ (l : List Nat) (s : State), s.memWf → (releaseWaiters s p sp fut failed c l).1.memWf
  | [], _, h => h
  | n :: r, s, h => by
    have ih := releaseWaiters_memWf p sp fut failed c r
    unfold releaseWaiters
    grind [setFI_memWf, decrement_memWf, vfTouch_memWf]

theorem failRecord_memWf (s : State) (sp : Space) (node code : Nat) (h : s.memWf) : (failRecord s sp node code).memWf :=
  updRecord_memWf (h := h) ..

theorem dispatcherResolve_memWf (s : State) (p : PartId) (sp : Space) (node : Nat) (fut : Word) (code : Nat)
    (h : s.memWf) : (dispatcherResolve s p sp node fut code).1.memWf := by
  unfold dispatcherResolve
  grind [vfMissed_memWf, releaseWaiters_memWf, recordOnly_memWf, physWrite_memWf, futureAccess_memWf]

theorem makeReady_memWf : ∀ (n : Nat) (s : State) (l : List (Nat × VfId × Bool)), s.memWf → (makeReady n s l).1.memWf
  | 0, _, _, h => h
  | _ + 1, _, [], h => h
  | n + 1, s, (node, v, waits) :: r, h => by
    have ih := makeReady_memWf n
    unfold makeReady
    grind [vfMissed_memWf, setsTouch_memWf, dispatcherResolve_memWf, recordOnly_memWf, placeNode_memWf, failRecord_memWf,
      setState_memWf, updPart_memWf, vfTouch_memWf]

theorem submitWaiting_memWf (s : State) (v : VfId) (node : Nat) (h : s.memWf) : (submitWaiting s v node).memWf := h

theorem placeAll_memWf (x : Ctx) (s : State) (nodes : List (Nat × VfId × Bool)) (h : s.memWf) :
    (placeAll x s nodes).holds State.memWf := by
  unfold placeAll
  grind [updStream_memWf, makeReady_memWf, Res.holds]

theorem placeStranded_memWf (s : State) (l : List (Nat × VfId × Nat)) (h : s.memWf) : (placeStranded s l).memWf :=
  foldl_memWf _ (fun _ _ hs => placeNode_memWf (h := vfTouch_memWf (h := hs) ..) ..) l s h

theorem placeRest_memWf : ∀ (l : List (Nat × VfId × Nat)) (s : State), s.memWf → (placeRest s l).1.memWf
  | [], _, h => h
  | (node, v, num) :: r, s, h => by
    have ih := placeRest_memWf r
    unfold placeRest
    grind [placeNode_memWf, vfTouch_memWf]

theorem placing_memWf (x : Ctx) (s : State) (first : Res) (h : s.memWf) (hf : first.holds State.memWf) :
    (placing x s first).holds State.memWf := by
  unfold placing
  grind [updStream_memWf, placeRest_memWf, Res.holds]

theorem resolveBy_memWf {s s' : State} {b : BenchId} {sp : Space} {fut : Word} {pa st code : Nat} {l : List Nat}
    (he : resolveBy s b sp fut pa st code = .ok (s', l)) (h : s.memWf) : s'.memWf := by
  unfold resolveBy at he
  grind [releaseWaiters_memWf, releaseAt_memWf, physWrite_memWf]

theorem startClock_memWf (s : State) (p : PartId) (b : BenchId) (sp : Space) (node : Nat) (h : s.memWf) :
    (startClock s p b sp node).memWf := by
  have hl : (((recordLine s sp node).map (carriedLook s p)).getD s).memWf := by
    cases recordLine s sp node with
    | none => exact h
    | some l => exact carriedLook_memWf _ _ _ h
  exact askBarrier_memWf _ _ _ (State.memWf_of_mem rfl hl)

theorem rebindBench_memWf (s : State) (p : PartId) (run : Nat) (b n : BenchId) (h : s.memWf) :
    (rebindBench s p run b n).memWf := h

theorem resumeGang_memWf (s : State) (b : BenchId) (g : SavedGang) (h : s.memWf) : (resumeGang s b g).memWf := by
  unfold resumeGang
  grind [State.memWf, rebindBench_memWf, askBarrier_memWf, setGang_memWf]

theorem wakeQuad_memWf (s : State) (b : BenchId) (h : s.memWf) : (wakeQuad s b).memWf := h

theorem dispatchTo_memWf (s : State) (p : PartId) (b : BenchId) (e : PoolEntry) (d : List Word) (h : s.memWf) :
    (dispatchTo s p b e d).memWf := by
  unfold dispatchTo
  grind [setsTouch_memWf, resumeGang_memWf, startClock_memWf, updVf_memWf, drainSpoil_memWf, vfWrite_memWf,
    wakeQuad_memWf, setGang_memWf, setState_memWf, updPart_memWf, vfTouch_memWf]

theorem dispatchOne_memWf (s : State) (p : PartId) (h : s.memWf) : (dispatchOne s p).memWf := by
  unfold dispatchOne
  dsimp only
  split
  · exact h
  split
  · exact h
  split
  · exact h
  split
  · exact vfMissed_memWf _ _ _ h
  split
  · exact homedLook_memWf _ _ _ h
  · exact dispatchTo_memWf (h := homedLook_memWf _ _ _ h) ..

theorem moveGang_memWf (s : State) (b n : BenchId) (g : Gang) (h : s.memWf) : (moveGang s b n g).memWf := by
  unfold moveGang
  grind [leave_memWf, State.memWf, updRecord_memWf, rebindBench_memWf, askBarrier_memWf, wakeQuad_memWf, setGang_memWf]

theorem migrateGang_memWf (s : State) (b : BenchId) (h : s.memWf) : (migrateGang s b).memWf := by
  unfold migrateGang
  grind [takeFault_memWf, moveGang_memWf, updGang_memWf]

theorem retireFault_memWf (s : State) (b : BenchId) (t : Trap) (h : s.memWf) : (retireFault s b t).memWf :=
  takeFault_memWf (h := updStream_memWf (h := updCore_memWf (h := h) ..) ..) ..

theorem retirePage_memWf (s : State) (b : BenchId) (fut : Word) (stage level : Nat) (h : s.memWf) :
    (retirePage s b fut stage level).memWf :=
  takePageFault_memWf (h := updStream_memWf (h := updCore_memWf (h := h) ..) ..) ..

theorem retireNode_memWf (s : State) (b : BenchId) (h : s.memWf) : (retireNode s b).memWf := by
  unfold retireNode
  dsimp only
  split
  · exact h
  next g _ =>
  split
  · exact h
  split
  · exact h
  next r _ =>
  split
  · exact makeReady_memWf _ _ _ (retire_memWf (h := vfWrite_memWf (h := joinStart_memWf (h := h) ..) ..) ..)
  have ht := vfTouch_memWf s g.space (g.record.toNat + 24) 8 .read h
  split
  · exact retire_memWf (h := failRecord_memWf (h := releaseOnly_memWf (h := ht) ..) ..) ..
  split
  next f _ =>
    have hm := missed_memWf _ (whoStream (vfTouch s g.space (g.record.toNat + 24) 8 .read) b 0)
      (((vfRead s g.space (g.record.toNat + 24)).getD 0) &&& 0xFFFFFFFFFFF8#64) f.raced ht
    split
    · exact retirePage_memWf (h := hm) ..
    · exact retireFault_memWf (h := hm) ..
    · exact retireFault_memWf (h := hm) ..
  next ha =>
    have hf := futureAccess_memWf ha ht
    split
    · exact retireFault_memWf (h := hf) ..
    next hr => exact makeReady_memWf _ _ _ (retire_memWf (h := failRecord_memWf (h := resolveBy_memWf hr hf) ..) ..)

end Sys2Proof.Machine
end

section
/-! SUPPORT. The SC-only words, atomics among them, keep device memory in its canonical form (R196 to R205). -/

namespace Sys2Proof.Machine

theorem effFork_memWf (m : BitVec 3) (x : Ctx) (s : State) (h : s.memWf) : (effFork m x s).holds State.memWf := by
  unfold effFork
  grind [updCore_memWf, illegalOperand, Res.holds]

theorem effJoin_memWf (x : Ctx) (s : State) (h : s.memWf) : (effJoin x s).holds State.memWf := by
  unfold effJoin
  grind [updStream_memWf, updCore_memWf, Res.holds]

theorem atomicAddr_memWf {x : Ctx} {s : State} {va : Word} {n : Nat} {rd wr : Bool} {r : Res}
    (he : atomicAddr x s va n rd wr = .error r) (h : s.memWf) : r.holds State.memWf := by
  unfold atomicAddr at he
  grind [memTrap_memWf, Res.holds]

theorem atomicDo_memWf (x : Ctx) (s : State) (va : Word) (n : Nat) (k : AccKind) (new : Option Nat) (acq rel : Bool)
    (scope : Nat) (h : s.memWf) : HoldsOr State.memWf id (atomicDo x s va n k new acq rel scope) := by
  unfold atomicDo
  grind [releaseAt_memWf, homeAccess_memWf, updCore_memWf, physWrite_memWf, memTrap_memWf, acquireAt_memWf, HoldsOr]

theorem effAmo_memWf (f : BitVec 4) (w o c : BitVec 2) (d b t : BitVec 5) (x : Ctx) (s : State) (h : s.memWf) :
    (effAmo f w o c d b t x s).holds State.memWf := by
  unfold effAmo
  grind [writeS_memWf, atomicDo_memWf, atomicAddr_memWf, HoldsOr]

theorem effCas_memWf (w : BitVec 1) (o c : BitVec 2) (d b m t : BitVec 5) (x : Ctx) (s : State) (h : s.memWf) :
    (effCas w o c d b m t x s).holds State.memWf := by
  unfold effCas
  grind [updStream_memWf, atomicDo_memWf, illegalOperand, atomicAddr_memWf, Res.holds, HoldsOr]

theorem effLda_memWf (z c : BitVec 2) (d b : BitVec 5) (o : BitVec 10) (x : Ctx) (s : State) (h : s.memWf) :
    (effLda z c d b o x s).holds State.memWf := by
  unfold effLda
  grind [writeS_memWf, atomicDo_memWf, atomicAddr_memWf, HoldsOr]

theorem effStrl_memWf (z c : BitVec 2) (d b : BitVec 5) (o : BitVec 10) (x : Ctx) (s : State) (h : s.memWf) :
    (effStrl z c d b o x s).holds State.memWf := by
  unfold effStrl
  grind [atomicDo_memWf, atomicAddr_memWf, Res.holds, HoldsOr]

theorem effFence_memWf (k c : BitVec 2) (x : Ctx) (s : State) (h : s.memWf) : (effFence k c x s).holds State.memWf := by
  unfold effFence
  grind [acquireL1_memWf, Res.holds]

theorem effBarb_memWf (x : Ctx) (s : State) (h : s.memWf) : (effBarb x s).holds State.memWf := by
  unfold effBarb
  grind [updStream_memWf, updCore_memWf, acquireL1_memWf, Res.holds]

theorem futureAt_memWf (x : Ctx) (s : State) (f : Word) (kind : Word → AccKind) (h : s.memWf) : HoldsOr State.memWf (·.2.2)
    (futureAt x s f kind) := by
  unfold futureAt
  grind [updCore_memWf, futureAccess_memWf, memTrap_memWf, Res.holds, HoldsOr]

theorem effFutinit_memWf (f : BitVec 5) (x : Ctx) (s : State) (h : s.memWf) : (effFutinit f x s).holds State.memWf := by
  unfold effFutinit
  grind [futureAt_memWf, physWrite_memWf, Res.holds, HoldsOr]

theorem recordAt_memWf {x : Ctx} {s s' : State} {node : Word} {kind : AccKind} {pa : Nat}
    (he : recordAt x s node kind = .ok (pa, s')) (h : s.memWf) : s'.memWf := by
  unfold recordAt at he
  grind [homeAccess_memWf, updCore_memWf]

theorem effFutreg_memWf (f n : BitVec 5) (x : Ctx) (s : State) (h : s.memWf) : (effFutreg f n x s).holds State.memWf := by
  unfold effFutreg
  grind [setFI_memWf, placing_memWf, futureAt_memWf, decrement_memWf, physWrite_memWf, placeAll_memWf, memTrap_memWf,
    acquireAt_memWf, recordAt_memWf, Res.holds, HoldsOr]

theorem effResolve_memWf (st : Nat) (f c : BitVec 5) (x : Ctx) (s : State) (h : s.memWf) :
    (effResolve st f c x s).holds State.memWf := by
  unfold effResolve
  grind [resolveBy_memWf, placing_memWf, futureAt_memWf, placeAll_memWf, Res.holds, HoldsOr]

theorem effNspawn_memWf (r : BitVec 5) (x : Ctx) (s : State) (h : s.memWf) : (effNspawn r x s).holds State.memWf := by
  unfold effNspawn
  grind [releaseAt_memWf, clearCarried_memWf, placing_memWf, physWrite_memWf, submitWaiting_memWf, placeAll_memWf,
    memTrap_memWf, recordAt_memWf, Res.holds]

theorem effRetire_memWf (yields : Bool) (r : BitVec 5) (x : Ctx) (s : State) (h : s.memWf) :
    (effRetire yields r x s).holds State.memWf := by
  unfold effRetire
  grind [updStream_memWf, updCore_memWf, Res.holds]

theorem effNself_memWf (r : BitVec 5) (x : Ctx) (s : State) (h : s.memWf) : (effNself r x s).holds State.memWf :=
  writeS_memWf (h := h) ..

theorem effColgo_memWf (c : BitVec 2) (p a d : BitVec 5) (x : Ctx) (s : State) (h : s.memWf) :
    (effColgo c p a d x s).holds State.memWf := by
  unfold effColgo
  grind [writeS_memWf, State.memWf, releaseOnly_memWf, Res.holds]

theorem effColq_memWf (c : BitVec 2) (d : BitVec 5) (x : Ctx) (s : State) (h : s.memWf) :
    (effColq c d x s).holds State.memWf := by
  unfold effColq
  grind [writeS_memWf, Res.holds]

theorem effCapq_memWf (r : BitVec 5) (x : Ctx) (s : State) (h : s.memWf) : (effCapq r x s).holds State.memWf :=
  writeS_memWf (h := h) ..

theorem effBoost_memWf (r : BitVec 5) (x : Ctx) (s : State) (h : s.memWf) : (effBoost r x s).holds State.memWf := by
  unfold effBoost
  grind [illegalOperand, updPart_memWf, Res.holds]

theorem effPermq_memWf (r : BitVec 5) (x : Ctx) (s : State) (h : s.memWf) : (effPermq r x s).holds State.memWf :=
  writeS_memWf (h := h) ..

theorem effSnap_memWf (r : BitVec 5) (x : Ctx) (s : State) (h : s.memWf) : (effSnap r x s).holds State.memWf :=
  writeS_memWf (h := fireTrigger_memWf (h := h) ..) ..

end Sys2Proof.Machine
end

section
/-! SUPPORT. Copies, from issue to completion, keep device memory in its canonical form (R231 to R246). -/

namespace Sys2Proof.Machine

theorem scopeTrap_memWf (a : Word) : (scopeTrap a).holds State.memWf := by
  unfold scopeTrap
  grind [Res.holds]

theorem boxTrap_memWf (g : Gang) (c : CoreId) (h : CopyShape) (base : Word) (z : Nat) (other : Bool) :
    (boxTrap g c h base z other).holds State.memWf := by
  unfold boxTrap
  grind [scopeTrap_memWf]

theorem setTrap_memWf (x : Ctx) (s : State) (h : CopyShape) (base : Word) (z : Nat) (write : Bool) :
    (setTrap x s h base z write).holds State.memWf := by
  unfold setTrap
  grind [scopeTrap_memWf]

theorem misaligned_memWf (a : Word) : (misaligned a).holds State.memWf := by
  unfold misaligned
  grind [Res.holds]

theorem zeroExtent_memWf (x : Ctx) (s : State) (h : s.memWf) : (zeroExtent x s).holds State.memWf := by
  unfold zeroExtent
  grind [updStream_memWf, Res.holds]

theorem issueCopy_memWf (x : Ctx) (s0 s : State) (mk : Nat → Copy) (h : s0.memWf) (h1 : s.memWf) :
    (issueCopy x s0 s mk).holds State.memWf := by
  unfold issueCopy
  grind [updStream_memWf, updCore_memWf, Res.holds]

theorem loadFace_memWf (x : Ctx) (s : State) (v : BitVec 6) (zero : Bool) (mk : BitVec 5 → Nat → Copy) (h : s.memWf) :
    (loadFace x s v zero mk).holds State.memWf := by
  unfold loadFace
  grind [updCore_memWf, issueCopy_memWf, Res.holds]

theorem withBox_memWf (x : Ctx) (s : State) (g : BitVec 5) (tOk : Bool) (fields : CopyShape → BitVec 4 → Bool)
    (f : CopyShape → BitVec 4 → Res) (h : s.memWf) (hf : ∀ b t, (f b t).holds State.memWf) :
    (withBox x s g tOk fields f).holds State.memWf := by
  unfold withBox
  grind [illegalOperand, zeroExtent_memWf, Res.holds]

theorem effLoadTile_memWf (conv : Bool) (t : BitVec 6) (a g : BitVec 5) (f : BitVec 4) (zf : BitVec 1) (sl : BitVec 4)
    (x : Ctx) (s : State) (h : s.memWf) : (effLoadTile conv t a g f zf sl x s).holds State.memWf := by
  unfold effLoadTile
  grind [loadFace_memWf, withBox_memWf, misaligned_memWf]

theorem effStoreTile_memWf (conv : Bool) (t : BitVec 6) (a g : BitVec 5) (f sl : BitVec 4) (x : Ctx) (s : State)
    (h : s.memWf) : (effStoreTile conv t a g f sl x s).holds State.memWf := by
  unfold effStoreTile
  grind [updCore_memWf, withBox_memWf, misaligned_memWf, issueCopy_memWf]

theorem effSpld_memWf (t : BitVec 6) (a g : BitVec 5) (f : BitVec 4) (zf : BitVec 1) (sl : BitVec 4) (x : Ctx)
    (s : State) (h : s.memWf) : (effSpld t a g f zf sl x s).holds State.memWf := by
  unfold effSpld
  refine withBox_memWf _ _ _ _ _ _ h fun b _ => ?_
  grind [boxTrap_memWf, misaligned_memWf, setTrap_memWf, loadFace_memWf]

theorem effSpst_memWf (t : BitVec 6) (a g : BitVec 5) (f : BitVec 4) (sl : BitVec 4) (x : Ctx) (s : State)
    (h : s.memWf) : (effSpst t a g f sl x s).holds State.memWf := by
  unfold effSpst
  refine withBox_memWf _ _ _ _ _ _ h fun b _ => ?_
  grind [boxTrap_memWf, misaligned_memWf, setTrap_memWf, issueCopy_memWf]

theorem queueEnd_memWf {x : Ctx} {s : State} {b : CopyShape} {base : Word} {z : Nat} {sp write : Bool} {r : Res}
    (he : queueEnd x s b base z sp write = some r) : r.holds State.memWf := by
  unfold queueEnd at he
  grind [boxTrap_memWf, misaligned_memWf, setTrap_memWf]

theorem issueQld_memWf (x : Ctx) (s : State) (qi : BitVec 2) (id : Nat) (far : CopyEnd) (base : Word) (h : CopyShape)
    (z slack : Nat) (hs : s.memWf) : (issueQld x s qi id far base h z slack).holds State.memWf := by
  unfold issueQld
  grind [updStream_memWf, issueCopy_memWf]

theorem pushQueue_memWf (x : Ctx) (s : State) (qi : Fin 4) (t : Tile) (h : s.memWf) :
    HoldsOr State.memWf id (pushQueue x s qi t) := by
  unfold pushQueue
  grind [blocked, illegalOperand, updStream_memWf, updCore_memWf, HoldsOr, Res.holds]

theorem popQueue_memWf (x : Ctx) (s : State) (qi : Fin 4) (h : s.memWf) :
    HoldsOr State.memWf (·.2.2) (popQueue x s qi) := by
  unfold popQueue
  grind [blocked, illegalOperand, updStream_memWf, updCore_memWf, HoldsOr, Res.holds]

theorem effQld_memWf (t : BitVec 6) (a g : BitVec 5) (f : BitVec 4) (sp : BitVec 1) (sl : BitVec 4) (x : Ctx)
    (s : State) (h : s.memWf) : (effQld t a g f sp sl x s).holds State.memWf := by
  unfold effQld
  refine withBox_memWf _ _ _ _ _ _ h fun b _ => ?_
  grind [queueEnd_memWf, pushQueue_memWf, issueQld_memWf, HoldsOr]

theorem issueQst_memWf (x : Ctx) (s : State) (tile : Tile) (flags : Lanes) (far : CopyEnd) (base : Word) (h : CopyShape)
    (z slack : Nat) (hs : s.memWf) : (issueQst x s tile flags far base h z slack).holds State.memWf := by
  unfold issueQst
  grind [updStream_memWf, updCore_memWf, issueCopy_memWf]

theorem effQst_memWf (t : BitVec 6) (a g : BitVec 5) (f : BitVec 4) (sp : BitVec 1) (sl : BitVec 4) (x : Ctx)
    (s : State) (h : s.memWf) : (effQst t a g f sp sl x s).holds State.memWf := by
  unfold effQst
  dsimp only
  split
  · exact issueQst_memWf (hs := h) ..
  refine withBox_memWf _ _ _ _ _ _ h fun b _ => ?_
  grind [queueEnd_memWf, popQueue_memWf, issueQst_memWf, HoldsOr]

theorem effSpcp_memWf (t : BitVec 6) (a g : BitVec 5) (f : BitVec 4) (sl : BitVec 4) (x : Ctx) (s : State)
    (h : s.memWf) : (effSpcp t a g f sl x s).holds State.memWf := by
  unfold effSpcp
  refine withBox_memWf _ _ _ _ _ _ h fun b _ => ?_
  grind [boxTrap_memWf, scopeTrap_memWf, misaligned_memWf, setTrap_memWf, issueCopy_memWf]

theorem withIndices_memWf (x : Ctx) (s : State) (g : BitVec 5) (f : BitVec 4) (tOk add : Bool) (base : Word)
    (k : CopyShape → Res) (h : s.memWf) (hk : ∀ b, (k b).holds State.memWf) :
    (withIndices x s g f tOk add base k).holds State.memWf := by
  unfold withIndices
  grind [illegalOperand, zeroExtent_memWf, scopeTrap_memWf, misaligned_memWf, setTrap_memWf, Res.holds]

theorem effGather_memWf (t : BitVec 6) (a g : BitVec 5) (f : BitVec 4) (zf : BitVec 1) (sl : BitVec 4) (x : Ctx)
    (s : State) (h : s.memWf) : (effGather t a g f zf sl x s).holds State.memWf := by
  unfold effGather
  grind [loadFace_memWf, withIndices_memWf]

theorem effScatter_memWf (add : Bool) (t : BitVec 6) (a g : BitVec 5) (f sl : BitVec 4) (x : Ctx) (s : State)
    (h : s.memWf) : (effScatter add t a g f sl x s).holds State.memWf := by
  unfold effScatter
  grind [withIndices_memWf, issueCopy_memWf]

theorem withWindow_memWf (x : Ctx) (s : State) (put : Bool) (t : BitVec 6) (a g : BitVec 5) (f : BitVec 4)
    (sp : BitVec 1) (mk : CopyShape → Word → BitVec 6 → Res) (h : s.memWf)
    (hm : ∀ b a w, (mk b a w).holds State.memWf) : (withWindow x s put t a g f sp mk).holds State.memWf := by
  unfold withWindow
  refine withBox_memWf _ _ _ _ _ _ h fun b _ => ?_
  grind [illegalOperand, scopeTrap_memWf, misaligned_memWf, setTrap_memWf, Res.holds]

theorem nextTag_memWf (s : State) (h : s.memWf) : (nextTag s).memWf := h

theorem effPut_memWf (t : BitVec 6) (a g : BitVec 5) (f : BitVec 4) (sp : BitVec 1) (sl : BitVec 4) (x : Ctx) (s : State)
    (h : s.memWf) : (effPut t a g f sp sl x s).holds State.memWf := by
  unfold effPut
  grind [withWindow_memWf, issueCopy_memWf, nextTag_memWf]

theorem effGet_memWf (t : BitVec 6) (a g : BitVec 5) (f : BitVec 4) (sp : BitVec 1) (sl : BitVec 4) (x : Ctx) (s : State)
    (h : s.memWf) : (effGet t a g f sp sl x s).holds State.memWf := by
  unfold effGet
  grind [loadFace_memWf, withWindow_memWf, issueCopy_memWf, nextTag_memWf, Res.holds]

theorem effPref_memWf (a g : BitVec 5) (f sl : BitVec 4) (x : Ctx) (s : State) (h : s.memWf) :
    (effPref a g f sl x s).holds State.memWf := by
  unfold effPref
  grind [withBox_memWf, misaligned_memWf, issueCopy_memWf]

theorem closeBatch_memWf (x : Ctx) (s : State) (h : s.memWf) : ∀ s' ∈ (closeBatch x s), s'.memWf := by
  unfold closeBatch
  grind [updStream_memWf]

theorem effCbatch_memWf (x : Ctx) (s : State) (h : s.memWf) : (effCbatch x s).holds State.memWf := by
  unfold effCbatch
  grind [closeBatch_memWf, Res.holds]

theorem effTlwaitOut_memWf (n : BitVec 6) (x : Ctx) (s : State) (h : s.memWf) : (effTlwaitOut n x s).holds State.memWf := by
  unfold effTlwaitOut
  grind [updStream_memWf, closeBatch_memWf, acquireL1_memWf, Res.holds]

theorem landElem_memWf (s : State) (b : BenchId) (c : CoreId) (k : Copy) (i v : Nat) (h : s.memWf) :
    (landElem s b c k i v).memWf := by
  unfold landElem
  grind [scratchWrite_memWf, updCore_memWf]

theorem pauseCopy_memWf (s : State) (b : BenchId) (c : CoreId) (k : Copy) (va : Word) (stage level : Nat) (h : s.memWf) :
    (pauseCopy s b c k va stage level).1.memWf := by
  unfold pauseCopy
  grind [trapRecord_memWf]

theorem copyMemFault_memWf (s : State) (b : BenchId) (c : CoreId) (k : Copy) (i : Nat) (e : MemFault) (h : s.memWf) :
    (copyMemFault s b c k i e).1.memWf := by
  unfold copyMemFault
  grind [takeCopyFault_memWf, pauseCopy_memWf]

theorem putAll_memWf (k : Copy) (pa : Nat) (g : List Nat) (s : State) (h : s.memWf) : (k.putAll pa g s).memWf := by
  unfold Copy.putAll
  dsimp only
  split <;> exact foldl_memWf _ (fun _ _ hs => physWrite_memWf (h := hs) ..) _ _ h

theorem unitDevice_memWf (s : State) (b : BenchId) (c : CoreId) (k : Copy) (i : Nat) (g : List Nat) (h : s.memWf) :
    (unitDevice s b c k i g).1.memWf := by
  unfold unitDevice
  dsimp only
  split
  · grind [llcTouch_memWf, missed_memWf, translate_memWf]
  iterate 2
    · split
      · exact copyMemFault_memWf (h := missed_memWf _ _ _ _ h) ..
      next ha => exact updCore_memWf (h := putAll_memWf (h := homeAccess_memWf _ _ _ _ _ _ _ _ ha h) ..) ..
  · split
    · exact copyMemFault_memWf (h := missed_memWf _ _ _ _ h) ..
    next ha =>
      exact foldl_memWf _ (fun _ _ hs => landElem_memWf (h := hs) ..) _ _
        (updCore_memWf (h := homeAccess_memWf _ _ _ _ _ _ _ _ ha h) ..)

theorem readScratch_memWf (s : State) (b : BenchId) (c : CoreId) (k : Copy) (g : List Nat) (h : s.memWf) :
    (readScratch s b c k g).1.memWf := by
  unfold readScratch
  grind [takeCopyFault_memWf]

theorem writeScratch_memWf (s : State) (b : BenchId) (c : CoreId) (k : Copy) (g : List Nat) (h : s.memWf) :
    (writeScratch s b c k g).1.memWf := by
  have hland := foldl_memWf _ (fun s j hs => landElem_memWf s b c k j (k.value j) hs) g s h
  unfold writeScratch
  dsimp only
  split
  · exact foldl_memWf _ (fun _ _ hs => scratchWrite_memWf (h := hs) ..) g s h
  · split
    · exact takeCopyFault_memWf (h := h) ..
    · exact hland
  · exact hland

theorem unitScratch_memWf (s : State) (b : BenchId) (c : CoreId) (k : Copy) (i : Nat) (h : s.memWf) :
    (unitScratch s b c k i).1.memWf := by
  unfold unitScratch
  grind [writeScratch_memWf, readScratch_memWf]

theorem sendUnit_memWf (s : State) (o : Origin) (eth : Bool) (dest : BitVec 8) (m : UnitMsg) (addr : Word) (index : Nat)
    (h : s.memWf) : (sendUnit s o eth dest m addr index).memWf := h

theorem unitWindow_memWf (s : State) (b : BenchId) (c : CoreId) (k : Copy) (wi : BitVec 6) (g : List Nat) (h : s.memWf) :
    (unitWindow s b c k wi g).1.memWf := by
  unfold unitWindow
  grind [sendUnit_memWf, takeCopyFault_memWf]

theorem performUnit_memWf (s : State) (b : BenchId) (c : CoreId) (k : Copy) (p i : Nat) (h : s.memWf) :
    (performUnit s b c k p i).1.memWf := by
  unfold performUnit
  grind [unitDevice_memWf, readScratch_memWf, unitWindow_memWf, unitScratch_memWf]

theorem setCopy_memWf (s : State) (b : BenchId) (c : CoreId) (k : Copy) (h : s.memWf) : (setCopy s b c k).memWf :=
  updCore_memWf (h := h) ..

theorem performUnits_memWf (b : BenchId) (c : CoreId) : ∀ (n pick : Nat) (y : State × Copy), y.1.memWf →
    (performUnits b c n pick y).1.memWf
  | 0, _, _, h => h
  | n + 1, pick, (s, k), h => by
    have ih := performUnits_memWf b c n
    unfold performUnits
    grind [performUnit_memWf]

theorem recordCopy_memWf (s : State) (b : BenchId) (c : CoreId) (k : Copy) (h : s.memWf) : (recordCopy s b c k).1.memWf := by
  unfold recordCopy
  grind [trapRecord_memWf]

theorem drainRecord_memWf (s : State) (b : BenchId) (c : CoreId) (k : Copy) (h : s.memWf) :
    (drainRecord s b c k).1.memWf := by
  unfold drainRecord
  grind [recordCopy_memWf]

theorem settleResume_memWf (s : State) (p : PartId) (h : s.memWf) : (settleResume s p).memWf := by
  unfold settleResume
  grind [State.memWf, updPart_memWf]

theorem workOn_memWf (s : State) (b : BenchId) (c : CoreId) (n pick : Nat) (k : Copy) (h : s.memWf) :
    (workOn s b c n pick k).memWf := by
  unfold workOn
  grind [setCopy_memWf, performUnits_memWf, drainRecord_memWf, settleResume_memWf]

theorem copyUnit_memWf (s : State) (b : BenchId) (c : CoreId) (pick : Nat) (h : s.memWf) : (copyUnit s b c pick).memWf := by
  unfold copyUnit
  grind [workOn_memWf]

theorem finishCopy_memWf (s : State) (b : BenchId) (c : CoreId) (k : Copy) (h : s.memWf) : (finishCopy s b c k).memWf :=
  updCore_memWf (h := h) ..

theorem copyComplete_memWf (s : State) (b : BenchId) (c : CoreId) (n : Nat) (h : s.memWf) :
    (copyComplete s b c n).memWf := by
  unfold copyComplete
  grind [finishCopy_memWf]

end Sys2Proof.Machine
end

section
/-! SUPPORT. The commands of the collective contexts keep device memory in its canonical form (R301 to R315). -/

namespace Sys2Proof.Machine

theorem recordContext_memWf (s : State) (i : BitVec 2) (h : s.memWf) : (recordContext s i).memWf := by
  unfold recordContext
  grind [trapRecord_memWf, setRun_memWf]

theorem contextFaultAt_memWf (s : State) (i : BitVec 2) (r : ColRun) (pc : Word) (t : Trap) (h : s.memWf) :
    (contextFaultAt s i r pc t).memWf := by
  unfold contextFaultAt
  grind [raiseHalt_memWf, updCtx_memWf, recordContext_memWf]

theorem takeContextFault_memWf (s : State) (i : BitVec 2) (r : ColRun) (t : Trap) (h : s.memWf) :
    (takeContextFault s i r t).memWf := contextFaultAt_memWf (h := h) ..

theorem takeContextPage_memWf (s : State) (i : BitVec 2) (r : ColRun) (va : Word) (stage level : Nat) (h : s.memWf) :
    (takeContextPage s i r va stage level).memWf := by
  unfold takeContextPage
  grind [trapRecord_memWf, setRun_memWf, updCtx_memWf]

theorem takeContextMem_memWf (s : State) (i : BitVec 2) (r : ColRun) (va : Word) (f : MemFault) (h : s.memWf) :
    (takeContextMem s i r va f).memWf := by
  unfold takeContextMem
  grind [takeContextPage_memWf, takeContextFault_memWf, missed_memWf]

theorem settleCol_memWf (i : BitVec 2) (r0 : ColRun) (s0 : State) (r : ColRes) (h : s0.memWf) (hr : r.holds State.memWf) :
    (settleCol i r0 s0 r).memWf := by
  cases r with
  | done | more => exact setRun_memWf _ _ hr
  | ended => exact hr
  | fault => exact takeContextFault_memWf (h := h) ..
  | refused => exact takeContextFault_memWf (h := hr) ..
  | mem => exact takeContextMem_memWf (h := hr) ..

theorem loadArgs_memWf (i : BitVec 2) : ∀ (n m : Nat) (r : ColRun) (s : State), s.memWf →
    HoldsOrCol State.memWf Prod.snd (loadArgs i r s n m)
  | 0, _, _, _, h => h
  | n + 1, m, r, s, h => by
    have ih := loadArgs_memWf i n
    unfold loadArgs
    dsimp only
    split
    · exact h
    next ha => exact ih _ _ _ (homeAccess_memWf _ _ _ _ _ _ _ _ ha h)

theorem startRun_memWf (s : State) (i : BitVec 2) (r : ColRun) (h : s.memWf) : (startRun s i r).memWf := by
  unfold startRun
  grind [settleCol_memWf, takeContextFault_memWf, loadArgs_memWf, setRun_memWf, HoldsOrCol]

theorem colStart_memWf (s : State) (i : BitVec 2) (h : s.memWf) : (colStart s i).memWf := by
  unfold colStart
  grind [updCtx_memWf, startRun_memWf]

theorem colUnits_memWf (n : Nat) (adv : ColRun → ColRun) (unit : Nat → ColRun → State → ColRes) (i : BitVec 2)
    (r : ColRun) (s : State) (hu : (unit r.done r s).holds State.memWf) :
    (colUnits n adv unit i r s).holds State.memWf := by
  unfold colUnits
  cases hr : unit r.done r s <;> rw [hr] at hu
  case done => dsimp only; split <;> exact hu
  all_goals exact hu

theorem colSend_memWf (g o : BitVec 4) (w : BitVec 6) (l : BitVec 4) (v : BitVec 1) (i : BitVec 2) (r : ColRun) (s : State)
    (h : s.memWf) : (colSend g o w l v i r s).holds State.memWf := by
  unfold colSend
  grind [sendUnit_memWf, homeAccess_memWf, nextTag_memWf, colUnits_memWf, ColRes.holds]

theorem colReduce_memWf (d g l t : BitVec 4) (o : BitVec 2) (v : BitVec 1) (rm : BitVec 3) (i : BitVec 2) (r : ColRun)
    (s : State) (h : s.memWf) : (colReduce d g l t o v rm i r s).holds State.memWf := by
  unfold colReduce
  dsimp only
  split
  · trivial
  split
  · trivial
  split
  · trivial
  refine colUnits_memWf _ _ _ _ _ _ ?_
  split
  · exact h
  next h1 =>
  have h1 := homeAccess_memWf _ _ _ _ _ _ _ _ h1 h
  split
  · exact h1
  next h2 =>
  have h2 := homeAccess_memWf _ _ _ _ _ _ _ _ h2 h1
  split
  · exact h2
  next h3 => exact physWrite_memWf _ _ _ _ (homeAccess_memWf _ _ _ _ _ _ _ _ h3 h2)

theorem colCopy_memWf (d g l : BitVec 4) (v : BitVec 1) (i : BitVec 2) (r : ColRun) (s : State) (h : s.memWf) :
    (colCopy d g l v i r s).holds State.memWf := by
  unfold colCopy
  grind [homeAccess_memWf, physWrite_memWf, colUnits_memWf, ColRes.holds]

theorem colWait_memWf (k : BitVec 1) (a n : BitVec 4) (i : BitVec 2) (r : ColRun) (s : State) (h : s.memWf) :
    (colWait k a n i r s).holds State.memWf := by
  unfold colWait
  grind [homeAccess_memWf, ColRes.holds]

theorem colSignal_memWf (a v : BitVec 4) (i : BitVec 2) (r : ColRun) (s : State) (h : s.memWf) :
    (colSignal a v i r s).holds State.memWf := by
  unfold colSignal
  grind [homeAccess_memWf, physWrite_memWf, ColRes.holds]

theorem colLoop_memWf (k : BitVec 4) (n : BitVec 13) (i : BitVec 2) (r : ColRun) (s : State) (h : s.memWf) :
    (colLoop k n i r s).holds State.memWf := by
  unfold colLoop
  grind [bodyLook_memWf, ColRes.holds]

theorem colEnd_memWf (i : BitVec 2) (r : ColRun) (s : State) (h : s.memWf) : (colEnd i r s).holds State.memWf := h

theorem colRendezvous_memWf (m : BitVec 4) (i : BitVec 2) (r : ColRun) (s : State) (h : s.memWf) :
    (colRendezvous m i r s).holds State.memWf := by
  unfold colRendezvous
  grind [ColRes.holds]

theorem colShare_memWf (sh : Byte) (res i : BitVec 2) (r : ColRun) (s : State) (h : s.memWf) :
    (colShare sh res i r s).holds State.memWf := h

theorem colNop_memWf (i : BitVec 2) (r : ColRun) (s : State) (h : s.memWf) : (colNop i r s).holds State.memWf := h

theorem commandEffect_memWf (w : Instr) (i : BitVec 2) (r : ColRun) (s : State) (h : s.memWf) :
    (commandEffect w i r s).holds State.memWf := by
  cases w
  case csend => exact colSend_memWf (h := h) ..
  case cred => exact colReduce_memWf (h := h) ..
  case ccopy => exact colCopy_memWf (h := h) ..
  case cwait => exact colWait_memWf (h := h) ..
  case csig => exact colSignal_memWf (h := h) ..
  case cloop => exact colLoop_memWf (h := h) ..
  case cend => exact colEnd_memWf (h := h) ..
  case crv => exact colRendezvous_memWf (i := i) (h := h) ..
  case cbw => exact colShare_memWf (i := i) (h := h) ..
  case cnop => exact colNop_memWf (i := i) (h := h) ..
  all_goals exact trivial

theorem runCommand_memWf (s : State) (i : BitVec 2) (r : ColRun) (w : Instr) (h : s.memWf) : (runCommand s i r w).memWf := by
  unfold runCommand
  grind [commandEffect_memWf, settleCol_memWf]

theorem prepareContext_memWf (s : State) (i : BitVec 2) (r : ColRun) (h : s.memWf) : (prepareContext s i r).memWf := by
  unfold prepareContext
  grind [setRun_memWf, startRun_memWf]

theorem contextStop_memWf (s : State) (i : BitVec 2) (h : s.memWf) : (contextStop s i).memWf := by
  unfold contextStop
  grind [trapRecord_memWf, setRun_memWf, updCtx_memWf]

end Sys2Proof.Machine
end

section
/-! SUPPORT. Words, bundles and turns keep device memory in its canonical form (O57). -/

namespace Sys2Proof.Machine

variable {x : Ctx} {s : State}

/-! ### The effect of a word -/

/-- What a tile word's result carries has the memory of the state before it. -/
theorem Res.tileKept.memWf {b : BenchId} {r : Res} (h : r.tileKept b s) (hs : s.memWf) : r.holds State.memWf := by
  cases r
  case ok | ring | stay | halt => exact State.Kept.memWf h hs
  case trap => trivial
  all_goals exact h.elim

/-- The effect of the words common to the streams. -/
theorem commonEffect_memWf (i : Instr) (hc : classOf i = .common) (x : Ctx) (s : State) (h : s.memWf) :
    (wordEffect i x s).holds State.memWf := by
  cases i <;> cases hc
  all_goals simp only [wordEffect]
  case aluAdd | aluSub | aluMul | aluMulh | aluMulhu | aluDiv | aluDivu | aluRem | aluRemu | aluAnd | aluOr | aluXor |
    aluAndn | aluShl | aluShr | aluSar => exact effAlu_memWf _ _ _ _ _ _ _ _ h
  case alu2Min | alu2Max | alu2Minu | alu2Maxu | alu2Clz | alu2Ctz | alu2Popc | alu2Brev | alu2Bswap | alu2Sel |
    alu2Rol | alu2Ror => exact effAlu2_memWf _ _ _ _ _ _ _ _ h
  case addi => exact effAddi_memWf _ _ _ _ _ h
  case logiAndi | logiOri | logiXori => exact effLogi_memWf _ _ _ _ _ _ h
  case shiShl | shiShr | shiSar | shiRor => exact effShi_memWf _ _ _ _ _ _ h
  case li => exact effLi_memWf _ _ _ _ h
  case lih => exact effLih_memWf _ _ _ _ h
  case cmp => exact effCmp_memWf _ _ _ _ _ _ _ h
  case cmpi => exact effCmpi_memWf _ _ _ _ _ _ h
  case fopAnd | fopOr | fopXor | fopAndn | fopNot | fopSet | fopClr => exact effFop_memWf _ _ _ _ _ _ h
  case bfBfx | bfBfxu | bfBfi => exact effBf_memWf _ _ _ _ _ _ _ h
  case pbr => exact effPbr_memWf _ _ _ _ h
  case pbrReg => exact effPbrReg_memWf _ _ _ _ h
  case br | brl => exact effBr_memWf _ _ _ _ _ h
  case loop => exact effLoop_memWf _ _ _ _ h
  case kloop => exact effKloop_memWf _ _ _ _ _ _ _ h
  case lds => exact effLds_memWf _ _ _ _ _ _ _ _ h
  case sts => exact effSts_memWf _ _ _ _ _ _ _ h
  case xmovMovc => exact effMovc_memWf _ _ _ _ h
  case xmovMovtc => exact effMovtc_memWf _ _ _ _ h
  case xmovRdsr => exact effRdsr_memWf _ _ _ _ h
  case xmovWrsr => exact effWrsr_memWf _ _ _ _ h
  case xmovMovb => exact effMovb_memWf _ _ _ _ h
  case flip => exact effFlip_memWf _ _ h
  case endStream => exact effEnd_memWf _ _ h
  case pdecl => exact effPdecl_memWf _ _ _ _ _ _ h
  case tlwait => exact effTlwait_memWf _ _ _ _ h
  case tlrd => exact effTlrd_memWf _ _ _ _ h
  case tsig => exact effTsig_memWf _ _ _ h
  case twait => exact effTwait_memWf _ _ _ h
  case nop => exact effNop_memWf _ _ h
  case trap => exact effTrap_memWf _ _ h
  case brk => exact effBrk_memWf _ _ h

/-- The effect of the words of SC. -/
theorem scEffect_memWf (i : Instr) (hc : classOf i = .sc) (x : Ctx) (s : State) (h : s.memWf) :
    (wordEffect i x s).holds State.memWf := by
  cases i <;> cases hc
  all_goals simp only [wordEffect]
  case fork => exact effFork_memWf _ _ _ h
  case join => exact effJoin_memWf _ _ h
  case amo => exact effAmo_memWf _ _ _ _ _ _ _ _ _ h
  case cas => exact effCas_memWf _ _ _ _ _ _ _ _ _ h
  case lda => exact effLda_memWf _ _ _ _ _ _ _ h
  case strl => exact effStrl_memWf _ _ _ _ _ _ _ h
  case fence => exact effFence_memWf _ _ _ _ h
  case barb => exact effBarb_memWf _ _ h
  case futinit => exact effFutinit_memWf _ _ _ h
  case futreg => exact effFutreg_memWf _ _ _ _ h
  case futres | futfail => exact effResolve_memWf _ _ _ _ _ h
  case nspawn => exact effNspawn_memWf _ _ _ h
  case nexit | nyield => exact effRetire_memWf _ _ _ _ h
  case nself => exact effNself_memWf _ _ _ h
  case colgo => exact effColgo_memWf _ _ _ _ _ _ h
  case colq => exact effColq_memWf _ _ _ _ h
  case capq => exact effCapq_memWf _ _ _ h
  case boost => exact effBoost_memWf _ _ _ h
  case permq => exact effPermq_memWf _ _ _ h
  case snap => exact effSnap_memWf _ _ _ h

/-- The effect of the words of LD. -/
theorem ldEffect_memWf (i : Instr) (hc : classOf i = .ld) (x : Ctx) (s : State) (h : s.memWf) :
    (wordEffect i x s).holds State.memWf := by
  cases i <;> cases hc
  all_goals simp only [wordEffect]
  case vld | vlds => exact effLoadTile_memWf _ _ _ _ _ _ _ _ _ h
  case qld => exact effQld_memWf _ _ _ _ _ _ _ _ h
  case spld => exact effSpld_memWf _ _ _ _ _ _ _ _ h
  case gather => exact effGather_memWf _ _ _ _ _ _ _ _ h
  case get => exact effGet_memWf _ _ _ _ _ _ _ _ h
  case pref => exact effPref_memWf _ _ _ _ _ _ h

/-- The effect of the words of ST. -/
theorem stEffect_memWf (i : Instr) (hc : classOf i = .st) (x : Ctx) (s : State) (h : s.memWf) :
    (wordEffect i x s).holds State.memWf := by
  cases i <;> cases hc
  all_goals simp only [wordEffect]
  case vst | vsts => exact effStoreTile_memWf _ _ _ _ _ _ _ _ h
  case qst => exact effQst_memWf _ _ _ _ _ _ _ _ h
  case spst => exact effSpst_memWf _ _ _ _ _ _ _ h
  case scatter | scatterAdd => exact effScatter_memWf _ _ _ _ _ _ _ _ h
  case put => exact effPut_memWf _ _ _ _ _ _ _ _ h

/-- The effect of the words of LD and ST alike. -/
theorem ldStEffect_memWf (i : Instr) (hc : classOf i = .m) (x : Ctx) (s : State) (h : s.memWf) :
    (wordEffect i x s).holds State.memWf := by
  cases i <;> cases hc
  all_goals simp only [wordEffect]
  case spcp => exact effSpcp_memWf _ _ _ _ _ _ _ h
  case cbatch => exact effCbatch_memWf _ _ h
  case tlwaitOut => exact effTlwaitOut_memWf _ _ _ h

/-- What is no word of a stream has no effect. -/
theorem wordEffect_none (i : Instr) (hc : classOf i = .n ∨ classOf i = .event) : wordEffect i = effNone := by
  obtain hc | hc := hc <;> cases i <;> cases hc <;> rfl

/-- The effect of every word: by its class, the tile words by their frame. -/
theorem wordEffect_memWf (i : Instr) (x : Ctx) (s : State) (h : s.memWf) : (wordEffect i x s).holds State.memWf := by
  cases hc : classOf i with
  | common => exact commonEffect_memWf i hc x s h
  | sc => exact scEffect_memWf i hc x s h
  | ld => exact ldEffect_memWf i hc x s h
  | st => exact stEffect_memWf i hc x s h
  | m => exact ldStEffect_memWf i hc x s h
  | c => exact (wordEffect_tile i hc).memWf h
  | n => rw [wordEffect_none i (.inl hc)]; trivial
  | event => rw [wordEffect_none i (.inr hc)]; trivial

/-! ### Bundles -/

/-- Every state that a bundle being looked at carries is in canonical form, but for the states of the words that transfer
control, in whose place the bundle's own stands. -/
structure Issue.memWf (y : Issue) : Prop where
  state : y.s.memWf
  refused : ∀ z ∈ y.refused, z.2.holds State.memWf
  waits : ∀ t ∈ y.waits, t.memWf

theorem Issue.memWf.refuse {y : Issue} (h : y.memWf) (n : Nat) (r : Res) (hr : r.holds State.memWf) :
    ({ y with refused := y.refused ++ [(n, r)] } : Issue).memWf :=
  ⟨h.state, fun z hz => (List.mem_append.mp hz).elim (h.refused z) fun hz => by cases List.mem_singleton.mp hz; exact hr,
    h.waits⟩

theorem Issue.memWf.wait {y : Issue} (h : y.memWf) (t : State) (ht : t.memWf) :
    ({ y with waits := some t } : Issue).memWf := ⟨h.state, h.refused, fun _ hu => by cases hu; exact ht⟩

theorem Issue.memWf.setLate {y : Issue} (h : y.memWf) (t : Option Trap) : ({ y with late := t } : Issue).memWf :=
  ⟨h.state, h.refused, h.waits⟩

/-- What stops a word at issue: its group is masked, or its die is lean (R128, R140). -/
theorem groupStop_cases {i : Instr} {r : Res} (h : groupStop x s i = some r) : (∃ g, r = .masked g) ∨ r = .migrate := by
  unfold groupStop at h
  split_ifs at h <;> cases h
  exacts [.inl ⟨0, rfl⟩, .inl ⟨1, rfl⟩, .inr rfl]

theorem Issue.word_memWf {y : Issue} (hy : y.memWf) (n : Nat) (w : BundleWord) (i : Instr) : (y.word x n w i).memWf := by
  unfold Issue.word
  cases hg : groupStop (x.at' n w) y.s i with
  | some r =>
    obtain ⟨g, rfl⟩ | rfl := groupStop_cases hg <;> simp only [hg] <;> exact hy.refuse _ _ trivial
  | none =>
    have he := wordEffect_memWf i (x.at' n w) y.s hy.state
    simp only [hg]
    cases hr : wordEffect i (x.at' n w) y.s <;> rw [hr] at he
    case ok | ring | jump | skip | after => exact ⟨he, hy.refused, hy.waits⟩
    case stay | halt => exact hy.wait _ he
    case late => exact ⟨hy.state, hy.refused, hy.waits⟩
    all_goals exact hy.refuse _ _ he

theorem dropStale_memWf (s : State) (x : Ctx) (h : s.memWf) : (dropStale s x).memWf :=
  foldl_memWf _ (fun _ _ hs => updStream_memWf _ _ _ _ hs) _ s h

theorem Issue.mred_memWf {y : Issue} (hs : s.memWf) (hy : y.memWf) (n : Nat) (w : BundleWord) (i : Instr) :
    (y.mred x s n w i).memWf := by
  have he := wordEffect_memWf i (x.at' n w) (dropStale s x) (dropStale_memWf s x hs)
  unfold Issue.mred
  split
  · exact hy
  · dsimp only
    split
    · split
      · exact hy.refuse _ _ trivial
      · exact hy
    · split
      · split
        · exact hy
        · have hz := Issue.word_memWf (x := x) (y := { y with s := dropStale y.s x })
            ⟨dropStale_memWf _ _ hy.state, hy.refused, hy.waits⟩ n w i
          exact ⟨updStream_memWf _ _ _ _ hz.state, hz.refused, hz.waits⟩
      · next h => rw [h] at he; exact hy.wait _ he
      · next h => rw [h] at he; exact hy.wait _ he
      · exact hy.refuse _ _ he

theorem Issue.held_memWf {y : Issue} (hs : s.memWf) (hy : y.memWf) : (y.held x s).memWf := by
  unfold Issue.held
  split
  · exact hy.wait _ (updStream_memWf _ _ _ _ hs)
  · exact hy

theorem Issue.closed_memWf {y : Issue} (hy : y.memWf) : State.memWf (y.closed x) := by
  unfold Issue.closed
  exact updCore_memWf _ _ _ (updStream_memWf _ _ _ _ hy.state)

theorem Issue.outcome_memWf (y : Issue) (h : s.memWf) : (y.outcome s).holds State.memWf := by
  unfold Issue.outcome
  split <;> exact h

theorem Issue.finish_memWf {y : Issue} (hs : s.memWf) (hy : y.memWf) (ws : List BundleWord) :
    State.memWf (y.finish x s ws) := by
  have raised (l : List (Nat × Res)) (h : ∀ z ∈ l, z.2.holds State.memWf) (t : State)
      (ht : ((worst l).map fun z => settle { x with slot := z.1 } s z.2) = some t) : t.memWf := by
    obtain ⟨z, hz, rfl⟩ := Option.map_eq_some_iff.mp ht
    exact settle_memWf _ _ _ hs (h z (mem_of_worst hz))
  have hclosed : State.memWf (y.closed x) := closed_memWf hy
  unfold Issue.finish
  dsimp only
  split
  · split
    · next ht => exact raised _ (fun z hz => hy.refused z (List.mem_filter.mp hz).1) _ ht
    · exact updStream_memWf _ _ _ _ (hy.waits _ ‹_›)
  · split
    · next ht =>
      refine raised _ (fun z hz => (List.mem_append.mp hz).elim (hy.refused z) fun hz => ?_) _ ht
      obtain ⟨t, -, rfl⟩ := List.mem_map.mp hz
      trivial
    · split
      · exact takeFault_memWf _ _ _ _ _ _ _ (updStream_memWf _ _ _ _ (faultedAccess_memWf _ _ _ hclosed))
      · exact settle_memWf _ _ _ hs (outcome_memWf _ hclosed)

/-- A fold over the words of a bundle that keeps the canonical form keeps it. -/
theorem Issue.foldl_memWf {α : Type} (f : Issue → α → Issue) (hf : ∀ y a, y.memWf → (f y a).memWf) (l : List α)
    (y : Issue) (h : y.memWf) : (l.foldl f y).memWf := by
  induction l generalizing y with
  | nil => exact h
  | cons a l ih => exact ih _ (hf y a h)

theorem lookWords_memWf (x : Ctx) (s : State) (l : List (Nat × BundleWord)) (h : s.memWf) : (lookWords x s l).memWf := by
  refine Issue.held_memWf h (Issue.foldl_memWf _ (fun y z hy => ?_) _ _
    ⟨h, fun _ hz => absurd hz List.not_mem_nil, fun _ ht => absurd ht (by simp)⟩)
  split
  · exact Issue.word_memWf hy _ _ _
  · exact hy

theorem performBundle_memWf (s : State) (x : Ctx) (ws : List BundleWord) (l : List (Nat × BundleWord)) (late : Option Trap)
    (h : s.memWf) : (performBundle s x ws l late).memWf := by
  unfold performBundle
  refine Issue.finish_memWf h (Issue.memWf.setLate ?_ _) ws
  refine Issue.foldl_memWf _ (fun y z hy => ?_) _ _ (lookWords_memWf x s l h)
  split
  · exact Issue.mred_memWf h hy _ _ _
  · exact hy

theorem issueBundle_memWf (s : State) (b : BenchId) (c : CoreId) (ws : List BundleWord) (h : s.memWf) :
    (issueBundle s b c ws).memWf := by
  unfold issueBundle
  dsimp only
  split
  · exact takeFault_memWf _ _ _ _ _ _ _ h
  · exact performBundle_memWf _ _ _ _ _ h

theorem eccBundle_memWf {b : BenchId} {c : CoreId} {s' : State} (he : eccBundle s b c = some s') (h : s.memWf) :
    s'.memWf := by
  unfold eccBundle at he
  dsimp only at he
  split at he
  · cases he
  · cases he
    exact performBundle_memWf _ _ _ _ _ h

theorem collectWord_memWf (s : State) (b : BenchId) (c : CoreId) (raw : IWord) (i : Option Instr) (h : s.memWf) :
    (collectWord s b c raw i).memWf := by
  unfold collectWord
  dsimp only
  split
  · exact issueBundle_memWf _ _ _ _ h
  · exact updStream_memWf _ _ _ _ h

/-! ### One word -/

theorem runStream_memWf (s : State) (b : BenchId) (c : CoreId) (t : StreamId) (i : Instr) (h : s.memWf) :
    (runStream s b c t i).memWf := by
  unfold runStream
  dsimp only
  split
  · exact collectWord_memWf _ _ _ _ _ h
  split
  · exact takeFault_memWf _ _ _ _ _ _ _ h
  split
  · exact takeFault_memWf _ _ _ _ _ _ _ h
  · exact settle_memWf _ _ _ h (wordEffect_memWf _ _ _ h)

theorem runBadWord_memWf (s : State) (b : BenchId) (c : CoreId) (t : StreamId) (raw : IWord) (h : s.memWf) :
    (runBadWord s b c t raw).memWf := by
  unfold runBadWord
  split
  · exact collectWord_memWf _ _ _ _ _ h
  · exact takeFault_memWf _ _ _ _ _ _ _ h

theorem runWord_memWf (i : Instr) (s : State) (h : s.memWf) : outHolds State.memWf (runWord i s) := by
  unfold runWord
  grind [outHolds, runStream_memWf, runCommand_memWf]

end Sys2Proof.Machine
end

section
/-! SUPPORT. Results that land, the system copies and the halt line keep device memory in its canonical form (R132 to R141).
-/

namespace Sys2Proof.Machine

theorem cpResult_memWf (s : State) (b : BenchId) (c : CoreId) (h : s.memWf) : (cpResult s b c).memWf :=
  updCore_memWf (h := h) ..

theorem longLand_memWf (s : State) (b : BenchId) (c : CoreId) (n : Nat) (h : s.memWf) : (longLand s b c n).memWf :=
  updCore_memWf (h := h) ..

theorem setOverlap_memWf (s : State) (b : BenchId) (c : CoreId) (lo hi : Nat × Nat × Range) (h : s.memWf) :
    (setOverlap s b c lo hi).memWf := updStream_memWf (h := takeFault_memWf (h := h) ..) ..

theorem flipComplete_memWf (s : State) (b : BenchId) (c : CoreId) (h : s.memWf) : (flipComplete s b c).memWf := by
  unfold flipComplete
  grind [setOverlap_memWf, updCore_memWf]

theorem scxFault_memWf (s : State) (i : BitVec 2) (cause : Nat) (addr aux0 aux1 : Word) (h : s.memWf) :
    (State.scxFault s i cause addr aux0 aux1).memWf := updScx_memWf (h := trapRecord_memWf (h := h) ..) ..

theorem scxMem_memWf (s : State) (i : BitVec 2) (n : Nat) (va : Word) (e : MemFault) (h : s.memWf) :
    (scxMem s i n va e).memWf := by
  unfold scxMem
  grind [trapRecord_memWf, updScx_memWf, scxFault_memWf]

theorem scxUnit_memWf (s : State) (i : BitVec 2) (n : Nat) (h : s.memWf) : (scxUnit s i n).memWf := by
  unfold scxUnit
  grind [homeAccess_memWf, updScx_memWf, physWrite_memWf, scxMem_memWf, missed_memWf]

theorem scxUnits_memWf (i : BitVec 2) : ∀ (n m : Nat) (s : State), s.memWf → (scxUnits i n m s).memWf
  | 0, _, _, h => h
  | n + 1, m, s, h => by
    have ih := scxUnits_memWf i n
    unfold scxUnits
    grind [scxUnit_memWf]

theorem scxComplete_memWf (s : State) (i : BitVec 2) (h : s.memWf) : (scxComplete s i).memWf := by
  unfold scxComplete
  grind [updScx_memWf, scxUnits_memWf]

theorem scxGo_memWf (s : State) (i : BitVec 2) (x : Word) (h : s.memWf) : (scxGo s i x).memWf := by
  unfold scxGo
  grind [updScx_memWf]

theorem haltLine_memWf (s : State) (p : PartId) (h : s.memWf) : (haltLine s p).memWf := by
  unfold haltLine
  grind [trapRecord_memWf, updGang_memWf, setRun_memWf, updPart_memWf, foldl_memWf]

theorem copyAbandon_memWf (s : State) (b : BenchId) (c : CoreId) (n : Nat) (h : s.memWf) : (copyAbandon s b c n).memWf := by
  unfold copyAbandon
  grind [setCopy_memWf]

theorem replayCopies_memWf (s : State) (b : BenchId) (c : CoreId) (h : s.memWf) : (replayCopies s b c).memWf := by
  unfold replayCopies
  grind [workOn_memWf, foldl_memWf]

theorem resumePart_memWf (s : State) (p : PartId) (h : s.memWf) : (resumePart s p).memWf := by
  unfold resumePart
  grind [replayCopies_memWf, updGang_memWf, setRun_memWf, updPart_memWf, settleResume_memWf, foldl_memWf]

theorem pctlResume_memWf (s : State) (p : PartId) (x : Word) (h : s.memWf) : (pctlResume s p x).memWf := by
  unfold pctlResume
  grind [resumePart_memWf, haltLine_memWf, keepRecord_memWf, updGang_memWf]

theorem abortGang_memWf (s : State) (b : BenchId) (code : Nat) (h : s.memWf) : (abortGang s b code).memWf := by
  unfold abortGang
  grind [placeStranded_memWf, retire_memWf, dispatcherResolve_memWf, failRecord_memWf, keepRecord_memWf, makeReady_memWf,
    vfTouch_memWf]

theorem pctlAbort_memWf (s : State) (p : PartId) (x : Word) (h : s.memWf) : (pctlAbort s p x).memWf := by
  unfold pctlAbort
  grind [abortGang_memWf, haltLine_memWf, settleResume_memWf]

theorem pctlReplay_memWf (s : State) (p : PartId) (x : Word) (h : s.memWf) : (pctlReplay s p x).memWf := by
  unfold pctlReplay
  grind [setCopy_memWf, State.memWf, updStream_memWf, updCtx_memWf]

theorem saveGang_memWf (s : State) (b : BenchId) (n : Nat) (full : Bool) (g : Gang) (h : s.memWf) :
    (saveGang s b n full g).memWf := by
  unfold saveGang
  grind [updVf_memWf, vfWrite_memWf, keepRecord_memWf, vacate_memWf]

theorem fullSave_memWf (s : State) (b : BenchId) (h : s.memWf) : (fullSave s b).memWf := by
  unfold fullSave
  grind [saveGang_memWf, updGang_memWf]

theorem fullStopNow_memWf (s : State) (b : BenchId) (h : s.memWf) : (fullStopNow s b).memWf := by
  unfold fullStopNow
  grind [fullSave_memWf, updGang_memWf]

theorem pctlStop_memWf (s : State) (p : PartId) (x : Word) (h : s.memWf) : (pctlStop s p x).memWf := by
  unfold pctlStop
  grind [fullStopNow_memWf]

theorem pctlBarrier_memWf (s : State) (p : PartId) (h : s.memWf) : (pctlBarrier s p).memWf := h

theorem writePctl_memWf (s : State) (p : PartId) (x : Word) (h : s.memWf) : (writePctl s p x).memWf := by
  unfold writePctl
  grind [pctlResume_memWf, pctlBarrier_memWf, pctlStop_memWf, pctlAbort_memWf, pctlReplay_memWf]

theorem writeTqhead_memWf (s : State) (p : PartId) (x : Word) (h : s.memWf) : (writeTqhead s p x).memWf := h

theorem writeHtqhead_memWf (s : State) (x : Word) (h : s.memWf) : (writeHtqhead s x).memWf := by
  unfold writeHtqhead
  grind [State.memWf, recordMasked_memWf, writeHeld_memWf, foldl_memWf]

end Sys2Proof.Machine
end

section
/-! SUPPORT. Slices, windows, links and launches keep device memory in its canonical form (R118 to R122, R142 to R149, R293
to R299). -/

namespace Sys2Proof.Machine

theorem contextWindow_memWf (s : State) (write : Bool) (a : Word) (item : CtxItem) (h : s.memWf) :
    (contextWindow s write a item).memWf := by
  unfold contextWindow
  grind [State.memWf, updCore_memWf]

theorem engineFault_memWf (s : State) (b : BenchId) (c : CoreId) (t : StreamId) (num : Nat) (pc : Word) (u : OutUnit)
    (cause : Nat) (entry : Word) (h : s.memWf) : (engineFault s b c t num pc u cause entry).memWf := by
  unfold engineFault
  grind [setCopy_memWf, trapRecord_memWf, updCore_memWf, takeCopyFault_memWf, drainRecord_memWf, raiseHalt_memWf,
    blame_memWf]

theorem originFault_memWf (s : State) (u : OutUnit) (cause : Nat) (entry : Word) (h : s.memWf) :
    (originFault s u cause entry).memWf := by
  unfold originFault
  grind [trapRecord_memWf, raiseHalt_memWf, engineFault_memWf, updCtx_memWf, contextFaultAt_memWf]

theorem dropUnit_memWf (s : State) (tag : Nat) (h : s.memWf) : (dropUnit s tag).memWf := h

theorem unitFault_memWf (s : State) (tag cause : Nat) (entry : Word) (eth : Option Bool) (h : s.memWf) :
    (unitFault s tag cause entry eth).memWf := by
  unfold unitFault
  grind [originFault_memWf, dropUnit_memWf]

theorem eccStream_memWf (s : State) (b : BenchId) (c : CoreId) (t : StreamId) (h : s.memWf) : (eccStream s b c t).memWf := by
  unfold eccStream
  grind [takeFault_memWf, updStream_memWf, eccBundle_memWf]

theorem eccError_memWf (s : State) (u : EccUnit) (h : s.memWf) : (eccError s u).memWf := by
  unfold eccError
  grind [setCopy_memWf, eccStream_memWf, takeCopyFault_memWf, drainRecord_memWf, takeContextFault_memWf, scxFault_memWf]

theorem returnSaved_memWf (s : State) (p : PartId) (v : VfId) (h : s.memWf) : (returnSaved s p v).memWf := by
  unfold returnSaved
  grind [enterPool_memWf, vfTouch_memWf, foldl_memWf]

theorem reside_memWf (s : State) (p : PartId) (now : List (BitVec 16)) (h : s.memWf) : (reside s p now).memWf := by
  unfold reside
  grind [State.memWf]

theorem grantVf_memWf (s : State) (p : PartId) (h : s.memWf) : (grantVf s p).memWf := by
  unfold grantVf
  grind [reside_memWf, returnSaved_memWf, lvtLook_memWf, updPart_memWf]

theorem sliceEnd_memWf (s : State) (p : PartId) (h : s.memWf) : (sliceEnd s p).memWf := by
  unfold sliceEnd
  grind [updVf_memWf, reside_memWf, returnSaved_memWf, updPart_memWf]

theorem accrue_memWf (s : State) (v : VfId) (h : s.memWf) : (accrue s v).memWf := by
  unfold accrue
  grind [updVf_memWf]

theorem forceEpilogue_memWf (s : State) (b : BenchId) (h : s.memWf) : (forceEpilogue s b).memWf := by
  unfold forceEpilogue
  grind [updGang_memWf]

theorem epilogueSave_memWf (s : State) (b : BenchId) (h : s.memWf) : (epilogueSave s b).memWf := by
  unfold epilogueSave
  grind [vfMissed_memWf, setsTouch_memWf, saveGang_memWf, updGang_memWf, vfTouch_memWf]

theorem fullStop_memWf (s : State) (b : BenchId) (h : s.memWf) : (fullStop s b).memWf := by
  unfold fullStop
  grind [fullSave_memWf, fullStopNow_memWf]

theorem clearShadow_memWf (s : State) (p : PartId) (h : s.memWf) : (clearShadow s p).memWf :=
  Memory.wf_filter _ _ (foldl_memWf _ (fun _ _ hs => atHome_memWf _ _ _ _ _ hs) _ s h)

theorem partitionBarrier_memWf (s : State) (p : PartId) (h : s.memWf) : (partitionBarrier s p).memWf := by
  unfold partitionBarrier
  grind [vfMissed_memWf, clearCarried_memWf, State.memWf, clearShadow_memWf, updPart_memWf, foldl_memWf]

theorem writeWinctl_memWf (s : State) (p : PartId) (n : BitVec 6) (x : Word) (h : s.memWf) : (writeWinctl s p n x).memWf := h

theorem countUnit_memWf (s : State) (u : UnitMsg) (refused : Bool) (h : s.memWf) : (countUnit s u refused).memWf := by
  unfold countUnit
  grind [State.memWf, updWindow_memWf]

theorem unitAccess_memWf (w : Who) (base : Nat) (put : Bool) : ∀ (l : List Nat) (s : State), s.memWf →
    match unitAccess w base put s l with
    | .error f => f.2.memWf
    | .ok a => a.2.memWf
  | [], _, h => h
  | o :: r, s, h => by
    have ih := unitAccess_memWf w base put r
    unfold unitAccess
    grind [homeAccess_memWf, missed_memWf]

theorem answer_memWf (s : State) (r : UnitReply) (h : s.memWf) : (State.answer s r).memWf := h

theorem unitArrive_memWf (s : State) (u : UnitMsg) (h : s.memWf) : (unitArrive s u).memWf := by
  unfold unitArrive
  grind [unitAccess_memWf, physSet_memWf, answer_memWf, countUnit_memWf, State.memWf, foldl_memWf]

theorem residencyReport_memWf (s : State) (eth : Bool) (peer : BitVec 8) (part : PartId) (tenant : BitVec 16)
    (resident : Bool) (h : s.memWf) : (residencyReport s eth peer part tenant resident).memWf := h

theorem refusedUnit_memWf (s : State) (tag : Nat) (race : Option Word) (h : s.memWf) : (refusedUnit s tag race).memWf := by
  unfold refusedUnit
  grind [unitFault_memWf]

theorem unitTimeout_memWf (s : State) (tag : Nat) (h : s.memWf) : (unitTimeout s tag).memWf := unitFault_memWf (h := h) ..

theorem arrivalAck_memWf (s : State) (peer : BitVec 8) (tag : Nat) (h : s.memWf) : (arrivalAck s peer tag).memWf := h

theorem writeRead_memWf (b : BenchId) (c : CoreId) : ∀ (l : List Nat) (s : State) (k : Copy), s.memWf →
    (writeRead s b c k l).1.memWf
  | [], _, _, h => h
  | i :: r, s, k, h => by
    have ih := writeRead_memWf b c r
    unfold writeRead
    dsimp only
    split
    · exact ih _ _ h
    · exact ih _ _ (foldl_memWf _ (fun _ _ hs => landElem_memWf (h := hs) ..) _ s h)

theorem landReturn_memWf (s : State) (b : BenchId) (c : CoreId) (tag : Nat) (data : List Byte) (k : Copy) (h : s.memWf) :
    (landReturn s b c tag data k).memWf := by
  unfold landReturn
  grind [setCopy_memWf, landElem_memWf, writeRead_memWf, foldl_memWf]

theorem getReturn_memWf (s : State) (tag : Nat) (data : List Byte) (h : s.memWf) : (getReturn s tag data).memWf := by
  unfold getReturn
  grind [landReturn_memWf, dropUnit_memWf, settleResume_memWf, foldl_memWf]

theorem linkDown_memWf (s : State) (eth : Bool) (port : BitVec 4) (h : s.memWf) : (linkDown s eth port).memWf := by
  unfold linkDown
  grind [State.memWf, unitFault_memWf, foldl_memWf]

theorem linkRetrain_memWf (s : State) (eth : Bool) (port : BitVec 4) (done : Bool) (h : s.memWf) :
    (linkRetrain s eth port done).memWf := by
  unfold linkRetrain
  grind [State.memWf]

theorem creditFlit_memWf (s : State) (port : BitVec 4) (n : Nat) (h : s.memWf) : (creditFlit s port n).memWf := h

theorem lqError_memWf (s : State) (v : VfId) (reason : Byte) (seq : BitVec 16) (h : s.memWf) :
    (lqError s v reason seq).memWf := h

theorem doorbell_memWf (s : State) (v : VfId) (x : Word) (h : s.memWf) : (doorbell s v x).memWf := by
  unfold doorbell
  grind [lqError_memWf, updVf_memWf]

theorem consumed_memWf (s : State) (v : VfId) (request : Bool) (h : s.memWf) : (consumed s v request).memWf := h

theorem submitLaunch_memWf (s : State) (v : VfId) (l d : List Word) (request : Bool) (h : s.memWf) :
    (submitLaunch s v l d request).memWf := by
  unfold submitLaunch
  grind [clearCarried_memWf, updVf_memWf, submitWaiting_memWf, vfWrite_memWf, consumed_memWf, setState_memWf,
    makeReady_memWf]

theorem consumeRecord_memWf (s : State) (v : VfId) (rec' : Option (List Word)) (request : Bool) (h : s.memWf) :
    (consumeRecord s v rec' request).memWf := by
  unfold consumeRecord
  grind [vfMissed_memWf, submitLaunch_memWf, lqError_memWf, consumed_memWf, vfTouch_memWf]

theorem consumeLaunch_memWf (s : State) (v : VfId) (h : s.memWf) : (consumeLaunch s v).memWf := by
  unfold consumeLaunch
  grind [placeRest_memWf, updVf_memWf, consumed_memWf, consumeRecord_memWf, vfTouch_memWf]

theorem lvtTouch_memWf (s : State) (tenant : BitVec 16) (h : s.memWf) : (lvtTouch s tenant).memWf := by
  unfold lvtTouch
  grind [atHome_memWf, foldl_memWf]

theorem launchRequest_memWf (s : State) (port : BitVec 5) (tenant : BitVec 16) (win : BitVec 6) (node : Word)
    (h : s.memWf) : (launchRequest s port tenant win node).memWf := by
  unfold launchRequest
  grind [State.memWf, updVf_memWf, lvtTouch_memWf]

theorem touchNodes_memWf (s : State) (p : PartId) (spoil defer : List (Nat × VfId)) (h : s.memWf) :
    (touchNodes s p spoil defer).memWf := by
  unfold touchNodes
  grind [atHome_memWf, vfTouch_memWf, foldl_memWf]

theorem failExtended_memWf (s : State) (p : PartId) (n : Nat × Space) (h : s.memWf) : (failExtended s p n).memWf := by
  unfold failExtended
  grind [dispatcherResolve_memWf, recordOnly_memWf, updVf_memWf, forget_memWf, failRecord_memWf, makeReady_memWf,
    vfTouch_memWf, foldl_memWf]

theorem failAllExtended_memWf (s : State) (p : PartId) (h : s.memWf) : (failAllExtended s p).memWf := by
  unfold failAllExtended
  grind [deferAppend_memWf, failExtended_memWf, drainSpoil_memWf, touchNodes_memWf, spoilAppend_memWf, updPart_memWf,
    foldl_memWf]

theorem writePbench_memWf (s : State) (p : PartId) (x : Word) (h : s.memWf) : (writePbench s p x).memWf := by
  unfold writePbench
  grind [updPart_memWf, failAllExtended_memWf]

end Sys2Proof.Machine
end

section
/-! SUPPORT. Start, power and the host-visible registers keep device memory in its canonical form (R316 to R334). -/

namespace Sys2Proof.Machine

theorem recovery_memWf (s : State) (reason : BitVec 4) (h : s.memWf) : (recovery s reason).memWf := h

/-- After step 5 every byte reads zero (Table 36.1). -/
theorem stepFive_memWf (s : State) : (stepFive s).memWf := rfl

theorem startImage_memWf (s : State) (image : List Byte) : (startImage s image).memWf := by
  unfold startImage
  grind [stepFive_memWf, updDev_memWf]

/-- A loss of power leaves nothing in memory (log 32). -/
theorem poweredOn_memWf (s : State) : (poweredOn s).memWf := State.reset_memWf

theorem coldStart_memWf (s : State) : (coldStart s).memWf := by
  unfold coldStart
  grind [recovery_memWf, poweredOn_memWf, startImage_memWf]

theorem warmReset_memWf (s : State) : (warmReset s).memWf := by
  unfold warmReset
  grind [stepFive_memWf, updDev_memWf]

theorem warmStart_memWf (s : State) (x : Word) (h : s.memWf) : (warmStart s x).memWf := by
  unfold warmStart
  grind [recovery_memWf, coldStart_memWf, warmReset_memWf]

theorem writeReady_memWf (s : State) (x : Word) (h : s.memWf) : (writeReady s x).memWf := by
  unfold writeReady
  grind [updDev_memWf]

theorem recoveryGo_memWf (s : State) (x : Word) (image : List Byte) (h : s.memWf) : (recoveryGo s x image).memWf := by
  unfold recoveryGo
  grind [recovery_memWf, startImage_memWf]

theorem lifecycle_memWf (s : State) (lc : BitVec 2) (request : List Byte) (h : s.memWf) :
    (lifecycle s lc request).memWf := by
  unfold lifecycle
  grind [updDev_memWf, State.memWf]

theorem debugRequest_memWf (s : State) (x : Word) (h : s.memWf) : (debugRequest s x).memWf := h

theorem debugLoad_memWf (s : State) (x : Word) (token : List Byte) (h : s.memWf) : (debugLoad s x token).memWf := by
  unfold debugLoad
  grind [updDev_memWf, debugRequest_memWf]

theorem quadRequest_memWf (s : State) (q : QuadId) (x : Word) (h : s.memWf) : (quadRequest s q x).memWf := h

theorem enterP2_memWf (s : State) (q : QuadId) (h : s.memWf) : (enterP2 s q).memWf := by
  unfold enterP2
  grind [updQuad_memWf]

theorem enterP1_memWf (s : State) (q : QuadId) (h : s.memWf) : (enterP1 s q).memWf := by
  unfold enterP1
  grind [updQuad_memWf]

theorem wakeP1_memWf (s : State) (q : QuadId) (h : s.memWf) : (wakeP1 s q).memWf := h

theorem powerOff_memWf (s : State) : (powerOff s).memWf := by
  unfold powerOff
  grind [updDev_memWf, poweredOn_memWf]

theorem powerLimit_memWf (s : State) (p : PartId) (h : s.memWf) : (powerLimit s p).memWf := by
  unfold powerLimit
  grind [trapRecord_memWf, raiseHalt_memWf, updPart_memWf]

theorem powerWindow_memWf (s : State) (package : Nat) (parts : List (PartId × Nat)) (h : s.memWf) :
    (powerWindow s package parts).memWf := foldl_memWf _ (fun s p hs => powerLimit_memWf s p hs) _ s h

theorem permitCharge_memWf (s : State) (q : QuadId) (h : s.memWf) : (permitCharge s q).memWf := by
  unfold permitCharge
  dsimp only
  split
  · exact h
  · exact foldl_memWf _ (fun _ _ hs => updQuad_memWf _ _ hs) _ _
      (foldl_memWf _ (fun s p hs => updPart_memWf s p _ hs) _ s h)

theorem permitRefill_memWf (s : State) (p : PartId) (h : s.memWf) : (permitRefill s p).memWf := by
  unfold permitRefill
  grind [updPart_memWf]

theorem fallEnd_memWf (s : State) (q : QuadId) (h : s.memWf) : (fallEnd s q).memWf := h

theorem stepChange_memWf (s : State) (q : QuadId) (h : s.memWf) : (stepChange s q).memWf := h

theorem maintenance_memWf (s : State) (q : QuadId) (cmd : BitVec 2) (x : Word) (h : s.memWf) :
    (maintenance s q cmd x).memWf := h

theorem maintenanceDone_memWf (s : State) (q : QuadId) (h : s.memWf) : (maintenanceDone s q).memWf := by
  unfold maintenanceDone
  dsimp only
  split
  · exact h
  · refine updQuad_memWf q _ (foldl_memWf _ (fun s l hs => ?_) _ s h)
    split
    · exact llcUpdate_memWf _ _ (writeBackLine_memWf _ _ hs)
    · exact llcEvict_memWf _ _ hs

theorem tlbInvalidate_memWf (s : State) (h : s.memWf) : (tlbInvalidate s).memWf := h

theorem hostAtHome_memWf (s : State) (k : AccKind) (pa n : Nat) (h : s.memWf) : (hostAtHome s k pa n).memWf :=
  watch_memWf _ _ _ _ (foldl_memWf _ (fun s l hs => llcTouch_memWf s none l hs) _ s h)

theorem hostAccess_memWf (s : State) (write : Bool) (pa : BitVec 40) (n : Nat) (data : List Byte) (h : s.memWf) :
    (hostAccess s write pa n data).memWf := by
  unfold hostAccess
  dsimp only
  split
  · exact h
  · split
    · exact foldl_memWf _ (fun s _ hs => physSet_memWf s _ _ hs) _ _ (hostAtHome_memWf _ _ _ _ h)
    · exact hostAtHome_memWf _ _ _ _ h

theorem writeRoot_memWf (s : State) (v : VfId) (hyp : Bool) (x : Word) (h : s.memWf) : (writeRoot s v hyp x).memWf := h

theorem commitRoot_memWf (s : State) (v : VfId) (x : Word) (h : s.memWf) : (commitRoot s v x).memWf := by
  unfold commitRoot
  grind [updVf_memWf]

theorem writeFmtcfg_memWf (s : State) (q : QuadId) (n : BitVec 4) (x : Word) (h : s.memWf) : (writeFmtcfg s q n x).memWf := h

theorem writeSnapctl_memWf (s : State) (x : Word) (h : s.memWf) : (writeSnapctl s x).memWf := by
  unfold writeSnapctl
  grind [updDev_memWf, fireTrigger_memWf]

theorem writeReg_memWf (s : State) (r : HostReg) (x : Word) (h : s.memWf) : (writeReg s r x).memWf := by
  unfold writeReg
  grind [commitRoot_memWf, writeHtqhead_memWf, writeRoot_memWf, writeFmtcfg_memWf, updScx_memWf, updDev_memWf,
    writePctl_memWf, debugRequest_memWf, quadRequest_memWf, writeSnapctl_memWf, updVf_memWf, maintenance_memWf,
    writePbench_memWf, doorbell_memWf, scxGo_memWf, writeWinctl_memWf, writeTqhead_memWf, updWindow_memWf, updPart_memWf,
    updQuad_memWf, writeReady_memWf, warmStart_memWf]

theorem writeBar_memWf (s : State) (bar : Bar) (o : Nat) (x : Word) (h : s.memWf) : (writeBar s bar o x).memWf := by
  unfold writeBar
  grind [writeReg_memWf]

theorem debugAccess_memWf (s : State) (q : QuadId) (write : Bool) (look : State → State) (read : State → Byte)
    (store : State → State) (h : s.memWf) (hl : ∀ t, t.memWf → (look t).memWf) (hs : ∀ t, t.memWf → (store t).memWf) :
    (debugAccess s q write look read store).memWf := by
  unfold debugAccess
  dsimp only
  split
  · exact h
  · have ht := hl _ (updQuad_memWf q (fun y => { y with pwr := 0 }) h)
    split
    · exact hs _ ht
    · exact ht

theorem setPool_memWf (s : State) (b : BenchId) (c : CoreId) (off : Nat) (v : Byte) (h : s.memWf) :
    (setPool s b c off v).memWf := by
  unfold setPool
  grind [State.memWf, updCore_memWf]

theorem debugWrite_memWf (s : State) (off : Nat) (x : Word) (h : s.memWf) : (debugWrite s off x).memWf := by
  unfold debugWrite
  grind [writeReg_memWf, wakeP1_memWf, pctlStop_memWf]

theorem debugRead_memWf (s : State) (off : Nat) (h : s.memWf) : (debugRead s off).memWf := by
  unfold debugRead
  grind [updDev_memWf, State.memWf]

theorem debugWindow_memWf (s : State) (write : Bool) (target : DbgTarget) (v : Byte) (h : s.memWf) :
    (debugWindow s write target v).memWf := by
  unfold debugWindow
  grind [physSet_memWf, debugAccess_memWf, State.memWf, debugWrite_memWf, debugRead_memWf, atHome_memWf, setPool_memWf]

theorem retransmitFlit_memWf (s : State) (u : BitVec 4) (h : s.memWf) : (retransmitFlit s u).memWf := h

theorem retransmitUdp_memWf (s : State) (n : Nat) (h : s.memWf) : (retransmitUdp s n).memWf := h

end Sys2Proof.Machine
end

section
/-! SUPPORT. Events and steps keep device memory in its canonical form, which settles O57. -/

namespace Sys2Proof.Machine

variable {s : State}

/-! ### Events -/

/-- With the package in P3 an event does nothing (R321). -/
theorem happen_memWf {f : State → State} (h : s.memWf) (hf : (f s).memWf) : outHolds State.memWf (happen s f) := by
  unfold happen
  split
  · exact h
  · exact hf

theorem ite_memWf {c : Prop} [Decidable c] {t : State} (ht : t.memWf) (h : s.memWf) : (if c then t else s).memWf := by
  split
  · exact ht
  · exact h

/-- Every event, one rule per event. -/
theorem event_memWf (i : Instr) (hc : classOf i = .event) (s : State) (h : s.memWf) :
    outHolds State.memWf (exec i s) := by
  cases i <;> cases hc
  all_goals simp only [exec]
  case coldStart => exact coldStart_memWf s
  case debugWindowAccess => exact debugWindow_memWf _ _ _ _ h
  all_goals refine happen_memWf h ?_
  case colProgramStart => exact colStart_memWf (h := h) ..
  case cpResultWrite => exact cpResult_memWf (h := h) ..
  case longOpLand => exact longLand_memWf (h := h) ..
  case copyUnit => exact copyUnit_memWf (h := h) ..
  case copyComplete => exact copyComplete_memWf (h := h) ..
  case flipComplete => exact flipComplete_memWf (h := h) ..
  case nodeRetire => exact retireNode_memWf (h := h) ..
  case launchDoorbell => exact ite_memWf (doorbell_memWf (h := h) ..) h
  case launchRecordConsume => exact consumeLaunch_memWf (h := h) ..
  case launchRequest => exact launchRequest_memWf (h := h) ..
  case dispatch => exact dispatchOne_memWf (h := h) ..
  case gangMigrate => exact migrateGang_memWf (h := h) ..
  case haltLine => exact haltLine_memWf (h := h) ..
  case copyAbandon => exact copyAbandon_memWf (h := h) ..
  case colContextStop => exact contextStop_memWf (h := h) ..
  case pctlResume => exact pctlResume_memWf (h := h) ..
  case pctlAbort => exact pctlAbort_memWf (h := h) ..
  case pctlReplay => exact pctlReplay_memWf (h := h) ..
  case pctlBarrier => exact pctlBarrier_memWf (h := h) ..
  case pctlStop => exact pctlStop_memWf (h := h) ..
  case partitionBarrier => exact partitionBarrier_memWf (h := h) ..
  case vfGrant => exact grantVf_memWf (h := h) ..
  case sliceEnd => exact sliceEnd_memWf (h := h) ..
  case forcedEpilogue => exact forceEpilogue_memWf (h := h) ..
  case epilogueSave => exact epilogueSave_memWf (h := h) ..
  case fullStop => exact fullStop_memWf (h := h) ..
  case vfctxRootWrite => exact ite_memWf (writeRoot_memWf (h := h) ..) h
  case vfctxCommit => exact ite_memWf (commitRoot_memWf (h := h) ..) h
  case tqheadWrite => exact writeTqhead_memWf (h := h) ..
  case htqheadWrite => exact writeHtqhead_memWf (h := h) ..
  case fmtcfgWrite => exact writeFmtcfg_memWf (h := h) ..
  case pbenchWrite => exact writePbench_memWf (h := h) ..
  case winctlWrite => exact writeWinctl_memWf (h := h) ..
  case windowUnitArrive => exact unitArrive_memWf (h := h) ..
  case flitRetransmit => exact retransmitFlit_memWf (h := h) ..
  case creditFlit => exact creditFlit_memWf (h := h) ..
  case linkDown => exact linkDown_memWf (h := h) ..
  case udpRetransmit => exact retransmitUdp_memWf (h := h) ..
  case udpUnitTimeout => exact unitTimeout_memWf (h := h) ..
  case uncorrectableEcc => exact eccError_memWf (h := h) ..
  case scxGo => exact scxGo_memWf (h := h) ..
  case scxComplete => exact scxComplete_memWf (h := h) ..
  case llcmntWriteback => exact maintenance_memWf (h := h) ..
  case llcmntWbInvalidate => exact maintenance_memWf (h := h) ..
  case llcmntDone => exact maintenanceDone_memWf (h := h) ..
  case devctlWarm => exact warmStart_memWf (h := h) ..
  case devctlReady => exact writeReady_memWf (h := h) ..
  case recgo => exact recoveryGo_memWf (h := h) ..
  case lifecycleAdvance => exact lifecycle_memWf (h := h) ..
  case dbgctlReq => exact debugRequest_memWf (h := h) ..
  case dbgctlLoad => exact debugLoad_memWf (h := h) ..
  case snapctlFire => exact writeSnapctl_memWf (h := h) ..
  case qpwrReq => exact quadRequest_memWf (h := h) ..
  case p2Entry => exact enterP2_memWf (h := h) ..
  case p1Entry => exact enterP1_memWf (h := h) ..
  case p1Wake => exact wakeP1_memWf (h := h) ..
  case powerOff => exact powerOff_memWf s
  case powerWindowEnd => exact powerWindow_memWf (h := h) ..
  case permitCharge => exact permitCharge_memWf (h := h) ..
  case permitRefill => exact permitRefill_memWf (h := h) ..
  case boostFallEnd => exact fallEnd_memWf (h := h) ..
  case boostStepChange => exact stepChange_memWf (h := h) ..
  case registerWrite => exact writeBar_memWf (h := h) ..
  case bucketAccrual => exact accrue_memWf (h := h) ..
  case linkRetrain => exact linkRetrain_memWf (h := h) ..
  case arrivalAcknowledgement => exact arrivalAck_memWf (h := h) ..
  case refusedUnit => exact refusedUnit_memWf (h := h) ..
  case getUnitReturn => exact getReturn_memWf (h := h) ..
  case hostMemoryAccess => exact hostAccess_memWf (h := h) ..
  case contextWindowAccess => exact contextWindow_memWf (h := h) ..
  case tlbInvalidate => exact tlbInvalidate_memWf (h := h) ..
  case residencyReport => exact residencyReport_memWf (h := h) ..

/-- Every instruction: a word as the agent whose turn it is performs it, or an event. -/
theorem exec_memWf (i : Instr) (s : State) (h : s.memWf) : outHolds State.memWf (exec i s) := by
  by_cases hc : classOf i = .event
  · exact event_memWf i hc s h
  · rw [exec_word s i hc]
    exact runWord_memWf i s h

/-! ### Turns and steps -/

theorem nextTurn_memWf (s : State) (h : s.memWf) : (nextTurn s).2.memWf := by
  unfold nextTurn
  split <;> exact h

theorem fetchStream_memWf (s : State) (b : BenchId) (c : CoreId) (t : StreamId) (h : s.memWf) :
    (fetchStream s b c t).holds State.memWf := by
  unfold fetchStream
  dsimp only
  split
  · exact h
  split
  · exact takeFault_memWf _ _ _ _ _ _ _ (fetchMissed_memWf _ _ _ h)
  next hw =>
    have hs := fetchWord_memWf _ _ _ _ _ hw h
    split
    · exact hs
    · exact runBadWord_memWf _ _ _ _ _ hs

theorem fetchContext_memWf (s : State) (i : BitVec 2) (h : s.memWf) : (fetchContext s i).holds State.memWf := by
  unfold fetchContext
  split
  · exact h
  split
  · exact prepareContext_memWf (h := h) ..
  split
  · exact takeContextFault_memWf (h := fetchMissed_memWf _ _ _ h) ..
  next hw =>
    have hs := fetchWord_memWf _ _ _ _ _ hw h
    split
    · exact hs
    · exact takeContextFault_memWf (h := hs) ..

theorem fetchTurn_memWf (s : State) (t : Turn) (h : s.memWf) : (fetchTurn s t).holds State.memWf := by
  cases t with
  | event e =>
    unfold fetchTurn
    dsimp only
    split <;> exact h
  | stream b c t => exact fetchStream_memWf s b c t h
  | context i => exact fetchContext_memWf s i h

theorem finish_memWf {o : Out} (h : outHolds State.memWf o) : outHolds State.memWf (finish o) := by
  cases o <;> exact h

theorem step_memWf (s : State) (h : s.memWf) : outHolds State.memWf (step s) := by
  unfold step
  have ht := fetchTurn_memWf _ (nextTurn s).1 (nextTurn_memWf s h)
  dsimp only
  split
  · next hw => rw [hw] at ht; exact finish_memWf (exec_memWf _ _ ht)
  · next hw => rw [hw] at ht; exact finish_memWf ht

/-- Settles O57: every turn keeps the canonical form, whatever the word or event is. -/
theorem stepKeepsMemory : Obligations.StepKeepsMemory := by
  unfold Obligations.StepKeepsMemory
  intro s s' h hs
  have := step_memWf s h
  rwa [hs] at this

end Sys2Proof.Machine
end

section
/-! SUPPORT. What a word of one stream changes where it touches no more than that stream: the stream, and the halt line where
it faults (R11, R132, R158). -/

namespace Sys2Proof.Machine

/-! ### One stream changes -/

/-- Two states differ, around a bench, in one stream of one core at most; the halt line, the device block and what no word
names are left out. -/
structure State.StreamOnly (b : BenchId) (c : CoreId) (t : StreamId) (s s' : State) : Prop where
  mem : s'.mem = s.mem
  llc : s'.llc = s.llc
  quads : s'.quads = s.quads
  clocks : s'.clocks = s.clocks
  vfs : s'.vfs = s.vfs
  ctxs : s'.ctxs = s.ctxs
  others : ∀ b', b' ≠ b → s'.gang? b' = s.gang? b'
  streams : ∀ (q : CoreId) (u : StreamId), (q ≠ c ∨ u ≠ t) → s'.stream b q u = s.stream b q u
  cores : ∀ q : CoreId, { s'.core b q with streams := (s.core b q).streams } = s.core b q

variable {s : State} {b : BenchId} {c : CoreId} {t : StreamId}

theorem State.StreamOnly.refl (s : State) : s.StreamOnly b c t s :=
  ⟨rfl, rfl, rfl, rfl, rfl, rfl, fun _ _ => rfl, fun _ _ _ => rfl, fun _ => rfl⟩

theorem State.StreamOnly.trans {s' s'' : State} (h : s.StreamOnly b c t s') (h' : s'.StreamOnly b c t s'') :
    s.StreamOnly b c t s'' where
  mem := h'.mem.trans h.mem
  llc := h'.llc.trans h.llc
  quads := h'.quads.trans h.quads
  clocks := h'.clocks.trans h.clocks
  vfs := h'.vfs.trans h.vfs
  ctxs := h'.ctxs.trans h.ctxs
  others b' hb := (h'.others b' hb).trans (h.others b' hb)
  streams q u hq := (h'.streams q u hq).trans (h.streams q u hq)
  cores q := by
    have h2 := congrArg (fun k : Core => { k with streams := (s.core b q).streams }) (h'.cores q)
    exact h2.trans (h.cores q)

/-- A core of a bench, after a change of one of its cores. -/
theorem State.core_updCore_cases (s : State) (b : BenchId) (c : CoreId) (f : Core → Core) (q : CoreId) :
    (s.updCore b c f).core b q = s.core b q ∨ q = c ∧ (s.updCore b c f).core b q = f (s.core b q) := by
  by_cases hq : q = c
  · subst hq
    cases hg : s.gang? b with
    | none => left; simp [State.updCore, State.updGang, hg]
    | some g => exact .inr ⟨rfl, State.core_updCore_self s b q f (by simp [hg])⟩
  · exact .inl (State.core_updCore_ne s b c q f hq)

/-- A change of a core that keeps all of it but one stream. -/
theorem State.streamOnly_updCore {f : Core → Core} (hk : ∀ k : Core, { f k with streams := k.streams } = k)
    (hs : ∀ (k : Core) (u : StreamId), u ≠ t → (f k).streams[u.toFin] = k.streams[u.toFin]) :
    s.StreamOnly b c t (s.updCore b c f) := by
  have hcore := s.core_updCore_cases b c f
  refine ⟨by simp, by simp, by simp, by simp, by simp, by simp, fun b' hb => by simp [hb], fun q u hq => ?_, fun q => ?_⟩
  · unfold State.stream
    obtain h | ⟨rfl, h⟩ := hcore q <;> rw [h]
    exact hs _ u (hq.resolve_left fun h => h rfl)
  · obtain h | ⟨rfl, h⟩ := hcore q <;> rw [h]
    exact hk _

theorem State.streamOnly_updStream (f : Stream → Stream) : s.StreamOnly b c t (s.updStream b c t f) := by
  refine State.streamOnly_updCore (fun _ => rfl) fun k u hu => ?_
  have hne : t.toNat ≠ u.toNat := fun e => hu (BitVec.eq_of_toNat_eq e).symm
  simp [hne]

/-- To note a cause for an ABORT changes no core. -/
theorem State.core_blame (b' : BenchId) (cause : Nat) (q : CoreId) : (s.blame b cause).core b' q = s.core b' q := by
  unfold State.blame State.core State.gang
  by_cases h : b' = b
  · subst h
    rw [State.gang?_updGang_self]
    cases s.gang? b' <;> rfl
  · rw [State.gang?_updGang_ne s b b' _ h]

theorem State.streamOnly_blame (cause : Nat) : s.StreamOnly b c t (s.blame b cause) := by
  refine ⟨?_, ?_, ?_, ?_, ?_, ?_, fun b' hb => ?_, fun q u _ => ?_, fun q => ?_⟩
  case refine_8 => unfold State.stream; rw [State.core_blame]
  case refine_9 => rw [State.core_blame]
  all_goals simp_all [State.blame]

/-- Raising the halt line changes no bench. -/
theorem raiseHalt_streamOnly (p : PartId) (cause unit : Nat) (b' : BenchId) (c' : CoreId) (t' : StreamId) :
    s.StreamOnly b c t (raiseHalt s p cause unit b' c' t').1 := by
  rw [raiseHalt_frame]
  exact ⟨rfl, rfl, rfl, rfl, rfl, rfl, fun _ _ => rfl, fun _ _ _ => rfl, fun _ => rfl⟩

/-! ### A fault -/

/-- A fault changes its stream, and the halt line. -/
theorem takeFault_streamOnly (slot : Nat) (pc : Word) (f : Trap) : s.StreamOnly b c t (takeFault s b c t slot pc f) := by
  unfold takeFault
  exact ((raiseHalt_streamOnly _ _ _ _ _ _).trans (State.streamOnly_blame f.cause)).trans (State.streamOnly_updStream _)

/-- What a fault leaves of its stream: it stops at an address, with the fault's record to be written. -/
theorem takeFault_stream (slot : Nat) (pc : Word) (f : Trap) (hg : (s.gang? b).isSome) :
    ∃ r, (takeFault s b c t slot pc f).stream b c t =
      { s.stream b c t with pc := pc, bundle := [], wait := .none, fault := some r } := by
  have hr : (raiseHalt s (s.gang b).part f.cause 0 b c t).1.gang? b = s.gang? b := by rw [raiseHalt_frame]; rfl
  have hb : ((raiseHalt s (s.gang b).part f.cause 0 b c t).1.blame b f.cause).stream b c t = s.stream b c t := by
    unfold State.stream
    rw [State.core_blame, raiseHalt_frame]
    rfl
  unfold takeFault
  dsimp only
  rw [State.stream_updStream_self _ _ _ _ _ (by simp [State.blame, hr, hg]), hb]
  exact ⟨_, rfl⟩

theorem takeFault_kept_stream (slot : Nat) (pc : Word) (f : Trap) (hg : (s.gang? b).isSome) :
    (s.stream b c t).Kept ((takeFault s b c t slot pc f).stream b c t) := by
  obtain ⟨r, hr⟩ := takeFault_stream (s := s) (c := c) (t := t) slot pc f hg
  rw [hr]
  exact ⟨rfl, rfl, rfl, rfl, rfl, fun h => ⟨rfl, h⟩⟩

/-- A stream that has no fault has one after a fault is taken. -/
theorem takeFault_fault (slot : Nat) (pc : Word) (f : Trap) (hg : (s.gang? b).isSome) :
    ((takeFault s b c t slot pc f).stream b c t).fault ≠ none := by
  obtain ⟨r, hr⟩ := takeFault_stream (s := s) (c := c) (t := t) slot pc f hg
  rw [hr]
  exact Option.some_ne_none r

/-- A stream that may issue a word has no fault to be recorded. -/
theorem State.fault_of_canIssue (h : s.canIssue b c t = true) : (s.stream b c t).fault = none := by
  obtain ⟨-, hr⟩ := Bool.and_eq_true_iff.mp h
  unfold Stream.ready at hr
  obtain ⟨hf, -⟩ := Bool.and_eq_true_iff.mp hr
  exact Option.isNone_iff_eq_none.mp (Bool.and_eq_true_iff.mp hf).2

/-! ### Going on -/

variable {x : Ctx}

/-- A word that goes on leaves the stream at its next word, or faults. -/
theorem goOn_cases (x : Ctx) (s0 s : State) : (∃ f, goOn x s0 s = takeFault s0 x.b x.c x.t x.slot x.pc f) ∨
    goOn x s0 s = x.upd s fun _ => (x.st s).advance x.next := by
  unfold goOn leads
  dsimp only
  split
  · exact .inr rfl
  · exact .inl ⟨_, rfl⟩

/-- The end of a bundle of one word without a ring entry changes its stream alone. -/
theorem closed_streamOnly : s.StreamOnly x.b x.c x.t (x.closed s) := by
  unfold Ctx.closed
  split
  · exact (State.streamOnly_updStream _).trans (State.streamOnly_updCore (fun _ => rfl) fun _ _ _ => rfl)
  · exact .refl s

theorem gang?_closed_isSome (hg : (s.gang? x.b).isSome) : ((x.closed s).gang? x.b).isSome := by
  unfold Ctx.closed
  split
  · simpa using hg
  · exact hg

theorem stream_closed (hg : (s.gang? x.b).isSome) :
    x.st (x.closed s) = if x.t = 2 then (x.st s).cleared else x.st s := by
  unfold Ctx.closed
  split
  · unfold Ctx.st State.stream
    rw [State.core_updCore_self _ _ _ _ (by simpa using hg)]
    exact State.stream_updStream_self s x.b x.c x.t _ hg
  · rfl

/-- What a word that is performed alone comes to, once its effect is there: a fault, or the stream goes on. -/
theorem goOn_closed (s0 s : State) (hg : (s.gang? x.b).isSome) :
    (∃ f, goOn x s0 (x.closed s) = takeFault s0 x.b x.c x.t x.slot x.pc f) ∨
      s.StreamOnly x.b x.c x.t (goOn x s0 (x.closed s)) ∧
        x.st (goOn x s0 (x.closed s)) = (if x.t = 2 then (x.st s).cleared else x.st s).advance x.next := by
  obtain h | h := goOn_cases x s0 (x.closed s)
  · exact .inl h
  · refine .inr ⟨?_, ?_⟩
    · rw [h]; exact closed_streamOnly.trans (State.streamOnly_updStream _)
    · rw [h]
      exact (State.stream_updStream_self _ _ _ _ _ (gang?_closed_isSome hg)).trans (by rw [stream_closed hg])

theorem cleared_kept (st : Stream) : st.Kept st.cleared := ⟨rfl, rfl, rfl, rfl, rfl, fun h => ⟨rfl, h⟩⟩

/-- Going on keeps the scalar side of the stream. -/
theorem advanced_kept (t : StreamId) (st : Stream) (next : Word) :
    st.Kept ((if t = 2 then st.cleared else st).advance next) := by
  split
  · exact (cleared_kept st).trans (advance_kept _ _)
  · exact advance_kept _ _

/-! ### A word of the common group, alone -/

section
variable {i : Instr}

/-- A word of the common group that is performed goes on from its effect. -/
theorem exec_common_ok {s1 : State} (k : Instr.common i) (ha : s.alone b c t) (hs : specOk (s.gang b).vcount i = true)
    (he : wordEffect i (s.issuing b c t 1) s = .ok s1) :
    exec i s = .next (goOn (s.issuing b c t 1) s ((s.issuing b c t 1).closed s1)) := by
  rw [exec_common s b c t i k ha hs, he]
  by_cases ht : t = 2
  · rw [if_pos ht]; rfl
  · rw [if_neg ht]
    unfold Ctx.closed
    rw [if_neg (show ¬ (s.issuing b c t 1).t = 2 from ht)]
    rfl

/-- What such a word leaves: a fault taken in the state before it, or its effect, in which its stream goes on. -/
theorem common_after {s1 s' : State} (k : Instr.common i) (ha : s.alone b c t) (hs : specOk (s.gang b).vcount i = true)
    (he : wordEffect i (s.issuing b c t 1) s = .ok s1) (hg : (s1.gang? b).isSome) (h : exec i s = .next s') :
    (∃ slot pc f, s' = takeFault s b c t slot pc f) ∨
      s1.StreamOnly b c t s' ∧ ∃ next, s'.stream b c t =
        (if t = 2 then (s1.stream b c t).cleared else s1.stream b c t).advance next := by
  rw [exec_common_ok k ha hs he] at h
  cases h
  obtain ⟨f, hf⟩ | ⟨ho, hst⟩ := goOn_closed (x := s.issuing b c t 1) s s1 hg
  · exact .inl ⟨_, _, f, hf⟩
  · exact .inr ⟨ho, _, hst⟩

/-- A word of the common group that is not the last of its bundle: CP collects it, another stream faults at it (R155, R157). -/
theorem common_unlast {s' : State} (hw : Laws.Words.Statement i) (hc : classOf i = .common) (hl : lastOf i = false)
    (ha : s.alone b c t) (h : exec i s = .next s') :
    (∃ pc f, s' = takeFault s b c t 0 pc f) ∨ ∃ ws, s' = s.updStream b c t fun st => { st with bundle := ws } := by
  have hr : (rawOf i).getLsbD 25 = false := (hw.2.1 (by rw [hc]; decide)).trans hl
  rw [exec_word s i (by rw [hc]; decide), runWord_stream s b c t i ha.1] at h
  cases h
  unfold runStream
  by_cases ht : t = 2
  · subst ht
    rw [if_pos ⟨rfl, by rw [hc]; rfl⟩]
    unfold collectWord
    dsimp only
    rw [(ha.2 rfl).1, hr, if_neg (by simp [bundleMax])]
    exact .inr ⟨_, rfl⟩
  · rw [if_neg fun h => ht h.1, if_pos ⟨ht, hr⟩]
    exact .inl ⟨_, _, rfl⟩

end

end Sys2Proof.Machine
end

section
/-! SUPPORT. The words of the common group that write a register: their effect is a change of that register (R158, R172 to
R181). -/

namespace Sys2Proof.Machine

variable {s : State} {x : Ctx}

/-! ### A stream but for one register -/

/-- What a stream keeps but for an s register, a flag and a branch register. -/
structure Stream.KeptBut (d : Option (BitVec 5)) (f g : Option (BitVec 3)) (st st' : Stream) : Prop where
  sreg : ∀ j : BitVec 5, d ≠ some j → st'.sreg j = st.sreg j
  flag : ∀ j : BitVec 3, f ≠ some j → st'.flag j.toNat = st.flag j.toNat
  breg : ∀ j : BitVec 3, g ≠ some j → st'.breg j = st.breg j
  k : st'.k = st.k
  frm : st'.frm = st.frm
  kdesc : st'.kdesc = st.kdesc
  sets : st'.sets = st.sets
  next : st'.next = st.next
  status : st'.status = st.status
  issued : st'.issued = st.issued
  loops : st'.loops = st.loops

variable {d : Option (BitVec 5)} {f g : Option (BitVec 3)}

theorem Stream.KeptBut.refl (st : Stream) : st.KeptBut d f g st :=
  ⟨fun _ _ => rfl, fun _ _ => rfl, fun _ _ => rfl, rfl, rfl, rfl, rfl, rfl, rfl, rfl, rfl⟩

theorem Stream.KeptBut.trans {a b c : Stream} (h : a.KeptBut d f g b) (h' : b.KeptBut d f g c) : a.KeptBut d f g c where
  sreg j hj := (h'.sreg j hj).trans (h.sreg j hj)
  flag j hj := (h'.flag j hj).trans (h.flag j hj)
  breg j hj := (h'.breg j hj).trans (h.breg j hj)
  k := h'.k.trans h.k
  frm := h'.frm.trans h.frm
  kdesc := h'.kdesc.trans h.kdesc
  sets := h'.sets.trans h.sets
  next := h'.next.trans h.next
  status := h'.status.trans h.status
  issued := h'.issued.trans h.issued
  loops := h'.loops.trans h.loops

/-- A stream with the same registers, whatever it is to do next. -/
theorem Stream.KeptBut.of_eq {st st' : Stream} (s : st'.s = st.s := by rfl) (f' : st'.f = st.f := by rfl)
    (b : st'.b = st.b := by rfl) (k : st'.k = st.k := by rfl) (frm : st'.frm = st.frm := by rfl)
    (kdesc : st'.kdesc = st.kdesc := by rfl) (sets : st'.sets = st.sets := by rfl) (next : st'.next = st.next := by rfl)
    (status : st'.status = st.status := by rfl) (issued : st'.issued = st.issued := by rfl)
    (loops : st'.loops = st.loops := by rfl) : st.KeptBut d f g st' :=
  ⟨fun _ _ => by unfold Stream.sreg; rw [s], fun _ _ => by unfold Stream.flag; rw [f'],
    fun _ _ => by unfold Stream.breg; rw [b], k, frm, kdesc, sets, next, status, issued, loops⟩

theorem setS_keptBut (r : BitVec 5) (v : Word) (st : Stream) : st.KeptBut (some r) f g (st.setS r v) := by
  have hs : ∀ j : BitVec 5, some r ≠ some j → (st.setS r v).sreg j = st.sreg j := fun j hj =>
    Stream.sreg_setS_ne st r j v fun e => hj (by rw [e])
  by_cases h0 : r = 0
  · subst h0
    exact .refl st
  · unfold Stream.setS at hs ⊢
    rw [if_neg h0] at hs ⊢
    exact ⟨hs, fun _ _ => rfl, fun _ _ => rfl, rfl, rfl, rfl, rfl, rfl, rfl, rfl, rfl⟩

theorem setF_keptBut (r : BitVec 3) (v : Bool) (st : Stream) : st.KeptBut d (some r) g (st.setF r v) := by
  have hf : ∀ j : BitVec 3, some r ≠ some j → (st.setF r v).flag j.toNat = st.flag j.toNat := fun j hj =>
    Stream.flag_setF_ne st r j v fun e => hj (by rw [e])
  by_cases h0 : r = 0
  · subst h0
    exact .refl st
  · unfold Stream.setF at hf ⊢
    rw [if_neg h0] at hf ⊢
    exact ⟨fun _ _ => rfl, hf, fun _ _ => rfl, rfl, rfl, rfl, rfl, rfl, rfl, rfl, rfl⟩

theorem setB_keptBut (r : BitVec 3) (v : Word) (st : Stream) : st.KeptBut d f (some r) (st.setB r v) := by
  refine ⟨fun _ _ => rfl, fun _ _ => rfl, fun j hj => ?_, rfl, rfl, rfl, rfl, rfl, rfl, rfl, rfl⟩
  have hne : r.toNat ≠ j.toNat := fun e => hj (by rw [BitVec.eq_of_toNat_eq e])
  simp [Stream.breg, Stream.setB, hne]

/-- Outside loops a stream that goes on keeps its registers. -/
theorem advanced_keptBut (t : StreamId) (st : Stream) (next : Word) (h : st.loops = []) :
    st.KeptBut d f g ((if t = 2 then st.cleared else st).advance next) := by
  have hadv (st : Stream) (h : st.loops = []) : st.KeptBut d f g (st.advance next) := by
    unfold Stream.advance
    rw [h]
    split
    · exact .refl st
    · exact .of_eq (loops := h.symm)
  split
  · exact Stream.KeptBut.trans (b := st.cleared) .of_eq (hadv _ h)
  · exact hadv st h

/-! ### Effects that write one register -/

/-- A word is performed, and changes no more than one register of its stream. -/
def Res.writes (x : Ctx) (s : State) (d : Option (BitVec 5)) (f g : Option (BitVec 3)) (r : Res) : Prop :=
  ∃ s1, r = .ok s1 ∧ (s1.gang? x.b).isSome ∧ s.StreamOnly x.b x.c x.t s1 ∧ (x.st s).KeptBut d f g (x.st s1)

theorem writes_nothing (hg : (s.gang? x.b).isSome) : (Res.ok s).writes x s d f g := ⟨s, rfl, hg, .refl s, .refl _⟩

theorem writes_upd {u : Stream → Stream} (hg : (s.gang? x.b).isSome) (hu : ∀ st : Stream, st.KeptBut d f g (u st)) :
    (Res.ok (x.upd s u)).writes x s d f g := by
  refine ⟨_, rfl, by simpa using hg, State.streamOnly_updStream u, ?_⟩
  unfold Ctx.st Ctx.upd
  rw [State.stream_updStream_self s x.b x.c x.t u hg]
  exact hu _

section
variable (hg : (s.gang? x.b).isSome)
include hg

theorem writeS_writes (r : BitVec 5) (v : Word) : (writeS r v x s).writes x s (some r) f g :=
  writes_upd hg (setS_keptBut r v)

theorem effAlu_writes (fn : Nat) (r a b : BitVec 5) (w : BitVec 2) (q : BitVec 4) :
    (effAlu fn r a b w q x s).writes x s (some r) f g := by
  unfold effAlu
  dsimp only
  split
  · exact writeS_writes hg _ _
  · exact writes_nothing hg

theorem effAlu2_writes (fn : Nat) (r a b : BitVec 5) (w : BitVec 2) (q : BitVec 4) :
    (effAlu2 fn r a b w q x s).writes x s (some r) f g := by
  unfold effAlu2
  dsimp only
  split
  · exact writeS_writes hg _ _
  · exact writes_nothing hg

theorem effAddi_writes (r a : BitVec 5) (i : BitVec 15) : (effAddi r a i x s).writes x s (some r) f g :=
  writeS_writes hg _ _

theorem effLogi_writes (fn : Nat) (r a : BitVec 5) (i : BitVec 13) : (effLogi fn r a i x s).writes x s (some r) f g :=
  writeS_writes hg _ _

theorem effShi_writes (fn : Nat) (r a : BitVec 5) (n : BitVec 6) : (effShi fn r a n x s).writes x s (some r) f g :=
  writeS_writes hg _ _

theorem effLi_writes (r : BitVec 5) (i : BitVec 20) : (effLi r i x s).writes x s (some r) f g := writeS_writes hg _ _

theorem effLih_writes (r : BitVec 5) (i : BitVec 20) : (effLih r i x s).writes x s (some r) f g := writeS_writes hg _ _

theorem effBf_writes (fn : Nat) (r a : BitVec 5) (p n : BitVec 6) : (effBf fn r a p n x s).writes x s (some r) f g :=
  writeS_writes hg _ _

theorem effCmp_writes (r : BitVec 3) (c : BitVec 4) (a b : BitVec 5) (q : BitVec 4) :
    (effCmp r c a b q x s).writes x s d (some r) g := by
  unfold effCmp
  dsimp only
  split
  · exact writes_upd hg (setF_keptBut r _)
  · exact writes_nothing hg

theorem effCmpi_writes (r : BitVec 3) (c : BitVec 4) (a : BitVec 5) (i : BitVec 13) :
    (effCmpi r c a i x s).writes x s d (some r) g := writes_upd hg fun st => setF_keptBut r _ st

theorem effFop_writes (fn : Nat) (r a b : BitVec 3) : (effFop fn r a b x s).writes x s d (some r) g :=
  writes_upd hg (setF_keptBut r _)

theorem effPbr_writes (r : BitVec 3) (i : BitVec 21) : (effPbr r i x s).writes x s d f (some r) :=
  writes_upd hg (setB_keptBut r _)

theorem effPbrReg_writes (r : BitVec 3) (a : BitVec 5) : (effPbrReg r a x s).writes x s d f (some r) :=
  writes_upd hg fun st => setB_keptBut r _ st

end

/-! ### The words -/

open Laws.Words in
/-- The bits of every word of the common group are as `Words.Statement` says. -/
theorem commonWord_statement (i : Instr) (h : classOf i = .common) : Laws.Words.Statement i := by
  cases i <;> cases h
  exacts [aluAdd .., aluSub .., aluMul .., aluMulh .., aluMulhu .., aluDiv .., aluDivu .., aluRem .., aluRemu ..,
    aluAnd .., aluOr .., aluXor .., aluAndn .., aluShl .., aluShr .., aluSar .., alu2Min .., alu2Max .., alu2Minu ..,
    alu2Maxu .., alu2Clz .., alu2Ctz .., alu2Popc .., alu2Brev .., alu2Bswap .., alu2Sel .., alu2Rol .., alu2Ror ..,
    addi .., logiAndi .., logiOri .., logiXori .., shiShl .., shiShr .., shiSar .., shiRor .., li .., lih .., cmp ..,
    cmpi .., fopAnd .., fopOr .., fopXor .., fopAndn .., fopNot .., fopSet .., fopClr .., bfBfx .., bfBfxu .., bfBfi ..,
    pbr .., pbrReg .., br .., brl .., loop .., kloop .., lds .., sts .., xmovMovc .., xmovMovtc .., xmovRdsr ..,
    xmovWrsr .., xmovMovb .., Laws.Words.flip .., endStream .., pdecl .., tlwait .., tlrd .., tsig .., twait .., nop .., trap ..,
    brk ..]

/-- A word of the common group that a bundle may have alone, and that writes one register. -/
structure Instr.writesOnly (d : Option (BitVec 5)) (f g : Option (BitVec 3)) (i : Instr) : Prop where
  cls : classOf i = .common
  spec : ∀ vc, specOk vc i = true
  free : groupD i = false ∧ groupCK i = false
  plain : Instr.plain i = true
  effect : ∀ (x : Ctx) (s : State), (s.gang? x.b).isSome → (wordEffect i x s).writes x s d f g

theorem slotOf_common {i : Instr} (h : classOf i = .common) : slotOf i = 1 := by
  unfold slotOf
  rw [h]

variable {b : BenchId} {c : CoreId} {t : StreamId} {i : Instr}

/-- What such a word leaves, whatever it comes to: its stream alone changes, and of its registers only the one it writes,
where it raises no fault and no loop is active. -/
theorem registerWord_frame {s' : State} (k : Instr.writesOnly d f g i) (ha : s.alone b c t) (h : exec i s = .next s') :
    s.StreamOnly b c t s' ∧ ((s.stream b c t).fault = (s'.stream b c t).fault → (s.stream b c t).loops = [] →
      (s.stream b c t).KeptBut d f g (s'.stream b c t)) := by
  have hg : (s.gang? b).isSome := State.gang?_isSome_of_canIssue s b c t ha.1.2
  have hfault (slot : Nat) (pc : Word) (u : Trap) (e : s' = takeFault s b c t slot pc u) :
      s.StreamOnly b c t s' ∧ ((s.stream b c t).fault = (s'.stream b c t).fault → (s.stream b c t).loops = [] →
        (s.stream b c t).KeptBut d f g (s'.stream b c t)) := by
    subst e
    refine ⟨takeFault_streamOnly _ _ _, fun hf => ?_⟩
    rw [State.fault_of_canIssue ha.1.2] at hf
    exact absurd hf.symm (takeFault_fault _ _ _ hg)
  have hw := commonWord_statement i k.cls
  cases hl : lastOf i
  · obtain ⟨pc, u, e⟩ | ⟨ws, rfl⟩ := common_unlast hw k.cls hl ha h
    · exact hfault _ _ _ e
    · refine ⟨State.streamOnly_updStream _, fun _ _ => ?_⟩
      rw [State.stream_updStream_self s b c t _ hg]
      exact .of_eq
  · obtain ⟨s1, he, hg1, ho, hk⟩ := k.effect (s.issuing b c t 1) s hg
    obtain ⟨slot, pc, u, e⟩ | ⟨ho', next, hst⟩ :=
      common_after ⟨hw, k.cls, hl, slotOf_common k.cls, k.plain, k.free⟩ ha (k.spec _) he hg1 h
    · exact hfault _ _ _ e
    · refine ⟨ho.trans ho', fun _ hloops => ?_⟩
      rw [hst]
      exact hk.trans (advanced_keptBut t _ next (hk.loops.trans hloops))

end Sys2Proof.Machine
end

section
/-! SUPPORT. Loads, stores and atomics: what they leave as it was (R97, R186, R198), which with the words that write a register
settles O50. -/

namespace Sys2Proof.Machine

/-! ### The scalar side and the tiles of a bench's cores -/

/-- Of every stream on a bench: its scalar and branch registers, its sets, and its flags while no loop is active. -/
def State.regsKept (b : BenchId) (s s' : State) : Prop :=
  ∀ (q : CoreId) (u : StreamId), (s'.stream b q u).s = (s.stream b q u).s ∧ (s'.stream b q u).b = (s.stream b q u).b ∧
    (s'.stream b q u).sets = (s.stream b q u).sets ∧
    ((s.stream b q u).loops = [] → (s'.stream b q u).f = (s.stream b q u).f)

/-- Of every core on a bench: its tile registers, its queues and its lane flags. -/
def State.tilesKept (b : BenchId) (s s' : State) : Prop :=
  ∀ q : CoreId, (s'.core b q).v = (s.core b q).v ∧ (s'.core b q).c = (s.core b q).c ∧ (s'.core b q).p = (s.core b q).p ∧
    (s'.core b q).w = (s.core b q).w ∧ (s'.core b q).q = (s.core b q).q ∧ (s'.core b q).xf = (s.core b q).xf

variable {s s' s1 : State} {b : BenchId} {c : CoreId} {t : StreamId}

theorem State.StreamOnly.tiles (h : s.StreamOnly b c t s') : s.tilesKept b s' := fun q => by
  rw [← h.cores q]
  exact ⟨rfl, rfl, rfl, rfl, rfl, rfl⟩

theorem State.StreamOnly.scratch (h : s.StreamOnly b c t s') (q : CoreId) :
    (s'.core b q).scratch = (s.core b q).scratch := by
  rw [← h.cores q]

theorem State.StreamOnly.regs (h : s.StreamOnly b c t s') (hk : (s.stream b c t).Kept (s'.stream b c t)) :
    s.regsKept b s' := fun q u => by
  by_cases hq : q = c ∧ u = t
  · obtain ⟨rfl, rfl⟩ := hq
    exact ⟨hk.s, hk.b, hk.sets, fun hl => (hk.loops hl).1⟩
  · rw [h.streams q u (by tauto)]
    exact ⟨rfl, rfl, rfl, fun _ => rfl⟩

/-- From a state with the same streams on. -/
theorem State.regsKept.of_streams (h : s1.regsKept b s')
    (hs : ∀ (q : CoreId) (u : StreamId), s1.stream b q u = s.stream b q u) : s.regsKept b s' := fun q u => by
  rw [← hs q u]
  exact h q u

theorem State.tilesKept.trans (h : s.tilesKept b s1) (h' : s1.tilesKept b s') : s.tilesKept b s' := fun q => by
  obtain ⟨h1, h2, h3, h4, h5, h6⟩ := h q
  obtain ⟨h1', h2', h3', h4', h5', h6'⟩ := h' q
  exact ⟨h1'.trans h1, h2'.trans h2, h3'.trans h3, h4'.trans h4, h5'.trans h5, h6'.trans h6⟩

theorem Stream.Kept.sreg {st st' : Stream} (h : st.Kept st') (j : BitVec 5) : st'.sreg j = st.sreg j := by
  unfold Stream.sreg
  rw [h.s]

/-- HBM reads alike where memory is the same. -/
theorem physByte_of_mem (h : s'.mem = s.mem) (a : Nat) (ha : a < 2 ^ 39) : physByte s' a = physByte s a := by
  rw [physByte_hbm _ _ ha, physByte_hbm _ _ ha, h]

/-! ### A performed effect -/

/-- What stands after a word whose effect is there: its stream goes on, or it faulted and the state before it stands. -/
theorem common_kept {i : Instr} (k : Instr.common i) (ha : s.alone b c t) (hs : specOk (s.gang b).vcount i = true)
    (he : wordEffect i (s.issuing b c t 1) s = .ok s1) (hg : (s1.gang? b).isSome) (h : exec i s = .next s') :
    (∃ slot pc f, s' = takeFault s b c t slot pc f) ∨
      s1.StreamOnly b c t s' ∧ (s1.stream b c t).Kept (s'.stream b c t) := by
  obtain hf | ⟨ho, next, hst⟩ := common_after k ha hs he hg h
  · exact .inl hf
  · exact .inr ⟨ho, by rw [hst]; exact advanced_kept t _ next⟩

variable {d r q : BitVec 5} {z : BitVec 2} {u : BitVec 1} {o : BitVec 11}

theorem common_lds (p : BitVec 1) : Instr.common (.lds 1 d r z u p o) := 
  ⟨commonWord_statement _ rfl, rfl, rfl, rfl, rfl, rfl, rfl⟩

theorem common_sts (p : BitVec 1) : Instr.common (.sts 1 d r z p o) := 
  ⟨commonWord_statement _ rfl, rfl, rfl, rfl, rfl, rfl, rfl⟩

/-- LDS of scratch: its stream alone changes, and of its s registers only the destination. -/
theorem ldsScratch_frame (ha : s.alone b c t) (h : exec (.lds 1 d r z u 1 o) s = .next s') :
    s.StreamOnly b c t s' ∧ ∀ j : BitVec 5, j ≠ d → (s'.stream b c t).sreg j = (s.stream b c t).sreg j := by
  have hg : (s.gang? b).isSome := State.gang?_isSome_of_canIssue s b c t ha.1.2
  have hfault (slot : Nat) (pc : Word) (f : Trap) : s.StreamOnly b c t (takeFault s b c t slot pc f) ∧
      ∀ j : BitVec 5, j ≠ d → ((takeFault s b c t slot pc f).stream b c t).sreg j = (s.stream b c t).sreg j :=
    ⟨takeFault_streamOnly _ _ _, fun j _ => (takeFault_kept_stream _ _ _ hg).sreg j⟩
  let x := s.issuing b c t 1
  let n := 2 ^ z.toNat
  let ea := (x.st s).sreg r + o.setWidth 64 * BitVec.ofNat 64 n
  have he : wordEffect (.lds 1 d r z u 1 o) x s = match scratchCheck x s ea n false with
      | some t => .trap t
      | none => writeS d (extendLoad n (u == 1) (scratchRead s x.b ea.toNat n)) x s := by
    simp only [wordEffect]
    unfold effLds
    exact if_pos rfl
  cases hc : scratchCheck x s ea n false with
  | some f =>
    rw [hc] at he
    have ht := traps_common s b c t _ f (common_lds 1) ha rfl he
    unfold State.traps State.trapsIn at ht
    rw [ht] at h
    cases h
    exact hfault _ _ _
  | none =>
    rw [hc] at he
    obtain ⟨slot, pc, f, rfl⟩ | ⟨ho, hk⟩ := common_kept (common_lds 1) ha rfl he (by simpa [writeS] using hg) h
    · exact hfault _ _ _
    · refine ⟨(State.streamOnly_updStream _).trans ho, fun j hj => ?_⟩
      rw [hk.sreg j]
      exact (congrArg (Stream.sreg · j) (State.stream_updStream_self s b c t _ hg)).trans (Stream.sreg_setS_ne _ d j _ hj)

/-! ### Scratch -/

/-- A write of scratch changes the scratchpad of one core. -/
theorem core_scratchWrite (s : State) (b : BenchId) (a n v : Nat) (q : CoreId) :
    ∃ m, (scratchWrite s b a n v).core b q = { s.core b q with scratch := m } ∧ ∀ i,
      (q ≠ scratchCore a ∨ i < scratchOff a ∨ scratchOff a + n ≤ i) → Memory.get m i = Memory.get (s.core b q).scratch i := by
  unfold scratchWrite
  obtain h | ⟨rfl, h⟩ := s.core_updCore_cases b (scratchCore a)
    (fun k => { k with scratch := Memory.write k.scratch (scratchOff a) n v }) q <;> rw [h]
  · exact ⟨(s.core b q).scratch, rfl, fun _ _ => rfl⟩
  · exact ⟨_, rfl, fun i hi => Memory.get_write_outside _ _ _ _ _ (hi.resolve_left fun h => h rfl)⟩

/-- An access to scratch that passes its checks is to the core of its stream (R83). -/
theorem scratchCore_of_check {x : Ctx} {ea : Word} {n : Nat} {w : Bool} (h : scratchCheck x s ea n w = none) :
    scratchCore ea.toNat = x.c := by
  unfold scratchCheck scratchRange at h
  dsimp only at h
  split at h
  · cases h
  next hr =>
    simp only [Bool.not_eq_true', Bool.not_eq_false, Bool.and_eq_true, Bool.false_or, beq_iff_eq] at hr
    exact hr.2

/-- STS of scratch: its stream goes on from the bytes written in its core's scratchpad, or it faulted. -/
theorem stsScratch_frame (ha : s.alone b c t) (h : exec (.sts 1 d r z 1 o) s = .next s') :
    s'.mem = s.mem ∧ s'.llc = s.llc ∧ s'.quads = s.quads ∧ s.regsKept b s' ∧ s.tilesKept b s' ∧
      ∀ (q : CoreId) (a : Nat), (q ≠ c ∨
        a < ((s.stream b c t).sreg r + o.setWidth 64 * BitVec.ofNat 64 (2 ^ z.toNat)).toNat % 2 ^ 24 ∨
        ((s.stream b c t).sreg r + o.setWidth 64 * BitVec.ofNat 64 (2 ^ z.toNat)).toNat % 2 ^ 24 + 2 ^ z.toNat ≤ a) →
        Memory.get (s'.core b q).scratch a = Memory.get (s.core b q).scratch a := by
  have hg : (s.gang? b).isSome := State.gang?_isSome_of_canIssue s b c t ha.1.2
  have hfault (slot : Nat) (pc : Word) (f : Trap) (e : s' = takeFault s b c t slot pc f) :
      s.StreamOnly b c t s' ∧ (s.stream b c t).Kept (s'.stream b c t) := by
    subst e
    exact ⟨takeFault_streamOnly _ _ _, takeFault_kept_stream _ _ _ hg⟩
  generalize hea : (s.stream b c t).sreg r + o.setWidth 64 * BitVec.ofNat 64 (2 ^ z.toNat) = ea
  have he : wordEffect (.sts 1 d r z 1 o) (s.issuing b c t 1) s =
      match scratchCheck (s.issuing b c t 1) s ea (2 ^ z.toNat) true with
      | some t => .trap t
      | none => .ok (scratchWrite s b ea.toNat (2 ^ z.toNat) ((s.stream b c t).sreg d).toNat) := by
    simp only [wordEffect]
    unfold effSts
    subst hea
    exact if_pos rfl
  have hstays (h : s.StreamOnly b c t s' ∧ (s.stream b c t).Kept (s'.stream b c t)) :
      s'.mem = s.mem ∧ s'.llc = s.llc ∧ s'.quads = s.quads ∧ s.regsKept b s' ∧ s.tilesKept b s' ∧
        ∀ (q : CoreId) (a : Nat), (q ≠ c ∨ a < ea.toNat % 2 ^ 24 ∨ ea.toNat % 2 ^ 24 + 2 ^ z.toNat ≤ a) →
          Memory.get (s'.core b q).scratch a = Memory.get (s.core b q).scratch a :=
    ⟨h.1.mem, h.1.llc, h.1.quads, h.1.regs h.2, h.1.tiles, fun q a _ => by rw [h.1.scratch q]⟩
  cases hc : scratchCheck (s.issuing b c t 1) s ea (2 ^ z.toNat) true with
  | some f =>
    rw [hc] at he
    have ht := traps_common s b c t _ f (common_sts 1) ha rfl he
    unfold State.traps State.trapsIn at ht
    rw [ht] at h
    exact hstays (hfault _ _ _ (Host.Outcome.next.inj h).symm)
  | none =>
    rw [hc] at he
    obtain ⟨slot, pc, f, e⟩ | ⟨ho, hk⟩ := common_kept (common_sts 1) ha rfl he (by simpa [scratchWrite] using hg) h
    · exact hstays (hfault _ _ _ e)
    · have hcore := core_scratchWrite s b ea.toNat (2 ^ z.toNat) ((s.stream b c t).sreg d).toNat
      refine ⟨ho.mem.trans (by simp [scratchWrite]), ho.llc.trans (by simp [scratchWrite]),
        ho.quads.trans (by simp [scratchWrite]), (ho.regs hk).of_streams fun q u => ?_,
        State.tilesKept.trans (fun q => ?_) ho.tiles, fun q a hq => ?_⟩ <;> obtain ⟨m, hm, hi⟩ := hcore q
      · change (State.core _ b q).streams[u.toFin] = (s.core b q).streams[u.toFin]
        rw [hm]
      · rw [hm]
        exact ⟨rfl, rfl, rfl, rfl, rfl, rfl⟩
      · rw [ho.scratch q, hm]
        exact hi a (by rw [scratchCore_of_check hc]; exact hq)

/-! ### Device memory -/

/-- An access changes no bench. -/
theorem Passed.benches (h : Passed s s1) : s1.benches = s.benches := by
  obtain ⟨m, l, p, d, t, a, rfl, -⟩ := h
  rfl

theorem homeAccess_passed {w : Who} {va : Word} {n pa : Nat} {k : AccKind} {at' : Bool}
    (h : homeAccess s w va n k at' = .ok (pa, s1)) : Passed s s1 := by
  unfold homeAccess at h
  split at h
  · cases h
  next ha =>
    cases h
    exact (access_state _ _ _ _ _ _ _ ha).trans (atHome_served _ _ _ _ _).passed

theorem State.gang?_of_benches (h : s1.benches = s.benches) (b : BenchId) : s1.gang? b = s.gang? b := by
  unfold State.gang?
  rw [h]

theorem State.core_of_benches (h : s1.benches = s.benches) (b : BenchId) (q : CoreId) : s1.core b q = s.core b q := by
  unfold State.core State.gang
  rw [State.gang?_of_benches h]

/-- A store's bytes at home: HBM takes them, and a line of the core's first-level cache (R89). -/
def stored (s : State) (b : BenchId) (c : CoreId) (pa n v : Nat) : State :=
  (physWrite s pa n v).updCore b c fun k => k.storeL1 pa n v

variable {pa n v : Nat}

theorem core_stored (hp : pa + n ≤ 2 ^ 39) (q : CoreId) : ∃ l, (stored s b c pa n v).core b q = { s.core b q with l1 := l } := by
  have hs (k : Core) : ∃ l, k.storeL1 pa n v = { k with l1 := l } := by
    unfold Core.storeL1 Core.dropLine Core.refreshL1
    split <;> exact ⟨_, rfl⟩
  have hp' : (physWrite s pa n v).core b q = s.core b q := by rw [physWrite_hbm s pa n v hp]; rfl
  unfold stored
  obtain h | ⟨rfl, h⟩ := (physWrite s pa n v).core_updCore_cases b c (fun k => k.storeL1 pa n v) q <;> rw [h, hp']
  · exact ⟨_, rfl⟩
  · exact hs _

theorem stream_stored (hp : pa + n ≤ 2 ^ 39) (q : CoreId) (u : StreamId) :
    (stored s b c pa n v).stream b q u = s.stream b q u := by
  obtain ⟨l, hl⟩ := core_stored (s := s) (b := b) (c := c) (v := v) hp q
  change (State.core _ b q).streams[u.toFin] = (s.core b q).streams[u.toFin]
  rw [hl]

theorem gang?_stored_isSome (hp : pa + n ≤ 2 ^ 39) : ((stored s b c pa n v).gang? b).isSome = (s.gang? b).isSome := by
  unfold stored
  rw [physWrite_hbm s pa n v hp, State.gang?_updCore_isSome]
  rfl

/-- What stands where a stream has gone on after its store: the tiles, the scratchpads and the other bytes of HBM. -/
theorem stored_frame (h : Passed s s1) (hp : pa + n ≤ 2 ^ 39) (ho : (stored s1 b c pa n v).StreamOnly b c t s') :
    s.tilesKept b s' ∧ (∀ q : CoreId, (s'.core b q).scratch = (s.core b q).scratch) ∧
      ∀ a, a < 2 ^ 39 → (a < pa ∨ pa + n ≤ a) → physByte s' a = physByte s1 a := by
  have hcore (q : CoreId) : ∃ l, (stored s1 b c pa n v).core b q = { s.core b q with l1 := l } := by
    rw [← State.core_of_benches h.benches]
    exact core_stored hp q
  refine ⟨State.tilesKept.trans (fun q => ?_) ho.tiles, fun q => ?_, fun a ha hout => ?_⟩
  · obtain ⟨l, hl⟩ := hcore q
    rw [hl]
    exact ⟨rfl, rfl, rfl, rfl, rfl, rfl⟩
  · obtain ⟨l, hl⟩ := hcore q
    rw [ho.scratch q, hl]
  · rw [physByte_of_mem (s := physWrite s1 pa n v) (ho.mem.trans (by simp [stored])) a ha]
    exact physByte_physWrite_outside s1 pa n v a hp ha hout

/-- The streams of a bench, after a store. -/
theorem stream_stored_passed (h : Passed s s1) (hp : pa + n ≤ 2 ^ 39) (q : CoreId) (u : StreamId) :
    (stored s1 b c pa n v).stream b q u = s.stream b q u := by
  rw [stream_stored hp]
  unfold State.stream
  rw [State.core_of_benches h.benches]

/-- STS of device memory whose access may be performed, and that raises no fault. -/
theorem stsDevice_frame {ea : Word} (ha : s.alone b c t)
    (hea : (s.stream b c t).sreg r + o.setWidth 64 * BitVec.ofNat 64 (2 ^ z.toNat) = ea)
    (hh : homeAccess s (whoStream s b c) ea (2 ^ z.toNat) .write false = .ok (pa, s1))
    (h : exec (.sts 1 d r z 0 o) s = .next s') (hp : pa + 2 ^ z.toNat ≤ 2 ^ 39) (hal : ea.toNat % 2 ^ z.toNat = 0)
    (hf : (s1.stream b c t).fault = (s'.stream b c t).fault) :
    s.regsKept b s' ∧ s.tilesKept b s' ∧ (∀ q : CoreId, (s'.core b q).scratch = (s.core b q).scratch) ∧
      ∀ a, a < 2 ^ 39 → (a < pa ∨ pa + 2 ^ z.toNat ≤ a) → physByte s' a = physByte s1 a := by
  have hg : (s.gang? b).isSome := State.gang?_isSome_of_canIssue s b c t ha.1.2
  have hpass := homeAccess_passed hh
  have he : wordEffect (.sts 1 d r z 0 o) (s.issuing b c t 1) s =
      .ok (stored s1 b c pa (2 ^ z.toNat) ((s.stream b c t).sreg d).toNat) := by
    have hs : storeDevice s (s.issuing b c t 1) ea (2 ^ z.toNat) ((s.stream b c t).sreg d).toNat =
        .ok (stored s1 b c pa (2 ^ z.toNat) ((s.stream b c t).sreg d).toNat) := by
      unfold storeDevice
      rw [if_neg (by simp [hal]), show whoStream s (s.issuing b c t 1).b (s.issuing b c t 1).c = whoStream s b c from rfl, hh]
      rfl
    simp only [wordEffect]
    unfold effSts
    subst hea
    exact (if_neg (by decide)).trans (congrArg (fun e : Except Res State => match e with | .error r => r | .ok s => Res.ok s) hs)
  obtain ⟨slot, pc, f, rfl⟩ | ⟨ho, hk⟩ := common_kept (common_sts 0) ha rfl he
    (by rw [gang?_stored_isSome hp, State.gang?_of_benches hpass.benches]; exact hg) h
  · have h1 : (s1.stream b c t).fault = none := by
      unfold State.stream
      rw [State.core_of_benches hpass.benches]
      exact State.fault_of_canIssue ha.1.2
    exact absurd (hf.symm.trans h1) (takeFault_fault _ _ _ hg)
  · exact ⟨(ho.regs hk).of_streams (stream_stored_passed hpass hp), stored_frame hpass hp ho⟩

end Sys2Proof.Machine
end

section
/-! SUPPORT. Atomics without order: what they leave as it was (R97, R198). -/

namespace Sys2Proof.Machine

variable {s s' s1 : State} {b : BenchId} {c : CoreId} {x : Ctx} {va : Word} {n pa : Nat}

/-- An update that may be performed is of a page that may be read and written, at the address it translates to. -/
theorem translate_of_access {w : Who} {at' : Bool} (h : access s w va .update at' = .ok (pa, s1)) :
    ∃ l s2, translate s w va = .ok (l, s2) ∧ l.pa = pa ∧ l.rd = true ∧ l.wr = true := by
  unfold access at h
  split at h
  · cases h
  next l s2 ht =>
    refine ⟨l, s2, ht, ?_⟩
    dsimp only at h
    split at h
    · cases h
    next hperm =>
      have hrw : l.rd = true ∧ l.wr = true := by simp_all
      exact ⟨by grind, hrw⟩

/-- An update that may be performed on HBM is at the address that an atomic instruction finds. -/
theorem atomicAddr_of_homeAccess (hal : va.toNat % n = 0) (hn : 0 < n) (hp : pa + n ≤ 2 ^ 39)
    (hh : homeAccess s (whoStream s x.b x.c) va n .update true = .ok (pa, s1)) : atomicAddr x s va n true true = .ok pa := by
  have hhbm : ¬ apertureBase ≤ pa := by
    unfold apertureBase
    omega
  unfold homeAccess at hh
  split at hh
  · cases hh
  next ha =>
    cases hh
    obtain ⟨l, s2, ht, rfl, hr, hw⟩ := translate_of_access ha
    unfold atomicAddr
    rw [if_neg (not_not.mpr hal), ht]
    simp [hr, hw, hhbm]

/-- An update without order leaves its bytes at home. -/
theorem atomicDo_relaxed (v scope : Nat) (hh : homeAccess s (whoStream s x.b x.c) va n .update true = .ok (pa, s1)) :
    atomicDo x s va n .update (some v) false false scope = .ok (stored s1 x.b x.c pa n v) := by
  unfold atomicDo
  rw [hh]
  rfl

/-- What AMO without order comes to, where its access may be performed: its bytes at home, and the old value in a register. -/
theorem effAmo_relaxed (f : BitVec 4) {z : BitVec 2} (sc : BitVec 2) (d r q : BitVec 5) (hz : z = 2 ∨ z = 3)
    (hal : ((x.st s).sreg r).toNat % 2 ^ z.toNat = 0) (hp : pa + 2 ^ z.toNat ≤ 2 ^ 39)
    (hh : homeAccess s (whoStream s x.b x.c) ((x.st s).sreg r) (2 ^ z.toNat) .update true = .ok (pa, s1)) :
    ∃ v old, effAmo f z 0 sc d r q x s = writeS d old x (stored s1 x.b x.c pa (2 ^ z.toNat) v) := by
  have hn : (if z = 2 then 4 else 8) = 2 ^ z.toNat := by rcases hz with rfl | rfl <;> rfl
  unfold effAmo
  dsimp only
  rw [hn, atomicAddr_of_homeAccess hal (Nat.two_pow_pos _) hp hh]
  dsimp only
  rw [show (0 : BitVec 2).getLsbD 0 = false from rfl, show (0 : BitVec 2).getLsbD 1 = false from rfl, atomicDo_relaxed _ _ hh]
  exact ⟨_, _, rfl⟩

/-- A word that goes on from its effect faults, or its stream alone changes and is at another word. -/
theorem goOn_after (x : Ctx) (s0 s : State) (hg : (s.gang? x.b).isSome) :
    (∃ f, goOn x s0 s = takeFault s0 x.b x.c x.t x.slot x.pc f) ∨
      s.StreamOnly x.b x.c x.t (goOn x s0 s) ∧ x.st (goOn x s0 s) = (x.st s).advance x.next := by
  obtain h | h := goOn_cases x s0 s
  · exact .inl h
  · rw [h]
    exact .inr ⟨State.streamOnly_updStream _, State.stream_updStream_self s x.b x.c x.t _ hg⟩

/-- A word that writes an s register and raises no fault changes its stream alone, and of its s registers only that one. -/
theorem goOn_setS {s0 s2 : State} {d : BitVec 5} {v : Word} (hg0 : (s0.gang? x.b).isSome) (hg : (s2.gang? x.b).isSome)
    (hf : (x.st (goOn x s0 (x.upd s2 fun st => st.setS d v))).fault = none) :
    s2.StreamOnly x.b x.c x.t (goOn x s0 (x.upd s2 fun st => st.setS d v)) ∧
      ∀ j : BitVec 5, j ≠ d → (x.st (goOn x s0 (x.upd s2 fun st => st.setS d v))).sreg j = (x.st s2).sreg j := by
  have hst : x.st (x.upd s2 fun st => st.setS d v) = (x.st s2).setS d v := State.stream_updStream_self s2 x.b x.c x.t _ hg
  obtain ⟨f, hgo⟩ | ⟨ho, hnext⟩ := goOn_after x s0 (x.upd s2 fun st => st.setS d v) (by simpa [Ctx.upd] using hg)
  · rw [hgo] at hf
    exact absurd hf (takeFault_fault _ _ _ hg0)
  · refine ⟨(State.streamOnly_updStream _).trans ho, fun j hj => ?_⟩
    rw [hnext, (advance_kept _ _).sreg j, hst]
    exact Stream.sreg_setS_ne _ d j _ hj

/-- AMO without order whose access may be performed, and that raises no fault. -/
theorem amo_frame {f : BitVec 4} {z sc : BitVec 2} {d r q : BitVec 5} (ha : s.alone b c 0) (hz : z = 2 ∨ z = 3)
    (hh : homeAccess s (whoStream s b c) ((s.stream b c 0).sreg r) (2 ^ z.toNat) .update true = .ok (pa, s1))
    (hp : pa + 2 ^ z.toNat ≤ 2 ^ 39) (hal : ((s.stream b c 0).sreg r).toNat % 2 ^ z.toNat = 0)
    (h : exec (.amo f z 0 sc d r q) s = .next s') (hf : (s1.stream b c 0).fault = (s'.stream b c 0).fault) :
    s.tilesKept b s' ∧ (∀ j : BitVec 5, j ≠ d → (s'.stream b c 0).sreg j = (s.stream b c 0).sreg j) ∧
      ∀ a, a < 2 ^ 39 → (a < pa ∨ pa + 2 ^ z.toNat ≤ a) → physByte s' a = physByte s1 a := by
  have hg : (s.gang? b).isSome := State.gang?_isSome_of_canIssue s b c 0 ha.1.2
  have hpass := homeAccess_passed hh
  have hfault : (s1.stream b c 0).fault = none := by
    unfold State.stream
    rw [State.core_of_benches hpass.benches]
    exact State.fault_of_canIssue ha.1.2
  obtain ⟨v, old, he⟩ := effAmo_relaxed (x := s.issuing b c 0 0) f sc d r q hz hal hp hh
  have hg2 : ((stored s1 b c pa (2 ^ z.toNat) v).gang? b).isSome := by
    rw [gang?_stored_isSome hp, State.gang?_of_benches hpass.benches]
    exact hg
  rw [exec_scalar s b c 0 _ 0 (Laws.Words.amo ..) rfl (show Class.sc ≠ .event by decide) (by decide) rfl ha.1] at h
  simp only [wordEffect] at h
  rw [he] at h
  cases h
  obtain ⟨ho, hs⟩ := goOn_setS (x := s.issuing b c 0 0) hg hg2 (hf.symm.trans hfault)
  obtain ⟨ht, -, hbyte⟩ := stored_frame hpass hp ho
  exact ⟨ht, fun j hj => (hs j hj).trans (congrArg (Stream.sreg · j) (stream_stored_passed hpass hp c 0)), hbyte⟩

end Sys2Proof.Machine
end

section
/-! SUPPORT. O50: the words of the common group that write a register, and the loads, stores and atomics of a stream. -/

namespace Sys2Proof.Machine

/-- Settles O50: a word that writes a register changes its stream alone, and of its registers only that one; loads, stores and
atomics change the bytes that they name. -/
theorem scalarWordsFrame : Obligations.ScalarWordsFrame := by
  unfold Obligations.ScalarWordsFrame
  refine ⟨?_, fun s s' s1 b c t d r q z u o f sc pa ha => ⟨fun h => ?_, fun h => ?_, fun hh h hp hal hf => ?_,
    fun ht _ hz hh hp hal h hf => ?_⟩⟩
  · intro s s' b c t i ha sDest fDest bDest hd h old new
    have k : Instr.writesOnly sDest fDest bDest i := by
      cases i
      case aluAdd | aluSub | aluMul | aluMulh | aluMulhu | aluDiv | aluDivu | aluRem | aluRemu | aluAnd | aluOr |
          aluXor | aluAndn | aluShl | aluShr | aluSar =>
        exact ⟨rfl, fun _ => rfl, ⟨rfl, rfl⟩, rfl, fun _ _ hg => by simp only [wordEffect]; exact effAlu_writes hg ..⟩
      case alu2Min | alu2Max | alu2Minu | alu2Maxu | alu2Clz | alu2Ctz | alu2Popc | alu2Brev | alu2Bswap | alu2Sel |
          alu2Rol | alu2Ror =>
        exact ⟨rfl, fun _ => rfl, ⟨rfl, rfl⟩, rfl, fun _ _ hg => by simp only [wordEffect]; exact effAlu2_writes hg ..⟩
      case addi =>
        exact ⟨rfl, fun _ => rfl, ⟨rfl, rfl⟩, rfl, fun _ _ hg => by simp only [wordEffect]; exact effAddi_writes hg ..⟩
      case logiAndi | logiOri | logiXori =>
        exact ⟨rfl, fun _ => rfl, ⟨rfl, rfl⟩, rfl, fun _ _ hg => by simp only [wordEffect]; exact effLogi_writes hg ..⟩
      case shiShl | shiShr | shiSar | shiRor =>
        exact ⟨rfl, fun _ => rfl, ⟨rfl, rfl⟩, rfl, fun _ _ hg => by simp only [wordEffect]; exact effShi_writes hg ..⟩
      case li =>
        exact ⟨rfl, fun _ => rfl, ⟨rfl, rfl⟩, rfl, fun _ _ hg => by simp only [wordEffect]; exact effLi_writes hg ..⟩
      case lih =>
        exact ⟨rfl, fun _ => rfl, ⟨rfl, rfl⟩, rfl, fun _ _ hg => by simp only [wordEffect]; exact effLih_writes hg ..⟩
      case bfBfx | bfBfxu | bfBfi =>
        exact ⟨rfl, fun _ => rfl, ⟨rfl, rfl⟩, rfl, fun _ _ hg => by simp only [wordEffect]; exact effBf_writes hg ..⟩
      case cmp =>
        exact ⟨rfl, fun _ => rfl, ⟨rfl, rfl⟩, rfl, fun _ _ hg => by simp only [wordEffect]; exact effCmp_writes hg ..⟩
      case cmpi =>
        exact ⟨rfl, fun _ => rfl, ⟨rfl, rfl⟩, rfl, fun _ _ hg => by simp only [wordEffect]; exact effCmpi_writes hg ..⟩
      case fopAnd | fopOr | fopXor | fopAndn | fopNot | fopSet | fopClr =>
        exact ⟨rfl, fun _ => rfl, ⟨rfl, rfl⟩, rfl, fun _ _ hg => by simp only [wordEffect]; exact effFop_writes hg ..⟩
      case pbr =>
        exact ⟨rfl, fun _ => rfl, ⟨rfl, rfl⟩, rfl, fun _ _ hg => by simp only [wordEffect]; exact effPbr_writes hg ..⟩
      case pbrReg =>
        exact ⟨rfl, fun _ => rfl, ⟨rfl, rfl⟩, rfl, fun _ _ hg => by simp only [wordEffect]; exact effPbrReg_writes hg ..⟩
      all_goals rcases hd with hd | hd | hd <;> cases hd
    obtain ⟨ho, hk⟩ := registerWord_frame k ha h
    refine ⟨ho.mem, ho.llc, ho.quads, ho.clocks, ho.vfs, ho.ctxs, ho.others, ho.streams, ho.cores, fun hf hl => ?_⟩
    have hk := hk hf hl
    exact ⟨hk.sreg, hk.flag, hk.breg, hk.k, hk.frm, hk.kdesc, hk.sets, hk.next, hk.status, hk.issued, hk.loops.trans hl⟩
  · obtain ⟨ho, hs⟩ := ldsScratch_frame ha h
    exact ⟨ho.mem, ho.tiles, ho.scratch, ho.streams, hs⟩
  · exact stsScratch_frame ha h
  · exact stsDevice_frame ha rfl hh h hp hal hf
  · subst ht
    exact amo_frame ha hz hh hp hal h hf

end Sys2Proof.Machine
end

section
/-! SUPPORT. Fetching a word, and what a step does with it: an instruction, a word that is none, or no word (R152 to R157,
R303). -/

namespace Sys2Proof.Machine

/-! ### Changes of a core and of a stream -/

/-- A change of a core is what it makes of the core as it stands. -/
theorem State.updCore_congr {s : State} {b : BenchId} {c : CoreId} {f g : Core → Core}
    (h : f (s.core b c) = g (s.core b c)) : s.updCore b c f = s.updCore b c g := by
  unfold State.updCore State.updGang
  cases hg : s.gang? b with
  | none => rfl
  | some y =>
    have hk : s.core b c = y.cores[c.toFin] := by simp [State.core, State.gang, hg]
    simp only [← hk, h]

/-- A change of a stream is what it makes of the stream as it stands. -/
theorem State.updStream_congr {s : State} {b : BenchId} {c : CoreId} {t : StreamId} {f g : Stream → Stream}
    (h : f (s.stream b c t) = g (s.stream b c t)) : s.updStream b c t f = s.updStream b c t g :=
  State.updCore_congr (congrArg (fun st => { s.core b c with streams := (s.core b c).streams.set t.toFin st }) h)

/-! ### Fetching a word (R152) -/

/-- The address bits of a fetch: R152 asks for 48 bits and a multiple of 4. -/
theorem fetchAddress_ok_iff (a : Word) :
    ¬ (bits a 48 16 ≠ 0 ∨ bits a 0 2 ≠ 0) ↔ a.toNat < 2 ^ 48 ∧ a.toNat % 4 = 0 := by
  have ha : a.toNat < 2 ^ 64 := a.isLt
  have hhi : bits a 48 16 = a.toNat / 2 ^ 48 % 2 ^ 16 := by simp [bits, BitVec.extractLsb'_toNat, Nat.shiftRight_eq_div_pow]
  have hlo : bits a 0 2 = a.toNat % 4 := by simp [bits, BitVec.extractLsb'_toNat]
  rw [hhi, hlo]
  omega

/-- A word that is fetched: its address meets R152, and the access's bytes are the word. -/
theorem fetchWord_eq_some_iff (s : State) (who : Who) (a : Word) (w : IWord) (s1 : State) :
    fetchWord s who a = some (w, s1) ↔ (a.toNat < 2 ^ 48 ∧ a.toNat % 4 = 0) ∧
      ∃ pa, homeAccess s who a 4 .fetch false = .ok (pa, s1) ∧ w = BitVec.ofNat 32 (physRead s1 pa 4) := by
  rw [← fetchAddress_ok_iff]
  unfold fetchWord
  split
  · next h => simp [h]
  · next h =>
    split
    · next e he => simp [he]
    · next pa s' he =>
      rw [he]
      constructor
      · intro hw
        cases hw
        exact ⟨h, pa, rfl, rfl⟩
      · rintro ⟨-, pa', hpa, rfl⟩
        cases hpa
        rfl

/-- No word is fetched from a bad address, or by an access that fails. -/
theorem fetchWord_eq_none (s : State) (who : Who) (a : Word)
    (h : 2 ^ 48 ≤ a.toNat ∨ a.toNat % 4 ≠ 0 ∨ ∃ f, homeAccess s who a 4 .fetch false = .error f) :
    fetchWord s who a = none := by
  cases hw : fetchWord s who a with
  | none => rfl
  | some y =>
    obtain ⟨⟨h1, h2⟩, pa, hpa, -⟩ := (fetchWord_eq_some_iff s who a y.1 y.2).mp hw
    obtain h | h | ⟨f, hf⟩ := h
    · omega
    · exact absurd h2 h
    · rw [hf] at hpa; cases hpa

/-! ### A word that is no instruction (R154, R157) -/

/-- The claims of OP (Table 18.2). -/
theorem slotClaim_le (w : IWord) : slotClaim w ≤ 6 := by
  unfold slotClaim
  dsimp only
  repeat' split
  all_goals omega

/-- What Table 18.3 finds wrong in a bundle that is one word, its last, and no instruction. -/
theorem bundleDefect_noInstr (vc : Nat) (y : BundleWord) (hi : y.instr = none) (hl : y.raw.getLsbD 25 = true) :
    bundleDefect vc [y] =
      if slotClaim y.raw = 0 then some (0, 0x02)
      else some (if slotClaim y.raw = 6 then 0 else slotClaim y.raw, 0x01) := by
  have hl' : y.raw[25] = true := hl
  have hle := slotClaim_le y.raw
  unfold bundleDefect
  by_cases h0 : slotClaim y.raw = 0
  · simp [h0, malformed, claims]
  · rw [if_neg h0]
    by_cases h6 : slotClaim y.raw = 6
    · simp [h6, malformed, claims, hl', slotted, bySlot, inSlot, List.range_succ, hi]
    · rw [malformed_single y _ rfl (by omega) (by omega) hl, bySlot_single y _ rfl (by omega) (by omega)]
      simp [hi, h6]

/-- A bundle is performed at CP's program counter. -/
@[simp] theorem bundleCtx_pc (s : State) (b : BenchId) (c : CoreId) (ws : List BundleWord) :
    (bundleCtx s b c ws).pc = (s.stream b c 2).pc := rfl

/-- CP takes a word with its last bit that is no instruction and stands alone. -/
theorem collectWord_bad_last (s : State) (b : BenchId) (c : CoreId) (w : IWord) (hb : (s.stream b c 2).bundle = [])
    (hl : w.getLsbD 25 = true) :
    collectWord s b c w none =
      if slotClaim w = 0 then takeFault s b c 2 0 (s.stream b c 2).pc { cause := 0x02 }
      else takeFault s b c 2 (if slotClaim w = 6 then 0 else slotClaim w) (s.stream b c 2).pc { cause := 0x01 } := by
  have hd := fun a : Word => bundleDefect_noInstr (s.gang b).vcount { addr := a, raw := w, instr := none } rfl hl
  unfold collectWord
  simp only [hb, hl, List.nil_append, Bool.true_or, if_true]
  unfold issueBundle
  rw [hd]
  by_cases h : slotClaim w = 0
  · simp only [if_pos h, bundleCtx_pc]
  · simp only [if_neg h, bundleCtx_pc]

/-- CP takes a word that is not the last of its bundle, and waits for the rest. -/
theorem collectWord_unlast (s : State) (b : BenchId) (c : CoreId) (w : IWord) (i : Option Instr)
    (hb : (s.stream b c 2).bundle.length < 5) (hl : w.getLsbD 25 = false) :
    collectWord s b c w i = s.updStream b c 2 fun st => { st with
      bundle := st.bundle ++ [{ addr := st.pc + 4 * BitVec.ofNat 64 st.bundle.length, raw := w, instr := i }] } := by
  have hn : ¬ (bundleMax ≤ (s.stream b c 2).bundle.length + 1) := by unfold bundleMax; omega
  unfold collectWord
  simp only [hl, List.length_append, List.length_singleton, hn, decide_false, Bool.or_false, Bool.false_eq_true, if_false]
  exact State.updStream_congr rfl

/-! ### A step (log 1) -/

/-- A step performs what its turn comes to, and counts. -/
theorem step_of_word {s s' s1 : State} {t : Turn} {i : Instr} (h : nextTurn s = (t, s')) (hf : fetchTurn s' t = .word i s1) :
    step s = finish (exec i s1) := by
  simp only [step, h, hf]

theorem step_of_done {s s' s1 : State} {t : Turn} (h : nextTurn s = (t, s')) (hf : fetchTurn s' t = .done s1) :
    step s = finish (.next s1) := by
  simp only [step, h, hf]

/-- What the turn of a stream that may issue comes to, by the word it fetches. -/
theorem fetchStream_canIssue {s : State} {b : BenchId} {c : CoreId} {t : StreamId} (h : s.canIssue b c t = true) :
    fetchStream s b c t =
      match fetchWord s (whoStream s b c) (s.stream b c t).fetchAddr with
      | none => .done (takeFault (fetchMissed s (whoStream s b c) (s.stream b c t).fetchAddr) b c t 0 (s.stream b c t).pc
          { cause := 0x04, addr := (s.stream b c t).fetchAddr })
      | some (w, s) => match decode (streamFormat t) w with
        | .ok i => .word i { s with cur := some (.stream b c t) }
        | .error _ => .done (runBadWord s b c t w) := by
  unfold fetchStream
  simp only [h, Bool.not_true, Bool.false_eq_true, if_false] <;> rfl

/-- What the turn of a context whose program may perform a command comes to. -/
theorem fetchContext_ready {s : State} {n : BitVec 2} {r : ColRun} (h : s.colRun n = some r) (hr : r.ready = true) :
    fetchContext s n =
      match fetchWord s (whoContext s n r.prog) r.pc with
      | none => .done (takeContextFault (fetchMissed s (whoContext s n r.prog) r.pc) n r { cause := 0x04, addr := r.pc })
      | some (w, s) => match decode .col w with
        | .ok i => .word i { s with cur := some (.context n) }
        | .error _ => .done (takeContextFault s n r { cause := if w.getLsbD 25 then 0x01 else 0x02 }) := by
  unfold fetchContext
  simp only [h, hr, Bool.not_true, Bool.false_eq_true, if_false] <;> rfl

/-- Settles O55: what a step does is what its turn comes to, case by case of the word that is fetched. -/
theorem stepsRunWords : Obligations.StepsRunWords := by
  unfold Obligations.StepsRunWords
  intro s s' s1 b c t n r i w ends at' fmt
  have hends : ends = finish := by funext o; cases o <;> rfl
  have hfmt : fmt = streamFormat t := (by decide : ∀ t : StreamId,
    (if t = 0 then Format.sc else if t = 1 then .ld else if t = 2 then .cp else .st) = streamFormat t) t
  rw [hends, hfmt]
  refine ⟨fun e h he => step_of_word h (if_pos he), fun h hc => step_of_done h ?_, fun h hc => ⟨fun hw hd => ?_,
    fun hw hd => ?_, fun hw => step_of_done h ?_⟩, fun h hr hready => ⟨fun hw hd => step_of_word h ?_,
    fun hw hd => step_of_done h ?_, fun hw => step_of_done h ?_⟩, fun who a hw => ?_,
    fun who a h => fetchWord_eq_none _ _ _ h⟩
  · show fetchStream s' b c t = _
    unfold fetchStream
    rw [if_pos (by simp [hc])]
  · refine step_of_word h ((fetchStream_canIssue hc).trans ?_)
    simp only [show (s'.stream b c t).fetchAddr = at' from rfl, hw, hd]
  · obtain ⟨e, hd⟩ := hd
    have hstep : step s = finish (.next (runBadWord s1 b c t w)) := by
      refine step_of_done h ((fetchStream_canIssue hc).trans ?_)
      simp only [show (s'.stream b c t).fetchAddr = at' from rfl, hw, hd]
    rw [hstep]
    refine ⟨fun ht => ?_, fun ht hb hl => ?_, fun ht hb hl => ?_⟩
    · unfold runBadWord
      rw [if_neg ht]
    · subst ht
      unfold runBadWord
      rw [if_pos rfl, collectWord_bad_last s1 b c w hb hl]
      split <;> rfl
    · subst ht
      unfold runBadWord
      rw [if_pos rfl, collectWord_unlast s1 b c w none hb hl]
  · exact (fetchStream_canIssue hc).trans (by simp only [show (s'.stream b c t).fetchAddr = at' from rfl, hw])
  · exact (fetchContext_ready hr hready).trans (by simp only [hw, hd])
  · obtain ⟨e, hd⟩ := hd
    exact (fetchContext_ready hr hready).trans (by simp only [hw, hd])
  · exact (fetchContext_ready hr hready).trans (by simp only [hw])
  · obtain ⟨⟨h1, h2⟩, h3⟩ := (fetchWord_eq_some_iff s' who a w s1).mp hw
    exact ⟨h1, h2, h3⟩

end Sys2Proof.Machine
end

section
/-! SUPPORT. Loops: the predicates and flags with which an iteration begins, and what follows the last word of a body (R40,
R183, R184). -/

namespace Sys2Proof.Machine

/-! ### Stage predicates and stage flags (R40, R184) -/

/-- The bits of a number made of the powers of two below `2 ^ n` that a predicate picks. -/
theorem testBit_sum_powers (p : Nat → Bool) (n j : Nat) :
    (((List.range n).filter p).foldl (fun a i => a + 2 ^ i) 0).testBit j = (decide (j < n) && p j) ∧
      ((List.range n).filter p).foldl (fun a i => a + 2 ^ i) 0 < 2 ^ n := by
  induction n with
  | zero => simp
  | succ n ih =>
    obtain ⟨hbit, hlt⟩ := ih
    rw [List.range_succ, List.filter_append, List.foldl_append]
    generalize ((List.range n).filter p).foldl (fun a i => a + 2 ^ i) 0 = x at hbit hlt
    cases hp : p n
    · refine ⟨?_, by simpa [hp] using hlt.trans (Nat.pow_lt_pow_right (by omega) (by omega))⟩
      obtain h | h | h : j < n ∨ j = n ∨ n < j := by omega
      · simp [hp, hbit, h, show j < n + 1 by omega]
      · subst h; simp [hp, hbit]
      · simp [hp, hbit, show ¬ j < n by omega, show ¬ j < n + 1 by omega]
    · have hsum : x + 2 ^ n < 2 ^ (n + 1) := by rw [Nat.pow_succ]; omega
      refine ⟨?_, by simpa [hp] using hsum⟩
      obtain h | h | h : j < n ∨ j = n ∨ n < j := by omega
      · simp [hp, Nat.add_comm x, Nat.testBit_two_pow_add_gt h, hbit, h, show j < n + 1 by omega]
      · subst h; simp [hp, Nat.add_comm x, Nat.testBit_two_pow_add_eq, hbit]
      · have hz : (x + 2 ^ n).testBit j = false := Nat.testBit_lt_two_pow (hsum.trans_le (Nat.pow_le_pow_right (by omega) h))
        simp [hp, hz, show ¬ j < n + 1 by omega]

/-- The stage predicates of an iteration (R40). -/
theorem LoopFrame.getLsbD_preds (f : LoopFrame) (j : Nat) (hj : j < 8) :
    f.preds.getLsbD j = decide (j < f.stages ∧ j ≤ f.iter ∧ f.iter - j < f.n) := by
  unfold LoopFrame.preds
  rw [BitVec.getLsbD_ofNat, (testBit_sum_powers _ 8 j).1]
  simp [hj, Bool.and_assoc]

/-- The bits that the stage flags take: f1 to f_S, and at most f7 (R184). -/
theorem getLsbD_stageMask (n j : Nat) (hj : j < 8) :
    (BitVec.ofNat 8 ((2 ^ min n 7 - 1) * 2)).getLsbD j = decide (1 ≤ j ∧ j ≤ n) := by
  have h2 : (2 ^ min n 7 - 1) * 2 = (2 ^ min n 7 - 1) * 2 ^ 1 := by rw [pow_one]
  rw [BitVec.getLsbD_ofNat, h2, Nat.testBit_mul_two_pow, Nat.testBit_two_pow_sub_one]
  simp only [hj, decide_true, Bool.true_and, ← Bool.decide_and]
  exact decide_eq_decide.mpr (by omega)

/-- The predicates and the flags with which an iteration of a loop begins: in a LOOP those that the stream has, in a KLOOP
the predicates of the iteration, and the flags that take them (R40, R184). -/
def LoopFrame.StartsWith (f : LoopFrame) (st : Stream) (k e : BitVec 8) : Prop :=
  (f.kloop = false → k = st.k ∧ e = st.f) ∧
  (f.kloop = true →
    (∀ j, j < 8 → k.getLsbD j = decide (j < f.stages ∧ j ≤ f.iter ∧ f.iter - j < f.n)) ∧
    (∀ j, j < 8 → e.getLsbD j = if 1 ≤ j ∧ j ≤ f.stages then k.getLsbD (j - 1) else st.f.getLsbD j))

/-- The start of an iteration. -/
theorem startIter_eq (st : Stream) (f : LoopFrame) :
    ∃ k e, f.StartsWith st k e ∧ st.startIter f = { st with k := k, f := e } := by
  unfold Stream.startIter
  cases hk : f.kloop
  · exact ⟨st.k, st.f, ⟨fun _ => ⟨rfl, rfl⟩, fun h => absurd (hk.symm.trans h) (by decide)⟩, rfl⟩
  · refine ⟨f.preds, _, ⟨fun h => absurd (hk.symm.trans h) (by decide), fun _ => ⟨fun j hj => f.getLsbD_preds j hj,
      fun j hj => ?_⟩⟩, rfl⟩
    simp only [BitVec.getLsbD_or, BitVec.getLsbD_and, BitVec.getLsbD_not, BitVec.getLsbD_shiftLeft,
      getLsbD_stageMask _ j hj, hj, decide_true, Bool.true_and]
    by_cases h1 : 1 ≤ j ∧ j ≤ f.stages
    · simp [h1, show ¬ j < 1 by omega]
    · simp [h1]

/-! ### The end of an iteration (R183) -/

/-- The frame of a loop in its next iteration. -/
def LoopFrame.nextIter (f : LoopFrame) : LoopFrame := { f with iter := f.iter + 1 }

section
variable (st : Stream) {a : Word} {atFlip : Bool} {f : LoopFrame} {r : List LoopFrame}

/-- The address after a word that ends no active body. -/
theorem endIter_outside (h : ∀ g ∈ r.head?, g.last ≠ a) : st.endIter a atFlip r = { st with pc := a, loops := r } := by
  cases r with
  | nil => rfl
  | cons g r =>
    unfold Stream.endIter
    exact if_neg (h g rfl)

/-- The end of an iteration of a KLOOP.F is a flip. -/
theorem endIter_flip (ha : f.last = a) (hf : (f.kloop && f.flips) = true) :
    st.endIter a false (f :: r) =
      { st with pc := if f.iter + 1 < f.total then f.first else a, loops := f :: r, wait := .flip true a } := by
  unfold Stream.endIter
  rw [if_pos ha, if_pos (by simpa using hf)]

/-- Iterations are left: the next one begins. -/
theorem endIter_again (ha : f.last = a) (hf : (f.kloop && f.flips && !atFlip) = false) (h : f.iter + 1 < f.total) :
    ∃ k e, f.nextIter.StartsWith st k e ∧
      st.endIter a atFlip (f :: r) = { st with pc := f.first, loops := f.nextIter :: r, k := k, f := e } := by
  obtain ⟨k, e, hke, hst⟩ := startIter_eq st f.nextIter
  refine ⟨k, e, hke, ?_⟩
  unfold Stream.endIter
  rw [if_pos ha, if_neg (by simp [hf]), if_pos h]
  change { st.startIter f.nextIter with pc := f.first, loops := f.nextIter :: r } = _
  rw [hst]

/-- The last iteration is over, and no enclosing body ends at the same address: the stream goes on past the body. -/
theorem endIter_over (ha : f.last = a) (hf : (f.kloop && f.flips && !atFlip) = false) (h : f.total ≤ f.iter + 1)
    (hr : ∀ g ∈ r.head?, g.last ≠ a) :
    st.endIter a atFlip (f :: r) = { st with pc := a, loops := r, k := if f.kloop then 0 else st.k } := by
  unfold Stream.endIter
  rw [if_pos ha, if_neg (by simp [hf]), if_neg (by omega), endIter_outside _ hr]
  unfold Stream.leave
  split <;> rfl

end

/-! ### Going on after a word that is alone -/

/-- With nothing to wait for, a stream goes on where the end of a loop body sends it. -/
theorem advance_of_wait_none {st : Stream} (a : Word) (h : st.wait = .none) : st.advance a = st.endIter a false st.loops := by
  unfold Stream.advance
  simp only [h]
  rw [← h]

theorem onward_of_wait_none {st : Stream} (h : st.wait = .none) : st.onward = st.pc := by
  unfold Stream.onward
  rw [h]

/-- Where a stream goes on after the flip that ends an iteration of a KLOOP.F with iterations left. -/
theorem onward_of_loopFlip {st : Stream} {f : LoopFrame} {r : List LoopFrame} (hw : st.wait = .flip true f.last)
    (hl : st.loops = f :: r) (h : f.iter + 1 < f.total) : st.onward = f.first := by
  unfold Stream.onward
  rw [hw]
  obtain ⟨k, e, -, he⟩ := endIter_again { st with wait := .none, loops := f :: r } (atFlip := true) (r := r) rfl (by simp) h
  dsimp only
  rw [hl]
  exact congrArg Stream.pc he

section
variable {x : Ctx} {s0 s : State} {st : Stream}

/-- A word that goes on leaves its stream as its advance has it. -/
theorem goOn_of_leadsOn (h : (x.st s).advance x.next = st) (hl : x.leadsOn s x.next st) :
    goOn x s0 s = x.upd s fun _ => st := by
  unfold goOn leads
  rw [h]
  exact congrArg (proceed x s0 s) (if_pos hl)

/-- A word that would go on at a word that cannot be fetched faults (R152). -/
theorem goOn_of_not_leadsOn (h : (x.st s).advance x.next = st) (hl : ¬ x.leadsOn s x.next st) :
    goOn x s0 s = takeFault s0 x.b x.c x.t x.slot x.pc { cause := 0x04, addr := st.onward } := by
  unfold goOn leads
  rw [h]
  exact congrArg (proceed x s0 s) (if_neg hl)

end

/-- A stream with no more than its bundle emptied. -/
theorem stream_closed_eq {s : State} {x : Ctx} (hg : (s.gang? x.b).isSome) :
    ∃ l o, x.st (x.closed s) = { x.st s with bundle := l, sxOnly := o } := by
  rw [stream_closed hg]
  split
  · exact ⟨_, _, rfl⟩
  · exact ⟨_, _, rfl⟩

/-- NOP does nothing. -/
theorem exec_nop {s : State} {b : BenchId} {c : CoreId} {t : StreamId} (ha : s.alone b c t) :
    exec (.nop 1) s = .next (goOn (s.issuing b c t 1) s ((s.issuing b c t 1).closed s)) :=
  exec_common_ok ⟨Laws.Words.nop .., rfl, rfl, rfl, rfl, ⟨rfl, rfl⟩⟩ ha rfl rfl

/-- Settles O7: NOP goes on at the end of its body, which is one of three: the next iteration, the flip, or past the body. -/
theorem loopIterations : Obligations.LoopIterations := by
  unfold Obligations.LoopIterations
  intro s b c t f r ha hloops hlast hstages hwait x total f' s'
  have hx : x.next = f.last := hlast
  have hg : (s.gang? x.b).isSome := ha.gang?_isSome
  obtain ⟨bundle, sx, hst⟩ := stream_closed_eq (x := x) hg
  change x.st s' = { s.stream b c t with bundle := bundle, sxOnly := sx } at hst
  have hst_wait : (x.st s').wait = .none := by rw [hst]; exact hwait
  have hst_loops : (x.st s').loops = f :: r := by rw [hst]; exact hloops
  have hst_f : (x.st s').f = (s.stream b c t).f := by rw [hst]
  have hadv : (x.st s').advance x.next = (x.st s').endIter f.last false (f :: r) := by
    rw [advance_of_wait_none _ hst_wait, hst_loops, hx]
  generalize hy : x.st s' = y at hadv hst_wait hst_loops hst_f
  have hupd {g : Stream → Stream} {z : Stream} (h : g y = z) : (x.upd s' fun _ => z) = x.upd s' g :=
    State.updStream_congr (by rw [← h, ← hy])
  have goes {g : Stream → Stream} {z : Stream} (hz : y.endIter f.last false (f :: r) = z) (hl : x.leadsOn s' x.next z)
      (h : g y = z) : exec (.nop 1) s = .next (x.upd s' g) := by
    rw [exec_nop ha, goOn_of_leadsOn (st := z) (by rw [hy, hadv, hz]) hl, hupd h]
  have comes {z : Stream} {a : Word} (h : z.onward = a) (hf : fetchable s' (whoStream s' b c) a = true) :
      x.leadsOn s' x.next z := .inr (.inr (h ▸ hf))
  refine ⟨fun hfetch hiter => ⟨fun hk => ?_, fun hk hf => ?_, fun hk hf => ?_⟩, fun hfetch hiter hne hpc => ?_,
    fun hiter hr hf => ?_, fun hiter hf hgo => ?_⟩
  · obtain ⟨k, e, ⟨hke, -⟩, hz⟩ := endIter_again y (a := f.last) (atFlip := false) (r := r) rfl (by simp [hk]) hiter
    obtain ⟨rfl, rfl⟩ := hke hk
    exact goes hz (comes (onward_of_wait_none hst_wait) hfetch) rfl
  · obtain ⟨k, e, ⟨-, hke⟩, hz⟩ := endIter_again y (a := f.last) (atFlip := false) (r := r) rfl (by simp [hf]) hiter
    obtain ⟨hkbits, hebits⟩ := hke hk
    rw [hst_f] at hebits
    exact ⟨k, e, hkbits, hebits, goes hz (comes (onward_of_wait_none hst_wait) hfetch) rfl⟩
  · have hz := (endIter_flip y (a := f.last) (r := r) rfl (by simp [hk, hf])).trans
      (by rw [if_pos (show f.iter + 1 < f.total from hiter)])
    exact goes hz (comes (onward_of_loopFlip rfl rfl hiter) hfetch) rfl
  · have hon : (y.endIter f.last false (f :: r)).onward = f.first := by
      by_cases hf : (f.kloop && f.flips) = true
      · rw [endIter_flip y rfl hf]
        exact onward_of_loopFlip rfl rfl hiter
      · obtain ⟨k, e, -, hz⟩ := endIter_again y (a := f.last) (atFlip := false) (r := r) rfl (by simpa using hf) hiter
        rw [hz]
        exact onward_of_wait_none hst_wait
    have hl : ¬ x.leadsOn s' x.next (y.endIter f.last false (f :: r)) := by
      unfold Ctx.leadsOn
      rw [hon, hx]
      rintro (h | h | h)
      · exact hne h
      · exact hpc h
      · exact absurd (hfetch.symm.trans h) (by decide)
    unfold State.traps State.trapsIn
    rw [exec_nop ha, goOn_of_not_leadsOn (by rw [hy, hadv]) hl, hon]
    rfl
  · have hz := endIter_over y (a := f.last) (atFlip := false) (r := r) rfl (by simpa using hf) hiter hr
    exact goes hz (.inl (Eq.trans (onward_of_wait_none hst_wait) hx.symm)) rfl
  · have hz := (endIter_flip y (a := f.last) (r := r) rfl hf).trans
      (by rw [if_neg (show ¬ f.iter + 1 < f.total from Nat.not_lt.mpr hiter)])
    refine goes hz ?_ rfl
    have hgo' : x.leadsOn s' x.next ((x.st s').advance x.next) := hgo
    rwa [hy, hadv, hz] at hgo'

end Sys2Proof.Machine
end

section
/-! SUPPORT. JOIN, and FLIP at the end of a body (R32, R190). -/

namespace Sys2Proof.Machine

/-- Another stream of a core runs, and SC waits for it (R32). -/
theorem othersRun_iff (k : Core) : othersRun k = true ↔ ∃ t : Fin 4, t ≠ 0 ∧ (k.streams[t]).status = .running := by
  unfold othersRun
  simp only [List.any_eq_true, List.mem_range, Bool.and_eq_true, bne_iff_ne, beq_iff_eq]
  constructor
  · rintro ⟨t, ht, h0, hr⟩
    refine ⟨⟨t, ht⟩, fun h => h0 (congrArg Fin.val h), ?_⟩
    rwa [getElem!_pos k.streams t ht] at hr
  · rintro ⟨t, h0, hr⟩
    refine ⟨t.val, t.isLt, fun h => h0 (Fin.ext h), ?_⟩
    rwa [getElem!_pos k.streams t.val t.isLt]

/-- Settles O15: JOIN waits exactly while another stream of the core runs. -/
theorem joinWaits : Obligations.JoinWaits := by
  unfold Obligations.JoinWaits
  intro s b c ha runs
  have hrun : othersRun (s.core b c) = true ↔ runs := othersRun_iff _
  have hx : (s.issuing b c 0 0).core s = s.core b c := rfl
  refine ⟨fun h => ?_, fun h => ?_⟩
  · have he : effJoin (s.issuing b c 0 0) s = .stay (s.updStream b c 0 fun st => { st with wait := .join }) :=
      if_pos (hrun.mpr h)
    unfold State.waits
    rw [exec_scalar s b c 0 .join 0 Laws.Words.join rfl (by decide) (by decide) rfl ha.1]
    simp only [wordEffect, he, settle]
  · exact does_scalar s b c 0 .join 0 _ Laws.Words.join rfl (by decide) (by decide) rfl ha.1
      (if_neg fun hr => h (hrun.mp hr))

/-- A state against O11: LD of a gang performs the FLIP at 0x20000, the last word of a LOOP body of two words with an iteration
left, and no address of its space is mapped any more, that of the body's first word neither. -/
def flipWithNoWayBack : State :=
  let body : LoopFrame :=
    { kloop := false, flips := false, pre := false, stages := 1, word := 0x1FFF8, first := 0x1FFFC, last := 0x20004
      n := 2, norig := 2, iter := 0 }
  { State.reset.setGang 0 (some (placedGang 1)) with cur := some (.stream 0 0 1) }.updStream 0 0 1 fun st =>
    { st with loops := [body] }

/-- LD performs its word there, which is alone, and no KLOOP.F is active. -/
theorem flipWithNoWayBack_alone : flipWithNoWayBack.alone 0 0 1 ∧
    ∀ f ∈ (flipWithNoWayBack.stream 0 0 1).loops, f.flips = false :=
  ⟨⟨⟨by decide +kernel, by decide +kernel⟩, fun h => absurd h (by decide)⟩, by decide +kernel⟩

/-- The model's FLIP takes fetch-range there (0x04), as the last word of a body whose first word cannot be fetched (R152). -/
theorem flipWithNoWayBack_faults :
    (match exec (.flip 1) flipWithNoWayBack with
      | .next s => (s.stream 0 0 1).fault.map StopInfo.cause
      | _ => none) = some 0x04 := by decide +kernel

/-- Refutes O11: a FLIP that is the last word of a LOOP body with iterations left does not arrive at the flip where the body's
first word cannot be fetched; it faults, which the statement's clause of FLIP leaves out (R152). -/
theorem not_streamControl : ¬ Obligations.StreamControl := by
  unfold Obligations.StreamControl
  intro h
  obtain ⟨halone, hloops⟩ := flipWithNoWayBack_alone
  obtain ⟨-, harrives, -⟩ := h.1 flipWithNoWayBack 0 0 1 halone
  have hfaults := flipWithNoWayBack_faults
  rw [harrives hloops] at hfaults
  exact absurd hfaults (by decide +kernel)

end Sys2Proof.Machine
end

section
/-! SUPPORT. The flip: when it completes, and what it makes of the faces, the rings and each stream (R35 to R41, R144). -/

namespace Sys2Proof.Machine

/-- The cores of the gang on a bench. -/
theorem State.core_of_gang? {s : State} {b : BenchId} {g : Gang} (h : s.gang? b = some g) (c : CoreId) :
    s.core b c = g.cores[c.toFin] := by
  unfold State.core State.gang
  rw [h]
  rfl

/-! ### What a flip waits for (R35) -/

/-- A property of the four streams by their numbers. -/
theorem forall_streamId_iff (P : Nat → Prop) : (∀ n, n < 4 → P n) ↔ ∀ u : StreamId, P u.toNat :=
  ⟨fun h u => h _ u.isLt, fun h n hn => by
    have := h (BitVec.ofNat 2 n)
    rwa [BitVec.toNat_ofNat, Nat.mod_eq_of_lt hn] at this⟩

/-- Some stream of a core has a property. -/
theorem any_streams_iff (v : Vector Stream 4) (p : Stream → Bool) :
    v.toList.any p = true ↔ ∃ u : StreamId, p v[u.toFin] = true := by
  rw [List.any_eq_true]
  constructor
  · rintro ⟨st, hst, hp⟩
    obtain ⟨n, hn, rfl⟩ := Vector.mem_iff_getElem.mp (Vector.mem_toList_iff.mp hst)
    exact ⟨BitVec.ofFin ⟨n, hn⟩, hp⟩
  · rintro ⟨u, hp⟩
    exact ⟨_, Vector.mem_toList_iff.mpr (Vector.getElem_mem _), hp⟩

/-- Every stream is IDLE or arrived, and one waits at its FLIP. -/
theorem gathered_iff (k : Core) : k.gathered = true ↔
    (∀ u : StreamId, (k.streams[u.toFin]).status = .idle ∨ (k.streams[u.toFin]).arrived (u == 0) = true) ∧
      ∃ u : StreamId, (k.streams[u.toFin]).atFlip = true := by
  have hall := forall_streamId_iff fun n => (k.streams[n]!).status = .idle ∨ (k.streams[n]!).arrived (n == 0) = true
  have hget (u : StreamId) : k.streams[u.toNat]! = k.streams[u.toFin] := getElem!_pos k.streams u.toNat u.isLt
  have hzero (u : StreamId) : (u.toNat == 0) = (u == 0) := by
    rw [Bool.eq_iff_iff, beq_iff_eq, beq_iff_eq, ← BitVec.toNat_inj]; rfl
  simp only [hget, hzero] at hall
  unfold Core.gathered
  rw [Bool.and_eq_true, any_streams_iff, List.all_eq_true, ← hall]
  simp only [List.mem_range, Bool.or_eq_true, beq_iff_eq]

/-- A stream that is ENDED, waits at its FLIP or for its saving, or, SC, waits at JOIN, has arrived (R35, R144). -/
theorem arrived_iff (st : Stream) (sc : Bool) : st.arrived sc = true ↔
    st.status = .ended ∨ (∃ l a, st.wait = .flip l a) ∨ (sc = true ∧ st.wait = .join) ∨ ∃ w m, st.wait = .epilogue w m := by
  unfold Stream.arrived
  cases st.wait <;> simp

theorem atFlip_iff (st : Stream) : st.atFlip = true ↔ st.status = .running ∧ ∃ l a, st.wait = .flip l a := by
  unfold Stream.atFlip
  cases st.wait <;> simp

theorem atLoopFlip_iff (st : Stream) : st.atLoopFlip = true ↔ st.status = .running ∧ ∃ a, st.wait = .flip true a := by
  unfold Stream.atLoopFlip
  cases hw : st.wait
  case flip l a => cases l <;> simp
  all_goals simp

/-- The writes that a flip waits for have landed. -/
theorem flipLanded_of (g : Gang) (c : CoreId)
    (hr : ∀ r ∈ (g.cores[c.toFin]).results, r.writes = [] ∧ r.entry.isSome = true)
    (hl : (g.cores[c.toFin]).longs = []) (hv : ∀ f ∈ (g.cores[c.toFin]).v.toList, f.pending = false)
    (hc : ∀ f ∈ (g.cores[c.toFin]).c.toList, f.pending = false)
    (hp : ∀ f ∈ (g.cores[c.toFin]).p.toList, f.pending = false)
    (hy : ∀ y ∈ (g.cores[c.toFin]).copies, y.inPhase = false)
    (hs : ∀ o : CoreId, ∀ y ∈ (g.cores[o.toFin]).copies, ∀ d, y.kind = .toScratch d →
      d.toNat / 2 ^ 24 % 4 ≠ c.toNat) :
    flipLanded g c = true := by
  have none_pending {α : Type} {l : List (Face α)} (h : ∀ f ∈ l, f.pending = false) : l.any (·.pending) = false :=
    List.any_eq_false.mpr fun f hf => by simp [h f hf]
  have hresults : (g.cores[c.toFin]).results.all Result.onlyPushes = true :=
    List.all_eq_true.mpr fun y hm => by
      obtain ⟨hw, he⟩ := hr y hm
      simp [Result.onlyPushes, hw, he]
  have hwrites (o : CoreId) : (g.cores[o.toFin]).writesInto o c = false := by
    unfold Core.writesInto
    refine List.any_eq_false.mpr fun y hm => ?_
    have hin : (o == c && y.inPhase) = false := by
      by_cases ho : o = c
      · subst ho; rw [hy y hm, Bool.and_false]
      · simp [ho]
    rw [hin, Bool.false_or]
    split
    · next d hd =>
      have hne := hs o y hm d hd
      simp only [scratchCore, beq_iff_eq]
      intro h
      exact hne (by rw [← h]; rfl)
    · decide
  have hall : ((List.range 4).map (BitVec.ofNat 2)).any (fun o : CoreId => (g.cores[o.toFin]).writesInto o c) = false :=
    List.any_eq_false.mpr fun o _ => by rw [hwrites o]; decide
  unfold flipLanded
  simp only [hresults, hl, none_pending hv, none_pending hc, none_pending hp, hall]
  rfl

/-! ### What a flip makes of a stream (R35, R40, R144) -/

section
variable (st : Stream) {ep : Bool} {a : Word} {f : LoopFrame} {r : List LoopFrame}

/-- A stream that waits at no flip stays as it is. -/
theorem release_of_not_atFlip (h : ¬ ∃ l a, st.status = .running ∧ st.wait = .flip l a) : st.release ep = st := by
  have hf : st.atFlip = false := by
    rw [Bool.eq_false_iff, Ne, atFlip_iff]
    rintro ⟨hs, l, a, hw⟩
    exact h ⟨l, a, hs, hw⟩
  unfold Stream.release
  rw [hf]

/-- A stream at its FLIP word goes on at the word that follows. -/
theorem release_atFlip (hs : st.status = .running) (hw : st.wait = .flip false a) :
    st.release ep = { st with wait := .none }.endIter a false st.loops := by
  unfold Stream.release
  rw [(atFlip_iff st).mpr ⟨hs, _, _, hw⟩, hw]

/-- At the end of an iteration of a KLOOP.F that no forced epilogue clamps, the iteration is over. -/
theorem release_atLoopFlip (hs : st.status = .running) (hw : st.wait = .flip true a) (hl : st.loops = f :: r)
    (h : ep = false ∨ f.pre = false) : st.release ep = { st with wait := .none }.endIter a true st.loops := by
  have hc : (if ep then st.clamp else st) = st := by
    cases ep
    · rfl
    · have hp : f.pre = false := h.resolve_left (by decide)
      unfold Stream.clamp
      rw [hl]
      simp [hp]
  have he : (if ep then st.loopEnded else none) = none := by
    cases ep
    · rfl
    · have hp : f.pre = false := h.resolve_left (by decide)
      unfold Stream.loopEnded
      rw [hl]
      simp [hp]
  unfold Stream.release
  rw [(atFlip_iff st).mpr ⟨hs, _, _, hw⟩, hw]
  simp only [hc, he]

/-- The frame of a loop whose trip count a forced epilogue has clamped (R144). -/
def LoopFrame.clamped (f : LoopFrame) : LoopFrame := { f with n := if f.iter + 1 < f.n then f.iter + 1 else f.n }

theorem clamp_eq (hl : st.loops = f :: r) (hp : f.pre = true) : st.clamp = { st with loops := f.clamped :: r } := by
  unfold Stream.clamp LoopFrame.clamped
  rw [hl]
  by_cases h : f.iter + 1 < f.n
  · simp [hp, h]
  · have hst : st = { st with loops := f :: r } := by rw [← hl]
    simpa [h] using hst

/-- Under a forced epilogue the end of an iteration of a preemptible KLOOP.F clamps its trip count: an iteration that is left
is gone through, and else the stream stops past the body with what remains of its trips (R144). -/
theorem release_epilogue (hs : st.status = .running) (hw : st.wait = .flip true a) (hl : st.loops = f :: r) (ha : f.last = a)
    (hp : f.pre = true) :
    (f.iter + 1 < f.clamped.total → st.release true =
      { st with wait := .none, loops := f.clamped :: r }.endIter a true (f.clamped :: r)) ∧
    (f.clamped.total ≤ f.iter + 1 → st.release true =
      { st with pc := a, loops := r, k := 0, wait := .epilogue f.word (f.norig - f.clamped.n) }) := by
  have hp' : f.clamped.pre = true := hp
  unfold Stream.release
  rw [(atFlip_iff st).mpr ⟨hs, _, _, hw⟩, hw]
  simp only [if_true, clamp_eq st hl hp, Stream.loopEnded, hp', Bool.true_and, decide_eq_true_eq]
  constructor
  · intro h
    rw [if_neg (show ¬ f.clamped.total ≤ f.clamped.iter + 1 from Nat.not_le.mpr h)]
  · intro h
    rw [if_pos (show f.clamped.total ≤ f.clamped.iter + 1 from h)]
    subst ha
    rfl

end

/-! ### FLIP_COMPLETE -/

/-- The stream of a core after its flip: the sets of the next phase, and a release from the flip. -/
theorem flip_stream (k : Core) (rot ep : Bool) (u : StreamId) : (k.flip rot ep).streams[u.toFin] =
    ({ k.streams[u.toFin] with sets := (k.streams[u.toFin]).next } : Stream).release ep := by
  simp [Core.flip]

/-- The exchange of a register: W, P and its tag are cleared (R35, R48). -/
theorem flip_turned {α : Type} {n : Nat} (v : Vector (Face α) n) (i : Fin n) :
    (v.map Face.flip)[i].vis = (if v[i].written then v[i].hid else v[i].vis) ∧
      (v.map Face.flip)[i].hid = (if v[i].written then v[i].vis else v[i].hid) ∧
      (v.map Face.flip)[i].written = false ∧ (v.map Face.flip)[i].pending = false ∧
      (v.map Face.flip)[i].tag = ⟨0, false, 0⟩ := by
  have h : (v.map Face.flip)[i] = v[i].flip := by simp
  rw [h]
  exact ⟨rfl, rfl, rfl, rfl, rfl⟩

/-- A release from the flip touches neither s registers nor declared sets. -/
theorem release_fields (st : Stream) (ep : Bool) :
    (st.release ep).s = st.s ∧ (st.release ep).sets = st.sets ∧ (st.release ep).next = st.next := by
  have hend (st : Stream) (a : Word) (atFlip : Bool) (l : List LoopFrame) :
      (st.endIter a atFlip l).s = st.s ∧ (st.endIter a atFlip l).sets = st.sets ∧
        (st.endIter a atFlip l).next = st.next := by
    obtain ⟨hs, -, hsets, hnext, -⟩ := endIter_fields l st a atFlip
    exact ⟨hs, hsets, hnext⟩
  have hclamp : ∃ l, (if ep then st.clamp else st) = { st with loops := l } := by
    unfold Stream.clamp
    repeat' split
    all_goals exact ⟨_, rfl⟩
  obtain ⟨l, hl⟩ := hclamp
  unfold Stream.release
  split
  · simp only [hl]
    split
    · exact ⟨rfl, rfl, rfl⟩
    · exact hend _ _ _ _
  · exact hend _ _ _ _
  · exact ⟨rfl, rfl, rfl⟩

/-- FLIP_COMPLETE while the package is not in P3. -/
theorem exec_flipComplete {s : State} (b : BenchId) (c : CoreId) (h : s.dev.off = false) :
    exec (.flipComplete b c) s = .next (flipComplete s b c) := happen_on s (fun s => flipComplete s b c) h

/-- A flip that may complete, and whose declared sets do not conflict. -/
theorem flipComplete_of_landed {s : State} {b : BenchId} {c : CoreId} {g : Gang} (hg : s.gang? b = some g)
    (hh : g.halted = false) (hs : g.stop = .none) (ha : (s.core b c).gathered = true) (hl : flipLanded g c = true)
    (hf : ∀ u, (s.stream b c u).fault = none) :
    flipComplete s b c = match setsConflict ((s.core b c).streams.map (·.next)) with
      | some (lo, hi) => setOverlap s b c lo hi
      | none => s.updCore b c fun k =>
          k.flip (g.vcount == 32 && (s.core b c).streams.toList.any Stream.atLoopFlip) g.epilogue := by
  have hfault : ((s.core b c).streams.toList.any (·.fault.isSome)) = false := by
    rw [Bool.eq_false_iff, Ne, any_streams_iff]
    rintro ⟨u, hu⟩
    have := hf u
    unfold State.stream at this
    rw [this] at hu
    exact absurd hu (by decide)
  have hk := State.core_of_gang? hg c
  unfold flipComplete
  rw [hg]
  simp only [← hk, hh, hs, ha, hl, hfault]
  rfl

/-- The end of an iteration whose flip, if any, is done: the next iteration, or past the body. -/
theorem endIter_ends {st : Stream} {a : Word} {atFlip : Bool} {f : LoopFrame} {r : List LoopFrame} (ha : f.last = a)
    (hf : (f.kloop && f.flips && !atFlip) = false) :
    (f.iter + 1 < f.total → ∃ k e, f.nextIter.StartsWith st k e ∧
      st.endIter a atFlip (f :: r) = { st with pc := f.first, loops := f.nextIter :: r, k := k, f := e }) ∧
    (f.total ≤ f.iter + 1 → (∀ h ∈ r.head?, h.last ≠ a) →
      st.endIter a atFlip (f :: r) = { st with pc := a, loops := r, k := if f.kloop then 0 else st.k }) :=
  ⟨endIter_again st ha hf, endIter_over st ha hf⟩

/-- Settles O35: once every stream has arrived and the writes have landed, the flip is `Core.flip`, and each stream's part of it
is `Stream.release`. -/
theorem flipsComplete : Obligations.FlipsComplete := by
  unfold Obligations.FlipsComplete
  refine ⟨?_, ?_⟩
  · intro s b c g hoff hg hhalt hstop k flips there turned total hthere hflips hres hlongs hfault hv hc hp hphase hinto hsets
    have hcore (o : CoreId) : s.core b o = g.cores[o.toFin] := State.core_of_gang? hg o
    have hgath : (s.core b c).gathered = true := by
      obtain ⟨u, l, a, hs, hw⟩ := hflips
      refine (gathered_iff _).mpr ⟨fun u => ?_, u, (atFlip_iff _).mpr ⟨hs, l, a, hw⟩⟩
      obtain h | h | h | h | h := hthere u
      · exact .inl h
      · exact .inr ((arrived_iff _ _).mpr (.inl h))
      · exact .inr ((arrived_iff _ _).mpr (.inr (.inl h)))
      · exact .inr ((arrived_iff _ _).mpr (.inr (.inr (.inl ⟨by rw [h.1]; rfl, h.2⟩))))
      · exact .inr ((arrived_iff _ _).mpr (.inr (.inr (.inr h))))
    have hland : flipLanded g c = true := by
      refine flipLanded_of g c ?_ ?_ ?_ ?_ ?_ ?_ fun o => ?_ <;> rw [← hcore]
      exacts [hres, hlongs, hv, hc, hp, hphase, hinto o]
    generalize hrot : (g.vcount == 32 && (s.core b c).streams.toList.any Stream.atLoopFlip) = rot
    have hex : exec (.flipComplete b c) s = .next (s.updCore b c fun k =>
        k.flip rot g.epilogue) := by
      rw [exec_flipComplete b c hoff, flipComplete_of_landed hg hhalt hstop hgath hland hfault, hsets, hrot]
    refine ⟨_, hex, ?_⟩
    intro k'
    have hk' : k' = k.flip rot g.epilogue := State.core_updCore_self s b c _ (by simp [hg])
    have hrelease (u : StreamId) : k'.streams[u.toFin] =
        ({ s.stream b c u with sets := (s.stream b c u).next } : Stream).release g.epilogue := by
      rw [hk']
      exact flip_stream _ _ _ _
    have hrot_iff : rot = true ↔ g.vcount = 32 ∧ ∃ u a, flips u true a := by
      rw [← hrot, Bool.and_eq_true, beq_iff_eq, any_streams_iff]
      simp only [atLoopFlip_iff]
      exact and_congr_right fun _ => exists_congr fun u => exists_and_left.symm
    refine ⟨fun i => ?_, fun i => ?_, fun i => ?_, ?_, ?_, ?_, fun h => ?_, fun h => ?_, ?_, ?_, ?_, ?_, ?_, fun u => ?_,
      ?_, ?_, ?_, ?_, ?_, fun u => ?_⟩
    case refine_1 => rw [hk']; exact flip_turned k.v i
    case refine_2 => rw [hk']; exact flip_turned k.c i
    case refine_3 => rw [hk']; exact flip_turned k.p i
    case refine_7 => rw [hk', hrot_iff.mpr h]; rfl
    case refine_8 =>
      have hr : rot = false := Bool.eq_false_iff.mpr fun hr => by
        obtain ⟨hv, hf⟩ := hrot_iff.mp hr
        exact h.elim (fun h => h hv) fun h => h hf
      rw [hk', hr]
      rfl
    case refine_14 =>
      obtain ⟨h1, h2, h3⟩ := release_fields { s.stream b c u with sets := (s.stream b c u).next } g.epilogue
      exact ⟨(congrArg Stream.sets (hrelease u)).trans h2, (congrArg Stream.next (hrelease u)).trans h3,
        (congrArg Stream.s (hrelease u)).trans h1⟩
    case refine_20 =>
      intro st st' on again ends
      have hst' : st' = ({ st with sets := st.next } : Stream).release g.epilogue := hrelease u
      have hends {a : Word} {f : LoopFrame} {r : List LoopFrame} (atFlip : Bool) (ha : f.last = a)
          (hf : (f.kloop && f.flips && !atFlip) = false) (h : st' = on.endIter a atFlip (f :: r)) : ends f r a := by
        obtain ⟨hagain, hover⟩ := endIter_ends (st := on) (r := r) ha hf
        refine ⟨fun hi => ?_, fun hi hr => h.trans (hover hi hr)⟩
        obtain ⟨k, e, ⟨hl, hk⟩, hz⟩ := hagain hi
        exact ⟨k, e, hl, hk, h.trans hz⟩
      have hstay {a : Word} (ha : st.status = .running ∧ st.wait = .flip false a) :
          st' = on.endIter a false st.loops :=
        hst'.trans (release_atFlip ({ st with sets := st.next } : Stream) ha.1 ha.2)
      refine ⟨fun h => ?_, fun a ha => ⟨fun hl => ?_, fun f r hl => ⟨fun hne => ?_, fun heq hf => ?_⟩⟩,
        fun a f r ha hl heq => ⟨fun h => ?_, fun hep hp => ?_⟩⟩
      · exact hst'.trans (release_of_not_atFlip ({ st with sets := st.next } : Stream) h)
      · refine (hstay ha).trans (endIter_outside on fun g hg => ?_)
        rw [hl] at hg
        cases hg
      · refine (hstay ha).trans (endIter_outside on fun g hg => ?_)
        rw [hl] at hg
        cases hg
        exact hne
      · exact hends false heq (by simpa using hf) ((hstay ha).trans (congrArg _ hl))
      · exact hends true heq (by simp) (hst'.trans
          ((release_atLoopFlip ({ st with sets := st.next } : Stream) ha.1 ha.2 hl h).trans (congrArg _ hl)))
      · rw [hep] at hst'
        obtain ⟨hgo, hover⟩ := release_epilogue ({ st with sets := st.next } : Stream) ha.1 ha.2 hl heq hp
        refine ⟨fun hi => ?_, fun hi => hst'.trans (hover hi)⟩
        obtain ⟨k, e, ⟨hloop, hkloop⟩, hz⟩ := endIter_again { on with loops := f.clamped :: r } (a := a) (atFlip := true)
          (f := f.clamped) (r := r) heq (by simp) hi
        exact ⟨k, e, hloop, hkloop, hst'.trans ((hgo hi).trans hz)⟩
    all_goals rw [hk']; rfl
  · intro s b c g lo hi hoff hg hhalt hstop k hgath hland hfault hconf t aux
    rw [exec_flipComplete b c hoff, flipComplete_of_landed hg hhalt hstop hgath hland hfault, hconf]
    rfl

end Sys2Proof.Machine
end

section
/-! SUPPORT. Operands and results of CP words (R246, R247). -/

namespace Sys2Proof.Machine

/-- Two changes of a core, one after the other, are one. -/
theorem State.updCore_updCore (s : State) (b : BenchId) (c : CoreId) (f g : Core → Core) :
    (s.updCore b c f).updCore b c g = s.updCore b c fun k => g (f k) := by
  unfold State.updCore State.updGang
  cases hg : s.gang? b with
  | none => simp [hg]
  | some k => simp [State.gang?, State.setGang]

/-! ### A word that no PSEL selects for writes every byte (R47, R247) -/

theorem byteMask_allOnes : byteMask (BitVec.allOnes 4096) = BitVec.allOnes 32768 := by
  have h : BitVec.allOnes 4096 ≠ 0 := fun h => by
    have hbit := congrArg (BitVec.getLsbD · 0) h
    rw [BitVec.getLsbD_allOnes, show (0 : Pred).getLsbD 0 = false from BitVec.getLsbD_zero] at hbit
    exact absurd hbit (by decide)
  unfold byteMask
  rw [if_neg h, if_pos rfl]

theorem blend_allOnes (new old : Tile) : blend (BitVec.allOnes 4096) new old = new := by
  unfold blend
  dsimp only
  rw [byteMask_allOnes, BitVec.and_allOnes, BitVec.not_allOnes, BitVec.and_zero, BitVec.or_zero]

/-! ### Sources (R246) -/

section
variable (s : State) (b : BenchId) (c : CoreId) (n : Nat) (a d : BitVec 6) (z : Nat) (wide : Bool)

/-- A source that is no queue and no ring entry is read at once. -/
theorem readSource_of_plain {t : Tile} (hq : isQueue a = false) (hr : a.toNat < 40 ∨ 52 ≤ a.toNat)
    (ht : readPlain (s.issuing b c 2 n) s a z wide = some t) : readSource (s.issuing b c 2 n) s a z wide = .ok (t, s) := by
  have hw : ringWaits ((s.issuing b c 2 n).core s) a = false := by
    have : decide (40 ≤ a.toNat ∧ a.toNat < 52) = false := by rw [decide_eq_false_iff_not]; omega
    unfold ringWaits
    simp only [this, Bool.false_and]
  unfold readSource
  rw [hq, ht]
  simp only [hw]
  rfl

theorem isQueue_eq_false {a : BitVec 6} (h : a.toNat ≠ 52 ∧ a.toNat ≠ 53) : isQueue a = false := by
  unfold isQueue
  rw [Bool.or_eq_false_iff, beq_eq_false_iff_ne, beq_eq_false_iff_ne]
  constructor <;> rintro rfl
  · exact h.1 rfl
  · exact h.2 rfl

theorem setIfInBounds_eq_set {α : Type} {m : Nat} (v : Vector α m) {i : Nat} (h : i < m) (e : α) :
    v.setIfInBounds i e = v.set i e h := by
  ext j hj
  rw [Vector.getElem_setIfInBounds, Vector.getElem_set]

/-- An entry of a vector by its number, as an entry of its list. -/
theorem getElem!_eq_toList {α : Type} [Inhabited α] {m : Nat} (v : Vector α m) {i : Nat} (h : i < m) (e : α) :
    v[i]! = v.toList[i]?.getD e := by
  rw [getElem!_pos v i h, List.getElem?_eq_getElem (by simpa using h)]
  simp

/-- A ring entry is read once its word has completed (R52). -/
theorem readSource_of_ring {l : Vector (Option Tile) 4} {slot i base : Nat} (ha : a.toNat = base + i) (hi : i < 4)
    (hbase : base = 40 ∧ slot = 2 ∨ base = 44 ∧ slot = 3 ∨ base = 48 ∧ slot = 5)
    (ht : readPlain (s.issuing b c 2 n) s a z wide = l[i]!) :
    readSource (s.issuing b c 2 n) s a z wide = match l.toList[i]?.getD none with
      | some t => if (s.core b c).results.any fun y => y.slot == slot && y.depth == i + 1 then .error (.stay s) else .ok (t, s)
      | none => .error illegalOperand := by
  have hq : isQueue a = false := isQueue_eq_false (by omega)
  have hw : ringWaits (s.core b c) a = (s.core b c).results.any fun y => y.slot == slot && y.depth == i + 1 := by
    have hin : 40 ≤ a.toNat ∧ a.toNat < 52 := by omega
    have hslot : (if a.toNat < 44 then 2 else if a.toNat < 48 then 3 else 5) = slot := by split_ifs <;> omega
    have hdepth : a.toNat % 4 = i := by omega
    unfold ringWaits
    simp only [hin, hslot, hdepth]
    rfl
  unfold readSource
  rw [hq, ht, getElem!_eq_toList l hi none]
  change (match l.toList[i]?.getD none with
    | some t => if ringWaits (s.core b c) a then _ else _
    | none => _) = _
  rw [hw]

/-- A queue is popped. -/
theorem readSource_of_queue (h : a.toNat = 52 ∨ a.toNat = 53) : readSource (s.issuing b c 2 n) s a z wide =
    match popQueue (s.issuing b c 2 n) s (if a = 52 then 0 else 1) with
      | .error r => .error r
      | .ok (t, f, s) => .ok (t, s.updCore b c fun k => { k with xf := k.xf ||| f }) := by
  have hq : isQueue a = true := by
    unfold isQueue
    rw [Bool.or_eq_true, beq_iff_eq, beq_iff_eq, ← BitVec.toNat_inj, ← BitVec.toNat_inj]
    exact h
  unfold readSource
  rw [hq]
  rfl

/-- A change of a core that keeps its streams. -/
theorem State.stream_updCore {f : Core → Core} (hf : ∀ k, (f k).streams = k.streams) (q : CoreId) (u : StreamId) :
    (s.updCore b c f).stream b q u = s.stream b q u := by
  unfold State.stream
  obtain h | ⟨-, h⟩ := s.core_updCore_cases b c f q <;> rw [h]
  rw [hf]

/-- A queue whose two formats differ in a way that no conversion bridges refuses a pop. -/
theorem popQueue_of_refused (x : Ctx) {qi : Fin 4} (h : (x.core s).q[qi].refused = true) :
    popQueue x s qi = .error illegalOperand := by
  unfold popQueue
  simp only [h]
  rfl

theorem popQueue_of_unlanded (x : Ctx) {qi : Fin 4} {e : QEntry} {r : List QEntry} (href : (x.core s).q[qi].refused = false)
    (he : (x.core s).q[qi].entries = e :: r) (hl : e.landed = false) : popQueue x s qi = .error (.stay s) := by
  unfold popQueue
  simp only [href, he, hl]
  rfl

theorem popQueue_of_empty (x : Ctx) {qi : Fin 4} (href : (x.core s).q[qi].refused = false)
    (he : (x.core s).q[qi].entries = []) :
    popQueue x s qi = .error (blocked (x.core s) x.t (x.core s).q[qi].epol 0x09 s) := by
  unfold popQueue
  simp only [href, he]
  rfl

/-- A queue that is not refused gives its oldest entry, once that has landed, converted where its formats differ (R55, R56). -/
theorem popQueue_of_entry {qi : Fin 4} {e : QEntry} {r : List QEntry} (href : (s.core b c).q[qi].refused = false)
    (he : (s.core b c).q[qi].entries = e :: r) (hl : e.landed = true) :
    let q := (s.core b c).q[qi]
    let o := convertTile (Fmt.ofCode q.sfmt) (Fmt.ofCode q.kfmt) (RMode.ofCode q.rm (s.stream b c 2).frm) none e.tile
    let popped := s.updCore b c fun y => { y with q := y.q.set qi { q with entries := r } }
    popQueue (s.issuing b c 2 n) s qi = if q.sfmt = q.kfmt then .ok (e.tile, 0, popped) else .ok (o.1, o.2, popped) := by
  intro q o popped
  have hst : popped.stream b c 2 = s.stream b c 2 :=
    s.stream_updCore b c (f := fun y => { y with q := y.q.set qi { q with entries := r } }) (fun _ => rfl) c 2
  unfold popQueue
  change (if q.refused then _ else match q.entries with | [] => _ | e :: r => _) = _
  rw [href, he]
  simp only [hl]
  change (if q.sfmt = q.kfmt then _ else
    Except.ok ((convertTile _ _ (RMode.ofCode q.rm (popped.stream b c 2).frm) none e.tile).1,
      (convertTile _ _ (RMode.ofCode q.rm (popped.stream b c 2).frm) none e.tile).2, popped)) = _
  rw [hst]
  rfl

end

/-! ### Destinations (R247) -/

/-- The mark of a synchronous write on a face that the phase has not written (R48). -/
theorem Face.mark_of_unwritten {α : Type} {f : Face α} {tag : Tag} (h : f.written = false) (ht : tag.async = false) :
    f.mark tag = { f with hid := f.vis, written := true, tag := tag } := by
  simp [Face.mark, h, ht]

/-- The check passes a synchronous write of a register that the phase has not written, and marks it (R50). -/
theorem checkWrite_of_unwritten (k : Core) (r : BitVec 5) (tag : Tag) (h : (k.v[r.toFin]).written = false)
    (ht : tag.async = false) :
    let face := k.v[r.toFin]
    k.checkWrite (.v r) tag =
      .ok { k with v := k.v.set r.toFin { face with hid := face.vis, written := true, tag := tag } } := by
  have hw : k.isWritten (.v r) = false := h
  unfold Core.checkWrite
  simp only [hw, Bool.false_and, Face.mark_of_unwritten h ht]
  rfl

/-- The check refuses a register that the phase has written, where one of the writers is asynchronous or they are of two
streams (R50). -/
theorem checkWrite_of_written (k : Core) (r : BitVec 5) (tag : Tag) (h : (k.v[r.toFin]).written = true)
    (ht : (k.v[r.toFin]).tag.async = true ∨ (k.v[r.toFin]).tag.stream ≠ tag.stream) :
    let old := (k.v[r.toFin]).tag
    k.checkWrite (.v r) tag = .error
      { cause := 0x08, aux0 := old.pc
        aux1 := BitVec.ofNat 64 (r.toNat * 2 ^ 8 + (if old.async then 4 else 0) + old.stream.toNat) } := by
  intro old
  have hc : (k.isWritten (.v r) && (tag.async || (k.tagOf (.v r)).async || (k.tagOf (.v r)).stream != tag.stream)) = true := by
    have hw : k.isWritten (.v r) = true := h
    rw [hw, Bool.true_and, Bool.or_eq_true, Bool.or_eq_true, bne_iff_ne]
    exact ht.elim (fun h => .inl (.inr h)) .inr
  unfold Core.checkWrite
  exact if_pos hc

/-- A queue that is not refused and has room reserves its youngest place (R55). -/
theorem pushQueue_of_room (x : Ctx) (s : State) {qi : Fin 4} (t : Tile) (href : (x.core s).q[qi].refused = false)
    (hroom : (x.core s).q[qi].entries.length < (x.core s).q[qi].depth) :
    let q := (x.core s).q[qi]
    pushQueue x s qi t = .ok (x.updCore s fun k => { k with
      q := k.q.set qi { q with entries := q.entries ++ [{ landed := false, tile := t, id := k.entries }] }
      entries := k.entries + 1 }) := by
  unfold pushQueue
  simp only [href, Nat.not_le.mpr hroom]
  rfl

theorem pushQueue_of_refused (x : Ctx) (s : State) {qi : Fin 4} (t : Tile) (h : (x.core s).q[qi].refused = true) :
    pushQueue x s qi t = .error illegalOperand := by
  unfold pushQueue
  simp only [h]
  rfl

theorem pushQueue_of_full (x : Ctx) (s : State) {qi : Fin 4} (t : Tile) (href : (x.core s).q[qi].refused = false)
    (hfull : (x.core s).q[qi].depth ≤ (x.core s).q[qi].entries.length) :
    pushQueue x s qi t = .error (blocked (x.core s) x.t (x.core s).q[qi].fpol 0x0A s) := by
  unfold pushQueue
  simp only [href, hfull]
  rfl

section
variable (s : State) (b : BenchId) (c : CoreId) (n : Nat) (d : BitVec 6) (z : Nat) (t : Tile) (f : Lanes)

/-- An unprefixed word merges nothing. -/
theorem merged_of_unprefixed (old : Tile) :
    (if (s.issuing b c 2 n).sel.zero then t &&& byteMask ((s.issuing b c 2 n).sel.mask z)
    else blend ((s.issuing b c 2 n).sel.mask z) t old) = t := by
  change blend (BitVec.allOnes 4096) t old = t
  exact blend_allOnes t old

/-- A result for a v register goes to its hidden face, where the check passes it. -/
theorem deliverTile_of_v {k' : Core} (hd : d.toNat < 32)
    (h : ((s.issuing b c 2 n).core s).checkWrite (.v (((s.issuing b c 2 n).core s).physV (d.setWidth 5)))
      ((s.issuing b c 2 n).tag false) = .ok k') :
    deliverTile (s.issuing b c 2 n) s d z t f = .ring (s.updCore b c fun _ => { k' with results := k'.results ++
      [{ writes := [{ reg := .v ((s.core b c).physV (d.setWidth 5)), data := t, mask := BitVec.allOnes 4096 }],
         flags := f, slot := n }] }) (some t) := by
  unfold deliverTile
  simp only [merged_of_unprefixed]
  rw [if_pos hd]
  rw [h]
  exact congrArg (Res.ring · (some t)) (State.updCore_updCore s b c _ _)

/-- A second write of the phase that the check refuses is a fault. -/
theorem deliverTile_of_double {e : Trap} (hd : d.toNat < 32)
    (h : ((s.issuing b c 2 n).core s).checkWrite (.v (((s.issuing b c 2 n).core s).physV (d.setWidth 5)))
      ((s.issuing b c 2 n).tag false) = .error e) : deliverTile (s.issuing b c 2 n) s d z t f = .trap e := by
  unfold deliverTile
  dsimp only
  rw [if_pos hd, h]

theorem deliverTile_of_w (i : Fin 8) (hd : d.toNat = 32 + i.val) :
    deliverTile (s.issuing b c 2 n) s d z t f = .ring (s.updCore b c fun k => { k with
      w := k.w.set i.val t, results := k.results ++ [{ writes := [], flags := f, slot := n }] }) (some t) := by
  have hi : d.toNat - 32 = i.val := by omega
  unfold deliverTile
  simp only [merged_of_unprefixed]
  rw [if_neg (by omega), if_pos (by omega), hi]
  refine congrArg (Res.ring · (some t)) ((State.updCore_updCore s b c _ _).trans (State.updCore_congr ?_))
  rw [setIfInBounds_eq_set _ i.isLt]
  rfl

theorem deliverTile_of_none (hd : d.toNat = 63) :
    deliverTile (s.issuing b c 2 n) s d z t f = .ring (s.updCore b c fun k => { k with
      results := k.results ++ [{ writes := [], flags := f, slot := n }] }) (some t) := by
  unfold deliverTile
  simp only [merged_of_unprefixed]
  rw [if_neg (by omega), if_neg (by omega), if_pos hd]
  rfl

/-- A result for an output queue goes where the push goes. -/
theorem deliverTile_of_queue (i : Fin 2) (hd : d.toNat = 54 + i.val) :
    deliverTile (s.issuing b c 2 n) s d z t f = match pushQueue (s.issuing b c 2 n) s ⟨2 + i.val, by omega⟩ t with
      | .error r => r
      | .ok s' => .ring (s'.updCore b c fun k => { k with results := k.results ++
          [{ writes := [], flags := f, entry := some (BitVec.ofNat 2 (2 + i.val), (s.core b c).entries), slot := n }] })
          (some t) := by
  have hq : (if d.toNat = 54 then (2 : Fin 4) else 3) = ⟨2 + i.val, by omega⟩ := by
    split_ifs <;> apply Fin.ext <;> simp only <;> omega
  have hn : (if d.toNat = 54 then (2 : BitVec 2) else 3) = BitVec.ofNat 2 (2 + i.val) := by
    split_ifs
    · rw [show i.val = 0 by omega]; rfl
    · rw [show i.val = 1 by omega]; rfl
  unfold deliverTile
  simp only [merged_of_unprefixed]
  rw [if_neg (by omega), if_neg (by omega), if_neg (by omega), hq, hn]
  rfl

end

/-- Settles O24: the sources by the ranges of the specifier, then the destinations, each by its own lemma. -/
theorem operandsAndResults : Obligations.OperandsAndResults := by
  unfold Obligations.OperandsAndResults
  intro s b c n a d z wide t f hb x k v reads ring
  refine ⟨fun h => ?_, fun h h' => ?_, fun h h' => ?_, fun h h' => ?_, fun h h' => ?_, fun h => ?_, fun h => ?_, ?_⟩
  · refine readSource_of_plain s b c n a z wide (isQueue_eq_false (by omega)) (by omega) ?_
    unfold readPlain
    rw [if_pos h]
    rfl
  · refine readSource_of_plain s b c n a z wide (isQueue_eq_false (by omega)) (by omega) ?_
    unfold readPlain
    simp only
    rw [if_neg (by omega), if_pos h', getElem!_eq_toList _ (by omega) 0]
    rfl
  · refine readSource_of_ring s b c n a z wide (base := 40) (by omega) (by omega) (by omega) ?_
    unfold readPlain
    simp only
    rw [if_neg (by omega), if_neg (by omega), if_pos h']
    rfl
  · refine readSource_of_ring s b c n a z wide (base := 44) (by omega) (by omega) (by omega) ?_
    unfold readPlain
    simp only
    rw [if_neg (by omega), if_neg (by omega), if_neg (by omega), if_pos h']
    rfl
  · refine readSource_of_ring s b c n a z wide (base := 48) (by omega) (by omega) (by omega) ?_
    unfold readPlain
    simp only
    rw [if_neg (by omega), if_neg (by omega), if_neg (by omega), if_neg (by omega), if_pos h']
    rfl
  · refine readSource_of_plain s b c n a z wide (isQueue_eq_false (by omega)) (by omega) ?_
    unfold readPlain
    simp only
    rw [if_neg (by omega), if_neg (by omega), if_neg (by omega), if_neg (by omega), if_neg (by omega)]
    have hv : v - 56 < 8 := by omega
    have hw : (k.c[v - 56]!).vis.toNat = (k.c.toList[v - 56]?.map (·.vis.toNat)).getD 0 := by
      rw [getElem!_pos k.c (v - 56) hv, List.getElem?_eq_getElem (by simpa using hv)]
      simp
    exact congrArg (fun w => some (if wide then splat 8 w else splat z w)) hw
  · intro qi q
    have ha : a.toNat = 52 ∨ a.toNat = 53 := h
    have hread := readSource_of_queue s b c n a z wide ha
    rw [show (if a = 52 then (0 : Fin 4) else 1) = qi from rfl] at hread
    refine ⟨fun e r href he hl hf => ?_, fun href => ?_, fun e r href he hl => ?_, fun e r href he hl hf => ?_,
      fun href he => ?_⟩
    · rw [hread, popQueue_of_entry s b c n href he hl, if_pos hf]
      exact congrArg (fun s => Except.ok (e.tile, s))
        ((State.updCore_updCore s b c _ _).trans (State.updCore_congr (by simp; rfl)))
    · rw [hread, popQueue_of_refused s (s.issuing b c 2 n) href]
    · rw [hread, popQueue_of_unlanded s (s.issuing b c 2 n) href he hl]
    · rw [hread, popQueue_of_entry s b c n href he hl, if_neg hf]
      exact congrArg (fun s => Except.ok (_, s)) (State.updCore_updCore s b c _ _)
    · rw [hread, popQueue_of_empty s (s.issuing b c 2 n) href he]
      rfl
  · intro m r face
    refine ⟨fun hm hw => ?_, fun hm hw htag => ?_, fun i hm => ?_, fun hm => ?_, fun i hm => ?_, fun i hm => ?_⟩
    · rw [deliverTile_of_v s b c n d z t f hm (checkWrite_of_unwritten _ _ _ hw rfl)]
      exact congrArg (Res.ring · (some t)) (State.updCore_congr rfl)
    · exact deliverTile_of_double s b c n d z t f hm (checkWrite_of_written _ _ _ hw htag)
    · exact deliverTile_of_w s b c n d z t f i hm
    · exact deliverTile_of_none s b c n d z t f hm
    · intro q href hroom
      have hpush := pushQueue_of_room x s (qi := ⟨2 + i.val, by omega⟩) t href hroom
      rw [deliverTile_of_queue s b c n d z t f i hm, hpush]
      exact congrArg (Res.ring · (some t)) ((State.updCore_updCore s b c _ _).trans (State.updCore_congr rfl))
    · intro q
      rw [deliverTile_of_queue s b c n d z t f i hm]
      refine ⟨fun href => ?_, fun href hfull => ?_⟩
      · have hpush := pushQueue_of_refused x s (qi := ⟨2 + i.val, by omega⟩) t href
        rw [hpush]
      · have hpush := pushQueue_of_full x s (qi := ⟨2 + i.val, by omega⟩) t href hfull
        rw [hpush]
        rfl

end Sys2Proof.Machine
end

section
/-! SUPPORT. Retirement of nodes (R33, R203). -/

namespace Sys2Proof.Machine

/-- A gang that has retired stands on no bench. -/
theorem State.gang?_retire (s : State) (b : BenchId) : (s.retire b).gang? b = none := by
  have hl : (s.leave b).gang? b = none := by
    unfold State.leave State.setGang State.gang?
    simp
  unfold State.retire State.forget State.mapProgs State.vacate
  simp only
  split <;> exact hl

/-- Every core of a gang has retired. -/
theorem all_retired {s : State} {b : BenchId} {g : Gang} (hg : s.gang? b = some g)
    (hall : ∀ c : CoreId, (s.core b c).retired.isSome = true) : (g.cores.toList.all fun k => k.retired.isSome) = true := by
  rw [List.all_eq_true]
  intro k hk
  obtain ⟨n, hn, rfl⟩ := Vector.mem_iff_getElem.mp (Vector.mem_toList_iff.mp hk)
  have h := hall (BitVec.ofFin ⟨n, hn⟩)
  rwa [State.core_of_gang? hg] at h

/-- NODE_RETIRE while the package is not in P3. -/
theorem exec_nodeRetire {s : State} (b : BenchId) (h : s.dev.off = false) :
    exec (.nodeRetire b) s = .next (retireNode s b) := happen_on s (fun s => retireNode s b) h

/-- The result code is the low half of the operand. -/
theorem bits_low (w : Word) : bits w 0 32 = w.toNat % 2 ^ 32 := by
  simp [bits, BitVec.extractLsb'_toNat]

/-- Settles O36: the branches of `retireNode` one by one. -/
theorem nodesRetire : Obligations.NodesRetire := by
  unfold Obligations.NodesRetire
  intro s s1 s2 b g r pa w f nodes hoff hg hall hhalt hr node code fut s0 done again who returns stops
  have hzero : g.cores[0].retired = some r := (congrArg Core.retired (State.core_of_gang? hg 0)).symm.trans hr
  have hretire := exec_nodeRetire b hoff
  unfold retireNode at hretire
  simp only [hg, all_retired hg hall, hhalt, hzero, bits_low] at hretire
  have hyields (hy : r.yields = true) : exec (.nodeRetire b) s = .next
      (again ((vfWrite (joinStart s g.part g.space node s.clocks[b.toFin]) g.space node r.operand).retire b) [node]) := by
    rw [hretire, hy]
    rfl
  have hexits (hy : r.yields = false) : exec (.nodeRetire b) s = .next (if fut = 0 then done (releaseOnly s0 b 3) else
      match futureAccess s0 who fut futureKind with
      | .error (.page stage level) => retirePage (missed s0 who fut false) b fut stage level
      | .error .prot => stops (missed s0 who fut false) { cause := 0x11, addr := fut }
      | .error (.race e) => stops (missed s0 who fut true) { cause := 0x0B, addr := fut, aux0 := e }
      | .ok (pa, _, s1) =>
        match resolveBy s1 b g.space fut pa 1 code with
        | .error t => stops s1 t
        | .ok (s2, nodes) => again (done s2) nodes) := by
    rw [hretire, hy, if_neg (by decide), if_neg (by decide)]
    refine congrArg Host.Outcome.next (ite_congr rfl (fun _ => rfl) fun _ => ?_)
    rcases futureAccess s0 who fut futureKind with (_ | _ | _) | ⟨pa, v, s1⟩
    case ok =>
      dsimp only
      cases resolveBy s1 b g.space fut pa 1 code <;> rfl
    all_goals rfl
  refine ⟨fun s => s.gang?_retire b, hyields, fun hy hf => ?_, fun hy hf ha => ⟨fun hres => ?_, fun hres => ?_⟩,
    fun hy hf ha => ?_, fun e hy hf ha => ?_, fun stage level hy hf ha => ?_⟩
  · rw [hexits hy, if_pos hf]
  · rw [hexits hy, if_neg hf, ha]
    simp only [hres]
  · rw [hexits hy, if_neg hf, ha]
    simp only [hres]
  · rw [hexits hy, if_neg hf, ha]
  · rw [hexits hy, if_neg hf, ha]
  · rw [hexits hy, if_neg hf, ha]
    rfl

end Sys2Proof.Machine
end

section
/-! SUPPORT. What the accesses and the bookkeeping of the dispatcher leave as it is (R90, R123, R125). -/

namespace Sys2Proof.Machine

/-! ### What an access leaves of the partitions -/

/-- The partitions have kept everything but two counters: hits on foreign lines and lost vectors (R90, R332). -/
def Counted (s s' : State) : Prop :=
  ∀ p : PartId, ∃ h l, s'.part p = { s.part p with llcfhit := h, spillLost := l }

theorem Counted.of_parts {s s' : State} (h : s'.parts = s.parts) : Counted s s' := fun p =>
  ⟨(s.part p).llcfhit, (s.part p).spillLost, by unfold State.part; rw [h]⟩

theorem Counted.refl (s : State) : Counted s s := .of_parts rfl

theorem Counted.trans {s s' s'' : State} (h : Counted s s') (h' : Counted s' s'') : Counted s s'' := fun p => by
  obtain ⟨a, l, e⟩ := h p
  obtain ⟨a', l', e'⟩ := h' p
  exact ⟨a', l', by rw [e', e]⟩

/-- A change of one partition's counters. -/
theorem Counted.of_set {s s' : State} (p : PartId) {h : Vector Word 4} {l : Word}
    (hs : s'.parts = s.parts.set p.toFin { s.part p with llcfhit := h, spillLost := l }) : Counted s s' := fun q => by
  unfold State.part
  rw [hs]
  by_cases hq : p.toNat = q.toNat
  · obtain rfl : p = q := BitVec.eq_of_toNat_eq hq
    exact ⟨h, l, by simp⟩
  · exact ⟨(s.part q).llcfhit, (s.part q).spillLost, by simp [hq]⟩

theorem Counted.of_write (s : State) (a n v : Nat) : Counted s { s with mem := Memory.write s.mem a n v } := .of_parts rfl

theorem foldl_counted {α : Type} (f : State → α → State) (hf : ∀ s a, Counted s (f s a)) (l : List α) (s : State) :
    Counted s (l.foldl f s) := by
  induction l generalizing s with
  | nil => exact .refl s
  | cons a l ih => exact .trans (hf s a) (ih _)

theorem countLost_counted (s : State) (p : PartId) : Counted s (countLost s p) := .of_set p rfl

theorem watch_parts (s : State) (k : AccKind) (pa n : Nat) : (watch s k pa n).parts = s.parts := by
  unfold watch
  split
  · obtain ⟨d, h⟩ := fireTrigger_state s 3
    rw [h]
  · rfl

theorem storeCode_parts (s : State) (r : FmtRegion) (pa : Nat) (c : BitVec 6) : (storeCode s r pa c).parts = s.parts :=
  watch_parts s .update (groupOf r pa).1 3

theorem storageLook_parts (s : State) (pa n : Nat) : (storageLook s pa n).parts = s.parts := by
  unfold storageLook
  split
  · rfl
  · split
    · exact watch_parts _ _ _ _
    · rfl

theorem writeBackLine_counted (s : State) (l : LlcLine) : Counted s (writeBackLine s l) := by
  unfold writeBackLine
  split
  · split
    · exact foldl_counted _ (fun s i => by
        split
        exacts [.of_parts (storeCode_parts _ _ _ _), .refl s]) _ _
    · exact .refl s
  · exact .refl s

theorem llcHit_counted (s : State) (p : PartId) (line : Nat) : Counted s (llcHit s p line) := by
  unfold llcHit
  split
  · exact .refl s
  · split
    · exact .refl s
    · exact .of_set p rfl

theorem spillAccess_counted (s : State) (p : PartId) (k : AccKind) (line : Nat) : Counted s (spillAccess s p k line) :=
  ((llcHit_counted _ _ _).trans (llcHit_counted _ _ _)).trans (.of_parts (watch_parts _ _ _ _))

theorem spill_counted (s : State) (p : PartId) (line : Nat) (c : Clock) : Counted s (spill s p line c) := by
  unfold spill
  dsimp only
  split
  · exact countLost_counted s p
  · refine Counted.trans ?_ ((spillAccess_counted _ p .update line).trans (.of_write _ _ 256 _))
    split
    · exact countLost_counted s p
    · exact .refl s

theorem unspill_counted (s : State) (p : PartId) (line : Nat) : Counted s (unspill s p line) :=
  (spillAccess_counted s p .write line).trans (.of_write _ _ 256 _)

theorem spillLook_counted (s : State) (line : Nat) (p : PartId) : Counted s (spillLook s line p) := by
  unfold spillLook
  split
  · exact .refl s
  · exact spillAccess_counted s p .read line

theorem carriedLook_counted (s : State) (p : PartId) (line : Nat) : Counted s (carriedLook s p line) := by
  unfold carriedLook
  split
  · exact .refl s
  · exact spillLook_counted s line p

theorem llcEvict_counted (s : State) (l : LlcLine) : Counted s (llcEvict s l) :=
  (writeBackLine_counted s l).trans ((foldl_counted (fun s (y : PartId × Clock) => spill s y.1 l.line y.2)
    (fun _ _ => spill_counted _ _ _ _) _ _).trans (.of_parts rfl))

theorem llcTouch_counted (s : State) (p : Option PartId) (line : Nat) : Counted s (llcTouch s p line) := by
  unfold llcTouch
  split
  · exact .refl s
  · split
    · exact llcHit_counted _ _ _
    · dsimp only
      split
      · exact .refl s
      · exact (((foldl_counted llcEvict llcEvict_counted _ s).trans
          (foldl_counted (spillLook · line) (fun _ _ => spillLook_counted _ _ _) _ _)).trans
          (foldl_counted (fun s (y : PartId × Clock) => unspill s y.1 line) (fun _ _ => unspill_counted _ _ _) _ _)).trans
          (.of_parts (storageLook_parts _ _ _))

theorem llcServe_counted (s : State) (p : Option PartId) (pa n : Nat) : Counted s (llcServe s p pa n) := by
  unfold llcServe
  dsimp only
  split
  · exact llcTouch_counted _ _ _
  · exact (llcTouch_counted _ _ _).trans (.of_parts (storageLook_parts _ _ _))

theorem atHome_counted (s : State) (p : Option PartId) (k : AccKind) (pa n : Nat) : Counted s (atHome s p k pa n) := by
  refine Counted.trans ?_ (.of_parts (watch_parts _ k pa n))
  split
  · exact llcTouch_counted _ _ _
  · exact llcServe_counted _ _ _ _

theorem tableRead_counted (p : Option PartId) (s : State) (pa : Nat) : Counted s (tableRead p s pa).2 := by
  unfold tableRead
  split
  · exact atHome_counted _ _ _ _ _
  · exact .refl s

/-- A walk whose table reads count counts, whether or not it finds a leaf. -/
theorem walk_counted (rd : State → Nat → Walked Word) (hrd : ∀ s a, Counted s (rd s a).2) (stage va : Nat)
    (ls : List (Nat × Nat × Nat)) (s : State) (table : Nat) : Counted s (walk rd stage va s table ls).2 := by
  induction ls generalizing s table with
  | nil => exact .refl s
  | cons x ls ih =>
    obtain ⟨lv, lo, n⟩ := x
    unfold walk
    have h := hrd s (table + 8 * (va / 2 ^ lo % 2 ^ n))
    split
    · next hr => rw [hr] at h; exact h
    · next hr =>
      rw [hr] at h
      refine h.trans ?_
      dsimp only
      split
      · exact .refl _
      · split
        · split <;> exact .refl _
        · split
          · exact .refl _
          · exact ih _ _

theorem stage2_counted (s : State) (w : Who) (ipa : Nat) : Counted s (stage2 s w ipa).2 := by
  unfold stage2
  split
  · exact walk_counted _ (tableRead_counted _) _ _ _ _ _
  · exact .refl s

theorem guestTableRead_counted (w : Who) (s : State) (a : Nat) : Counted s (guestTableRead w s a).2 := by
  unfold guestTableRead
  have h := stage2_counted s w a
  split
  · next hr => rw [hr] at h; exact h
  · next hr =>
    rw [hr] at h
    refine h.trans ?_
    split
    · exact tableRead_counted _ _ _
    · exact .refl _

theorem twoStage_counted (s : State) (w : Who) (root1 : Word) (va : Nat) : Counted s (twoStage s w root1 va).2 := by
  unfold twoStage
  have h := walk_counted _ (guestTableRead_counted w) 0 va walkLevels s root1.toNat
  split
  · next hr => rw [hr] at h; exact h
  · next l1 s1 hr =>
    rw [hr] at h
    have h2 := stage2_counted s1 w l1.pa
    split
    · next hr2 => rw [hr2] at h2; exact h.trans h2
    · next hr2 => rw [hr2] at h2; exact h.trans h2

theorem translation_counted (s : State) (w : Who) (va : Word) : Counted s (translation s w va).2 := by
  unfold translation
  split
  · split <;> exact .refl s
  · next r _ =>
    split
    · exact .refl s
    · split
      · exact .refl s
      · split
        · exact .refl s
        · have h := twoStage_counted s w r va.toNat
          split
          · next hr => rw [hr] at h; exact h
          · next hr => rw [hr] at h; exact h.trans (.of_parts rfl)

theorem raceCheck_counted {s s' : State} {p : PartId} {b : Option BenchId} {pa : Nat} {wr at' : Bool}
    (h : raceCheck s p b pa wr at' = .ok s') : Counted s s' := by
  unfold raceCheck at h
  extract_lets pt sa old sh marks skip slot wbad rbad at h
  split at h
  · cases h
  · split at h
    · cases h
    · split at h
      · cases h
      · split at h
        · cases h
          exact atHome_counted s (some p) .read sa 32
        · extract_lets at h
          have hu := atHome_counted s (some p) .update sa 32
          split at h
          · cases h; exact hu.trans (.of_parts rfl)
          · split at h <;> cases h <;> exact hu.trans (.of_parts rfl)

theorem translate_counted {s s' : State} {w : Who} {va : Word} {l : Leaf} (h : translate s w va = .ok (l, s')) :
    Counted s s' := by
  have ht := translation_counted s w va
  unfold translate at h
  split at h
  · cases h
  · next hr => cases h; rw [hr] at ht; exact ht

theorem access_counted {s s' : State} {w : Who} {va : Word} {k : AccKind} {at' : Bool} {pa : Nat}
    (h : access s w va k at' = .ok (pa, s')) : Counted s s' := by
  unfold access at h
  split at h
  · cases h
  · next ht =>
    have hp := translate_counted ht
    extract_lets okPerm at h
    split at h
    · cases h
    · split at h
      · extract_lets pt at h
        split at h
        · split at h
          · cases h
          · split at h
            · cases h; exact hp
            · split at h
              · cases h
              · next hr => cases h; exact hp.trans (raceCheck_counted hr)
        · cases h; exact hp
      · cases h; exact hp

theorem missed_counted (s : State) (w : Who) (va : Word) (raced : Bool) : Counted s (missed s w va raced) := by
  have h := translation_counted s w va
  unfold missed
  split
  · next hr _ =>
    rw [hr] at h
    split
    · exact h.trans (atHome_counted _ _ _ _ _)
    · exact h
  · next hr _ => rw [hr] at h; exact h

theorem homeAccess_counted {s s' : State} {w : Who} {va : Word} {n : Nat} {k : AccKind} {at' : Bool} {pa : Nat}
    (h : homeAccess s w va n k at' = .ok (pa, s')) : Counted s s' := by
  unfold homeAccess at h
  split at h
  · cases h
  · next ha => cases h; exact (access_counted ha).trans (atHome_counted _ _ _ _ _)

/-! ### What the dispatcher's bookkeeping leaves as it is -/

/-- The benches, their clocks, the functions, the time and every window are as they were. -/
structure Aside (s s' : State) : Prop where
  benches : s'.benches = s.benches
  clocks : s'.clocks = s.clocks
  vfs : s'.vfs = s.vfs
  ticks : s'.ticks = s.ticks
  windows : ∀ p : PartId, (s'.part p).windows = (s.part p).windows

theorem Aside.refl (s : State) : Aside s s := ⟨rfl, rfl, rfl, rfl, fun _ => rfl⟩

theorem Aside.trans {s s' s'' : State} (h : Aside s s') (h' : Aside s' s'') : Aside s s'' :=
  ⟨h'.benches.trans h.benches, h'.clocks.trans h.clocks, h'.vfs.trans h.vfs, h'.ticks.trans h.ticks,
    fun p => (h'.windows p).trans (h.windows p)⟩

/-- What happens on the way to a home slice is aside. -/
theorem Aside.of_passed {s s' : State} (h : Passed s s') (hc : Counted s s') : Aside s s' := by
  have hw (p : PartId) : (s'.part p).windows = (s.part p).windows := by
    obtain ⟨_, _, e⟩ := hc p
    rw [e]
  obtain ⟨m, l, p, d, t, a, rfl, -⟩ := h
  exact ⟨rfl, rfl, rfl, rfl, hw⟩

theorem Aside.gang? {s s' : State} (h : Aside s s') (b : BenchId) : s'.gang? b = s.gang? b := by
  unfold State.gang?
  rw [h.benches]

theorem Aside.vf {s s' : State} (h : Aside s s') (v : VfId) : s'.vf v = s.vf v := by
  unfold State.vf
  rw [h.vfs]

theorem Aside.entrySpace {s s' : State} (h : Aside s s') (e : PoolEntry) : s'.entrySpace e = s.entrySpace e := by
  unfold State.entrySpace State.spaceOf State.space
  rw [h.vf]

theorem foldl_aside {α : Type} (f : State → α → State) (hf : ∀ s a, Aside s (f s a)) (l : List α) (s : State) :
    Aside s (l.foldl f s) := by
  induction l generalizing s with
  | nil => exact .refl s
  | cons a l ih => exact .trans (hf s a) (ih _)

/-- A change of a partition that keeps its windows. -/
theorem updPart_aside (s : State) (p : PartId) (f : Part → Part) (hf : (f (s.part p)).windows = (s.part p).windows) :
    Aside s (s.updPart p f) := by
  refine ⟨rfl, rfl, rfl, rfl, fun q => ?_⟩
  by_cases hq : p.toNat = q.toNat
  · obtain rfl : p = q := BitVec.eq_of_toNat_eq hq
    simpa [State.updPart, State.part] using hf
  · simp [State.updPart, State.part, hq]

theorem atHome_aside (s : State) (p : Option PartId) (k : AccKind) (pa n : Nat) : Aside s (atHome s p k pa n) :=
  .of_passed (atHome_served _ _ _ _ _).passed (atHome_counted _ _ _ _ _)

theorem carriedLook_aside (s : State) (p : PartId) (line : Nat) : Aside s (carriedLook s p line) :=
  .of_passed (carriedLook_served _ _ _).passed (carriedLook_counted _ _ _)

theorem storeCode_aside (s : State) (r : FmtRegion) (pa : Nat) (c : BitVec 6) : Aside s (storeCode s r pa c) :=
  .of_passed (storeCode_served _ _ _ _).passed (.of_parts (storeCode_parts _ _ _ _))

theorem quads_aside (s : State) (q : Vector Quad 4) : Aside s { s with quads := q } := ⟨rfl, rfl, rfl, rfl, fun _ => rfl⟩

theorem physSet_aside (s : State) (pa : Nat) (v : Byte) : Aside s (physSet s pa v) := by
  unfold physSet
  split
  · exact ⟨rfl, rfl, rfl, rfl, fun _ => rfl⟩
  · split
    · split
      · exact .refl s
      · dsimp only
        split
        · split <;> exact ⟨rfl, rfl, rfl, rfl, fun _ => rfl⟩
        · exact (quads_aside s _).trans (storeCode_aside _ _ _ _)
    · exact .refl s

theorem physWrite_aside (s : State) (pa n v : Nat) : Aside s (physWrite s pa n v) := by
  induction n generalizing s pa v with
  | zero => exact .refl s
  | succ n ih => exact (physSet_aside s pa _).trans (ih _ _ _)

theorem vfMissed_aside (s : State) (sp : Space) (a : Nat) : Aside s (vfMissed s sp a) :=
  .of_passed (missed_state _ _ _ _) (missed_counted _ _ _ _)

theorem homeAccess_aside {s s' : State} {w : Who} {va : Word} {n : Nat} {k : AccKind} {at' : Bool} {pa : Nat}
    (h : homeAccess s w va n k at' = .ok (pa, s')) : Aside s s' := .of_passed (homeAccess_passed h) (homeAccess_counted h)

theorem vfTouch_aside (s : State) (sp : Space) (a n : Nat) (k : AccKind) : Aside s (vfTouch s sp a n k) := by
  unfold vfTouch
  split
  · next h => exact homeAccess_aside h
  · exact vfMissed_aside _ _ _

theorem vfWrite_aside (s : State) (sp : Space) (a : Nat) (x : Word) : Aside s (vfWrite s sp a x) := by
  unfold vfWrite
  split
  · next h => exact (homeAccess_aside h).trans (physWrite_aside _ _ _ _)
  · exact vfMissed_aside _ _ _

theorem updRecord_aside (s : State) (sp : Space) (node i : Nat) (f : Word → Word) : Aside s (updRecord s sp node i f) := by
  unfold updRecord
  split
  · next h => exact (homeAccess_aside h).trans (physWrite_aside _ _ _ _)
  · exact vfMissed_aside _ _ _

theorem wakeQuad_aside (s : State) (b : BenchId) : Aside s (wakeQuad s b) := quads_aside _ _

theorem askBarrier_aside (s : State) (p : PartId) (own : BitVec 24) : Aside s (askBarrier s p own) := by
  unfold askBarrier
  split
  · exact updPart_aside s p _ rfl
  · exact .refl s

theorem homedLook_aside (s : State) (sp : Space) (d : List Word) : Aside s (homedLook s sp d) :=
  foldl_aside _ (fun _ _ => vfMissed_aside _ _ _) _ _

theorem setsTouch_aside (s : State) (sp : Space) (d : List Word) : Aside s (setsTouch s sp d) := by
  unfold setsTouch
  dsimp only
  split
  · exact .refl s
  · exact foldl_aside _ (fun _ _ => vfTouch_aside _ _ _ _ _) _ _

theorem enterPool_aside (s : State) (p : PartId) (v : VfId) (node num : Nat) (own : Option Word) :
    Aside s (enterPool s p v node num own) := by
  unfold enterPool
  exact updPart_aside s p _ rfl

theorem spoilAppend_aside (s : State) (p : PartId) (v : VfId) (node : Nat) : Aside s (spoilAppend s p v node) := by
  unfold spoilAppend devWrite
  exact ((atHome_aside _ _ _ _ _).trans (physWrite_aside _ _ _ _)).trans (updPart_aside _ p _ rfl)

/-- Nodes that enter the pool or the spoil queue: each step of `drainSpoil` is aside (R123). -/
theorem drainSpoil_aside (p : PartId) (n : Nat) (s : State) : Aside s (drainSpoil p n s) := by
  induction n generalizing s with
  | zero => exact .refl s
  | succ n ih =>
    unfold drainSpoil
    dsimp only
    split
    · exact (((atHome_aside _ _ _ _ _).trans (vfTouch_aside _ _ _ _ _)).trans (enterPool_aside _ _ _ _ _ _)).trans
        ((updPart_aside _ p _ rfl).trans (ih _))
    · split
      · exact ((vfTouch_aside _ _ _ _ _).trans (spoilAppend_aside _ _ _ _)).trans ((updPart_aside _ p _ rfl).trans (ih _))
      · exact .refl s

end Sys2Proof.Machine
end

section
/-! SUPPORT. Nodes placed: the order of dispatch, node start, resumption, migration (R125, R128 to R130, R147). -/

namespace Sys2Proof.Machine

/-! ### The order of candidates and of benches (R125, R130) -/

/-- The maximum of a list and a bound below it is the member that no other exceeds. -/
theorem foldl_max_eq {l : List Nat} {a m : Nat} (ha : a ≤ m) (hl : ∀ n ∈ l, n ≤ m) (hm : a = m ∨ m ∈ l) :
    l.foldl max a = m := by
  induction l generalizing a with
  | nil => exact hm.resolve_right List.not_mem_nil
  | cons x l ih =>
    obtain ⟨hx, hl⟩ := List.forall_mem_cons.mp hl
    refine ih (Nat.max_le.mpr ⟨ha, hx⟩) hl ?_
    rw [List.mem_cons] at hm
    obtain rfl | rfl | h := hm
    · exact .inl (Nat.max_eq_left hx)
    · exact .inl (Nat.max_eq_right ha)
    · exact .inr h

/-- Benches in the order of their indices. -/
def Ascending (l : List BenchId) : Prop := l.Pairwise fun a b => a.toNat < b.toNat

theorem partBenches_ascending (s : State) (p : PartId) : Ascending (partBenches s p) := by
  refine List.Pairwise.filter _ (List.pairwise_map.mpr ?_)
  refine List.Pairwise.imp_of_mem (fun ha hb h => ?_) (List.pairwise_lt_range (n := 64))
  rw [List.mem_range] at ha hb
  rwa [BitVec.toNat_ofNat, BitVec.toNat_ofNat, Nat.mod_eq_of_lt ha, Nat.mod_eq_of_lt hb]

/-- In an ascending list the lowest bench that has a property is the one found. -/
theorem Ascending.find?_eq {l : List BenchId} (hl : Ascending l) {q : BenchId → Bool} {b : BenchId} (hb : b ∈ l)
    (hq : q b = true) (hmin : ∀ n ∈ l, q n = true → b.toNat ≤ n.toNat) : l.find? q = some b := by
  induction l with
  | nil => cases hb
  | cons a l ih =>
    obtain ⟨ha, hl⟩ := List.pairwise_cons.mp hl
    obtain ⟨hmina, hmin⟩ := List.forall_mem_cons.mp hmin
    obtain rfl | hb := List.mem_cons.mp hb
    · exact List.find?_cons_of_pos hq
    · have hqa : ¬ q a = true := fun h => absurd (hmina h) (Nat.not_le.mpr (ha b hb))
      rw [List.find?_cons_of_neg hqa]
      exact ih hl hb hmin

theorem leaveTargets_sublist (l m : List BenchId) : (leaveTargets l m).Sublist l := by
  induction m generalizing l with
  | nil => exact List.Sublist.refl l
  | cons b m ih =>
    unfold leaveTargets
    split
    · exact (ih _).trans List.filter_sublist
    · exact ih l

theorem vacantBenches_ascending (s : State) (p : PartId) : Ascending (vacantBenches s p) :=
  (partBenches_ascending s p).filter _

theorem freeBenches_ascending (s : State) (p : PartId) : Ascending (freeBenches s p) :=
  (vacantBenches_ascending s p).sublist (leaveTargets_sublist _ _)

theorem runsOn_iff (e : PoolEntry) (b : BenchId) : e.runsOn b = true ↔ e.ext = false ∨ isLean b = false := by
  simp [PoolEntry.runsOn]

/-- The bench chosen is the lowest of those, lean where there is a lean one, whose quadrants home most (R125). -/
theorem chooseBench_eq {s : State} {e : PoolEntry} {d : List Word} {free : List BenchId} {b : BenchId} (hf : Ascending free)
    (hb : b ∈ free ∧ e.runsOn b = true) (hlean : (∃ n ∈ free, e.runsOn n = true ∧ isLean n = true) → isLean b = true)
    (hbest : ∀ n ∈ free, e.runsOn n = true → isLean n = isLean b →
      homedBytes s (s.entrySpace e) d (n.extractLsb' 4 2) < homedBytes s (s.entrySpace e) d (b.extractLsb' 4 2) ∨
        homedBytes s (s.entrySpace e) d (n.extractLsb' 4 2) = homedBytes s (s.entrySpace e) d (b.extractLsb' 4 2) ∧
          b.toNat ≤ n.toNat) : chooseBench s e d free = some b := by
  unfold chooseBench
  extract_lets able lean cand homed best
  have hable (n : BenchId) : n ∈ able ↔ n ∈ free ∧ e.runsOn n = true := List.mem_filter
  have hlean' (n : BenchId) : n ∈ lean ↔ n ∈ able ∧ isLean n = true := List.mem_filter
  have hcand (n : BenchId) : n ∈ cand ↔ n ∈ able ∧ isLean n = isLean b := by
    by_cases h : isLean b = true
    · have hne : lean.isEmpty = false :=
        List.isEmpty_eq_false_iff_exists_mem.mpr ⟨b, (hlean' b).mpr ⟨(hable b).mpr hb, h⟩⟩
      rw [show cand = lean from if_neg (by simp [hne]), hlean', h]
    · have hno : lean.isEmpty = true := by
        rw [List.isEmpty_iff, List.eq_nil_iff_forall_not_mem]
        intro n hn
        obtain ⟨ha, hn⟩ := (hlean' n).mp hn
        exact h (hlean ⟨n, ((hable n).mp ha).1, ((hable n).mp ha).2, hn⟩)
      rw [show cand = able from if_pos hno, Bool.not_eq_true] at *
      refine ⟨fun hn => ⟨hn, ?_⟩, And.left⟩
      rw [h, ← Bool.not_eq_true]
      intro hl
      have := (hlean' n).mpr ⟨hn, hl⟩
      rw [List.isEmpty_iff.mp hno] at this
      cases this
  have hasc : Ascending cand := by
    have hab : Ascending able := hf.filter _
    change Ascending (if lean.isEmpty then able else lean)
    split
    · exact hab
    · exact hab.filter _
  have hmem : b ∈ cand := (hcand b).mpr ⟨(hable b).mpr hb, rfl⟩
  have hle (n : BenchId) (hn : n ∈ cand) : homed n < homed b ∨ homed n = homed b ∧ b.toNat ≤ n.toNat := by
    obtain ⟨hn, hl⟩ := (hcand n).mp hn
    obtain ⟨hn, hr⟩ := (hable n).mp hn
    exact hbest n hn hr hl
  have hmax : best = homed b := by
    refine foldl_max_eq (Nat.zero_le _) (fun m hm => ?_) (.inr (List.mem_map.mpr ⟨b, hmem, rfl⟩))
    obtain ⟨n, hn, rfl⟩ := List.mem_map.mp hm
    exact (hle n hn).elim Nat.le_of_lt fun h => h.1.le
  refine hasc.find?_eq hmem (by simp [hmax]) fun n hn h => ?_
  rw [hmax, beq_iff_eq] at h
  exact ((hle n hn).resolve_left (by omega)).2

/-- Is a pool entry after another in the order of dispatch: a lower effective priority, or a later ready number (R125)? -/
def PoolEntry.After (y e : PoolEntry) : Prop := y.prio < e.prio ∨ y.prio = e.prio ∧ e.ready < y.ready

theorem betterEntry_left {y e : PoolEntry} (h : y = e ∨ y.After e) : betterEntry e y = e := by
  unfold betterEntry
  obtain rfl | h | ⟨hp, hr⟩ := h
  · split <;> rfl
  · exact if_pos (.inl h)
  · exact if_pos (.inr ⟨hp.symm, hr.le⟩)

theorem betterEntry_right {y e : PoolEntry} (h : y = e ∨ y.After e) : betterEntry y e = e := by
  unfold betterEntry
  obtain rfl | h | ⟨hp, hr⟩ := h
  · split <;> rfl
  · exact if_neg (by omega)
  · exact if_neg (by omega)

/-- Of candidates the best is the one that all others come after. -/
theorem foldl_betterEntry_eq {l : List PoolEntry} {a e : PoolEntry} (he : e = a ∨ e ∈ l) (ha : a = e ∨ a.After e)
    (hl : ∀ y ∈ l, y = e ∨ y.After e) : l.foldl betterEntry a = e := by
  induction l generalizing a with
  | nil => exact (he.resolve_right List.not_mem_nil).symm
  | cons y l ih =>
    obtain ⟨hy, hl⟩ := List.forall_mem_cons.mp hl
    rw [List.mem_cons] at he
    have hstep : betterEntry a y = a ∨ betterEntry a y = y := by
      unfold betterEntry
      split <;> simp
    refine ih ?_ (by obtain h | h := hstep <;> rw [h] <;> assumption) hl
    obtain rfl | rfl | h := he
    · exact .inl (betterEntry_left hy).symm
    · exact .inl (betterEntry_right ha).symm
    · exact .inr h

/-! ### Extended benches for gangs that move (R130) -/

/-- The head of an ascending list is the lowest bench in it. -/
theorem Ascending.head?_eq {l : List BenchId} (hl : Ascending l) {n : BenchId} (hn : n ∈ l)
    (hmin : ∀ m ∈ l, n.toNat ≤ m.toNat) : l.head? = some n := by
  have h := hl.find?_eq (q := fun _ => true) hn rfl fun m hm _ => hmin m hm
  cases l with
  | nil => cases hn
  | cons a l => simpa using h

/-- A gang takes the lowest vacant extended bench of its own quadrant, or else of all. -/
theorem migrateTarget_eq {l : List BenchId} (hl : Ascending l) {b n : BenchId} (hn : n ∈ l ∧ isLean n = false)
    (hbest : ∀ m ∈ l, isLean m = false →
      (m.extractLsb' 4 2 = b.extractLsb' 4 2 → n.extractLsb' 4 2 = b.extractLsb' 4 2) ∧
      ((m.extractLsb' 4 2 = b.extractLsb' 4 2 ↔ n.extractLsb' 4 2 = b.extractLsb' 4 2) → n.toNat ≤ m.toNat)) :
    migrateTarget l b = some n := by
  have hext (m : BenchId) : m ∈ l.filter (fun n => !isLean n) ↔ m ∈ l ∧ isLean m = false := by simp [List.mem_filter]
  have hasc : Ascending (l.filter fun n => !isLean n) := hl.filter _
  have hmem := (hext n).mpr hn
  unfold migrateTarget
  dsimp only
  by_cases hq : n.extractLsb' 4 2 = b.extractLsb' 4 2
  · rw [hasc.find?_eq hmem (by simpa using hq) fun m hm hmq => ?_, Option.some_or]
    obtain ⟨hm, hml⟩ := (hext m).mp hm
    have hmq : m.extractLsb' 4 2 = b.extractLsb' 4 2 := by simpa using hmq
    exact (hbest m hm hml).2 (by simp [hmq, hq])
  · have hother (m : BenchId) (hm : m ∈ l.filter fun n => !isLean n) : m.extractLsb' 4 2 ≠ b.extractLsb' 4 2 := fun h => by
      obtain ⟨hm, hml⟩ := (hext m).mp hm
      exact hq ((hbest m hm hml).1 h)
    rw [List.find?_eq_none.mpr fun m hm => by simpa using hother m hm, Option.none_or]
    refine hasc.head?_eq hmem fun m hm => ?_
    obtain ⟨hml, hme⟩ := (hext m).mp hm
    exact (hbest m hml hme).2 ⟨fun h => absurd h (hother m hm), fun h => absurd h hq⟩

theorem migrateTarget_eq_none {l : List BenchId} {b : BenchId} (h : ∀ n ∈ l, isLean n = true) :
    migrateTarget l b = none := by
  have hnil : l.filter (fun n => !isLean n) = [] := List.filter_eq_nil_iff.mpr fun n hn => by simp [h n hn]
  unfold migrateTarget
  rw [hnil]
  rfl

theorem mem_vacantBenches_iff (s : State) (p : PartId) (n : BenchId) : n ∈ vacantBenches s p ↔
    n ∈ partBenches s p ∧ s.gang? n = none ∧ (s.quads[(n.extractLsb' 4 2 : QuadId).toFin]).pwr ≠ 2 := by
  simp [vacantBenches, List.mem_filter]

/-- The own clock entry of the bench that a gang moves to is past the three entries (Table 14.7). -/
theorem movedClock_eq (own : BitVec 24) (old : Clock) (new from' : BenchId) : movedClock own old new from' =
    clockInc (BitVec.ofNat 24 (max (max own.toNat old[new.toFin].toNat) old[from'.toFin].toNat)) := by
  have htop (x y : BitVec 24) : (if x.toNat < y.toNat then y else x).toNat = max x.toNat y.toNat := by
    rw [apply_ite BitVec.toNat]
    split <;> omega
  unfold movedClock
  refine congrArg clockInc (BitVec.eq_of_toNat_eq ?_)
  rw [htop, htop, BitVec.toNat_ofNat, Nat.mod_eq_of_lt]
  have := own.isLt
  have := old[new.toFin].isLt
  have := old[from'.toFin].isLt
  omega

theorem exec_gangMigrate {s : State} (b : BenchId) (h : s.dev.off = false) :
    exec (.gangMigrate b) s = .next (migrateGang s b) :=
  happen_on s (fun s => migrateGang s b) h

/-- Does a gang that has stopped for a move, and whose operations have completed, wait to move? -/
theorem waitsToMove_iff {s : State} {b : BenchId} {g : Gang} {c : CoreId} {slot : Nat} (hg : s.gang? b = some g)
    (hs : g.stop = .migrate c slot) (hh : g.halted = false) (hl : g.leaving = false)
    (hd : ∀ q : CoreId, (s.core b q).results = [] ∧ (s.core b q).longs = [] ∧ (s.core b q).copies = []) (s' : State) :
    waitsToMove s' g = true ↔ (s'.part g.part).halt = .none := by
  have hall : g.cores.toList.all Core.drained = true := by
    rw [List.all_eq_true]
    intro k hk
    obtain ⟨n, hn, rfl⟩ := Vector.mem_iff_getElem.mp (Vector.mem_toList_iff.mp hk)
    obtain ⟨h1, h2, h3⟩ := hd (BitVec.ofFin ⟨n, hn⟩)
    rw [State.core_of_gang? hg] at h1 h2 h3
    unfold Core.drained
    rw [show (g.cores[n]).results = [] from h1, show (g.cores[n]).longs = [] from h2, show (g.cores[n]).copies = [] from h3]
    rfl
  unfold waitsToMove
  rw [hs, hh, hl, hall]
  simp

/-- What a move makes of the benches and of the clocks (R129, Table 14.7). -/
theorem moveGang_places {s : State} {b n : BenchId} (g : Gang) (hne : n ≠ b) :
    (moveGang s b n g).gang? b = none ∧
    (moveGang s b n g).gang? n =
      some { g with stop := .none, former := b :: g.former, cores := g.cores.map fun k => { k with l1 := [] } } ∧
    (moveGang s b n g).clocks = s.clocks.set n.toFin (s.clocks[b.toFin].set n.toFin
      (movedClock (s.clocks[n.toFin])[n.toFin] s.clocks[b.toFin] n b)) := by
  unfold moveGang
  extract_lets s1 old own s2 g' s3 s4
  have h : Aside (rebindBench s3 g.part g.run b n) (updRecord s4 g.space g.record.toNat 2 fun d => setBits d 36 1 1) :=
    (askBarrier_aside _ _ _).trans (updRecord_aside _ _ _ _ _)
  have hb (m : BenchId) : (updRecord s4 g.space g.record.toNat 2 fun d => setBits d 36 1 1).gang? m = s3.gang? m := h.gang? m
  refine ⟨?_, ?_, h.clocks⟩
  · rw [hb, State.gang?_setGang_ne _ _ _ _ hne.symm]
    unfold State.leave State.setGang State.gang?
    simp
  · rw [hb, State.gang?_setGang_self]

/-- GANG_MIGRATE, by the extended benches of the partition that are free (R128 to R130). -/
theorem migrateGang_of_waits {s : State} {b : BenchId} {g : Gang} {c : CoreId} {slot : Nat} (hg : s.gang? b = some g)
    (hs : g.stop = .migrate c slot) (hw : waitsToMove s g = true) :
    migrateGang s b = if !hasExtended s g.part then
        takeFault (s.updGang b fun g => { g with stop := .none }) b c 2 slot (s.stream b c 2).pc { cause := 0x1A }
      else ((migrateTarget (vacantBenches s g.part) b).map (moveGang s b · g)).getD s := by
  unfold migrateGang
  rw [hg]
  simp only [hs, hw]
  cases migrateTarget (vacantBenches s g.part) b <;> rfl

/-! ### Dispatch (R125) -/

theorem exec_dispatch {s : State} (p : PartId) (h : s.dev.off = false) : exec (.dispatch p) s = .next (dispatchOne s p) :=
  happen_on s (fun s => dispatchOne s p) h

/-- DISPATCH places the best candidate, once its record and a bench are found. -/
theorem dispatchOne_eq {s : State} {p : PartId} {v : VfId} {e : PoolEntry} {d : List Word} {b : BenchId}
    (hready : s.dev.ready = true) (hhalt : (s.part p).halt = .none) (hbar : (s.part p).barrier = false)
    (hgr : (s.part p).granted = some v)
    (he : e ∈ (s.part p).pool.filter fun e => e.vf == v && (freeBenches s p).any e.runsOn)
    (hbest : ∀ y ∈ (s.part p).pool.filter fun e => e.vf == v && (freeBenches s p).any e.runsOn, y = e ∨ y.After e)
    (hd : readRecord s (s.entrySpace e) e.node = some d)
    (hb : chooseBench (homedLook s (s.entrySpace e) d) e d (freeBenches s p) = some b) :
    dispatchOne s p = dispatchTo (homedLook s (s.entrySpace e) d) p b e d := by
  unfold dispatchOne
  simp only [hready, hhalt, hbar, hgr]
  generalize (s.part p).pool.filter (fun e => e.vf == v && (freeBenches s p).any e.runsOn) = l at he hbest
  obtain _ | ⟨a, r⟩ := l
  · cases he
  obtain ⟨ha, hr⟩ := List.forall_mem_cons.mp hbest
  dsimp only
  rw [foldl_betterEntry_eq (List.mem_cons.mp he) ha hr]
  simp only [hd, hb]
  rfl

/-- The clock of node start changes no bench, and grows the bench's own entry by one (R109). -/
theorem startClock_places (s : State) (p : PartId) (b : BenchId) (sp : Space) (node : Nat) :
    (startClock s p b sp node).benches = s.benches ∧
      ((startClock s p b sp node).clocks[b.toFin])[b.toFin] = clockInc (s.clocks[b.toFin])[b.toFin] := by
  unfold startClock
  extract_lets line s1 sv own
  have h1 : Aside s s1 := by
    change Aside s ((line.map (carriedLook s p)).getD s)
    cases line
    · exact .refl s
    · exact carriedLook_aside _ _ _
  have h2 := askBarrier_aside { s1 with clocks := s1.clocks.set b.toFin (sv.set b.toFin own) } p own
  refine ⟨h2.benches.trans h1.benches, ?_⟩
  rw [h2.clocks]
  simp only [Fin.getElem_fin, Vector.getElem_set_self]
  change clockInc (s1.clocks[b.toFin])[b.toFin] = _
  rw [h1.clocks]
  rfl

/-- The state in which an entry has left the pool for a bench: its record is read, the bench's quadrant awake, and the other
entries passed over. -/
def takenFrom (s : State) (p : PartId) (b : BenchId) (e : PoolEntry) : State :=
  (wakeQuad (vfTouch s (s.entrySpace e) e.node 128 .read) b).updPart p fun q =>
    { q with pool := (q.pool.filter fun y => !(y == e)).map (passOver b) }

theorem takenFrom_aside (s : State) (p : PartId) (b : BenchId) (e : PoolEntry) : Aside s (takenFrom s p b e) :=
  ((vfTouch_aside _ _ _ _ _).trans (wakeQuad_aside _ _)).trans (updPart_aside _ p _ rfl)

theorem Aside.savedOf {s s' : State} (h : Aside s s') (v : VfId) (node : Nat) (d : List Word) :
    savedOf s' v node d = savedOf s v node d := by
  unfold Machine.savedOf
  rw [h.vf]

/-- The record of a placed node says so, and the pool is filled up again (R123, Table 14.3). -/
theorem placed_aside (s : State) (sp : Space) (node : Nat) (p : PartId) :
    Aside s (drainSpoil p drainFuel (setState s sp node 2)) := (updRecord_aside _ _ _ _ _).trans (drainSpoil_aside _ _ _)

theorem dispatchTo_of_none {s : State} {p : PartId} {b : BenchId} {e : PoolEntry} {d : List Word}
    (h : savedOf s e.vf e.node d = none) :
    let sp := s.entrySpace e
    let s2 := setsTouch (takenFrom s p b e) sp d
    let g : Gang := { startGang s2 p sp e.node d e.ready with run := s2.ticks }
    dispatchTo s p b e d =
      drainSpoil p drainFuel (setState (startClock (s2.setGang b (some g)) p b sp e.node) sp e.node 2) := by
  have hs := (takenFrom_aside s p b e).savedOf e.vf e.node d
  rw [h] at hs
  unfold takenFrom at hs ⊢
  unfold dispatchTo
  dsimp only
  rw [hs]

/-- A node starts with the gang of its record; its bench's clock entry grows by one (R30, R109). -/
theorem dispatchTo_starts {s : State} {p : PartId} {b : BenchId} {e : PoolEntry} {d : List Word}
    (h : savedOf s e.vf e.node d = none) :
    (∃ s2, (dispatchTo s p b e d).gang? b =
      some { startGang s2 p (s.entrySpace e) e.node d e.ready with run := s.ticks }) ∧
    ((dispatchTo s p b e d).clocks[b.toFin])[b.toFin] = clockInc (s.clocks[b.toFin])[b.toFin] := by
  have h2 := (takenFrom_aside s p b e).trans (setsTouch_aside _ (s.entrySpace e) d)
  rw [dispatchTo_of_none h]
  generalize setsTouch (takenFrom s p b e) (s.entrySpace e) d = s2 at h2
  obtain ⟨hb, hc⟩ := startClock_places
    (s2.setGang b (some { startGang s2 p (s.entrySpace e) e.node d e.ready with run := s2.ticks })) p b (s.entrySpace e)
    e.node
  refine ⟨⟨s2, ?_⟩, ?_⟩
  · rw [(placed_aside _ _ _ _).gang?, State.gang?_of_benches hb, State.gang?_setGang_self, h2.ticks]
  · rw [(placed_aside _ _ _ _).clocks, hc]
    change clockInc (s2.clocks[b.toFin])[b.toFin] = _
    rw [h2.clocks]

/-! ### Resumption of a saved gang (R147) -/

theorem dispatchTo_of_some {s : State} {p : PartId} {b : BenchId} {e : PoolEntry} {d : List Word} {y : SavedGang}
    (h : savedOf s e.vf e.node d = some y) :
    let sp := s.entrySpace e
    dispatchTo s p b e d = drainSpoil p drainFuel (setState (vfWrite ((resumeGang (takenFrom s p b e) b y).updVf e.vf fun f =>
      { f with saved := f.saved.filter fun z => z.addr != y.addr }) sp (e.node + 120) 0) sp e.node 2) := by
  have hs := (takenFrom_aside s p b e).savedOf e.vf e.node d
  rw [h] at hs
  unfold takenFrom at hs ⊢
  unfold dispatchTo
  dsimp only
  rw [hs]

/-- The saved gang that a record's RESUME names, where no other of the function has its image. -/
theorem savedOf_eq {s : State} {v : VfId} {node : Nat} {d : List Word} {y : SavedGang} (hd : (d[15]!).toNat / 2 ^ 62 ≠ 0)
    (hy : y ∈ (s.vf v).saved) (ha : y.addr = (d[15]!).toNat / 2 ^ 7 % 2 ^ 41 * 2 ^ 7) (hn : y.gang.record.toNat = node)
    (huniq : ∀ z ∈ (s.vf v).saved, z.addr = y.addr → z = y) : savedOf s v node d = some y := by
  have hhi : bits (d[15]!) 62 2 = (d[15]!).toNat / 2 ^ 62 := by
    have := (d[15]!).isLt
    simp only [bits, BitVec.extractLsb'_toNat, Nat.shiftRight_eq_div_pow]
    omega
  have hlo : bits (d[15]!) 7 41 = (d[15]!).toNat / 2 ^ 7 % 2 ^ 41 := by
    simp only [bits, BitVec.extractLsb'_toNat, Nat.shiftRight_eq_div_pow]
  unfold savedOf
  rw [hhi, if_neg hd, hlo, ← ha]
  have hfound : ((s.vf v).saved.find? fun g => g.addr == y.addr && g.gang.record.toNat == node).isSome = true :=
    List.find?_isSome.mpr ⟨y, hy, by simp [hn]⟩
  obtain ⟨z, hz⟩ := Option.isSome_iff_exists.mp hfound
  have hza : z.addr = y.addr := by
    have hp := List.find?_some hz
    rw [Bool.and_eq_true, beq_iff_eq] at hp
    exact hp.1
  rw [hz, huniq z (List.mem_of_find?_eq_some hz) hza]

/-- A window that names a bench as its owner names another one after a move (Table 14.7). -/
def Window.rebound (w : Window) (b n : BenchId) : Window :=
  if bit w.ctl 63 && bit w.ctl 58 && bits w.ctl 52 6 == b.toNat then { w with ctl := setBits w.ctl 52 6 n.toNat } else w

theorem rebindBench_windows (s : State) (p : PartId) (run : Nat) (b n : BenchId) (i : Fin 64) :
    ((rebindBench s p run b n).part p).windows[i] = (s.part p).windows[i].rebound b n := by
  change ((s.parts.set p.toFin _)[p.toFin]).windows[i] = _
  simp [Window.rebound]

/-- What a resumed gang finds: it stands on its bench, with its clock, the bench's own entry past both (R129, R147). -/
theorem resumeGang_places (s : State) (b : BenchId) (y : SavedGang) :
    (resumeGang s b y).gang? b =
      some { y.gang with former := if y.bench = b then y.gang.former else y.bench :: y.gang.former } ∧
    (∀ m, m ≠ b → (resumeGang s b y).gang? m = s.gang? m) ∧
    (resumeGang s b y).clocks =
      s.clocks.set b.toFin (y.clock.set b.toFin (movedClock (s.clocks[b.toFin])[b.toFin] y.clock b y.bench)) ∧
    (resumeGang s b y).vfs = s.vfs ∧
    ∀ i : Fin 64, ((resumeGang s b y).part y.gang.part).windows[i] =
      if y.bench = b then (s.part y.gang.part).windows[i] else (s.part y.gang.part).windows[i].rebound y.bench b := by
  unfold resumeGang
  extract_lets former own g s1 s2
  have h := askBarrier_aside { s2 with clocks := s2.clocks.set b.toFin (y.clock.set b.toFin own) } y.gang.part own
  have h2 : s2 = if y.bench = b then s1 else rebindBench s1 y.gang.part y.gang.run y.bench b := rfl
  have hb : s2.benches = s1.benches := by rw [h2]; split <;> rfl
  have hc : s2.clocks = s.clocks := by rw [h2]; split <;> rfl
  refine ⟨?_, fun m hm => ?_, ?_, ?_, fun i => ?_⟩
  · rw [h.gang?]
    exact (State.gang?_of_benches hb b).trans (State.gang?_setGang_self s b _)
  · rw [h.gang?]
    exact (State.gang?_of_benches hb m).trans (State.gang?_setGang_ne s b m _ hm)
  · rw [h.clocks]
    exact congrArg (Vector.set · _ _) hc
  · rw [h.vfs]
    change s2.vfs = _
    rw [h2]
    split <;> rfl
  · rw [h.windows]
    change (s2.part y.gang.part).windows[i] = _
    rw [h2]
    split
    · rfl
    · exact rebindBench_windows s1 _ _ _ _ i

/-- A window rebound: one that is registered and owned names the new bench, any other stays (Table 14.7). -/
theorem Window.rebound_eq (w : Window) (b n : BenchId) :
    (w.ctl.getLsbD 63 = true ∧ w.ctl.getLsbD 58 = true ∧ w.ctl.extractLsb' 52 6 = b →
      w.rebound b n = { w with ctl := (w.ctl &&& ~~~(0x3F#64 <<< 52)) ||| (n.setWidth 64 <<< 52) }) ∧
    (¬ (w.ctl.getLsbD 63 = true ∧ w.ctl.getLsbD 58 = true ∧ w.ctl.extractLsb' 52 6 = b) → w.rebound b n = w) := by
  have hcond : (bit w.ctl 63 && bit w.ctl 58 && bits w.ctl 52 6 == b.toNat) = true ↔
      w.ctl.getLsbD 63 = true ∧ w.ctl.getLsbD 58 = true ∧ w.ctl.extractLsb' 52 6 = b := by
    rw [Bool.and_eq_true, Bool.and_eq_true, beq_iff_eq, and_assoc]
    unfold bits
    rw [BitVec.toNat_inj]
    rfl
  have hset : setBits w.ctl 52 6 n.toNat = (w.ctl &&& ~~~(0x3F#64 <<< 52)) ||| (n.setWidth 64 <<< 52) := by
    have hlow : n.setWidth 64 &&& 0x3F#64 = n.setWidth 64 := by
      have := n.isLt
      refine BitVec.eq_of_toNat_eq ?_
      rw [BitVec.toNat_and]
      exact Nat.and_two_pow_sub_one_of_lt_two_pow (n := 6) (by simp; omega)
    unfold setBits
    dsimp only
    rw [BitVec.ofNat_toNat, ← BitVec.shiftLeft_and_distrib, show BitVec.ofNat 64 (2 ^ 6 - 1) = 0x3F#64 from rfl, hlow]
  unfold Window.rebound
  refine ⟨fun h => ?_, fun h => if_neg fun hc => h (hcond.mp hc)⟩
  rw [if_pos (hcond.mpr h), hset]

theorem State.vf_updVf (s : State) (v : VfId) (f : Vf → Vf) (hv : v.toNat < 96) : (s.updVf v f).vf v = f (s.vf v) := by
  unfold State.updVf State.vf
  simp [hv]

/-! ### The core at node start (Table 02.4) -/

theorem startGang_core (s : State) (p : PartId) (sp : Space) (node : Nat) (d : List Word) (num : Nat) (c : CoreId) :
    ∃ sets, (startGang s p sp node d num).cores[c.toFin] = startCore d sets node :=
  ⟨(defaultSets s sp d (BitVec.ofNat 2 c.toFin.val)).getD (Vector.replicate 4 (Vector.replicate 16 ⟨0, 0⟩)),
    by simp [startGang]⟩

/-- SC of a core at node start runs at ENTRY, with its two arguments. -/
theorem startCore_sc (d : List Word) (sets : Vector (Vector Range 16) 4) (node : Nat) :
    let sc := (startCore d sets node).streams[(0 : StreamId).toFin]
    sc.status = .running ∧ sc.pc = d[0]! ∧ sc.sreg 1 = d[1]! ∧ sc.sreg 2 = BitVec.ofNat 64 node ∧
      ∀ i : BitVec 5, 3 ≤ i.toNat → sc.sreg i = 0 := by
  have hs : (startCore d sets node).streams[(0 : StreamId).toFin] =
      { sets := sets[0], next := sets[0], status := .running, pc := d[0]!
        s := ((Vector.replicate 32 (0 : Word)).set 1 (d[1]!)).set 2 (BitVec.ofNat 64 node) } := by
    simp [startCore]
  rw [hs]
  refine ⟨rfl, rfl, rfl, rfl, fun i hi => ?_⟩
  have h0 : i ≠ 0 := by rintro rfl; exact absurd hi (by decide)
  unfold Stream.sreg
  rw [if_neg h0]
  simp [show 2 ≠ i.toNat by omega, show 1 ≠ i.toNat by omega]

/-- Each stream of a core at node start has its scalar state clear, and is IDLE if it is not SC. -/
theorem startCore_stream (d : List Word) (sets : Vector (Vector Range 16) 4) (node : Nat) (u : StreamId) :
    let st := (startCore d sets node).streams[u.toFin]
    (u ≠ 0 → st.status = .idle) ∧ st.f = 0 ∧ st.k = 0 ∧ ∀ i : BitVec 3, (st.breg i).getLsbD 63 = true := by
  have hb (i : BitVec 3) : (Vector.replicate 8 0x8000000000000000#64)[i.toFin].getLsbD 63 = true := by simp
  by_cases hu : u = 0
  · subst hu
    unfold startCore
    exact ⟨fun h => absurd rfl h, rfl, rfl, hb⟩
  · have hf : u.toFin ≠ 0 := fun h => hu (BitVec.eq_of_toNat_eq (congrArg Fin.val h))
    have hst : (startCore d sets node).streams[u.toFin] = { sets := sets[u.toFin], next := sets[u.toFin] } := by
      simp [startCore, hf]
    rw [hst]
    exact ⟨fun _ => rfl, rfl, rfl, hb⟩

/-- The STATE of a record, RESULT kept (Table 14.3). -/
theorem setState_eq (s : State) (sp : Space) (node st : Nat) : setState s sp node st =
    updRecord s sp node 14 fun w => BitVec.ofNat 64 (st * 2 ^ 62 + w.toNat % 2 ^ 32) := by
  unfold setState stateWord
  simp only [bits_low]

/-- What a resumption leaves: the gang on its bench, no other bench changed, the clock, the windows that follow the gang, and a
record that names no image (R129, R147, R150). -/
theorem dispatchTo_resumes {s : State} {p : PartId} {b : BenchId} {e : PoolEntry} {d : List Word} {y : SavedGang}
    (hv : e.vf.toNat < 96) (h : savedOf s e.vf e.node d = some y) :
    let sp := s.entrySpace e
    (∃ s2, dispatchTo s p b e d = drainSpoil p drainFuel (updRecord (vfWrite s2 sp (e.node + 120) 0) sp e.node 14
        fun w => BitVec.ofNat 64 (2 * 2 ^ 62 + w.toNat % 2 ^ 32)) ∧
      (s2.vf e.vf).saved = (s.vf e.vf).saved.filter fun z => z.addr != y.addr) ∧
    (dispatchTo s p b e d).gang? b =
      some { y.gang with former := if y.bench = b then y.gang.former else y.bench :: y.gang.former } ∧
    (∀ m, m ≠ b → (dispatchTo s p b e d).gang? m = s.gang? m) ∧
    (dispatchTo s p b e d).clocks =
      s.clocks.set b.toFin (y.clock.set b.toFin (movedClock (s.clocks[b.toFin])[b.toFin] y.clock b y.bench)) ∧
    ∀ i : Fin 64, ((dispatchTo s p b e d).part y.gang.part).windows[i] =
      if y.bench = b then (s.part y.gang.part).windows[i] else (s.part y.gang.part).windows[i].rebound y.bench b := by
  intro sp
  have htaken := takenFrom_aside s p b e
  obtain ⟨hgang, hothers, hclocks, hvfs, hwindows⟩ := resumeGang_places (takenFrom s p b e) b y
  have ht := dispatchTo_of_some (p := p) (b := b) h
  dsimp only at ht
  rw [setState_eq] at ht
  generalize resumeGang (takenFrom s p b e) b y = r at ht hgang hothers hclocks hvfs hwindows
  generalize takenFrom s p b e = k at htaken hothers hclocks hvfs hwindows
  generalize hs2 : r.updVf e.vf
    (fun f => { f with saved := f.saved.filter fun z => z.addr != y.addr }) = s2 at ht
  have haside : Aside s2 (dispatchTo s p b e d) := by
    rw [ht]
    exact ((vfWrite_aside _ _ _ _).trans (updRecord_aside _ _ _ _ _)).trans (drainSpoil_aside _ _ _)
  refine ⟨⟨s2, ht, ?_⟩, ?_, fun m hm => ?_, ?_, fun i => ?_⟩
  · rw [← hs2, State.vf_updVf _ _ _ hv]
    unfold State.vf
    rw [hvfs, htaken.vfs]
  · rw [haside.gang?, ← hs2]
    exact hgang
  · rw [haside.gang?, ← hs2]
    exact (hothers m hm).trans (htaken.gang? m)
  · rw [haside.clocks, ← hs2, State.updVf_clocks, hclocks, htaken.clocks]
  · rw [haside.windows, ← hs2, ← htaken.windows]
    exact hwindows i

/-! ### Pre-empted nodes (R147, R150) -/

/-- A pre-empted node that is neither in the pool nor numbered enters the pool with the root of its gang. -/
theorem returnSaved_one {s : State} {p : PartId} {v : VfId} {y : SavedGang} (hs : (s.vf v).saved = [y])
    (hpool : ∀ z ∈ (s.part p).pool, ¬ (z.node = y.gang.record.toNat ∧ z.vf = v))
    (hnum : ∀ z ∈ (s.part p).numbers, ¬ (z.1 = y.gang.record.toNat ∧ z.2.1 = v)) :
    returnSaved s p v = enterPool (vfTouch s y.gang.space (y.gang.record.toNat + 16) 8 .read) p v y.gang.record.toNat
      y.gang.ready (some y.gang.root) := by
  have hp : ((s.part p).pool.any fun e => e.node == y.gang.record.toNat && e.vf == v) = false :=
    List.any_eq_false.mpr fun z hz h => hpool z hz (by simpa using h)
  have hn : ((s.part p).numbers.any fun e => e.1 == y.gang.record.toNat && e.2.1 == v) = false :=
    List.any_eq_false.mpr fun z hz h => hnum z hz (by simpa using h)
  unfold returnSaved
  rw [hs, List.foldl_cons, List.foldl_nil]
  dsimp only
  rw [hp, hn]
  rfl

/-- Settles O37: DISPATCH by the order of candidates and benches, node start and resumption by what `dispatchTo` leaves on the
bench, and GANG_MIGRATE by the bench that it takes. -/
theorem nodesPlaced : Obligations.NodesPlaced := by
  unfold Obligations.NodesPlaced
  refine ⟨?_, ?_, ?_⟩
  · intro s p v e d b hoff hready hhalt hbar hgr hvf hmem free runs able root sp s1 homed fits hable hbest hd hfits hlean hhome
    have hsp : s.entrySpace e = sp := by
      unfold State.entrySpace State.spaceOf
      rw [hvf]
      cases h : e.own <;> simp [sp, root, h, State.space]
    have hs1 : Aside s s1 := homedLook_aside s sp d
    have hruns (y : PoolEntry) (n : BenchId) : y.runsOn n = true ↔ runs y n := runsOn_iff y n
    have hcand (y : PoolEntry) : y ∈ (s.part p).pool.filter (fun e => e.vf == v && (freeBenches s p).any e.runsOn) ↔
        y ∈ (s.part p).pool ∧ able y := by
      rw [List.mem_filter, Bool.and_eq_true, beq_iff_eq, List.any_eq_true]
      simp only [hruns]
      rfl
    have hchoose : chooseBench (homedLook s (s.entrySpace e) d) e d (freeBenches s p) = some b := by
      rw [hsp]
      refine chooseBench_eq (freeBenches_ascending s p) ⟨hfits.1, (hruns e b).mpr hfits.2⟩ ?_ ?_
      · rintro ⟨n, hn, hr, hl⟩
        exact hlean ⟨n, ⟨hn, (hruns e n).mp hr⟩, hl⟩
      · intro n hn hr hl
        rw [hs1.entrySpace, hsp]
        exact hhome n ⟨hn, (hruns e n).mp hr⟩ hl
    have hgo : dispatchOne s p = dispatchTo s1 p b e d := by
      rw [dispatchOne_eq hready hhalt hbar hgr ((hcand e).mpr ⟨hmem, hable⟩) ?_ (by rwa [hsp]) hchoose, hsp]
      intro y hy
      obtain ⟨hy, ha⟩ := (hcand y).mp hy
      exact hbest y hy ha
    refine ⟨by rw [exec_dispatch p hoff, hgo], fun hsaved => ?_⟩
    intro t
    have hsaved' : savedOf s1 e.vf e.node d = none := by rwa [hs1.savedOf, hvf]
    obtain ⟨⟨s2, hgang⟩, hclock⟩ := dispatchTo_starts (p := p) (b := b) hsaved'
    rw [hs1.entrySpace, hsp, hs1.ticks] at hgang
    rw [hs1.clocks] at hclock
    have hgang' : t.gang b = { startGang s2 p sp e.node d e.ready with run := s.ticks } := by
      unfold State.gang
      rw [show t.gang? b = _ from hgang]
      rfl
    refine ⟨fun c => ?_, ?_, ?_, ?_, ?_, ?_, ?_, ?_, hclock⟩
    · obtain ⟨sets, hc⟩ := startGang_core s2 p sp e.node d e.ready c
      have hcore : t.core b c = startCore d sets e.node := (State.core_of_gang? hgang c).trans hc
      have hst (u : StreamId) : t.stream b c u = (startCore d sets e.node).streams[u.toFin] :=
        congrArg (fun k : Core => k.streams[u.toFin]) hcore
      intro k sc
      rw [show k = _ from hcore, show sc = _ from hst 0]
      obtain ⟨hstatus, hpc, harg, hrec, hrest⟩ := startCore_sc d sets e.node
      refine ⟨hstatus, hpc, harg, hrec, hrest, fun u => ?_, fun i => ?_, fun i => ?_, fun i => ?_, fun i => ⟨?_, ?_⟩, rfl,
        rfl, rfl, rfl, fun i => ?_⟩
      · rw [hst u]
        exact startCore_stream d sets e.node u
      all_goals simp [startCore]
    all_goals rw [hgang'] <;> rfl
  · intro s p b e d y hv hd hy haddr hrec huniq sp t left
    have hsaved := savedOf_eq hd hy haddr hrec huniq
    obtain ⟨hdone, hgang, hothers, hclocks, hwindows⟩ := dispatchTo_resumes (p := p) (b := b) hv hsaved
    refine ⟨hdone, fun h => ?_, fun h => ?_, hothers, fun m hm => ?_, ?_, fun i => ?_, fun v hone hpool hnum => ?_⟩
    · rw [show t.gang? b = _ from hgang, if_neg h]
    · rw [show t.gang? b = _ from hgang, if_pos (not_not.mp h)]
    · rw [show t.clocks = _ from hclocks]
      simp [hm.symm]
    · rw [show t.clocks = _ from hclocks, movedClock_eq]
      simp
    · intro w moves
      obtain ⟨hmoves, hstays⟩ := Window.rebound_eq w y.bench b
      rw [show (t.part y.gang.part).windows[i] = _ from hwindows i]
      refine ⟨fun h => ?_, fun h => ?_⟩
      · rw [if_neg h.1]
        exact hmoves h.2
      · split
        · rfl
        · next hl => exact hstays fun h' => h ⟨hl, h'⟩
    · rw [← hrec] at hpool hnum ⊢
      intro own t d2
      have hprio : bits d2 34 2 = d2.toNat / 2 ^ 34 % 4 := by
        simp only [bits, BitVec.extractLsb'_toNat, Nat.shiftRight_eq_div_pow, Nat.reducePow]
      rw [returnSaved_one hone hpool hnum, ← hprio]
      rfl
  · intro s b n g c slot hoff hg hs hh hl hhalt hd quad free
    have hwaits := waitsToMove_iff hg hs hh hl hd
    have hmigrate := migrateGang_of_waits hg hs ((hwaits s).mpr hhalt)
    have hex := exec_gangMigrate b hoff
    have hfree (m : BenchId) : free m ↔ m ∈ vacantBenches s g.part ∧ isLean m = false := by
      rw [mem_vacantBenches_iff]
      exact ⟨fun ⟨h1, h2, h3, h4⟩ => ⟨⟨h1, h2, h4⟩, h3⟩, fun ⟨⟨h1, h2, h4⟩, h3⟩ => ⟨h1, h2, h3, h4⟩⟩
    have hext : (∃ m ∈ partBenches s g.part, isLean m = false) → hasExtended s g.part = true := by
      rintro ⟨m, hm, hml⟩
      exact List.any_eq_true.mpr ⟨m, hm, by rw [hml]; rfl⟩
    refine ⟨fun hlean => ?_, fun hsome hnone => ?_, fun hn hbest => ?_, fun s0 hs0 => ?_⟩
    · have hno : hasExtended s g.part = false := List.any_eq_false.mpr fun m hm => by rw [hlean m hm]; decide
      rw [hex, hmigrate, hno]
      rfl
    · have htarget : migrateTarget (vacantBenches s g.part) b = none := migrateTarget_eq_none fun m hm => by
        rw [← Bool.not_eq_false]
        exact fun hml => hnone m ((hfree m).mpr ⟨hm, hml⟩)
      rw [hex, hmigrate, hext hsome, htarget]
      rfl
    · have htarget : migrateTarget (vacantBenches s g.part) b = some n :=
        migrateTarget_eq (vacantBenches_ascending s g.part) ((hfree n).mp hn) fun m hm hml =>
          hbest m ((hfree m).mpr ⟨hm, hml⟩)
      obtain ⟨hpart, hnone, hnl, -⟩ := hn
      have hne : n ≠ b := by
        rintro rfl
        rw [hg] at hnone
        cases hnone
      obtain ⟨hold, hnew, hclocks⟩ := moveGang_places (s := s) g hne
      have hmoved : exec (.gangMigrate b) s = .next (moveGang s b n g) := by
        rw [hex, hmigrate, hext ⟨n, hpart, hnl⟩, htarget]
        rfl
      refine ⟨moveGang s b n g, hmoved, hold, hnew, fun m hm => ?_, ?_⟩
      · rw [hclocks]
        simp [hm.symm]
      · rw [hclocks, movedClock_eq]
        simp
    · have hw : ¬ waitsToMove s0 g = true := by
        rw [hwaits s0, hs0]
        simp [State.updPart, State.part]
      have hg0 : s0.gang? b = some g := by rw [hs0]; exact hg
      rw [exec_gangMigrate b (by rw [hs0]; exact hoff)]
      unfold migrateGang
      rw [hg0]
      simp only [hs, hw]
      rfl

end Sys2Proof.Machine
end

section
/-! SUPPORT. Moves of cross scalars, and the status registers that RDSR and WRSR reach (R50, R61, R187, R188). -/

namespace Sys2Proof.Machine

section
variable {s : State} {b : BenchId} {c : CoreId} {t : StreamId} {i : Instr}

/-- A word of the common group that is the last of its bundle and of no group. -/
theorem Instr.common.of_class (hc : classOf i = .common) (hl : lastOf i = true) (hp : Instr.plain i = true)
    (hf : groupD i = false ∧ groupCK i = false) : Instr.common i :=
  ⟨commonWord_statement i hc, hc, hl, slotOf_common hc, hp, hf⟩

/-- A common word that finds its operands illegal faults, whether CP refuses them as it looks at the bundle or the word does
(R157). -/
theorem traps_illegalOperand (k : Instr.common i) (ha : s.alone b c t)
    (he : wordEffect i (s.issuing b c t 1) s = illegalOperand) : s.traps b c t 1 i { cause := 0x03 } := by
  cases hs : specOk (s.gang b).vcount i with
  | true => exact traps_common s b c t i _ k ha hs he
  | false =>
    by_cases ht : t = 2
    · subst ht
      exact traps_spec s b c i k ha hs
    · unfold State.traps State.trapsIn
      rw [exec_scalar s b c t i 1 k.word k.last (by rw [k.cls]; decide) ht (by rw [k.cls]; rfl) ha.1, he]
      rfl

end

/-! ### Cross scalars (R50, R187) -/

/-- The check passes a synchronous write by the only writer of the phase, and marks the register (R50). -/
theorem checkWrite_c_of_own (k : Core) (i : BitVec 3) (tag : Tag) (ht : tag.async = false)
    (h : (k.c[i.toFin]).written = false ∨ (k.c[i.toFin]).tag.async = false ∧ (k.c[i.toFin]).tag.stream = tag.stream) :
    k.checkWrite (.c i) tag = .ok { k with c := k.c.set i.toFin ((k.c[i.toFin]).mark tag) } := by
  have hc : (k.isWritten (.c i) && (tag.async || (k.tagOf (.c i)).async || (k.tagOf (.c i)).stream != tag.stream)) = false := by
    obtain h | ⟨ha, hs⟩ := h
    · rw [show k.isWritten (.c i) = false from h, Bool.false_and]
    · rw [ht, show (k.tagOf (.c i)).async = false from ha, show (k.tagOf (.c i)).stream = tag.stream from hs]
      simp
  unfold Core.checkWrite
  exact if_neg (by rw [hc]; decide)

/-- The check refuses a cross scalar that another writer has written in the phase (R50). -/
theorem checkWrite_c_of_other (k : Core) (i : BitVec 3) (tag : Tag) (h : (k.c[i.toFin]).written = true)
    (ht : (k.c[i.toFin]).tag.async = true ∨ (k.c[i.toFin]).tag.stream ≠ tag.stream) :
    let old := (k.c[i.toFin]).tag
    k.checkWrite (.c i) tag = .error
      { cause := 0x08, aux0 := old.pc
        aux1 := BitVec.ofNat 64 ((40 + i.toNat) * 2 ^ 8 + (if old.async then 4 else 0) + old.stream.toNat) } := by
  intro old
  have hc : (k.isWritten (.c i) && (tag.async || (k.tagOf (.c i)).async || (k.tagOf (.c i)).stream != tag.stream)) = true := by
    have hw : k.isWritten (.c i) = true := h
    rw [hw, Bool.true_and, Bool.or_eq_true, Bool.or_eq_true, bne_iff_ne]
    exact ht.elim (fun h => .inl (.inr h)) .inr
  unfold Core.checkWrite
  exact if_pos hc

/-- What a synchronous write of a cross scalar leaves of its face: the value hidden, the phase's first writer its tag. -/
theorem Face.mark_hid {α : Type} (f : Face α) (tag : Tag) (v : α) (ht : tag.async = false) :
    { f.mark tag with hid := v } = { f with hid := v, written := true, tag := if f.written then f.tag else tag } := by
  unfold Face.mark
  cases hw : f.written <;> simp [ht, hw]

/-- A word moved to a cross scalar lands as that word. -/
theorem land_c (k : Core) (i : BitVec 3) (w : Word) (m : Pred) :
    k.land { reg := .c i, data := w.setWidth 32768, mask := m } = { k with c := k.c.set i.toFin { k.c[i.toFin] with hid := w } } := by
  have hw : (w.setWidth 32768).setWidth 64 = w := by
    rw [BitVec.setWidth_setWidth_of_le _ (by decide), BitVec.setWidth_eq]
  unfold Core.land
  simp only [hw]

section
variable (s : State) (b : BenchId) (c : CoreId) (t : StreamId) (r y : BitVec 5)

/-- MOVTC marks its register and writes the hidden face at once. -/
theorem effMovtc_of_own (hy : y.toNat < 8) :
    let st := s.stream b c t
    let i : BitVec 3 := y.setWidth 3
    let f := (s.core b c).c[i.toFin]
    (f.written = false ∨ f.tag.async = false ∧ f.tag.stream = t) →
    effMovtc y r (s.issuing b c t 1) s = .ok (s.updCore b c fun k => { k with
      c := k.c.set i.toFin { f with
        hid := st.sreg r, written := true
        tag := if f.written then f.tag else { stream := t, async := false, pc := st.pc } } }) := by
  intro st i f h
  have hcheck := checkWrite_c_of_own (s.core b c) i { stream := t, async := false, pc := st.pc } rfl h
  have hface := Face.mark_hid f { stream := t, async := false, pc := st.pc } (st.sreg r) rfl
  unfold effMovtc
  rw [if_neg (Nat.not_le.mpr hy)]
  dsimp only
  change (match (s.core b c).checkWrite (.c i) { stream := t, async := false, pc := st.pc } with
    | .error u => Res.trap u
    | .ok k => .ok (s.updCore b c fun _ => k.land { reg := .c i, data := (st.sreg r).setWidth 32768, mask := 0 })) = _
  rw [hcheck]
  refine congrArg Res.ok (State.updCore_congr ?_)
  rw [land_c]
  simp only [← hface]
  simp [f]

theorem effMovtc_of_other (hy : y.toNat < 8) :
    let i : BitVec 3 := y.setWidth 3
    let f := (s.core b c).c[i.toFin]
    f.written = true → (f.tag.async = true ∨ f.tag.stream ≠ t) →
    effMovtc y r (s.issuing b c t 1) s = .trap
      { cause := 0x08, aux0 := f.tag.pc
        aux1 := BitVec.ofNat 64 ((40 + i.toNat) * 2 ^ 8 + (if f.tag.async then 4 else 0) + f.tag.stream.toNat) } := by
  intro i f hw ht
  have hcheck := checkWrite_c_of_other (s.core b c) i { stream := t, async := false, pc := (s.stream b c t).pc } hw ht
  unfold effMovtc
  rw [if_neg (Nat.not_le.mpr hy)]
  dsimp only
  change (match (s.core b c).checkWrite (.c i) { stream := t, async := false, pc := (s.stream b c t).pc } with
    | .error u => Res.trap u
    | .ok k => .ok (s.updCore b c fun _ => k.land _)) = _
  rw [hcheck]

end

/-! ### Status registers (R188, Table 20.3) -/

/-- The numbers of Table 20.3. -/
def statusNumbers : List Nat := [0x000, 0x001, 0x002, 0x003, 0x004, 0x008, 0x010, 0x011, 0x012, 0x013, 0x018, 0x019, 0x01A]

/-- Only the numbers of Table 20.3 read. -/
theorem readSR_of_unassigned (x : Ctx) (s : State) (r : BitVec 12) (h : r.toNat ∉ statusNumbers) : readSR x s r = none := by
  unfold statusNumbers at h
  simp only [List.mem_cons, List.not_mem_nil, or_false, not_or] at h
  unfold readSR
  dsimp only
  split
  case h_14 => rfl
  all_goals omega

/-- One word above another as a number. -/
theorem toNat_append_mul {m n : Nat} (x : BitVec m) (y : BitVec n) : (x ++ y).toNat = x.toNat * 2 ^ n + y.toNat := by
  rw [BitVec.toNat_append, ← Nat.shiftLeft_add_eq_or_of_lt y.isLt, Nat.shiftLeft_eq]

/-- Core, bench, and the half of the package that the bench lies in. -/
theorem benchStatus_eq (b : BenchId) (c : CoreId) :
    BitVec.setWidth 64 (BitVec.ofBool (b.getLsbD 3) ++ (b ++ c)) =
      BitVec.ofNat 64 (c.toNat + 4 * b.toNat + 2 ^ 8 * (b.toNat / 8 % 2)) := by
  have hbit : (BitVec.ofBool (b.getLsbD 3)).toNat = b.toNat / 8 % 2 := by
    rw [BitVec.toNat_ofBool, BitVec.getLsbD, Nat.testBit_eq_decide_div_mod_eq]
    obtain h | h := Nat.mod_two_eq_zero_or_one (b.toNat / 8) <;> simp [h]
  apply BitVec.eq_of_toNat_eq
  rw [BitVec.toNat_setWidth, toNat_append_mul, toNat_append_mul, hbit, BitVec.toNat_ofNat]
  omega

/-- The phase number with the rotation above it. -/
theorem phaseStatus_eq (rb : BitVec 3) (phase : BitVec 32) :
    (rb ++ phase).setWidth 64 = BitVec.ofNat 64 (phase.toNat + 2 ^ 32 * rb.toNat) := by
  apply BitVec.eq_of_toNat_eq
  rw [BitVec.toNat_setWidth, toNat_append_mul, BitVec.toNat_ofNat, Nat.mul_comm, Nat.add_comm]

/-- A queue's configuration with the number of its landed entries above it (Table 04.4). -/
theorem Queue.config_eq (q : Queue) :
    q.config = BitVec.ofNat 64 (q.cfg.toNat + 2 ^ 32 * ((q.entries.filter (·.landed)).length % 32)) := by
  have hcfg : q.cfg.toNat < 2 ^ 32 := lt_trans q.cfg.isLt (by decide)
  apply BitVec.eq_of_toNat_eq
  unfold Queue.config
  rw [BitVec.toNat_or, BitVec.toNat_shiftLeft, BitVec.toNat_setWidth, BitVec.toNat_setWidth, BitVec.toNat_ofNat,
    BitVec.toNat_ofNat, Nat.mod_eq_of_lt (lt_trans hcfg (by decide)), Nat.shiftLeft_eq]
  have hlen : (q.entries.filter (·.landed)).length % 2 ^ 5 % 2 ^ 64 * 2 ^ 32 % 2 ^ 64 =
      ((q.entries.filter (·.landed)).length % 32) <<< 32 := by
    rw [Nat.shiftLeft_eq]
    omega
  rw [hlen, ← Nat.shiftLeft_add_eq_or_of_lt hcfg, Nat.shiftLeft_eq]
  omega

/-- The iteration of the innermost KLOOP, as a word. -/
theorem iterStatus_eq (o : Option LoopFrame) :
    (o.map fun f => BitVec.ofNat 64 f.iter).getD 0 = BitVec.ofNat 64 ((o.map (·.iter)).getD 0) := by
  cases o <;> rfl

/-- A field that is not zero. -/
theorem bits_ne_zero (w : Word) (lo n : Nat) : bits w lo n ≠ 0 ↔ w.extractLsb' lo n ≠ 0 :=
  not_congr ⟨fun h => BitVec.eq_of_toNat_eq h, fun h => by unfold bits; rw [h]; rfl⟩

/-- RDSR of a number that reads writes what it reads to its register. -/
theorem does_rdsr {s : State} {b : BenchId} {c : CoreId} {t : StreamId} {d : BitVec 5} {r : BitVec 12} {v : Word}
    (ha : s.alone b c t) (hr : r.toNat ∈ statusNumbers) (hv : readSR (s.issuing b c t 1) s r = some v) :
    s.does b c t 1 (.xmovRdsr 1 d r) ((s.issuing b c t 1).upd s fun y => y.setS d v) := by
  refine does_common s b c t _ _ (.of_class rfl rfl rfl ⟨rfl, rfl⟩) ha ?_ ?_
  · exact List.elem_eq_true_of_mem hr
  · change effRdsr d r (s.issuing b c t 1) s = _
    unfold effRdsr
    rw [hv]
    rfl

/-! ### The words -/

/-- Settles O10: each word by what its effect comes to; RDSR by the number that it names. -/
theorem movesAndStatus : Obligations.MovesAndStatus := by
  unfold Obligations.MovesAndStatus
  refine ⟨fun s b c t r y ha => ?_, fun s b c t d r ha => ?_, fun s b c t a r ha => ?_⟩
  · intro x st i f
    refine ⟨fun hy => ⟨?_, ?_⟩, fun hy => ?_, fun hy hw ht => ?_, fun hy h => ?_⟩
    · exact traps_illegalOperand (.of_class rfl rfl rfl ⟨rfl, rfl⟩) ha (if_pos hy)
    · exact traps_illegalOperand (.of_class rfl rfl rfl ⟨rfl, rfl⟩) ha (if_pos hy)
    · exact does_common s b c t _ _ (.of_class rfl rfl rfl ⟨rfl, rfl⟩) ha (decide_eq_true hy) (if_neg (Nat.not_le.mpr hy))
    · exact traps_common s b c t _ _ (.of_class rfl rfl rfl ⟨rfl, rfl⟩) ha (decide_eq_true hy)
        (effMovtc_of_other s b c t r y hy hw ht)
    · exact does_common s b c t _ _ (.of_class rfl rfl rfl ⟨rfl, rfl⟩) ha (decide_eq_true hy)
        (effMovtc_of_own s b c t r y hy h)
  · intro x st k g queue reads
    have hreads (n : Nat) (v : Word) (hn : n ∈ statusNumbers) (hv : readSR x s (BitVec.ofNat 12 n) = some v) : reads n v := by
      intro h
      subst h
      rw [BitVec.ofNat_toNat, BitVec.setWidth_eq] at hv
      exact does_rdsr ha hn hv
    have hqueue (q : Queue) : some q.config = some (queue q) := congrArg some q.config_eq
    refine ⟨hreads _ _ (by decide) (congrArg some (benchStatus_eq b c)), hreads _ _ (by decide) (congrArg some (phaseStatus_eq _ _)),
      hreads _ _ (by decide) rfl, hreads _ _ (by decide) rfl, hreads _ _ (by decide) (congrArg some (iterStatus_eq _)),
      hreads _ _ (by decide) rfl, hreads _ _ (by decide) (hqueue _), hreads _ _ (by decide) (hqueue _),
      hreads _ _ (by decide) (hqueue _), hreads _ _ (by decide) (hqueue _), hreads _ _ (by decide) rfl,
      hreads _ _ (by decide) rfl, hreads _ _ (by decide) rfl, fun h => ?_⟩
    · refine traps_illegalOperand (.of_class rfl rfl rfl ⟨rfl, rfl⟩) ha ?_
      change effRdsr d r x s = _
      unfold effRdsr
      rw [readSR_of_unassigned x s r h]
  · intro x v bad
    have hcommon : Instr.common (.xmovWrsr 1 a r) := .of_class rfl rfl rfl ⟨rfl, rfl⟩
    have hbits : (bits v 48 15 ≠ 0 ∨ bits v 0 6 ≠ 0) ↔ bad := or_congr (bits_ne_zero v 48 15) (bits_ne_zero v 0 6)
    refine ⟨fun hr hv => ?_, fun hr hv => ?_, fun hr hb => ?_, fun hr hb => ?_, fun h2 h3 => ?_⟩
    · subst hr
      exact does_common s b c t _ _ hcommon ha rfl (if_neg (Nat.not_le.mpr hv))
    · subst hr
      exact traps_illegalOperand hcommon ha (if_pos hv)
    · subst hr
      exact does_common s b c t _ _ hcommon ha rfl (if_neg fun h => hb (hbits.mp h))
    · subst hr
      exact traps_illegalOperand hcommon ha (if_pos (hbits.mpr hb))
    · refine traps_illegalOperand hcommon ha ?_
      change effWrsr a r x s = _
      unfold effWrsr
      rw [if_neg h2, if_neg h3]

end Sys2Proof.Machine
end

section
/-! SUPPORT. Tiles by element: the bits of a tile and of its lane flags that a word builds element by element (R46, R57). -/

namespace Sys2Proof.Machine

/-! ### The tree of elements -/

section
variable (N w : Nat) (f : Nat → Nat × XFlags)

theorem genElems_fst_lt (m i : Nat) : (genElems N w f m i).1 < 2 ^ (w * 2 ^ m) := by
  induction m generalizing i with
  | zero => simpa [genElems] using Nat.mod_lt _ (Nat.two_pow_pos w)
  | succ m ih =>
    have ha := ih i
    have hb := ih (i + 2 ^ m)
    rw [show w * 2 ^ (m + 1) = w * 2 ^ m + w * 2 ^ m by ring, Nat.pow_add]
    simp only [genElems]
    nlinarith

/-- A bit of the values is that bit of the value of its element. -/
theorem testBit_genElems_fst (m i p : Nat) (hp : p < w * 2 ^ m) :
    (genElems N w f m i).1.testBit p = (f (i + p / w)).1.testBit (p % w) := by
  induction m generalizing i p with
  | zero =>
    have hp : p < w := by simpa using hp
    simp [genElems, Nat.testBit_mod_two_pow, hp, Nat.div_eq_of_lt hp, Nat.mod_eq_of_lt hp]
  | succ m ih =>
    have hw : 0 < w := Nat.pos_of_ne_zero fun h => by simp [h] at hp
    simp only [genElems]
    rw [Nat.add_comm, Nat.testBit_two_pow_mul_add _ (genElems_fst_lt N w f m i)]
    split
    · next h => exact ih i p h
    · next h =>
      have h : w * 2 ^ m ≤ p := Nat.not_lt.mp h
      have hdiv : (p - w * 2 ^ m) / w + 2 ^ m = p / w := by
        rw [← Nat.add_mul_div_left _ _ hw, Nat.sub_add_cancel h]
      rw [ih _ _ (by rw [pow_succ, ← mul_assoc] at hp; omega), Nat.sub_mul_mod h, ← hdiv]
      congr 3
      omega

/-- The lanes that `2^m` elements fill. -/
theorem genElems_snd_lt (m i : Nat) : (genElems N w f m i).2 < 2 ^ (5 * 2 ^ (m + 10 - N)) := by
  induction m generalizing i with
  | zero =>
    calc (genElems N w f 0 i).2 < 2 ^ 5 := (f i).2.isLt
      _ ≤ 2 ^ (5 * 2 ^ (0 + 10 - N)) := Nat.pow_le_pow_right (by decide) (Nat.le_mul_of_pos_right 5 (Nat.two_pow_pos _))
  | succ m ih =>
    have ha := ih i
    have hb := ih (i + 2 ^ m)
    simp only [genElems]
    split
    · next h =>
      rw [show m + 1 + 10 - N = m + 10 - N + 1 by omega, pow_succ 2 (m + 10 - N),
        show 5 * (2 ^ (m + 10 - N) * 2) = 5 * 2 ^ (m + 10 - N) + 5 * 2 ^ (m + 10 - N) by ring, Nat.pow_add]
      nlinarith
    · next h =>
      rw [show m + 1 + 10 - N = m + 10 - N by omega]
      exact Nat.or_lt_two_pow ha hb

theorem two_pow_mul_size {m : Nat} (hN : N ≤ m + 10) (h12 : N ≤ 12) : 2 ^ m * 2 ^ (12 - N) = 4 * 2 ^ (m + 10 - N) := by
  rw [← Nat.pow_add, show m + (12 - N) = 2 + (m + 10 - N) by omega, Nat.pow_add]

/-- `2^m` elements that fill lanes move the lane of an element by as many. -/
theorem laneOf_add_two_pow {m : Nat} (hN : N ≤ m + 10) (h12 : N ≤ 12) (e : Nat) :
    laneOf (2 ^ (12 - N)) (2 ^ m + e) = 2 ^ (m + 10 - N) + laneOf (2 ^ (12 - N)) e := by
  unfold laneOf
  rw [Nat.add_mul, two_pow_mul_size N hN h12, Nat.mul_add_div (by decide)]

theorem laneOf_lt_two_pow {m e : Nat} (hN : N ≤ m + 10) (h12 : N ≤ 12) (he : e < 2 ^ m) :
    laneOf (2 ^ (12 - N)) e < 2 ^ (m + 10 - N) := by
  have hlt : e * 2 ^ (12 - N) < 2 ^ m * 2 ^ (12 - N) := Nat.mul_lt_mul_of_pos_right he (Nat.two_pow_pos _)
  rw [two_pow_mul_size N hN h12] at hlt
  exact Nat.div_lt_of_lt_mul hlt

/-- Fewer elements than fill a lane lie in its lane. -/
theorem laneOf_eq_zero {m e : Nat} (hN : m + 10 ≤ N) (h12 : N ≤ 12) (he : e < 2 ^ m) : laneOf (2 ^ (12 - N)) e = 0 := by
  have hpow : 2 ^ m * 2 ^ (12 - N) ≤ 4 := by
    rw [← Nat.pow_add]
    exact (Nat.pow_le_pow_right (by decide) (show m + (12 - N) ≤ 2 by omega))
  have : e * 2 ^ (12 - N) < 2 ^ m * 2 ^ (12 - N) := Nat.mul_lt_mul_of_pos_right he (Nat.two_pow_pos _)
  unfold laneOf
  omega

theorem exists_lt_two_pow_succ {m : Nat} {P : Nat → Prop} :
    (∃ e < 2 ^ (m + 1), P e) ↔ (∃ e < 2 ^ m, P e) ∨ ∃ e < 2 ^ m, P (2 ^ m + e) := by
  constructor
  · rintro ⟨e, he, hP⟩
    by_cases h : e < 2 ^ m
    · exact .inl ⟨e, h, hP⟩
    · exact .inr ⟨e - 2 ^ m, by rw [pow_succ] at he; omega, by rwa [Nat.add_sub_cancel' (Nat.not_lt.mp h)]⟩
  · rintro (⟨e, he, hP⟩ | ⟨e, he, hP⟩)
    · exact ⟨e, by rw [pow_succ]; omega, hP⟩
    · exact ⟨_, by rw [pow_succ]; omega, hP⟩

/-- A bit of the lane flags is set where an element of its lane has the flag. -/
theorem testBit_genElems_snd (h12 : N ≤ 12) (m i p : Nat) : (genElems N w f m i).2.testBit p = true ↔
    ∃ e < 2 ^ m, laneOf (2 ^ (12 - N)) e = p / 5 ∧ (f (i + e)).2.getLsbD (p % 5) = true := by
  induction m generalizing i p with
  | zero =>
    have hz : laneOf (2 ^ (12 - N)) 0 = 0 := by simp [laneOf]
    simp only [pow_zero, Nat.lt_one_iff, exists_eq_left, hz, Nat.add_zero]
    change (f i).2.getLsbD p = true ↔ _
    constructor
    · intro h
      have hp : p < 5 := BitVec.lt_of_getLsbD h
      exact ⟨(Nat.div_eq_of_lt hp).symm, by rwa [Nat.mod_eq_of_lt hp]⟩
    · rintro ⟨hp, h⟩
      rwa [Nat.mod_eq_of_lt (by omega)] at h
  | succ m ih =>
    rw [exists_lt_two_pow_succ]
    simp only [genElems]
    split
    · next hN =>
      rw [Nat.add_comm, Nat.testBit_two_pow_mul_add _ (genElems_snd_lt N w f m i)]
      simp only [laneOf_add_two_pow N hN h12]
      split
      · next hp =>
        rw [ih, or_iff_left]
        rintro ⟨e, -, he, -⟩
        omega
      · next hp =>
        rw [ih, or_iff_right]
        · have hdiv : p / 5 = 2 ^ (m + 10 - N) + (p - 5 * 2 ^ (m + 10 - N)) / 5 := by omega
          simp only [hdiv, Nat.add_assoc, Nat.add_left_cancel_iff, Nat.sub_mul_mod (Nat.not_lt.mp hp)]
        · rintro ⟨e, he, hl, -⟩
          have := laneOf_lt_two_pow N hN h12 he
          omega
    · next hN =>
      have hzero (e : Nat) (he : e < 2 ^ m) : laneOf (2 ^ (12 - N)) (2 ^ m + e) = laneOf (2 ^ (12 - N)) e := by
        rw [laneOf_eq_zero N (m := m + 1) (by omega) h12 (by rw [pow_succ]; omega), laneOf_eq_zero N (by omega) h12 he]
      rw [Nat.testBit_or, Bool.or_eq_true, ih, ih]
      refine or_congr_right (exists_congr fun e => and_congr_right fun he => ?_)
      rw [hzero e he, Nat.add_assoc]

end

/-! ### Tiles (R46) -/

/-- The sizes of an element in bytes (R46). -/
def elemSizes : List Nat := [1, 2, 4, 8]

theorem mem_elemSizes {z : Nat} (hz : z ∈ elemSizes) : 2 ^ (12 - elemLog z) = z ∧ elemLog z ≤ 12 ∧ z * 2 ^ elemLog z = 4096 := by
  simp only [elemSizes, List.mem_cons, List.not_mem_nil, or_false] at hz
  obtain rfl | rfl | rfl | rfl := hz <;> decide

theorem mem_elemSizes_pos {z : Nat} (hz : z ∈ elemSizes) : 0 < z :=
  Nat.pos_of_ne_zero fun h => absurd (h ▸ hz) (by decide)

theorem mem_elemSizes_div {z : Nat} (hz : z ∈ elemSizes) : 2 ^ elemLog z = 4096 / z := by
  obtain ⟨-, -, h⟩ := mem_elemSizes hz
  rw [← h, Nat.mul_div_cancel_left _ (mem_elemSizes_pos hz)]

/-- A flag of a list of elements' flags, taken together. -/
theorem getLsbD_foldl_flags {α : Type} {n : Nat} (g : α → BitVec n) (l : List α) (y : BitVec n) (k : Nat) :
    (l.foldl (fun y e => y ||| g e) y).getLsbD k = true ↔ y.getLsbD k = true ∨ ∃ e ∈ l, (g e).getLsbD k = true := by
  induction l generalizing y with
  | nil => simp
  | cons a l ih => simp [ih, or_assoc]

/-- Lane flags built element by element: each element's in the lane of its first byte (R57, Table 04.2). -/
theorem lanes_genElems {z : Nat} (hz : z ∈ elemSizes) (w : Nat) (f : Nat → Nat × XFlags) {n : Nat} (hn : n < 1024) :
    (BitVec.ofNat 5120 (genElems (elemLog z) w f (elemLog z) 0).2).extractLsb' (5 * n) 5 =
      ((List.range (4096 / z)).filter fun e => laneOf z e == n).foldl (fun y e => y ||| (f e).2) 0 := by
  obtain ⟨hz', h12, -⟩ := mem_elemSizes hz
  apply BitVec.eq_of_getLsbD_eq
  intro k hk
  have hbit : 5 * n + k < 5120 := by omega
  rw [Bool.eq_iff_iff, getLsbD_foldl_flags, BitVec.getLsbD_extractLsb', BitVec.getLsbD_ofNat]
  simp only [hk, hbit, decide_true, Bool.true_and]
  rw [testBit_genElems_snd _ _ _ h12, hz', mem_elemSizes_div hz, show (5 * n + k) / 5 = n by omega,
    show (5 * n + k) % 5 = k by omega]
  simp [and_assoc]

/-- The bits of an element. -/
theorem testBit_tileElem (t : Tile) (z e q : Nat) :
    (tileElem t z e).testBit q = (decide (q < 8 * z) && t.getLsbD (8 * z * e + q)) := by
  unfold tileElem
  rw [Nat.testBit_mod_two_pow, Nat.testBit_div_two_pow, BitVec.testBit_toNat, Nat.add_comm]

/-- The bits of an element of a tile lie in the tile. -/
theorem elem_bit_lt {z e q : Nat} (he : e < 4096 / z) (hq : q < 8 * z) : 8 * z * e + q < 32768 := by
  have hz : z * (4096 / z) ≤ 4096 := Nat.mul_div_le 4096 z
  have hstep : z * (e + 1) ≤ z * (4096 / z) := Nat.mul_le_mul_left z he
  rw [mul_add_one] at hstep
  rw [mul_assoc]
  omega

/-- A tile built element by element. -/
theorem genTile_elementwise {z : Nat} (hz : z ∈ elemSizes) (f : Nat → Nat × XFlags) :
    elementwise z f (genTile z f).1 (genTile z f).2 := by
  refine ⟨fun e he => ?_, fun n hn => lanes_genElems hz (8 * z) f hn⟩
  apply Nat.eq_of_testBit_eq
  intro q
  rw [testBit_tileElem, Nat.testBit_mod_two_pow]
  by_cases hq : q < 8 * z
  · have hbit : 8 * z * e + q < 32768 := elem_bit_lt he hq
    have hin : 8 * z * e + q < 8 * z * 2 ^ elemLog z := by
      obtain ⟨-, -, hmul⟩ := mem_elemSizes hz
      rw [mul_assoc 8 z (2 ^ elemLog z)]
      omega
    unfold genTile
    rw [BitVec.getLsbD_ofNat, testBit_genElems_fst _ _ _ _ _ _ hin, Nat.mul_add_div (by omega), Nat.mul_add_mod,
      Nat.div_eq_of_lt hq, Nat.mod_eq_of_lt hq]
    simp [hbit]
  · simp [hq]

/-! ### One element replaced (R236) -/

/-- The bits of the mask of an element are those of the element. -/
theorem elem_bit_iff {z e n q : Nat} (hq : q < 8 * z) :
    (¬ 8 * z * n + q < 8 * z * e ∧ 8 * z * n + q - 8 * z * e < 8 * z) ↔ n = e := by
  constructor
  · rintro ⟨h1, h2⟩
    have hlt : n < e + 1 := Nat.lt_of_mul_lt_mul_left (a := 8 * z) (by rw [mul_add_one]; omega)
    have hgt : e < n + 1 := Nat.lt_of_mul_lt_mul_left (a := 8 * z) (by rw [mul_add_one]; omega)
    omega
  · rintro rfl
    omega

/-- A tile with one element replaced holds the others as they were. -/
theorem tileElem_setElem (t : Tile) (z e v n : Nat) (hn : n < 4096 / z) :
    tileElem (setElem t z e v) z n = if n = e then v % 2 ^ (8 * z) else tileElem t z n := by
  apply Nat.eq_of_testBit_eq
  intro q
  rw [testBit_tileElem]
  by_cases hq : q < 8 * z
  · have hbit : 8 * z * n + q < 32768 := elem_bit_lt hn hq
    have hle : 8 * z * n + q - 8 * z * e < 32768 := by omega
    have hmask := elem_bit_iff (z := z) (e := e) (n := n) hq
    unfold setElem
    simp only [BitVec.getLsbD_or, BitVec.getLsbD_and, BitVec.getLsbD_not, BitVec.getLsbD_shiftLeft, BitVec.getLsbD_ofNat,
      Nat.testBit_two_pow_sub_one, hbit, hle, decide_true, Bool.true_and, ← decide_not, ← Bool.decide_and, hmask]
    by_cases hne : n = e
    · subst hne
      simp [hq, Nat.testBit_mod_two_pow]
    · simp [hq, hne, testBit_tileElem]
  · by_cases hne : n = e <;> simp [hq, hne, Nat.testBit_mod_two_pow, testBit_tileElem]

/-- A flag word in its lane. -/
theorem extract_inLane (l : Nat) (f : XFlags) {n : Nat} (hn : n < 1024) :
    (inLane l f).extractLsb' (5 * n) 5 = if n = l then f else 0 := by
  apply BitVec.eq_of_getLsbD_eq
  intro k hk
  have hbit : 5 * n + k < 5120 := by omega
  have hle : 5 * n + k - 5 * l < 5120 := by omega
  unfold inLane
  rw [BitVec.getLsbD_extractLsb', BitVec.getLsbD_shiftLeft, BitVec.getLsbD_setWidth]
  simp only [hk, hbit, hle, decide_true, Bool.true_and]
  obtain h | rfl | h := Nat.lt_trichotomy n l
  · rw [if_neg (by omega)]
    simp [show 5 * n + k < 5 * l by omega]
  · rw [if_pos rfl]
    simp
  · rw [if_neg (by omega), BitVec.getLsbD_of_ge f _ (by omega)]
    simp

end Sys2Proof.Machine
end

section
/-! SUPPORT. The vector words of CP that compute element by element: arithmetic, logic, conversion, SF32 (R245 to R256, R278 to
R282). -/

namespace Sys2Proof.Machine

/-- A word of CP, last of its bundle, that issues in a slot and is neither PSEL nor MRED. -/
structure Instr.ofCp (n : Nat) (i : Instr) : Prop where
  word : Laws.Words.Statement i
  cls : classOf i = .c
  last : lastOf i = true
  slot : slotOf i = n
  range : 1 ≤ n ∧ n ≤ 5
  plain : Instr.plain i = true

section
variable {s s1 s2 : State} {b : BenchId} {c : CoreId} {n : Nat} {i : Instr} {e : Option Tile}

/-- A word of CP that is alone and whose effect delivers a result: its slot's ring receives the entry (R52). -/
theorem Instr.ofCp.does (k : Instr.ofCp n i) (ha : s.aloneInCp b c n i)
    (he : wordEffect i (s.issuing b c 2 n) s = .ring s2 e) : s.does b c 2 n i s2 [(n, e)] :=
  does_ring s b c i n s2 e k.word k.cls k.last k.slot k.range.1 k.range.2 k.plain ha he

/-- A word of CP whose effect delivers a tile and its flags does what the delivery does. -/
theorem Instr.ofCp.does_delivery (k : Instr.ofCp n i) (ha : s.aloneInCp b c n i) {d : BitVec 6} {z : Nat} {t : Tile} {l : Lanes}
    (he : wordEffect i (s.issuing b c 2 n) s = deliverTile (s.issuing b c 2 n) s1 d z t l) :
    ∀ s2 e, deliverTile (s.issuing b c 2 n) s1 d z t l = .ring s2 e → s.does b c 2 n i s2 [(n, e)] :=
  fun _ _ h => k.does ha (he.trans h)

/-- A word of CP whose effect delivers what a function gives of each element. -/
theorem Instr.ofCp.gives (k : Instr.ofCp n i) (ha : s.aloneInCp b c n i) {d : BitVec 6} {z : Nat} (hz : z ∈ elemSizes)
    {fn : Nat → Nat × XFlags} (he : wordEffect i (s.issuing b c 2 n) s =
      deliverTile (s.issuing b c 2 n) s1 d z (genTile z fn).1 (genTile z fn).2) :
    ∃ T F, elementwise z fn T F ∧ ∀ s2 e, deliverTile (s.issuing b c 2 n) s1 d z T F = .ring s2 e →
      s.does b c 2 n i s2 [(n, e)] :=
  ⟨_, _, genTile_elementwise hz fn, k.does_delivery ha he⟩

end

theorem tileElem_zero (z e : Nat) : tileElem 0 z e = 0 := by
  unfold tileElem
  rw [show (0 : Tile).toNat = 0 from BitVec.toNat_zero, Nat.zero_div, Nat.zero_mod]

theorem tileElem_mapTile {z e : Nat} (hz : z ∈ elemSizes) (g : Nat → Nat) (he : e < 4096 / z) :
    tileElem (mapTile z g) z e = g e % 2 ^ (8 * z) := (genTile_elementwise hz fun e => (g e, 0)).1 e he

theorem Fmt.size_ofCode_mem (c : BitVec 4) : (Fmt.ofCode c).size ∈ elemSizes := by
  revert c; decide

/-! ### Effects of words that no PSEL selects for -/

section
variable {s s1 : State} {b : BenchId} {c : CoreId} {n z : Nat} {wide reads : Bool} {d a q : BitVec 6} {ta tb : Tile}

/-- A word of two sources, once they are read. -/
theorem effElems_of_read {f : Nat → Nat → Nat → Nat × XFlags}
    (h : readTwo (s.issuing b c 2 n) s a q z wide = .ok (ta, tb, s1)) :
    effElems z wide reads d a q f (s.issuing b c 2 n) s =
      let o := genTile z fun e => f (tileElem ta z e) (tileElem tb z e)
        (if reads then tileElem (readDest (s.issuing b c 2 n) s1 d) z e else 0)
      deliverTile (s.issuing b c 2 n) s1 d z o.1 o.2 := by
  have hd (e : Nat) : tileElem (if reads then readDest (s.issuing b c 2 n) s1 d else 0) z e =
      if reads then tileElem (readDest (s.issuing b c 2 n) s1 d) z e else 0 := by
    cases reads
    · exact tileElem_zero z e
    · rfl
  unfold effElems
  rw [h]
  simp only [hd]
  rfl

/-- A word of one source, once it is read. -/
theorem effUnary_of_read {f : Nat → Nat × XFlags} (h : readSource (s.issuing b c 2 n) s a z wide = .ok (ta, s1)) :
    effUnary z wide d a f (s.issuing b c 2 n) s =
      let o := genTile z fun e => f (tileElem ta z e)
      deliverTile (s.issuing b c 2 n) s1 d z o.1 o.2 := by
  unfold effUnary
  rw [h]
  rfl

/-- A word that builds a tile of the whole of its source. -/
theorem effWhole_of_read {f : State → Tile → Tile} (h : readSource (s.issuing b c 2 n) s a z wide = .ok (ta, s1)) :
    effWhole z wide d a f (s.issuing b c 2 n) s = deliverTile (s.issuing b c 2 n) s1 d z (f s1 ta) 0 := by
  unfold effWhole
  rw [h]
  rfl

end

/-! ### The words -/

section
variable {s s1 : State} {b : BenchId} {c : CoreId} {d a q : BitVec 6} {f : BitVec 4} {ta tb : Tile} {i : Instr}

/-- The words of Table 18.6, one for each format: of two sources, or of one (R250, R251). -/
theorem vf_gives {fmt : Fmt} {sh : FShape} {r : BitVec 3} (k : Instr.ofCp 2 i) (hz : fmt.size ∈ elemSizes)
    (he : wordEffect i = effVf fmt sh d a q f r) (ha : s.aloneInCp b c 2 i) :
    let x := s.issuing b c 2 2
    let rm := RMode.ofCode r (s.stream b c 2).frm
    let gives (fn : Nat → Nat × XFlags) : Prop := ∃ T F, elementwise fmt.size fn T F ∧
      ∀ s2 e, deliverTile x s1 d fmt.size T F = .ring s2 e → s.does b c 2 2 i s2 [(2, e)]
    (vfUnary f = false → readTwo x s a q fmt.size false = .ok (ta, tb, s1) → gives fun e =>
      vfElem fmt sh f.toNat rm (tileElem ta fmt.size e) (tileElem tb fmt.size e)
        (if 3 ≤ f.toNat ∧ f.toNat ≤ 5 then tileElem (readDest x s1 d) fmt.size e else 0)) ∧
    (vfUnary f = true → readSource x s a fmt.size false = .ok (ta, s1) → gives fun e =>
      vfElem fmt sh f.toNat rm (tileElem ta fmt.size e) 0 0) := by
  intro x rm gives
  have heff : wordEffect i x s = effVf fmt sh d a q f r x s := congrFun (congrFun he x) s
  refine ⟨fun hf hread => k.gives ha hz ?_, fun hf hread => k.gives ha hz ?_⟩
  · rw [heff]
    unfold effVf
    simp only [hf, Bool.false_eq_true, if_false]
    rw [effElems_of_read hread]
    simp only [Bool.and_eq_true, decide_eq_true_eq]
    rfl
  · rw [heff]
    unfold effVf
    simp only [hf, if_true]
    exact effUnary_of_read hread

/-- The integer words of Table 26.5, one for each size (R254). -/
theorem vi_gives {z : Nat} {u sat : BitVec 1} (k : Instr.ofCp 2 i) (hz : z ∈ elemSizes)
    (he : wordEffect i = effVi z d a q f u sat) (ha : s.aloneInCp b c 2 i) :
    let x := s.issuing b c 2 2
    let gives (fn : Nat → Nat × XFlags) : Prop := ∃ T F, elementwise z fn T F ∧
      ∀ s2 e, deliverTile x s1 d z T F = .ring s2 e → s.does b c 2 2 i s2 [(2, e)]
    (f ≠ 12 → f ≠ 13 → readTwo x s a q z false = .ok (ta, tb, s1) → gives fun e =>
      (viElem f.toNat (u == 1) (sat == 1) (8 * z) (tileElem ta z e) (tileElem tb z e)
        (if f = 4 then tileElem (readDest x s1 d) z e else 0), 0)) ∧
    ((f = 12 ∨ f = 13) → readSource x s a z false = .ok (ta, s1) → gives fun e =>
      (viElem f.toNat (u == 1) (sat == 1) (8 * z) (tileElem ta z e) 0 0, 0)) := by
  intro x gives
  have heff : wordEffect i x s = effVi z d a q f u sat x s := congrFun (congrFun he x) s
  have hnum (m : BitVec 4) : f.toNat = m.toNat ↔ f = m := BitVec.toNat_inj
  have hcount : (f.toNat = 12 ∨ f.toNat = 13) ↔ (f = 12 ∨ f = 13) := or_congr (hnum 12) (hnum 13)
  refine ⟨fun h12 h13 hread => k.gives ha hz ?_, fun hf hread => k.gives ha hz ?_⟩
  · rw [heff]
    unfold effVi
    rw [if_neg fun h => (hcount.mp h).elim h12 h13, effElems_of_read hread]
    simp only [beq_iff_eq, show f.toNat = 4 ↔ f = 4 from hnum 4]
    rfl
  · rw [heff]
    unfold effVi
    rw [if_pos (hcount.mpr hf)]
    exact effUnary_of_read hread

/-- The functions of VLOGIC (R255). -/
theorem vlogic_of_two (hf : f ≠ 6) (hread : readTwo (s.issuing b c 2 2) s a q 1 true = .ok (ta, tb, s1)) :
    effVlogic d a q f (s.issuing b c 2 2) s = deliverTile (s.issuing b c 2 2) s1 d 1 (logicFn f.toNat ta tb) 0 := by
  unfold effVlogic
  rw [if_neg hf, hread]
  rfl

/-- A tile converted element by element, in the view of the format with fewer columns (R56, R256). -/
theorem convertTile_elements {fs fd : Fmt} (hs : fs.size ∈ elemSizes) (hd : fd.size ∈ elemSizes) (rm : RMode) (t : Tile) :
    let z := max fs.size fd.size
    let o := convertTile fs fd rm none t
    (∀ e, e < 4096 / fd.size → tileElem o.1 fd.size e = if e % cols fd.size < cols z
      then (convert fs fd rm (tileElem t fs.size (e / cols fd.size * cols fs.size + e % cols fd.size))).1 % 2 ^ (8 * fd.size)
      else 0) ∧
    ∀ n, n < 1024 → o.2.extractLsb' (5 * n) 5 = ((List.range (4096 / z)).filter fun e => laneOf z e == n).foldl
      (fun y e => y ||| (convert fs fd rm (tileElem t fs.size (e / cols z * cols fs.size + e % cols z))).2) 0 := by
  intro z o
  have hz : z ∈ elemSizes := by
    obtain h | h := max_choice fs.size fd.size
    · exact (show z = fs.size from h) ▸ hs
    · exact (show z = fd.size from h) ▸ hd
  refine ⟨fun e he => ?_, (genTile_elementwise hz _).2⟩
  refine (tileElem_mapTile hd _ he).trans ?_
  dsimp only
  split
  · rfl
  · exact Nat.zero_mod _

theorem vcvt_of_read {src dst : BitVec 4} {r : BitVec 3}
    (hread : readSource (s.issuing b c 2 2) s a (Fmt.ofCode src).size false = .ok (ta, s1)) :
    effVcvt d a src dst r (s.issuing b c 2 2) s =
      let o := convertTile (Fmt.ofCode src) (Fmt.ofCode dst) (RMode.ofCode r (s1.stream b c 2).frm) none ta
      deliverTile (s.issuing b c 2 2) s1 d (Fmt.ofCode dst).size o.1 o.2 := by
  unfold effVcvt
  simp only [hread]
  rfl

end

open Laws.Words in
/-- Settles O25: each word's effect delivers a tile built element by element; the words of one table are one case. -/
theorem vectorArithmetic : Obligations.VectorArithmetic := by
  unfold Obligations.VectorArithmetic
  intro s s1 b c d a q f r u sat src dst ta tb gives x rm rm1
  refine ⟨?_, ?_, ?_, ?_, ?_, ?_⟩
  · simp only [List.forall_mem_cons, List.not_mem_nil, false_implies, implies_true, and_true]
    exact ⟨vf_gives ⟨vf32 .., rfl, rfl, rfl, by decide, rfl⟩ (by decide) rfl,
      vf_gives ⟨vf64 .., rfl, rfl, rfl, by decide, rfl⟩ (by decide) rfl,
      vf_gives ⟨vf16 .., rfl, rfl, rfl, by decide, rfl⟩ (by decide) rfl,
      vf_gives ⟨vbf16 .., rfl, rfl, rfl, by decide, rfl⟩ (by decide) rfl⟩
  · simp only [List.forall_mem_cons, List.not_mem_nil, false_implies, implies_true, and_true]
    exact ⟨vi_gives ⟨vi32 .., rfl, rfl, rfl, by decide, rfl⟩ (by decide) rfl,
      vi_gives ⟨vi16 .., rfl, rfl, rfl, by decide, rfl⟩ (by decide) rfl,
      vi_gives ⟨vi8 .., rfl, rfl, rfl, by decide, rfl⟩ (by decide) rfl,
      vi_gives ⟨vi64 .., rfl, rfl, rfl, by decide, rfl⟩ (by decide) rfl⟩
  · intro i ha hf hread t
    have ht : logicFn f.toNat ta tb = t := by
      obtain h | h | h | h | h | h : f.toNat = 0 ∨ f.toNat = 1 ∨ f.toNat = 2 ∨ f.toNat = 3 ∨ f.toNat = 4 ∨ f.toNat = 5 := by omega
      all_goals simp only [t, h]; rfl
    have hne : f ≠ 6 := fun h => absurd (h ▸ hf) (by decide)
    exact Instr.ofCp.does_delivery (n := 2) ⟨vlogic .., rfl, rfl, rfl, by decide, rfl⟩ ha (ht ▸ vlogic_of_two hne hread)
  · intro i ha hread
    exact Instr.ofCp.does_delivery (n := 2) ⟨vlogic .., rfl, rfl, rfl, by decide, rfl⟩ ha (effWhole_of_read hread)
  · intro i fs fd ha hread
    obtain ⟨hvals, hflags⟩ := convertTile_elements (Fmt.size_ofCode_mem src) (Fmt.size_ofCode_mem dst) rm1 ta
    exact ⟨_, _, hvals, hflags, Instr.ofCp.does_delivery (n := 2) ⟨vcvt .., rfl, rfl, rfl, by decide, rfl⟩ ha (vcvt_of_read hread)⟩
  · intro i x ha hread
    exact Instr.ofCp.gives (n := 5) ⟨sf32 .., rfl, rfl, rfl, by decide, rfl⟩ ha (by decide) (effUnary_of_read hread)

end Sys2Proof.Machine
end

section
/-! SUPPORT. The words of CP that write a predicate register (R47, R49, R252, R253, R264, R288). -/

namespace Sys2Proof.Machine

/-! ### Predicates built element by element (R47) -/

/-- Every bit of an element is what holds of the element, and its flags lie in the lane of its first byte. -/
theorem genPred_elements {x : Ctx} (hsel : x.sel = {}) {z : Nat} (hz : z ∈ elemSizes) (f : Nat → Bool × XFlags) :
    (∀ n, n < 4096 → (genPred x z true f).1.getLsbD n = (f (n / z)).1) ∧
    ∀ n, n < 1024 → (genPred x z true f).2.extractLsb' (5 * n) 5 =
      ((List.range (4096 / z)).filter fun e => laneOf z e == n).foldl (fun y e => y ||| (f e).2) 0 := by
  have hgen : genPred x z true f =
      let o := genElems (elemLog z) z (fun e => (if (f e).1 then 2 ^ z - 1 else 0, (f e).2)) (elemLog z) 0
      (BitVec.ofNat 4096 o.1, BitVec.ofNat 5120 o.2) := by
    unfold genPred
    rw [hsel]
    rfl
  rw [hgen]
  refine ⟨fun n hn => ?_, fun n hn => lanes_genElems hz z _ hn⟩
  obtain ⟨-, -, hmul⟩ := mem_elemSizes hz
  have hmod : n % z < z := Nat.mod_lt _ (mem_elemSizes_pos hz)
  dsimp only
  rw [BitVec.getLsbD_ofNat, testBit_genElems_fst _ _ _ _ _ _ (hmul ▸ hn), Nat.zero_add]
  cases (f (n / z)).1
  · simp
  · simp [hn, hmod, Nat.testBit_two_pow_sub_one]

theorem genElems_snd_of_no_flags (N w : Nat) {f : Nat → Nat × XFlags} (hf : ∀ e, (f e).2 = 0) (m i : Nat) :
    (genElems N w f m i).2 = 0 := by
  induction m generalizing i with
  | zero => simp [genElems, hf]
  | succ m ih => simp [genElems, ih]

/-- A predicate of elements that raise no flags has none. -/
theorem genPred_of_no_flags {x : Ctx} (hsel : x.sel = {}) (z : Nat) (g : Nat → Bool) :
    (genPred x z true fun e => (g e, 0)).2 = 0 := by
  unfold genPred
  rw [hsel]
  exact congrArg (BitVec.ofNat 5120) (genElems_snd_of_no_flags _ _ (fun _ => rfl) _ _)

/-! ### Their delivery (R49, R50) -/

/-- The check passes a synchronous write of a predicate that the phase has not written, and marks it (R50). -/
theorem checkWrite_p_of_unwritten (k : Core) (r : BitVec 3) (tag : Tag) (h : (k.p[r.toFin]).written = false) :
    k.checkWrite (.p r) tag = .ok { k with p := k.p.set r.toFin ((k.p[r.toFin]).mark tag) } := by
  have hw : k.isWritten (.p r) = false := h
  unfold Core.checkWrite
  simp only [hw, Bool.false_and]
  rfl

/-- What delivering a predicate leaves: its register marked, and the write with its flags among the results. -/
def State.predWritten (s : State) (b : BenchId) (c : CoreId) (d : BitVec 3) (pc : Word) (p : Pred) (l : Lanes) : State :=
  s.updCore b c fun k => { k with
    p := k.p.set d.toFin (((s.core b c).p[d.toFin]).mark { stream := 2, async := false, pc := pc })
    results := k.results ++ [{ writes := [{ reg := .p d, data := p.setWidth 32768, mask := BitVec.allOnes 4096 }], flags := l }] }

section
variable {s s1 : State} {b : BenchId} {c : CoreId} {n : Nat} {d : BitVec 3}

theorem deliverPred_of_unwritten (z : Nat) (p : Pred) (l : Lanes) (prefixed : Bool)
    (h : ((s1.core b c).p[d.toFin]).written = false) :
    deliverPred (s.issuing b c 2 n) s1 (d.setWidth 6) z p l prefixed =
      .ring (s1.predWritten b c d (s.stream b c 2).pc p l) none := by
  have hd : (d.setWidth 6).setWidth 3 = d := by
    rw [BitVec.setWidth_setWidth_of_le _ (by decide), BitVec.setWidth_eq]
  have hcheck := checkWrite_p_of_unwritten (s1.core b c) d { stream := 2, async := false, pc := (s.stream b c 2).pc } h
  have hmask : (if prefixed then (s.issuing b c 2 n).sel.mask z else BitVec.allOnes 4096) = BitVec.allOnes 4096 := by
    cases prefixed <;> rfl
  have hzero : (prefixed && (s.issuing b c 2 n).sel.zero) = false := by cases prefixed <;> rfl
  unfold deliverPred
  simp only [hd, hmask, hzero, Bool.false_eq_true, if_false]
  change (match (s1.core b c).checkWrite (.p d) { stream := 2, async := false, pc := (s.stream b c 2).pc } with
    | .error e => Res.trap e
    | .ok k => .ring (s1.updCore b c fun _ => _) none) = _
  rw [hcheck]
  exact congrArg (Res.ring · none) (State.updCore_congr rfl)

variable {z : Nat} {a q : BitVec 6} {ta tb : Tile}

/-- A compare, once its sources are read. -/
theorem effCompare_of_read {f : Nat → Nat → Bool × XFlags} (hread : readTwo (s.issuing b c 2 n) s a q z false = .ok (ta, tb, s1))
    (h : ((s1.core b c).p[d.toFin]).written = false) :
    effCompare z (d.setWidth 6) a q f (s.issuing b c 2 n) s =
      let o := genPred (s.issuing b c 2 n) z true fun e => f (tileElem ta z e) (tileElem tb z e)
      .ring (s1.predWritten b c d (s.stream b c 2).pc o.1 o.2) none := by
  unfold effCompare
  rw [hread]
  exact deliverPred_of_unwritten z _ _ true h

/-- A word of CP that compares two tiles writes each element's predicate. -/
theorem Instr.ofCp.compares {i : Instr} (k : Instr.ofCp n i) (ha : s.aloneInCp b c n i) (hz : z ∈ elemSizes)
    {f : Nat → Nat → Bool × XFlags} (he : wordEffect i = effCompare z (d.setWidth 6) a q f)
    (hread : readTwo (s.issuing b c 2 n) s a q z false = .ok (ta, tb, s1)) (h : ((s1.core b c).p[d.toFin]).written = false) :
    ∃ p l, (∀ n, n < 4096 → p.getLsbD n = (f (tileElem ta z (n / z)) (tileElem tb z (n / z))).1) ∧
      (∀ n, n < 1024 → l.extractLsb' (5 * n) 5 =
        ((List.range (4096 / z)).filter fun e => laneOf z e == n).foldl
          (fun y e => y ||| (f (tileElem ta z e) (tileElem tb z e)).2) 0) ∧
      s.does b c 2 n i (s1.predWritten b c d (s.stream b c 2).pc p l) [(n, none)] := by
  obtain ⟨hbits, hflags⟩ := genPred_elements (x := s.issuing b c 2 n) rfl hz fun e => f (tileElem ta z e) (tileElem tb z e)
  refine ⟨_, _, hbits, hflags, k.does ha ?_⟩
  rw [he]
  exact effCompare_of_read hread h

end

theorem vfcmpFmt_size_mem (t : BitVec 3) : (vfcmpFmt t).size ∈ elemSizes := Fmt.size_ofCode_mem _

theorem vicmp_size_mem (t : BitVec 3) : 2 ^ (t.toNat % 4) ∈ elemSizes := by revert t; decide

/-- The width that the low bits of VICMP's type give (R160). -/
theorem vicmp_width (t : BitVec 3) : (t.extractLsb' 0 2).toNat = t.toNat % 4 := by revert t; decide

open Laws.Words in
/-- Settles O26: each word delivers its predicate, of which the compares and CK.INBOX build every element alike. -/
theorem predicates : Obligations.Predicates := by
  unfold Obligations.Predicates
  intro s s1 b c d a q f t x3 ta tb x d6 face writes compares
  refine ⟨fun ha hread hw => ?_, fun ha hread hw => ?_, fun ha hw => ?_, ?_⟩
  · exact Instr.ofCp.compares (n := 2) ⟨vfcmp .., rfl, rfl, rfl, by decide, rfl⟩ ha (vfcmpFmt_size_mem t) rfl hread hw
  · have heff : wordEffect (.vicmp 1 d6 a q f t) = effCompare (2 ^ (t.toNat % 4)) d6 a q fun m n =>
        (viCompare f.toNat (!t.getLsbD 2) (8 * 2 ^ (t.toNat % 4)) m n, 0) := by
      change effVicmp d6 a q f t = _
      unfold effVicmp
      rw [vicmp_width]
    exact Instr.ofCp.compares (n := 2) ⟨vicmp .., rfl, rfl, rfl, by decide, rfl⟩ ha (vicmp_size_mem t) heff hread hw
  · intro p pa pb gives
    have hgives : gives (predFn f.toNat pa pb (2 ^ q.toNat % 256)) :=
      Instr.ofCp.does (n := 2) ⟨Laws.Words.pred .., rfl, rfl, rfl, by decide, rfl⟩ ha (deliverPred_of_unwritten 1 _ _ false hw)
    refine ⟨?_, ?_, ?_, ?_, ?_, ?_, ?_, fun _ => hgives⟩ <;> (rintro rfl; exact hgives)
  · intro i x ha hread hw box
    let holds (e : Nat) : Bool := inBox (ckAxes x3) (tileElem ta 8 e) (tileElem box.1 8 e) (tileElem box.2 8 e)
    have heff : wordEffect i x s = .ring (s1.predWritten b c d (s.stream b c 2).pc (genPred x 8 true fun e => (holds e, 0)).1 0)
        none := by
      change effCkInbox d6 a q x3 x s = _
      unfold effCkInbox
      rw [hread, ← genPred_of_no_flags (x := x) rfl 8 holds]
      exact deliverPred_of_unwritten 8 _ _ true hw
    exact ⟨_, (genPred_elements rfl (by decide) _).1, Instr.ofCp.does ⟨ckInbox .., rfl, rfl, rfl, by decide, rfl⟩ ha heff⟩

end Sys2Proof.Machine
end

section
/-! SUPPORT. Issuing copies: the checks that a copy word passes, the face that it marks, and how its copy begins (R50, R115, R231
to R241). -/

namespace Sys2Proof.Machine

/-! ### Changes that change nothing -/

/-- A core that is put back as it is. -/
theorem State.updCore_eq_self {s : State} {b : BenchId} {c : CoreId} {f : Core → Core} (h : f (s.core b c) = s.core b c) :
    s.updCore b c f = s := by
  rw [State.updCore_congr (g := fun k => k) h]
  unfold State.updCore State.updGang
  cases hg : s.gang? b with
  | none => rfl
  | some g =>
    have hb : s.benches[b.toFin] = some g := hg
    unfold State.setGang
    simp only [Fin.getElem_fin, Vector.set_getElem_self]
    rw [show (some g : Option Gang) = s.benches[b.toFin] from hb.symm]
    simp

/-- A stream that is put back as it is. -/
theorem State.updStream_eq_self {s : State} {b : BenchId} {c : CoreId} {t : StreamId} {f : Stream → Stream}
    (h : f (s.stream b c t) = s.stream b c t) : s.updStream b c t f = s := by
  refine State.updCore_eq_self ?_
  have hs : (s.core b c).streams[t.toFin] = s.stream b c t := rfl
  rw [hs, h, ← hs]
  simp

/-! ### Words of SC, LD and ST -/

/-- A word that a stream other than CP performs. -/
structure Instr.ofStream (t : StreamId) (i : Instr) : Prop where
  word : Laws.Words.Statement i
  last : lastOf i = true
  notCp : t ≠ 2
  fits : (classOf i).fits t = true

section
variable {s s' : State} {b : BenchId} {c : CoreId} {t : StreamId} {n : Nat} {i : Instr}

theorem Instr.ofStream.isWord (k : Instr.ofStream t i) : classOf i ≠ .event := fun h => by
  have hf := k.fits
  rw [h] at hf
  exact absurd hf Bool.false_ne_true

theorem Instr.ofStream.does (k : Instr.ofStream t i) (ha : s.alone b c t) (he : wordEffect i (s.issuing b c t n) s = .ok s') :
    s.does b c t n i s' := does_scalar s b c t i n s' k.word k.last k.isWord k.notCp k.fits ha.1 he

theorem Instr.ofStream.traps (k : Instr.ofStream t i) (ha : s.alone b c t) {f : Trap}
    (he : wordEffect i (s.issuing b c t n) s = .trap f) : s.traps b c t n i f := by
  unfold State.traps State.trapsIn
  rw [exec_scalar s b c t i n k.word k.last k.isWord k.notCp k.fits ha.1, he]
  rfl

/-- A word that waits leaves the state that its effect says. -/
theorem Instr.ofStream.stays (k : Instr.ofStream t i) (ha : s.alone b c t)
    (he : wordEffect i (s.issuing b c t n) s = .stay s') : exec i s = .next s' := by
  rw [exec_scalar s b c t i n k.word k.last k.isWord k.notCp k.fits ha.1, he]
  rfl

/-- A word that waits and leaves all as it is. -/
theorem Instr.ofStream.waits (k : Instr.ofStream t i) (ha : s.alone b c t)
    (he : wordEffect i (s.issuing b c t n) s = .stay s) : s.waits b c t i (s.stream b c t).wait := by
  unfold State.waits
  rw [k.stays ha he, State.updStream_eq_self rfl]

end

/-! ### A copy begins (R115, R235) -/

section
variable {s s0 s' : State} {b : BenchId} {c : CoreId} {t : StreamId} {n : Nat}

/-- A copy word waits exactly where it finds no room. -/
theorem copyWaits_eq_false (h : s.roomFor b c t) : (s.core b c).copyWaits t = false := by
  obtain ⟨hlen, hrep⟩ := h
  unfold Core.copyWaits Core.replays
  rw [Bool.or_eq_false_iff]
  refine ⟨decide_eq_false (Nat.not_le.mpr hlen), List.any_eq_false.mpr fun y hy => ?_⟩
  rw [Bool.and_eq_true, beq_iff_eq, beq_iff_eq]
  exact fun h => hrep y hy h.1 h.2

theorem copyWaits_of_full (h : 32 ≤ (s.core b c).copies.length) : (s.core b c).copyWaits t = true := by
  unfold Core.copyWaits
  rw [decide_eq_true h, Bool.true_or]

/-- Room for a copy is a matter of the core's copies alone. -/
theorem State.roomFor.of_copies (h : s.roomFor b c t) (hc : (s'.core b c).copies = (s.core b c).copies) : s'.roomFor b c t := by
  unfold State.roomFor
  rw [hc]
  exact h

/-- A change of a core that keeps its copies. -/
theorem State.copies_updCore {f : Core → Core} (hf : ∀ k, (f k).copies = k.copies) :
    ((s.updCore b c f).core b c).copies = (s.core b c).copies := by
  obtain h | ⟨-, h⟩ := s.core_updCore_cases b c f c <;> rw [h]
  rw [hf]

theorem issueCopy_of_room (h : s.roomFor b c t) {mk : Nat → Copy} {k : Copy} (hk : mk = fun m => { k with num := m }) :
    issueCopy (s'.issuing b c t n) s0 s mk = .ok (s.begin b c t k) := by
  subst hk
  unfold issueCopy
  rw [show ((s'.issuing b c t n).core s).copyWaits (s'.issuing b c t n).t = false from copyWaits_eq_false h]
  rfl

theorem issueCopy_of_full (h : 32 ≤ (s.core b c).copies.length) (mk : Nat → Copy) :
    issueCopy (s'.issuing b c t n) s0 s mk = .stay s0 := by
  unfold issueCopy
  rw [show ((s'.issuing b c t n).core s).copyWaits (s'.issuing b c t n).t = true from copyWaits_of_full h]
  rfl

end

/-! ### Checks that hold (R235) -/

/-- A box that is not empty, with its fields as they must be, goes to what the word does with it. -/
theorem withBox_of_fields {x : Ctx} {s : State} {g : BitVec 5} {tOk : Bool} {fields : CopyShape → BitVec 4 → Bool}
    {f : CopyShape → BitVec 4 → Res} (hg : g.toNat ≤ 28) (ht : tOk = true)
    (hfields : fields (readBoxGroup (x.st s) g).1 (readBoxGroup (x.st s) g).2 = true)
    (hcount : (readBoxGroup (x.st s) g).1.count ≠ 0) :
    withBox x s g tOk fields f = f (readBoxGroup (x.st s) g).1 (readBoxGroup (x.st s) g).2 := by
  unfold withBox
  have hg' : (decide (28 < g.toNat) || !tOk) = false := by
    rw [ht, decide_eq_false (Nat.not_lt.mpr hg)]
    rfl
  simp only [hg', hfields, Bool.false_eq_true, if_false, Bool.not_true, hcount]

/-- Fields that are not as they must be. -/
theorem withBox_of_bad_fields {x : Ctx} {s : State} {g : BitVec 5} {tOk : Bool} {fields : CopyShape → BitVec 4 → Bool}
    {f : CopyShape → BitVec 4 → Res} (hfields : fields (readBoxGroup (x.st s) g).1 (readBoxGroup (x.st s) g).2 = false) :
    withBox x s g tOk fields f = illegalOperand := by
  unfold withBox
  simp only [hfields, Bool.not_false, if_true]
  split <;> rfl

/-- The v register that a copy word's T names. -/
theorem setWidth_v (v : BitVec 5) : (v.setWidth 6).setWidth 5 = v := by
  rw [BitVec.setWidth_setWidth_of_le _ (by decide), BitVec.setWidth_eq]

theorem toNat_v (v : BitVec 5) : (v.setWidth 6).toNat = v.toNat :=
  BitVec.toNat_setWidth_of_le (by decide)

theorem tileT_of_lt {x : Ctx} {s : State} {v : BitVec 5} (h : v.toNat < (x.gang s).vcount) : tileT x s (v.setWidth 6) = true := by
  unfold tileT vOk
  rw [toNat_v, decide_eq_true h, decide_eq_true v.isLt]
  rfl

theorem noConversion_self {f : BitVec 4} (h : f ≠ 15) : noConversion f f = false := by
  have h15 : (f == 15) = false := beq_eq_false_iff_ne.mpr h
  unfold noConversion
  rw [h15, bne_self_eq_false]
  rfl

/-- The fields of a tile copy that does not convert. -/
theorem tileFields_plain {f tf : BitVec 4} {h : CopyShape} (htf : tf = 0) (hf : f ≠ 15) (hfit : h.fits (Fmt.ofCode f).size = true) :
    tileFields false f h tf = true := by
  unfold tileFields
  simp [htf, noConversion_self hf, hfit]

/-- The fields of a tile copy that converts. -/
theorem tileFields_conv {f tf : BitVec 4} {h : CopyShape} (hc : noConversion f tf = false)
    (hfit : h.fits (Fmt.ofCode tf).size = true) : tileFields true f h tf = true := by
  unfold tileFields
  simp [hc, hfit]

theorem plainFields_of {z : Option Nat} {h : CopyShape} {tf : BitVec 4} (htf : tf = 0) (hfit : ∀ n ∈ z, h.fits n = true) :
    plainFields z h tf = true := by
  unfold plainFields
  cases z with
  | none => simp [htf]
  | some n => simp [htf, hfit n rfl]

/-! ### The face that a load marks (R48, R50) -/

/-- The mark of a copy on a face that the phase has not written. -/
theorem checkWrite_v_of_copy (k : Core) (r : BitVec 5) (tag : Tag) (h : (k.v[r.toFin]).written = false) (ht : tag.async = true) :
    k.checkWrite (.v r) tag = .ok { k with v := k.v.set r.toFin { k.v[r.toFin] with
      hid := (k.v[r.toFin]).vis, written := true, pending := true, tag := tag } } := by
  have hw : k.isWritten (.v r) = false := h
  unfold Core.checkWrite
  simp only [hw, Bool.false_and, Face.mark, h, ht]
  simp

/-- A copy's write of a face that the phase has written is refused, whoever wrote it. -/
theorem checkWrite_v_of_copy_written (k : Core) (r : BitVec 5) (tag : Tag) (h : (k.v[r.toFin]).written = true)
    (ht : tag.async = true) :
    let old := (k.v[r.toFin]).tag
    k.checkWrite (.v r) tag = .error
      { cause := 0x08, aux0 := old.pc
        aux1 := BitVec.ofNat 64 (r.toNat * 2 ^ 8 + (if old.async then 4 else 0) + old.stream.toNat) } := by
  intro old
  have hw : k.isWritten (.v r) = true := h
  unfold Core.checkWrite
  simp only [hw, ht, Bool.true_and, Bool.true_or, if_true]
  rfl

/-- The face of a register that a copy of a stream is to fill, cleared where the copy says so. -/
def Face.loads (f : Face Tile) (zero : Bool) (t : StreamId) (pc : Word) : Face Tile :=
  { vis := f.vis, hid := if zero then 0 else f.vis, written := true, pending := true
    tag := { stream := t, async := true, pc := pc } }

/-- A core with such a face marked. -/
def Core.loads (k : Core) (r : BitVec 5) (zero : Bool) (t : StreamId) (pc : Word) : Core :=
  { k with v := k.v.set r.toFin ((k.v[r.toFin]).loads zero t pc) }

section
variable {s : State} {b : BenchId} {c : CoreId} {t : StreamId} {v : BitVec 6} {r : BitVec 5}

/-- A copy that fills a face of which it is the first writer marks it, and begins where it finds room. -/
theorem loadFace_of_unwritten (zero : Bool) (mk : BitVec 5 → Nat → Copy) (hr : (s.core b c).physV (v.setWidth 5) = r)
    (hw : ((s.core b c).v[r.toFin]).written = false) :
    loadFace (s.issuing b c t 0) s v zero mk =
      issueCopy (s.issuing b c t 0) s (s.updCore b c fun k => k.loads r zero t (s.stream b c t).pc) (mk r) := by
  subst hr
  have hcheck := checkWrite_v_of_copy (s.core b c) _ { stream := t, async := true, pc := (s.stream b c t).pc } hw rfl
  unfold loadFace
  dsimp only
  change (match (s.core b c).checkWrite (.v ((s.core b c).physV (v.setWidth 5)))
      { stream := t, async := true, pc := (s.stream b c t).pc } with
    | .error t => Res.trap t
    | .ok k => issueCopy _ s (s.updCore b c fun _ => _) _) = _
  rw [hcheck]
  dsimp only
  refine congrArg (issueCopy _ s · _) (State.updCore_congr ?_)
  have hx : (s.issuing b c t 0).core s = s.core b c := rfl
  unfold Core.loads Face.loads
  cases zero
  · rfl
  · simp [hx]

/-- A copy whose face the phase has written is refused. -/
theorem loadFace_of_written (zero : Bool) (mk : BitVec 5 → Nat → Copy) (hr : (s.core b c).physV (v.setWidth 5) = r)
    (hw : ((s.core b c).v[r.toFin]).written = true) :
    let old := ((s.core b c).v[r.toFin]).tag
    loadFace (s.issuing b c t 0) s v zero mk = .trap
      { cause := 0x08, aux0 := old.pc
        aux1 := BitVec.ofNat 64 (r.toNat * 2 ^ 8 + (if old.async then 4 else 0) + old.stream.toNat) } := by
  intro old
  subst hr
  have hcheck := checkWrite_v_of_copy_written (s.core b c) _ { stream := t, async := true, pc := (s.stream b c t).pc } hw rfl
  unfold loadFace
  dsimp only
  change (match (s.core b c).checkWrite (.v ((s.core b c).physV (v.setWidth 5)))
      { stream := t, async := true, pc := (s.stream b c t).pc } with
    | .error t => Res.trap t
    | .ok k => issueCopy _ s (s.updCore b c fun _ => _) _) = _
  rw [hcheck]

end

end Sys2Proof.Machine
end

section
/-! SUPPORT. Copies between a v register and memory: VLD, VLDS, SPLD and GATHER mark a face and begin; VST, VSTS, SPST, SCATTER
and SCATTER.ADD begin with the values of the visible face (R231, R235, R238, R241). -/

namespace Sys2Proof.Machine

/-! ### Effects of words whose checks hold (R235) -/

section
variable {x : Ctx} {s : State} {v : BitVec 6} {a g : BitVec 5} {f : BitVec 4} {zf : BitVec 1} {sl : BitVec 4} {h : CopyShape}
  {tf : BitVec 4}

/-- VLD and VLDS. -/
theorem effLoadTile_of_checks (conv : Bool) (hbox : readBoxGroup (x.st s) g = (h, tf)) (hg : g.toNat ≤ 28) (ht : tileT x s v = true)
    (hfields : tileFields conv f h tf = true) (hcount : h.count ≠ 0)
    (halign : h.aligned (Fmt.ofCode f).size ((x.st s).sreg a) = true) :
    effLoadTile conv v a g f zf sl x s = loadFace x s v (zf == 1) fun r =>
      x.newCopy s (.toFace r f (if conv then tf else f)) .device ((x.st s).sreg a) h (Fmt.ofCode f).size sl.toNat [] true := by
  unfold effLoadTile
  rw [withBox_of_fields hg ht (by rw [hbox]; exact hfields) (by rw [hbox]; exact hcount), hbox]
  simp only [halign, Bool.not_true, Bool.false_eq_true, if_false]

/-- SPLD. -/
theorem effSpld_of_checks (hbox : readBoxGroup (x.st s) g = (h, tf)) (hg : g.toNat ≤ 28) (ht : tileT x s v = true)
    (hfields : plainFields (some (Fmt.ofCode f).size) h tf = true) (hcount : h.count ≠ 0)
    (hin : boxInScratch (x.gang s) x.c h ((x.st s).sreg a) (Fmt.ofCode f).size false = true)
    (halign : h.aligned (Fmt.ofCode f).size ((x.st s).sreg a) = true)
    (hsets : boxInSets x s h ((x.st s).sreg a) (Fmt.ofCode f).size false = true) :
    effSpld v a g f zf sl x s = loadFace x s v (zf == 1) fun r => x.newCopy s (.toFace r f f) .scratch ((x.st s).sreg a) h
      (Fmt.ofCode f).size sl.toNat (readBoxScratch s x.b h ((x.st s).sreg a) (Fmt.ofCode f).size) true := by
  unfold effSpld
  rw [withBox_of_fields hg ht (by rw [hbox]; exact hfields) (by rw [hbox]; exact hcount), hbox]
  simp only [hin, halign, hsets, Bool.not_true, Bool.false_eq_true, if_false]

/-- SPST. -/
theorem effSpst_of_checks (hbox : readBoxGroup (x.st s) g = (h, tf)) (hg : g.toNat ≤ 28) (ht : tileT x s v = true)
    (hfields : plainFields (some (Fmt.ofCode f).size) h tf = true) (hcount : h.count ≠ 0)
    (hin : boxInScratch (x.gang s) x.c h ((x.st s).sreg a) (Fmt.ofCode f).size false = true)
    (halign : h.aligned (Fmt.ofCode f).size ((x.st s).sreg a) = true)
    (hsets : boxInSets x s h ((x.st s).sreg a) (Fmt.ofCode f).size true = true) :
    effSpst v a g f sl x s = issueCopy x s s (x.newCopy s .toFar .scratch ((x.st s).sreg a) h (Fmt.ofCode f).size sl.toNat
      (readBoxTile h (Fmt.ofCode f).size (Fmt.ofCode f).size
        ((x.core s).v[((x.core s).physV (v.setWidth 5)).toFin]).vis) true) := by
  unfold effSpst
  rw [withBox_of_fields hg ht (by rw [hbox]; exact hfields) (by rw [hbox]; exact hcount), hbox]
  simp only [hin, halign, hsets, Bool.not_true, Bool.false_eq_true, if_false]

/-- The indices that GATHER and SCATTER read from scratch (R241). -/
def indexList (s : State) (b : BenchId) (arr n : Nat) : CopyShape :=
  .indexed ((List.range n).map fun i => BitVec.ofNat 32 (scratchRead s b (arr + 4 * i) 4))

/-- The checks of R241 on an index array of at least one element. -/
structure IndicesFit (x : Ctx) (s : State) (g : BitVec 5) (z : Nat) (base : Word) : Prop where
  some' : 0 < ((x.st s).sreg (g + 1)).toNat
  fits : ((x.st s).sreg (g + 1)).toNat ≤ 16 * cols z
  second : (x.st s).sreg (g + 2) = 0
  third : (x.st s).sreg (g + 3) = 0
  range : scratchRange (x.gang s) x.c ((x.st s).sreg g).toNat (4 * ((x.st s).sreg (g + 1)).toNat) false = true
  arrAligned : ((x.st s).sreg g).toNat % 4 = 0
  baseAligned : base.toNat % z = 0
  sets : (packed ((x.st s).sreg (g + 1)).toNat).allAddrs ((x.st s).sreg g) 4 (fun e => (x.st s).mayRead e.toNat 4) = true

theorem withIndices_of_checks {tOk add : Bool} {base : Word} {k : CopyShape → Res} (hg : g.toNat ≤ 28) (ht : tOk = true)
    (hadd : (add && (decide (f.toNat < 11) || decide (14 < f.toNat))) = false)
    (hfit : IndicesFit x s g (Fmt.ofCode f).size base) :
    withIndices x s g f tOk add base k = k (indexList s x.b ((x.st s).sreg g).toNat ((x.st s).sreg (g + 1)).toNat) := by
  obtain ⟨hsome, hfits, h2, h3, hrange, harr, hbase, hsets⟩ := hfit
  have hg' : (decide (28 < g.toNat) || !tOk) = false := by
    rw [ht, decide_eq_false (Nat.not_lt.mpr hg)]
    rfl
  have hshape : (decide (16 * cols (Fmt.ofCode f).size < ((x.st s).sreg (g + 1)).toNat) || (x.st s).sreg (g + 2) != 0 ||
      (x.st s).sreg (g + 3) != 0) = false := by
    rw [h2, h3, decide_eq_false (Nat.not_lt.mpr hfits)]
    rfl
  unfold withIndices
  simp only [hg', hadd, Nat.pos_iff_ne_zero.mp hsome, hshape, hrange, harr, hbase, hsets, Bool.false_eq_true, if_false,
    Bool.not_true, ne_eq, not_true_eq_false]
  rfl

/-- GATHER. -/
theorem effGather_of_checks (hg : g.toNat ≤ 28) (ht : tileT x s v = true)
    (hfit : IndicesFit x s g (Fmt.ofCode f).size ((x.st s).sreg a)) :
    effGather v a g f zf sl x s = loadFace x s v (zf == 1) fun r =>
      x.newCopy s (.toFace r f f) .device ((x.st s).sreg a)
        (indexList s x.b ((x.st s).sreg g).toNat ((x.st s).sreg (g + 1)).toNat) (Fmt.ofCode f).size sl.toNat [] true := by
  unfold effGather
  rw [withIndices_of_checks hg ht rfl hfit]

/-- SCATTER, and SCATTER.ADD of the formats that it may add. -/
theorem effScatter_of_checks {add : Bool} (hg : g.toNat ≤ 28) (ht : tileT x s v = true)
    (hadd : (add && (decide (f.toNat < 11) || decide (14 < f.toNat))) = false)
    (hfit : IndicesFit x s g (Fmt.ofCode f).size ((x.st s).sreg a)) :
    effScatter add v a g f sl x s =
      let h := indexList s x.b ((x.st s).sreg g).toNat ((x.st s).sreg (g + 1)).toNat
      issueCopy x s s (x.newCopy s (if add then .addFar else .toFar) .device ((x.st s).sreg a) h (Fmt.ofCode f).size sl.toNat
        (readBoxTile h (Fmt.ofCode f).size (Fmt.ofCode f).size
          ((x.core s).v[((x.core s).physV (v.setWidth 5)).toFin]).vis) false) := by
  unfold effScatter
  rw [withIndices_of_checks hg ht hadd hfit]

end

/-! ### The values and the flags of a store (R231, R238) -/

/-- The flags of a store that converts, each element's in its lane. -/
def storeFlags (h : CopyShape) (z zt : Nat) (out : List (Nat × XFlags)) : Lanes :=
  ((List.range h.count).zip out).foldl (fun l y => l ||| inLane (laneOf zt (h.tileIndex z zt y.1)) y.2.2) 0

theorem extract_storeFlags {h : CopyShape} {z zt : Nat} {out : List (Nat × XFlags)} (hlen : out.length = h.count) {m : Nat}
    (hm : m < 1024) : (storeFlags h z zt out).extractLsb' (5 * m) 5 =
      ((List.range h.count).filter fun i => h.tileIndex z zt i * zt / 4 == m).foldl
        (fun y i => y ||| (out[i]?.getD (0, 0)).2) 0 := by
  have hzip : (List.range h.count).zip out = (List.range h.count).map fun i => (i, out[i]?.getD (0, 0)) := by
    apply List.ext_getElem
    · simp [hlen]
    · intro i h1 h2
      have hi : i < out.length := by simpa [hlen] using h2
      simp [hi]
  apply BitVec.eq_of_getLsbD_eq
  intro k hk
  have hlane (l : Nat) (f : XFlags) : (inLane l f).getLsbD (5 * m + k) = (decide (m = l) && f.getLsbD k) := by
    have h := congrArg (BitVec.getLsbD · k) (extract_inLane l f hm)
    simp only [BitVec.getLsbD_extractLsb', hk, decide_true, Bool.true_and] at h
    rw [h]
    by_cases hl : m = l <;> simp [hl]
  unfold storeFlags
  rw [hzip, List.foldl_map, BitVec.getLsbD_extractLsb', decide_eq_true hk, Bool.true_and, Bool.eq_iff_iff, getLsbD_foldl_flags,
    getLsbD_foldl_flags]
  simp only [hlane, laneOf, List.mem_filter, beq_iff_eq, Bool.and_eq_true, decide_eq_true_eq]
  simp [and_assoc, @eq_comm _ m]

/-- A store that does not convert raises no flags. -/
theorem storeFlags_of_no_flags (h : CopyShape) (z zt : Nat) (l : List Nat) :
    storeFlags h z zt (l.map fun v => (v, 0)) = 0 := by
  unfold storeFlags
  rw [List.zip_map_right, List.foldl_map]
  refine List.foldl_fixed' (fun y => ?_) _
  simp [inLane]

theorem Ctx.hold_no_flags (x : Ctx) (s : State) : (x.updCore s fun k => { k with held := k.held ||| 0 }) = s :=
  State.updCore_eq_self (congrArg (fun l => { x.core s with held := l }) BitVec.or_zero)

section
variable {s : State} {b : BenchId} {c : CoreId} {t : StreamId} {v : BitVec 6} {a g : BitVec 5} {f sl : BitVec 4}
  {h : CopyShape} {tf : BitVec 4}

/-- The values of a store in the formats of its two sides, with the flags of their conversion. -/
def storeValues (src dst : BitVec 4) (frm : BitVec 3) (l : List Nat) : List (Nat × XFlags) :=
  l.map fun n => if src = dst then (n, 0) else convert (Fmt.ofCode src) (Fmt.ofCode dst) (RMode.ofCode 7 frm) n

/-- A store that does not convert. -/
theorem storeValues_self (f : BitVec 4) (frm : BitVec 3) (l : List Nat) : storeValues f f frm l = l.map fun n => (n, 0) := by
  unfold storeValues
  simp only [if_true]

/-- VST and VSTS. -/
theorem effStoreTile_of_checks {x : Ctx} (conv : Bool) (hbox : readBoxGroup (x.st s) g = (h, tf)) (hg : g.toNat ≤ 28)
    (ht : tileT x s v = true) (hfields : tileFields conv f h tf = true) (hcount : h.count ≠ 0)
    (halign : h.aligned (Fmt.ofCode f).size ((x.st s).sreg a) = true) :
    let src := if conv then tf else f
    let z := (Fmt.ofCode f).size
    let zt := (Fmt.ofCode src).size
    let out := storeValues src f (x.st s).frm (readBoxTile h z zt ((x.core s).v[((x.core s).physV (v.setWidth 5)).toFin]).vis)
    effStoreTile conv v a g f sl x s =
      issueCopy x s (x.updCore s fun k => { k with held := k.held ||| storeFlags h z zt out })
        (x.newCopy s .toFar .device ((x.st s).sreg a) h z sl.toNat (out.map (·.1)) false) := by
  intro src z zt out
  unfold effStoreTile
  rw [withBox_of_fields hg ht (by rw [hbox]; exact hfields) (by rw [hbox]; exact hcount), hbox]
  simp only [halign, Bool.not_true, Bool.false_eq_true, if_false]
  rfl

/-- VST, which does not convert and raises no flags. -/
theorem effVst_of_checks {x : Ctx} (hbox : readBoxGroup (x.st s) g = (h, tf)) (hg : g.toNat ≤ 28) (ht : tileT x s v = true)
    (hfields : tileFields false f h tf = true) (hcount : h.count ≠ 0)
    (halign : h.aligned (Fmt.ofCode f).size ((x.st s).sreg a) = true) :
    let z := (Fmt.ofCode f).size
    effStoreTile false v a g f sl x s = issueCopy x s s (x.newCopy s .toFar .device ((x.st s).sreg a) h z sl.toNat
      (readBoxTile h z z ((x.core s).v[((x.core s).physV (v.setWidth 5)).toFin]).vis) false) := by
  have hfst (l : List Nat) : l.map ((fun y : Nat × XFlags => y.1) ∘ fun n => (n, 0)) = l := List.map_id l
  have he := effStoreTile_of_checks (sl := sl) false hbox hg ht hfields hcount halign
  simp only [Bool.false_eq_true, if_false, storeValues_self, storeFlags_of_no_flags, List.map_map, hfst] at he
  rwa [x.hold_no_flags s] at he

end

/-! ### The words -/

section
variable {s : State} {b : BenchId} {c : CoreId} {i : Instr} {v : BitVec 6}

/-- A copy word that finds room begins its copy. -/
theorem Instr.ofStream.begins {t : StreamId} {s0 s1 : State} (k : Instr.ofStream t i) (ha : s.alone b c t)
    (hroom : s.roomFor b c t) (hc : (s1.core b c).copies = (s.core b c).copies) {mk : Nat → Copy} {y : Copy}
    (he : wordEffect i (s.issuing b c t 0) s = issueCopy (s.issuing b c t 0) s0 s1 mk)
    (hy : mk = fun m => { y with num := m }) : s.does b c t 0 i (s1.begin b c t y) :=
  k.does ha (he.trans (issueCopy_of_room (hroom.of_copies hc) hy))

/-- A load begins with its face marked, or is refused where the phase has written the face. -/
theorem load_gives (k : Instr.ofStream 1 i) (ha : s.alone b c 1) (hroom : s.roomFor b c 1) {r : BitVec 5} {zf : BitVec 1}
    {mk : BitVec 5 → Nat → Copy} {y : Copy} (hr : (s.core b c).physV (v.setWidth 5) = r)
    (he : wordEffect i (s.issuing b c 1 0) s = loadFace (s.issuing b c 1 0) s v (zf == 1) mk)
    (hy : mk r = fun m => { y with num := m }) :
    let face := (s.core b c).v[r.toFin]
    let marked := s.updCore b c fun k => k.loads r (zf == 1) 1 (s.stream b c 1).pc
    (face.written = false → s.does b c 1 0 i (marked.begin b c 1 y)) ∧
    (face.written = true → s.traps b c 1 0 i
      { cause := 0x08, aux0 := face.tag.pc
        aux1 := BitVec.ofNat 64 (r.toNat * 2 ^ 8 + (if face.tag.async then 4 else 0) + face.tag.stream.toNat) }) := by
  intro face marked
  have hc : (marked.core b c).copies = (s.core b c).copies := State.copies_updCore fun _ => rfl
  refine ⟨fun hw => k.begins ha hroom hc (he.trans (loadFace_of_unwritten _ _ hr hw)) hy, fun hw => k.traps ha ?_⟩
  exact he.trans (loadFace_of_written _ _ hr hw)

end

open Laws.Words in
/-- Settles O21: each load is `loadFace` once its checks hold, and each store the issue of a copy with the values of its face. -/
theorem tileCopies : Obligations.TileCopies := by
  unfold Obligations.TileCopies
  refine ⟨fun s b c v a g f zf sl ha hroom hv hg => ?_, fun s b c v a g f sl ha hroom hv hg => ?_⟩
  · intro x st core r face z base h tf marked copy gives t
    have hr : (s.core b c).physV (t.setWidth 5) = r := congrArg (s.core b c).physV (setWidth_v v)
    have ht : tileT x s t = true := tileT_of_lt hv
    have hmarked : (s.updCore b c fun k => k.loads r (zf == 1) 1 (s.stream b c 1).pc) = marked := by
      refine State.updCore_congr ?_
      unfold Core.loads Face.loads
      simp only [beq_iff_eq]
      rfl
    have hgives {i : Instr} {mk : BitVec 5 → Nat → Copy} {y : Copy} (k : Instr.ofStream 1 i)
        (he : wordEffect i x s = loadFace x s t (zf == 1) mk) (hy : mk r = fun m => { y with num := m }) : gives i y := by
      have h := load_gives k ha hroom hr he hy
      rwa [hmarked] at h
    refine ⟨fun hcount htf hf hfit halign => ?_, fun hcount hconv hfit halign => ?_,
      fun hcount htf hfit hin halign hsets => ?_, ?_⟩
    · exact hgives (y := copy f .device h []) ⟨vld .., rfl, by decide, rfl⟩
        (effLoadTile_of_checks (h := h) (tf := tf) false rfl hg ht (tileFields_plain htf hf hfit) hcount halign) rfl
    · exact hgives (y := copy tf .device h []) ⟨vlds .., rfl, by decide, rfl⟩
        (effLoadTile_of_checks (h := h) (tf := tf) true rfl hg ht (tileFields_conv hconv hfit) hcount halign) rfl
    · exact hgives (y := copy f .scratch h _) ⟨spld .., rfl, by decide, rfl⟩
        (effSpld_of_checks (h := h) (tf := tf) rfl hg ht (plainFields_of htf fun n hn => by cases hn; exact hfit) hcount hin halign
          hsets) rfl
    · intro n arr idx hsome hfits h2 h3 hrange harr hbase hsets
      have hfit : IndicesFit x s g z base := ⟨hsome, hfits, h2, h3, hrange, harr, hbase, hsets⟩
      exact hgives (y := copy f .device idx []) ⟨gather .., rfl, by decide, rfl⟩ (effGather_of_checks hg ht hfit) rfl
  · intro x st core tile z base h tf values copy t
    have hr : (s.core b c).physV (t.setWidth 5) = (s.core b c).physV v := congrArg (s.core b c).physV (setWidth_v v)
    have ht : tileT x s t = true := tileT_of_lt hv
    have hvals (k : CopyShape) (zt : Nat) :
        readBoxTile k z zt ((x.core s).v[((x.core s).physV (t.setWidth 5)).toFin]).vis = values k zt := by
      have hx : x.core s = s.core b c := rfl
      simp only [hx, hr]
      rfl
    refine ⟨fun hcount htf hf hfit halign => ?_, fun hcount hconv hfit halign => ?_,
      fun hcount htf hfit hin halign hsets => ?_, ?_⟩
    · have he := effVst_of_checks (x := x) (h := h) (tf := tf) (sl := sl) rfl hg ht (tileFields_plain htf hf hfit) hcount halign
      dsimp only at he
      rw [hvals] at he
      exact Instr.ofStream.begins (y := copy .toFar .device h (values h z) false) ⟨vst .., rfl, by decide, rfl⟩ ha hroom rfl he rfl
    · intro zt out
      have he := effStoreTile_of_checks (x := x) (h := h) (tf := tf) (sl := sl) true rfl hg ht (tileFields_conv hconv hfit) hcount
        halign
      dsimp only at he
      rw [hvals] at he
      have hlen : out.length = h.count := by simp [out, values]
      have hc : ((s.updCore b c fun k => { k with held := k.held ||| storeFlags h z zt out }).core b c).copies =
        (s.core b c).copies := State.copies_updCore fun _ => rfl
      have hy : x.newCopy s .toFar .device base h z sl.toNat (out.map (·.1)) false =
        fun m => { copy .toFar .device h (out.map (·.1)) false with num := m } := rfl
      exact ⟨storeFlags h z zt out, fun m hm => extract_storeFlags hlen hm,
        Instr.ofStream.begins (s0 := s) ⟨vsts .., rfl, by decide, rfl⟩ ha hroom hc he hy⟩
    · have he := effSpst_of_checks (x := x) (h := h) (tf := tf) (sl := sl) rfl hg ht (plainFields_of htf fun n hn => by
        cases hn; exact hfit) hcount hin halign hsets
      rw [hvals] at he
      exact Instr.ofStream.begins ⟨spst .., rfl, by decide, rfl⟩ ha hroom rfl he rfl
    · intro n arr idx hsome hfits h2 h3 hrange harr hbase hsets
      have hfit : IndicesFit x s g z base := ⟨hsome, hfits, h2, h3, hrange, harr, hbase, hsets⟩
      refine ⟨?_, fun h11 h14 => ?_⟩
      · have he := effScatter_of_checks (sl := sl) (add := false) hg ht rfl hfit
        dsimp only at he
        rw [hvals] at he
        exact Instr.ofStream.begins (y := copy .toFar .device idx (values idx z) false) ⟨scatter .., rfl, by decide, rfl⟩ ha hroom
          rfl he rfl
      · have hadd : (decide (f.toNat < 11) || decide (14 < f.toNat)) = false := by
          rw [decide_eq_false (Nat.not_lt.mpr h11), decide_eq_false (Nat.not_lt.mpr h14)]
          rfl
        have he := effScatter_of_checks (sl := sl) (add := true) hg ht hadd hfit
        dsimp only at he
        rw [hvals] at he
        exact Instr.ofStream.begins (y := copy .addFar .device idx (values idx z) false) ⟨scatterAdd .., rfl, by decide, rfl⟩ ha
          hroom rfl he rfl

end Sys2Proof.Machine
end

section
/-! SUPPORT. Copies of queues: QLD reserves the entry that its copy fills, QST takes the entry that its copy stores (R38, R55, R56,
R235, R239). -/

namespace Sys2Proof.Machine

/-! ### What a change of a core keeps of what a copy reads -/

/-- Scratch reads alike after a change of a core that keeps it. -/
theorem scratchRead_updCore (s : State) (b : BenchId) (c : CoreId) {f : Core → Core} (hf : ∀ k, (f k).scratch = k.scratch)
    (a n : Nat) : scratchRead (s.updCore b c f) b a n = scratchRead s b a n := by
  unfold scratchRead
  obtain h | ⟨-, h⟩ := s.core_updCore_cases b c f (scratchCore a) <;> rw [h]
  rw [hf]

theorem readBoxScratch_updCore (s : State) (b : BenchId) (c : CoreId) {f : Core → Core} (hf : ∀ k, (f k).scratch = k.scratch)
    (h : CopyShape) (base : Word) (z : Nat) :
    readBoxScratch (s.updCore b c f) b h base z = readBoxScratch s b h base z := by
  unfold readBoxScratch
  simp only [scratchRead_updCore s b c hf]

theorem bit_eq_zero_or_one (sp : BitVec 1) : sp = 0 ∨ sp = 1 := by revert sp; decide

/-! ### The far end of a queue copy (R235) -/

section
variable {x : Ctx} {s : State} {h : CopyShape} {base : Word} {z : Nat} {sp : BitVec 1} {write : Bool}

/-- The checks of an end that lies in device memory or in scratch. -/
theorem queueEnd_of_checks (halign : h.aligned z base = true)
    (hsp : sp = 1 → boxInScratch (x.gang s) x.c h base z false = true ∧ boxInSets x s h base z write = true) :
    queueEnd x s h base z (sp == 1) write = none := by
  unfold queueEnd
  obtain rfl | rfl := bit_eq_zero_or_one sp
  · simp [halign]
  · obtain ⟨hin, hsets⟩ := hsp rfl
    simp [halign, hin, hsets]

theorem queueEnd_of_misaligned (hsp : sp = 0) (halign : h.aligned z base = false) :
    queueEnd x s h base z (sp == 1) write = some (misaligned base) := by
  subst hsp
  unfold queueEnd
  simp [halign]

theorem queueFields_of {own f tf : BitVec 4} (hown : own = f) (htf : tf = 0) (hfit : h.fits (Fmt.ofCode f).size = true) :
    queueFields own f h tf = true := by
  unfold queueFields
  rw [plainFields_of htf fun n hn => by cases hn; exact hfit, hown, Bool.true_and, beq_self_eq_true]

theorem queueFields_of_other {own f tf : BitVec 4} (hown : own ≠ f) : queueFields own f h tf = false := by
  unfold queueFields
  rw [beq_eq_false_iff_ne.mpr hown, Bool.and_false]

end

/-! ### QLD (R239) -/

/-- QLD of an input queue, by the queue's number. -/
theorem effQld_eq (n : Fin 2) (a g : BitVec 5) (f : BitVec 4) (sp : BitVec 1) (sl : BitVec 4) (x : Ctx) (s : State) :
    effQld (if n = 0 then 52 else 53) a g f sp sl x s =
      withBox x s g true (queueFields ((x.core s).q[n.val]).sfmt f) fun h _ =>
        let z := (Fmt.ofCode f).size
        let base := (x.st s).sreg a
        let issue (s : State) (id : Nat) : Res :=
          issueQld x s (if n = 0 then 0 else 1) id (if sp = 1 then .scratch else .device) base h z sl.toNat
        match (x.st s).wait with
        | .reserved id => issue s id
        | _ =>
          match queueEnd x s h base z (sp == 1) false with
          | some r => r
          | none =>
            match pushQueue x s ⟨n.val, by omega⟩ 0 with
            | .error r => r
            | .ok s' => issue s' (x.core s).entries := by
  match n with
  | 0 => rfl
  | 1 => rfl

section
variable {x : Ctx} {s s1 : State} {n : Fin 2} {a g : BitVec 5} {f : BitVec 4} {sp : BitVec 1} {sl : BitVec 4} {h : CopyShape}
  {tf : BitVec 4}

/-- A box of elements that fits an entry of a queue, its descriptor's format field zero (R233, R234). -/
structure QueueBox (x : Ctx) (s : State) (g : BitVec 5) (f : BitVec 4) (h : CopyShape) : Prop where
  group : g.toNat ≤ 28
  shape : (readBoxGroup (x.st s) g).1 = h
  count : h.count ≠ 0
  format : (readBoxGroup (x.st s) g).2 = 0
  fits : h.fits (Fmt.ofCode f).size = true

theorem effQld_of_reserved (hbox : QueueBox x s g f h) (hfmt : ((x.core s).q[n.val]).sfmt = f) {id : Nat}
    (hw : (x.st s).wait = .reserved id) :
    effQld (if n = 0 then 52 else 53) a g f sp sl x s = issueQld x s (if n = 0 then 0 else 1) id
      (if sp = 1 then .scratch else .device) ((x.st s).sreg a) h (Fmt.ofCode f).size sl.toNat := by
  obtain ⟨hg, rfl, hcount, htf, hfit⟩ := hbox
  rw [effQld_eq, withBox_of_fields hg rfl (queueFields_of hfmt htf hfit) hcount]
  simp only [hw]

/-- A QLD that has no entry reserved checks its end, and reserves one. -/
theorem effQld_of_unreserved (hbox : QueueBox x s g f h) (hfmt : ((x.core s).q[n.val]).sfmt = f)
    (hw : ∀ id, (x.st s).wait ≠ .reserved id) :
    effQld (if n = 0 then 52 else 53) a g f sp sl x s =
      match queueEnd x s h ((x.st s).sreg a) (Fmt.ofCode f).size (sp == 1) false with
      | some r => r
      | none =>
        match pushQueue x s ⟨n.val, by omega⟩ 0 with
        | .error r => r
        | .ok s' => issueQld x s' (if n = 0 then 0 else 1) (x.core s).entries (if sp = 1 then .scratch else .device)
          ((x.st s).sreg a) h (Fmt.ofCode f).size sl.toNat := by
  obtain ⟨hg, rfl, hcount, htf, hfit⟩ := hbox
  rw [effQld_eq, withBox_of_fields hg rfl (queueFields_of hfmt htf hfit) hcount]
  dsimp only
  split
  · next id hid => exact absurd hid (hw id)
  · rfl

end

section
variable {s s1 : State} {b : BenchId} {c : CoreId}

/-- The copy of a QLD that finds room. -/
theorem issueQld_of_room (hroom : s1.roomFor b c 1) (hfrm : (s1.stream b c 1).frm = (s.stream b c 1).frm)
    (hread : ∀ a n, scratchRead s1 b a n = scratchRead s b a n) (q : BitVec 2) (id : Nat) (sp : BitVec 1) (base : Word)
    (h : CopyShape) (z slack : Nat) :
    issueQld (s.issuing b c 1 0) s1 q id (if sp = 1 then .scratch else .device) base h z slack = .ok (s1.begin b c 1
      { stream := 1, num := 0, pc := (s.stream b c 1).pc, slack := slack, kind := .toQueue q id
        far := if sp = 1 then .scratch else .device, base := base, shape := h, z := z, frm := (s.stream b c 1).frm
        data := if sp = 1 then (List.range h.count).map fun i => scratchRead s b (h.addr base z i).toNat z else []
        todo := [(0, h.count)], inPhase := false }) := by
  have hdata : (if (if sp = 1 then CopyEnd.scratch else .device) = .scratch then readBoxScratch s1 b h base z else []) =
      if sp = 1 then (List.range h.count).map fun i => scratchRead s b (h.addr base z i).toNat z else [] := by
    unfold readBoxScratch
    simp only [hread]
    obtain rfl | rfl := bit_eq_zero_or_one sp <;> rfl
  unfold issueQld
  rw [← hdata, ← hfrm]
  exact issueCopy_of_room hroom rfl

theorem issueQld_of_full (hfull : 32 ≤ (s1.core b c).copies.length) (q : BitVec 2) (id : Nat) (far : CopyEnd) (base : Word)
    (h : CopyShape) (z slack : Nat) : issueQld (s.issuing b c 1 0) s1 q id far base h z slack =
      .stay (s1.updStream b c 1 fun st => { st with wait := .reserved id }) := issueCopy_of_full hfull _

end

/-! ### QST (R239) -/

/-- QST of an output queue, by the queue's number. -/
theorem effQst_eq (n : Fin 2) (a g : BitVec 5) (f : BitVec 4) (sp : BitVec 1) (sl : BitVec 4) (x : Ctx) (s : State) :
    effQst (if n = 0 then 54 else 55) a g f sp sl x s =
      let z := (Fmt.ofCode f).size
      let base := (x.st s).sreg a
      let issue (s : State) (h : CopyShape) (tile : Tile) (flags : Lanes) : Res :=
        issueQst x s tile flags (if sp = 1 then .scratch else .device) base h z sl.toNat
      match (x.st s).wait with
      | .popped tile flags => issue s (readBoxGroup (x.st s) g).1 tile flags
      | _ =>
        withBox x s g true (queueFields ((x.core s).q[2 + n.val]).kfmt f) fun h _ =>
          match queueEnd x s h base z (sp == 1) true with
          | some r => r
          | none =>
            match popQueue x s ⟨2 + n.val, by omega⟩ with
            | .error r => r
            | .ok (tile, flags, s') => issue s' h tile flags := by
  match n with
  | 0 => rfl
  | 1 => rfl

section
variable {x : Ctx} {s s1 : State} {n : Fin 2} {a g : BitVec 5} {f : BitVec 4} {sp : BitVec 1} {sl : BitVec 4} {h : CopyShape}

theorem effQst_of_popped {y : Tile} {l : Lanes} (hw : (x.st s).wait = .popped y l) :
    effQst (if n = 0 then 54 else 55) a g f sp sl x s = issueQst x s y l (if sp = 1 then .scratch else .device)
      ((x.st s).sreg a) (readBoxGroup (x.st s) g).1 (Fmt.ofCode f).size sl.toNat := by
  rw [effQst_eq]
  simp only [hw]

/-- A QST that holds no entry looks at its fields. -/
theorem effQst_of_unpopped (hw : ∀ y l, (x.st s).wait ≠ .popped y l) :
    effQst (if n = 0 then 54 else 55) a g f sp sl x s =
      withBox x s g true (queueFields ((x.core s).q[2 + n.val]).kfmt f) fun h _ =>
        match queueEnd x s h ((x.st s).sreg a) (Fmt.ofCode f).size (sp == 1) true with
        | some r => r
        | none =>
          match popQueue x s ⟨2 + n.val, by omega⟩ with
          | .error r => r
          | .ok (tile, flags, s') => issueQst x s' tile flags (if sp = 1 then .scratch else .device) ((x.st s).sreg a) h
            (Fmt.ofCode f).size sl.toNat := by
  rw [effQst_eq]
  dsimp only
  split
  · next y l hyl => exact absurd hyl (hw y l)
  · rfl

/-- It checks its end, and takes the oldest entry. -/
theorem effQst_of_box (hbox : QueueBox x s g f h) (hfmt : ((x.core s).q[2 + n.val]).kfmt = f)
    (hw : ∀ y l, (x.st s).wait ≠ .popped y l) :
    effQst (if n = 0 then 54 else 55) a g f sp sl x s =
      match queueEnd x s h ((x.st s).sreg a) (Fmt.ofCode f).size (sp == 1) true with
      | some r => r
      | none =>
        match popQueue x s ⟨2 + n.val, by omega⟩ with
        | .error r => r
        | .ok (tile, flags, s') => issueQst x s' tile flags (if sp = 1 then .scratch else .device) ((x.st s).sreg a) h
          (Fmt.ofCode f).size sl.toNat := by
  obtain ⟨hg, rfl, hcount, htf, hfit⟩ := hbox
  rw [effQst_of_unpopped hw, withBox_of_fields hg rfl (queueFields_of hfmt htf hfit) hcount]

end

section
variable {s s1 : State} {b : BenchId} {c : CoreId}

/-- The copy of a QST that finds room; the flags of the conversion wait for the flip. -/
theorem issueQst_of_room (hroom : s1.roomFor b c 3) (hfrm : (s1.stream b c 3).frm = (s.stream b c 3).frm) (y : Tile) (l : Lanes)
    (sp : BitVec 1) (base : Word) (h : CopyShape) (z slack : Nat) :
    issueQst (s.issuing b c 3 0) s1 y l (if sp = 1 then .scratch else .device) base h z slack =
      .ok ((s1.updCore b c fun k => { k with held := k.held ||| l }).begin b c 3
        { stream := 3, num := 0, pc := (s.stream b c 3).pc, slack := slack, kind := .toFar
          far := if sp = 1 then .scratch else .device, base := base, shape := h, z := z, frm := (s.stream b c 3).frm
          data := (List.range h.count).map fun i => tileElem y z (h.tileIndex z z i)
          todo := [(0, h.count)], inPhase := sp == 1 }) := by
  have hfar : ((if sp = 1 then CopyEnd.scratch else .device) == .scratch) = (sp == 1) := by
    obtain rfl | rfl := bit_eq_zero_or_one sp <;> rfl
  unfold issueQst
  rw [hfar, ← hfrm]
  have hc : ((s1.updCore b c fun k => { k with held := k.held ||| l }).core b c).copies = (s1.core b c).copies :=
    State.copies_updCore fun _ => rfl
  exact issueCopy_of_room (hroom.of_copies hc) rfl

theorem issueQst_of_full (hfull : 32 ≤ (s1.core b c).copies.length) (y : Tile) (l : Lanes) (far : CopyEnd) (base : Word)
    (h : CopyShape) (z slack : Nat) : issueQst (s.issuing b c 3 0) s1 y l far base h z slack =
      .stay (s1.updStream b c 3 fun st => { st with wait := .popped y l }) := by
  have hc : ((s1.updCore b c fun k => { k with held := k.held ||| l }).core b c).copies = (s1.core b c).copies :=
    State.copies_updCore fun _ => rfl
  have hfull' : 32 ≤ ((s1.updCore b c fun k => { k with held := k.held ||| l }).core b c).copies.length := hc ▸ hfull
  exact issueCopy_of_full hfull' _

end

/-! ### Entries reserved and taken (R55) -/

/-- The state in which a QLD has reserved the youngest entry of its queue. -/
def State.reserve (s : State) (b : BenchId) (c : CoreId) (n : Fin 2) : State :=
  s.updCore b c fun k => { k with
    q := k.q.set n.val { (s.core b c).q[n.val] with
      entries := ((s.core b c).q[n.val]).entries ++ [{ landed := false, tile := 0, id := k.entries }] }
    entries := k.entries + 1 }

/-- The state in which a QST has taken the oldest entry of its queue, the rest of which is left. -/
def State.take (s : State) (b : BenchId) (c : CoreId) (n : Fin 2) (r : List QEntry) : State :=
  s.updCore b c fun k => { k with q := k.q.set (2 + n.val) { (s.core b c).q[2 + n.val] with entries := r } }

section
variable {s : State} {b : BenchId} {c : CoreId} {n : Fin 2}

theorem pushQueue_reserve (href : ((s.core b c).q[n.val]).refused = false)
    (hroom : ((s.core b c).q[n.val]).entries.length < ((s.core b c).q[n.val]).depth) :
    pushQueue (s.issuing b c 1 0) s ⟨n.val, by omega⟩ 0 = .ok (s.reserve b c n) :=
  pushQueue_of_room (s.issuing b c 1 0) s (qi := ⟨n.val, by omega⟩) 0 href hroom

/-- What a pop of a landed entry gives: the entry, converted where the queue's formats differ, with the conversion's flags. -/
theorem popQueue_take {e : QEntry} {r : List QEntry} (href : ((s.core b c).q[2 + n.val]).refused = false)
    (he : ((s.core b c).q[2 + n.val]).entries = e :: r) (hl : e.landed = true) :
    let q := (s.core b c).q[2 + n.val]
    let y : Tile × Lanes := if q.sfmt = q.kfmt then (e.tile, 0)
      else convertTile (Fmt.ofCode q.sfmt) (Fmt.ofCode q.kfmt) (RMode.ofCode q.rm (s.stream b c 3).frm) none e.tile
    popQueue (s.issuing b c 3 0) s ⟨2 + n.val, by omega⟩ = .ok (y.1, y.2, s.take b c n r) := by
  intro q y
  have hst : (s.take b c n r).stream b c 3 = s.stream b c 3 := by
    refine s.stream_updCore b c ?_ c 3
    exact fun _ => rfl
  unfold popQueue
  change (if q.refused then _ else match q.entries with | [] => _ | e :: r => _) = _
  rw [show q.refused = false from href, show q.entries = e :: r from he]
  simp only [hl]
  change (if q.sfmt = q.kfmt then _ else
    Except.ok ((convertTile _ _ (RMode.ofCode q.rm ((s.take b c n r).stream b c 3).frm) none e.tile).1,
      (convertTile _ _ (RMode.ofCode q.rm ((s.take b c n r).stream b c 3).frm) none e.tile).2, s.take b c n r)) = _
  rw [hst]
  simp only [y]
  split <;> rfl

end

/-! ### The words -/

section
variable {s : State} {b : BenchId} {c : CoreId} {n : Fin 2} {a g : BitVec 5} {f : BitVec 4} {sp : BitVec 1} {sl : BitVec 4}
  {h : CopyShape}

theorem qld_ofStream (n : Fin 2) (a g : BitVec 5) (f : BitVec 4) (sp : BitVec 1) (sl : BitVec 4) :
    Instr.ofStream 1 (.qld (if n = 0 then 52 else 53) a g f sp sl) := ⟨Laws.Words.qld .., rfl, by decide, rfl⟩

theorem qst_ofStream (n : Fin 2) (a g : BitVec 5) (f : BitVec 4) (sp : BitVec 1) (sl : BitVec 4) :
    Instr.ofStream 3 (.qst (if n = 0 then 54 else 55) a g f sp sl) := ⟨Laws.Words.qst .., rfl, by decide, rfl⟩

/-- The far end of a queue copy that its checks permit. -/
structure QueueEnd (x : Ctx) (s : State) (a g : BitVec 5) (f : BitVec 4) (sp : BitVec 1) (write : Bool) (h : CopyShape) : Prop where
  box : QueueBox x s g f h
  aligned : h.aligned (Fmt.ofCode f).size ((x.st s).sreg a) = true
  scratch : sp = 1 → boxInScratch (x.gang s) x.c h ((x.st s).sreg a) (Fmt.ofCode f).size false = true ∧
    boxInSets x s h ((x.st s).sreg a) (Fmt.ofCode f).size write = true

/-- A QLD whose end is fine comes to its push. -/
theorem effQld_of_end (hend : QueueEnd (s.issuing b c 1 0) s a g f sp false h) (hfmt : ((s.core b c).q[n.val]).sfmt = f)
    (hw : ∀ id, (s.stream b c 1).wait ≠ .reserved id) :
    wordEffect (.qld (if n = 0 then 52 else 53) a g f sp sl) (s.issuing b c 1 0) s =
      match pushQueue (s.issuing b c 1 0) s ⟨n.val, by omega⟩ 0 with
      | .error r => r
      | .ok s' => issueQld (s.issuing b c 1 0) s' (if n = 0 then 0 else 1) (s.core b c).entries
        (if sp = 1 then .scratch else .device) ((s.stream b c 1).sreg a) h (Fmt.ofCode f).size sl.toNat := by
  obtain ⟨hbox, halign, hsp⟩ := hend
  refine (effQld_of_unreserved hbox hfmt hw).trans ?_
  rw [queueEnd_of_checks halign hsp]
  rfl

/-- A QST whose end is fine comes to its pop. -/
theorem effQst_of_end (hend : QueueEnd (s.issuing b c 3 0) s a g f sp true h) (hfmt : ((s.core b c).q[2 + n.val]).kfmt = f)
    (hw : ∀ y l, (s.stream b c 3).wait ≠ .popped y l) :
    wordEffect (.qst (if n = 0 then 54 else 55) a g f sp sl) (s.issuing b c 3 0) s =
      match popQueue (s.issuing b c 3 0) s ⟨2 + n.val, by omega⟩ with
      | .error r => r
      | .ok (tile, flags, s') => issueQst (s.issuing b c 3 0) s' tile flags (if sp = 1 then .scratch else .device)
        ((s.stream b c 3).sreg a) h (Fmt.ofCode f).size sl.toNat := by
  obtain ⟨hbox, halign, hsp⟩ := hend
  refine (effQst_of_box hbox hfmt hw).trans ?_
  rw [queueEnd_of_checks halign hsp]
  rfl

end

end Sys2Proof.Machine
end

section
/-! SUPPORT. Copies of scratch, prefetches, and copies through windows (R35, R240, R242, R243, R296, R297). -/

namespace Sys2Proof.Machine

/-! ### SPCP and PREF (R240, R243) -/

/-- An address names a core exactly by its core field (R83). -/
theorem scratchCore_beq (a : Nat) (c : CoreId) : (scratchCore a == c) = decide (a / 2 ^ 24 % 4 = c.toNat) := by
  rw [Bool.eq_iff_iff, beq_iff_eq, decide_eq_true_iff, ← BitVec.toNat_inj]
  unfold scratchCore
  rw [BitVec.toNat_ofNat]

/-- Two ends of a scratch copy meet where an element of the source lies among the destination's bytes. -/
theorem endsOverlap_iff (h : CopyShape) (src dst : Word) (z : Nat) : endsOverlap h src dst z = true ↔
    ∃ i, i < h.count ∧ dst.toNat < (h.addr src z i).toNat + z ∧ (h.addr src z i).toNat < dst.toNat + h.count * z := by
  unfold endsOverlap CopyShape.allAddrs
  simp only [Bool.not_eq_true', List.all_eq_false, List.mem_range, Bool.or_eq_true, decide_eq_true_eq, not_or, Nat.not_le]

section
variable {x : Ctx} {s : State} {v : BitVec 5} {a g : BitVec 5} {f : BitVec 4} {sl : BitVec 4} {h : CopyShape} {tf : BitVec 4}

theorem effSpcp_of_checks (hbox : readBoxGroup (x.st s) g = (h, tf)) (hg : g.toNat ≤ 28) (htf : tf = 0) (hcount : h.count ≠ 0)
    (hsrc : boxInScratch (x.gang s) x.c h ((x.st s).sreg a) (Fmt.ofCode f).size true = true)
    (hdst : boxInScratch (x.gang s) x.c (packed h.count) ((x.st s).sreg v) (Fmt.ofCode f).size true = true)
    (halign : h.aligned (Fmt.ofCode f).size ((x.st s).sreg a) = true)
    (hdalign : ((x.st s).sreg v).toNat % (Fmt.ofCode f).size = 0)
    (hssets : scratchCore ((x.st s).sreg a).toNat = x.c → boxInSets x s h ((x.st s).sreg a) (Fmt.ofCode f).size false = true)
    (hdsets : scratchCore ((x.st s).sreg v).toNat = x.c →
      boxInSets x s (packed h.count) ((x.st s).sreg v) (Fmt.ofCode f).size true = true) :
    let z := (Fmt.ofCode f).size
    let src := (x.st s).sreg a
    let dst := (x.st s).sreg v
    let own (e : Word) : Bool := scratchCore e.toNat == x.c
    effSpcp (v.setWidth 6) a g f sl x s = issueCopy x s s fun n =>
      { x.newCopy s (.toScratch (dst.setWidth 32)) .scratch src h z sl.toNat
          (if own src || endsOverlap h src dst z then readBoxScratch s x.b h src z else []) (own dst) n with
        reads := if own src then [] else [(0, h.count)] } := by
  intro z src dst own
  have hs : (own src && !boxInSets x s h src z false) = false := by
    by_cases ho : scratchCore src.toNat = x.c
    · rw [show boxInSets x s h src z false = true from hssets ho, Bool.not_true, Bool.and_false]
    · rw [show own src = false from beq_eq_false_iff_ne.mpr ho, Bool.false_and]
  have hd : (own dst && !boxInSets x s (packed h.count) dst z true) = false := by
    by_cases ho : scratchCore dst.toNat = x.c
    · rw [show boxInSets x s (packed h.count) dst z true = true from hdsets ho, Bool.not_true, Bool.and_false]
    · rw [show own dst = false from beq_eq_false_iff_ne.mpr ho, Bool.false_and]
  have ht : decide ((v.setWidth 6).toNat < 32) = true := decide_eq_true (toNat_v v ▸ v.isLt)
  unfold effSpcp
  rw [withBox_of_fields hg ht (by rw [hbox]; exact plainFields_of htf fun n hn => by cases hn) (by rw [hbox]; exact hcount), hbox]
  simp only [setWidth_v, hsrc, hdst, halign, hdalign, Bool.not_true, Bool.false_eq_true, if_false, ne_eq, not_true_eq_false]
  rw [hs, hd]
  rfl

theorem effPref_of_checks (hbox : readBoxGroup (x.st s) g = (h, tf)) (hg : g.toNat ≤ 28) (htf : tf = 0) (hcount : h.count ≠ 0)
    (halign : h.aligned (Fmt.ofCode f).size ((x.st s).sreg a) = true) :
    effPref a g f sl x s =
      issueCopy x s s (x.newCopy s .prefetch .device ((x.st s).sreg a) h (Fmt.ofCode f).size sl.toNat [] false) := by
  unfold effPref
  rw [withBox_of_fields hg rfl (by rw [hbox]; exact plainFields_of htf fun n hn => by cases hn) (by rw [hbox]; exact hcount), hbox]
  simp only [halign, Bool.not_true, Bool.false_eq_true, if_false]

end

/-! ### Windows (R242, R296, R297) -/

/-- The address of an element of a packed range. -/
theorem addr_packed {n i : Nat} (hi : i < n) (base : Word) (z : Nat) : (packed n).addr base z i = base + BitVec.ofNat 64 (i * z) := by
  unfold packed CopyShape.addr
  simp [Nat.mod_eq_of_lt hi, Nat.div_eq_of_lt hi]

theorem readBoxScratch_packed (s : State) (b : BenchId) (n : Nat) (base : Word) (z : Nat) : readBoxScratch s b (packed n) base z =
    (List.range n).map fun i => scratchRead s b (base + BitVec.ofNat 64 (i * z)).toNat z := by
  have hcount : (packed n).count = n := by simp [packed, CopyShape.count]
  unfold readBoxScratch
  rw [hcount]
  exact List.map_congr_left fun i hi => by rw [addr_packed (List.mem_range.mp hi)]

/-- What PUT and GET ask of their box, their window's handle and their near end, before they look at the window. -/
structure WindowBox (x : Ctx) (s : State) (put : Bool) (v a g : BitVec 5) (f : BitVec 4) (sp : BitVec 1) (h : CopyShape) : Prop where
  group : g.toNat ≤ 28
  shape : (readBoxGroup (x.st s) g).1 = h
  count : h.count ≠ 0
  format : (readBoxGroup (x.st s) g).2 = 0
  handle : ((x.st s).sreg a).toNat < 2 ^ 54
  aligned : h.aligned (Fmt.ofCode f).size ((x.st s).sreg a &&& 0xFFFFFFFFFFFF) = true
  tile : sp = 0 → h.fits (Fmt.ofCode f).size = true ∧ v.toNat < (x.gang s).vcount
  scratch : sp = 1 → boxInScratch (x.gang s) x.c (packed h.count) ((x.st s).sreg v) (Fmt.ofCode f).size false = true ∧
    ((x.st s).sreg v).toNat % (Fmt.ofCode f).size = 0 ∧
    boxInSets x s (packed h.count) ((x.st s).sreg v) (Fmt.ofCode f).size (!put) = true

/-- PUT and GET come to the check of their window (R242). -/
theorem withWindow_of_box {x : Ctx} {s : State} {put : Bool} {v a g : BitVec 5} {f : BitVec 4} {sp : BitVec 1} {h : CopyShape}
    {mk : CopyShape → Word → BitVec 6 → Res} (hb : WindowBox x s put v a g f sp h) :
    withWindow x s put (v.setWidth 6) a g f sp mk =
      if windowEnd x s put ((x.st s).sreg a) h (Fmt.ofCode f).size then
        mk h ((x.st s).sreg a &&& 0xFFFFFFFFFFFF) (((x.st s).sreg a).extractLsb' 48 6)
      else .trap { cause := 0x12 } := by
  obtain ⟨hg, rfl, hcount, htf, hhandle, halign, htile, hscratch⟩ := hb
  have hbits : (bits ((x.st s).sreg a) 54 10 != 0) = false := by
    unfold bits
    rw [BitVec.extractLsb'_toNat, Nat.shiftRight_eq_div_pow, Nat.div_eq_of_lt hhandle]
    rfl
  have halign' : (readBoxGroup (x.st s) g).1.aligned (Fmt.ofCode f).size ((x.st s).sreg a &&& 0xFFFFFFFFFFFF#64) = true := halign
  have ht : (if sp = 1 then decide ((v.setWidth 6).toNat < 32) else tileT x s (v.setWidth 6)) = true := by
    obtain rfl | rfl := bit_eq_zero_or_one sp
    · exact tileT_of_lt (htile rfl).2
    · exact decide_eq_true (toNat_v v ▸ v.isLt)
  have hfields : plainFields (if sp = 1 then none else some (Fmt.ofCode f).size) (readBoxGroup (x.st s) g).1
      (readBoxGroup (x.st s) g).2 = true := by
    obtain rfl | rfl := bit_eq_zero_or_one sp
    · exact plainFields_of htf fun n hn => by cases hn; exact (htile rfl).1
    · exact plainFields_of htf fun n hn => by cases hn
  unfold withWindow
  rw [withBox_of_fields hg ht hfields hcount]
  simp only [hbits, halign', setWidth_v]
  obtain rfl | rfl := bit_eq_zero_or_one sp
  · cases windowEnd x s put ((x.st s).sreg a) (readBoxGroup (x.st s) g).1 (Fmt.ofCode f).size <;> simp
  · obtain ⟨hin, hmod, hsets⟩ := hscratch rfl
    cases windowEnd x s put ((x.st s).sreg a) (readBoxGroup (x.st s) g).1 (Fmt.ofCode f).size <;> simp [hin, hmod, hsets]

/-! ### PUT and GET (R242) -/

theorem nextTag_updCore (s : State) (b : BenchId) (c : CoreId) (f : Core → Core) :
    nextTag (s.updCore b c f) = (nextTag s).updCore b c f := by
  unfold State.updCore State.updGang
  rw [show (nextTag s).gang? b = s.gang? b from rfl]
  cases s.gang? b <;> rfl

theorem nextTag_begin (s : State) (b : BenchId) (c : CoreId) (t : StreamId) (k : Copy) :
    nextTag (s.begin b c t k) = (nextTag s).begin b c t k := by
  unfold State.begin State.updStream
  rw [nextTag_updCore, nextTag_updCore]
  rfl

section
variable {s : State} {b : BenchId} {c : CoreId} {v a g : BitVec 5} {f : BitVec 4} {sp : BitVec 1} {sl : BitVec 4} {h : CopyShape}

/-- The data of a PUT are read at issue. -/
theorem effPut_of_permits (hb : WindowBox (s.issuing b c 3 0) s true v a g f sp h)
    (hp : windowEnd (s.issuing b c 3 0) s true ((s.stream b c 3).sreg a) h (Fmt.ofCode f).size = true) :
    let x := s.issuing b c 3 0
    let z := (Fmt.ofCode f).size
    let st := s.stream b c 3
    effPut (v.setWidth 6) a g f sp sl x s = issueCopy x s (nextTag s) fun n =>
      { x.newCopy s .toFar (.window ((st.sreg a).extractLsb' 48 6)) (st.sreg a &&& 0xFFFFFFFFFFFF) h z sl.toNat
          ((List.range h.count).map fun i => if sp = 1 then scratchRead s b (st.sreg v + BitVec.ofNat 64 (i * z)).toNat z
            else tileElem ((s.core b c).v[((s.core b c).physV v).toFin]).vis z (h.tileIndex z z i)) false n with
        xfer := s.links.tags } := by
  intro x z st
  have hdata : (if sp = 1 then readBoxScratch s b (packed h.count) (st.sreg v) z
        else readBoxTile h z z ((s.core b c).v[((s.core b c).physV v).toFin]).vis) =
      (List.range h.count).map fun i => if sp = 1 then scratchRead s b (st.sreg v + BitVec.ofNat 64 (i * z)).toNat z
        else tileElem ((s.core b c).v[((s.core b c).physV v).toFin]).vis z (h.tileIndex z z i) := by
    rw [readBoxScratch_packed]
    obtain rfl | rfl := bit_eq_zero_or_one sp <;> rfl
  unfold effPut
  refine (withWindow_of_box hb).trans ((if_pos hp).trans ?_)
  rw [← hdata]
  simp only [setWidth_v]
  rfl

theorem effPut_of_not_permits (hb : WindowBox (s.issuing b c 3 0) s true v a g f sp h)
    (hp : ¬ windowEnd (s.issuing b c 3 0) s true ((s.stream b c 3).sreg a) h (Fmt.ofCode f).size = true) :
    effPut (v.setWidth 6) a g f sp sl (s.issuing b c 3 0) s = .trap { cause := 0x12 } := by
  unfold effPut
  rw [withWindow_of_box hb]
  exact if_neg hp

theorem effGet_of_not_permits (hb : WindowBox (s.issuing b c 1 0) s false v a g f sp h)
    (hp : ¬ windowEnd (s.issuing b c 1 0) s false ((s.stream b c 1).sreg a) h (Fmt.ofCode f).size = true) :
    effGet (v.setWidth 6) a g f sp sl (s.issuing b c 1 0) s = .trap { cause := 0x12 } := by
  unfold effGet
  rw [withWindow_of_box hb]
  exact if_neg hp

/-- A GET to scratch. -/
theorem effGet_scratch (hb : WindowBox (s.issuing b c 1 0) s false v a g f 1 h)
    (hp : windowEnd (s.issuing b c 1 0) s false ((s.stream b c 1).sreg a) h (Fmt.ofCode f).size = true) :
    let x := s.issuing b c 1 0
    let st := s.stream b c 1
    effGet (v.setWidth 6) a g f 1 sl x s = issueCopy x s (nextTag s) fun n =>
      { x.newCopy s (.toScratch ((st.sreg v).setWidth 32)) (.window ((st.sreg a).extractLsb' 48 6))
          (st.sreg a &&& 0xFFFFFFFFFFFF) h (Fmt.ofCode f).size sl.toNat [] true n with
        xfer := s.links.tags, reads := [(0, h.count)] } := by
  intro x st
  unfold effGet
  refine (withWindow_of_box hb).trans ((if_pos hp).trans ?_)
  simp only [setWidth_v]
  rfl

/-- A GET to a face that the phase has not written marks the face. -/
theorem effGet_face (hb : WindowBox (s.issuing b c 1 0) s false v a g f 0 h)
    (hp : windowEnd (s.issuing b c 1 0) s false ((s.stream b c 1).sreg a) h (Fmt.ofCode f).size = true)
    {r : BitVec 5} (hr : (s.core b c).physV v = r) (hw : ((s.core b c).v[r.toFin]).written = false) (hroom : s.roomFor b c 1) :
    let st := s.stream b c 1
    effGet (v.setWidth 6) a g f 0 sl (s.issuing b c 1 0) s =
      .ok (((nextTag s).updCore b c fun k => k.loads r false 1 st.pc).begin b c 1
        { stream := 1, num := 0, pc := st.pc, slack := sl.toNat, kind := .toFace r f f
          far := .window ((st.sreg a).extractLsb' 48 6), base := st.sreg a &&& 0xFFFFFFFFFFFF, shape := h
          z := (Fmt.ofCode f).size, frm := st.frm, data := [], todo := [(0, h.count)], inPhase := true
          xfer := s.links.tags }) := by
  intro st
  have hr' : (s.core b c).physV ((v.setWidth 6).setWidth 5) = r := (congrArg (s.core b c).physV (setWidth_v v)).trans hr
  have hc : ((s.updCore b c fun k => k.loads r false 1 st.pc).core b c).copies = (s.core b c).copies :=
    State.copies_updCore fun _ => rfl
  unfold effGet
  refine (withWindow_of_box hb).trans ((if_pos hp).trans ?_)
  simp only [show (0 : BitVec 1) ≠ 1 by decide, if_false]
  let y : Copy := { (s.issuing b c 1 0).newCopy s (.toFace r f f) (.window ((st.sreg a).extractLsb' 48 6))
    (st.sreg a &&& 0xFFFFFFFFFFFF) h (Fmt.ofCode f).size sl.toNat [] true 0 with xfer := s.links.tags }
  rw [loadFace_of_unwritten false _ hr' hw]
  change (match issueCopy (s.issuing b c 1 0) s (s.updCore b c fun k => k.loads r false 1 st.pc)
      (fun m => { y with num := m }) with | .ok s => Res.ok (nextTag s) | r => r) = _
  rw [issueCopy_of_room (hroom.of_copies hc) rfl]
  dsimp only
  rw [nextTag_begin, nextTag_updCore]
  rfl

end

end Sys2Proof.Machine
end

section
/-! SUPPORT. The words QLD, QST, SPCP, PREF, PUT and GET as they issue (R38, R55, R56, R235, R239, R240, R242, R243). -/

namespace Sys2Proof.Machine

section
variable {s : State} {b : BenchId} {c : CoreId} {n : Fin 2} {a g : BitVec 5} {f : BitVec 4} {sp : BitVec 1} {sl : BitVec 4}
  {h : CopyShape}

/-! ### Queues that are full or empty (R55) -/

/-- A word that a queue blocks traps where the queue says so, or where the word would wait for itself. -/
theorem blocked_of_stuck {k : Core} {t : StreamId} {pol : Bool} {cause : Nat}
    (h : pol = true ∨ k.othersArrived t = true) : blocked k t pol cause s = .trap { cause := cause } :=
  if_pos (Bool.or_eq_true_iff.mpr h)

theorem blocked_of_free {k : Core} {t : StreamId} {pol : Bool} {cause : Nat} (h : pol = false)
    (ho : k.othersArrived t = false) : blocked k t pol cause s = .stay s :=
  if_neg (by rw [h, ho]; decide)

/-! ### QLD (R239) -/

/-- QLD of another format than the queue's. -/
theorem qld_of_other_format (ha : s.alone b c 1) (hfmt : ((s.core b c).q[n.val]).sfmt ≠ f) :
    s.traps b c 1 0 (.qld (if n = 0 then 52 else 53) a g f sp sl) { cause := 0x03 } :=
  (qld_ofStream n a g f sp sl).traps ha <| (effQld_eq n a g f sp sl _ s).trans
    (withBox_of_bad_fields (queueFields_of_other hfmt))

/-- The copy that fills an entry that QLD has reserved. -/
def qldCopy (s : State) (b : BenchId) (c : CoreId) (n : Fin 2) (a : BitVec 5) (f : BitVec 4) (sp : BitVec 1) (sl : BitVec 4)
    (h : CopyShape) (id : Nat) : Copy :=
  let st := s.stream b c 1
  let z := (Fmt.ofCode f).size
  { stream := 1, num := 0, pc := st.pc, slack := sl.toNat, kind := .toQueue (if n = 0 then 0 else 1) id
    far := if sp = 1 then .scratch else .device, base := st.sreg a, shape := h, z := z, frm := st.frm
    data := if sp = 1 then (List.range h.count).map fun i => scratchRead s b (h.addr (st.sreg a) z i).toNat z else []
    todo := [(0, h.count)], inPhase := false }

/-- QLD with an entry reserved begins its copy. -/
theorem qld_of_reserved (ha : s.alone b c 1) (hbox : QueueBox (s.issuing b c 1 0) s g f h)
    (hfmt : ((s.core b c).q[n.val]).sfmt = f) {id : Nat} (hw : (s.stream b c 1).wait = .reserved id) (hroom : s.roomFor b c 1) :
    s.does b c 1 0 (.qld (if n = 0 then 52 else 53) a g f sp sl) (s.begin b c 1 (qldCopy s b c n a f sp sl h id)) :=
  (qld_ofStream n a g f sp sl).does ha <| (effQld_of_reserved hbox hfmt hw).trans <|
    issueQld_of_room hroom rfl (fun _ _ => rfl) ..

/-- QLD of a misaligned end, no entry reserved. -/
theorem qld_of_misaligned (ha : s.alone b c 1) (hbox : QueueBox (s.issuing b c 1 0) s g f h)
    (hfmt : ((s.core b c).q[n.val]).sfmt = f) (hsp : sp = 0)
    (halign : h.aligned (Fmt.ofCode f).size ((s.stream b c 1).sreg a) = false) (hw : ∀ id, (s.stream b c 1).wait ≠ .reserved id) :
    s.traps b c 1 0 (.qld (if n = 0 then 52 else 53) a g f sp sl) { cause := 0x05, addr := (s.stream b c 1).sreg a } := by
  refine (qld_ofStream n a g f sp sl).traps ha ((effQld_of_unreserved hbox hfmt hw).trans ?_)
  rw [queueEnd_of_misaligned (base := ((s.issuing b c 1 0).st s).sreg a) hsp halign]
  rfl

section
variable (ha : s.alone b c 1) (hend : QueueEnd (s.issuing b c 1 0) s a g f sp false h)
  (hfmt : ((s.core b c).q[n.val]).sfmt = f) (hw : ∀ id, (s.stream b c 1).wait ≠ .reserved id)
include ha hend hfmt hw

/-- QLD of a queue whose formats R56 refuses. -/
theorem qld_of_refused (href : ((s.core b c).q[n.val]).refused = true) :
    s.traps b c 1 0 (.qld (if n = 0 then 52 else 53) a g f sp sl) { cause := 0x03 } := by
  refine (qld_ofStream n a g f sp sl).traps ha ((effQld_of_end hend hfmt hw).trans ?_)
  rw [pushQueue_of_refused (s.issuing b c 1 0) s (qi := ⟨n.val, by omega⟩) 0 href]
  rfl

/-- QLD of a queue with room reserves an entry, and its copy begins. -/
theorem qld_of_room (href : ((s.core b c).q[n.val]).refused = false)
    (hq : ((s.core b c).q[n.val]).entries.length < ((s.core b c).q[n.val]).depth) (hroom : s.roomFor b c 1) :
    s.does b c 1 0 (.qld (if n = 0 then 52 else 53) a g f sp sl)
      ((s.reserve b c n).begin b c 1 (qldCopy s b c n a f sp sl h (s.core b c).entries)) := by
  have hc : ((s.reserve b c n).core b c).copies = (s.core b c).copies := State.copies_updCore fun _ => rfl
  have hst : (s.reserve b c n).stream b c 1 = s.stream b c 1 := by
    refine s.stream_updCore b c ?_ c 1
    exact fun _ => rfl
  have hread : ∀ a n', scratchRead (s.reserve b c n) b a n' = scratchRead s b a n' :=
    scratchRead_updCore s b c fun _ => rfl
  refine (qld_ofStream n a g f sp sl).does ha ((effQld_of_end hend hfmt hw).trans ?_)
  rw [pushQueue_reserve href hq]
  exact issueQld_of_room (hroom.of_copies hc) (congrArg Stream.frm hst) hread ..

/-- With 32 copies outstanding the word waits, and keeps the entry. -/
theorem qld_of_full_copies (href : ((s.core b c).q[n.val]).refused = false)
    (hq : ((s.core b c).q[n.val]).entries.length < ((s.core b c).q[n.val]).depth) (hfull : 32 ≤ (s.core b c).copies.length) :
    exec (.qld (if n = 0 then 52 else 53) a g f sp sl) s =
      .next ((s.reserve b c n).updStream b c 1 fun y => { y with wait := .reserved (s.core b c).entries }) := by
  have hc : ((s.reserve b c n).core b c).copies = (s.core b c).copies := State.copies_updCore fun _ => rfl
  have hfull' : 32 ≤ ((s.reserve b c n).core b c).copies.length := hc ▸ hfull
  refine (qld_ofStream n a g f sp sl).stays (n := 0) ha ((effQld_of_end hend hfmt hw).trans ?_)
  rw [pushQueue_reserve href hq]
  exact issueQld_of_full hfull' ..

/-- QLD of a full queue that may not wait. -/
theorem qld_of_full_trap (href : ((s.core b c).q[n.val]).refused = false)
    (hq : ((s.core b c).q[n.val]).depth ≤ ((s.core b c).q[n.val]).entries.length)
    (hpol : ((s.core b c).q[n.val]).fpol = true ∨ (s.core b c).othersArrived 1 = true) :
    s.traps b c 1 0 (.qld (if n = 0 then 52 else 53) a g f sp sl) { cause := 0x0A } := by
  refine (qld_ofStream n a g f sp sl).traps ha ((effQld_of_end hend hfmt hw).trans ?_)
  rw [pushQueue_of_full (s.issuing b c 1 0) s (qi := ⟨n.val, by omega⟩) 0 href hq]
  exact blocked_of_stuck hpol

/-- QLD of a full queue that may wait. -/
theorem qld_of_full_wait (href : ((s.core b c).q[n.val]).refused = false)
    (hq : ((s.core b c).q[n.val]).depth ≤ ((s.core b c).q[n.val]).entries.length)
    (hpol : ((s.core b c).q[n.val]).fpol = false) (hothers : (s.core b c).othersArrived 1 = false) :
    s.waits b c 1 (.qld (if n = 0 then 52 else 53) a g f sp sl) (s.stream b c 1).wait := by
  refine (qld_ofStream n a g f sp sl).waits (n := 0) ha ((effQld_of_end hend hfmt hw).trans ?_)
  rw [pushQueue_of_full (s.issuing b c 1 0) s (qi := ⟨n.val, by omega⟩) 0 href hq]
  exact blocked_of_free hpol hothers

end

/-! ### QST (R239) -/

/-- The copy that stores an entry that QST has taken. -/
def qstCopy (s : State) (b : BenchId) (c : CoreId) (a : BitVec 5) (f : BitVec 4) (sp : BitVec 1) (sl : BitVec 4)
    (h : CopyShape) (y : Tile) : Copy :=
  let st := s.stream b c 3
  let z := (Fmt.ofCode f).size
  { stream := 3, num := 0, pc := st.pc, slack := sl.toNat, kind := .toFar, far := if sp = 1 then .scratch else .device
    base := st.sreg a, shape := h, z := z, frm := st.frm
    data := (List.range h.count).map fun i => tileElem y z (h.tileIndex z z i)
    todo := [(0, h.count)], inPhase := sp == 1 }

/-- QST that holds an entry begins its copy. -/
theorem qst_of_popped (ha : s.alone b c 3) {y : Tile} {l : Lanes} (hw : (s.stream b c 3).wait = .popped y l)
    (hroom : s.roomFor b c 3) :
    s.does b c 3 0 (.qst (if n = 0 then 54 else 55) a g f sp sl)
      ((s.updCore b c fun k => { k with held := k.held ||| l }).begin b c 3
        (qstCopy s b c a f sp sl (readBoxGroup (s.stream b c 3) g).1 y)) := by
  refine (qst_ofStream n a g f sp sl).does ha ?_
  have he := effQst_of_popped (x := s.issuing b c 3 0) (s := s) (n := n) (a := a) (g := g) (f := f) (sp := sp) (sl := sl) hw
  exact he.trans (issueQst_of_room hroom rfl ..)

section
variable (ha : s.alone b c 3) (hw : ∀ y l, (s.stream b c 3).wait ≠ .popped y l)
include ha hw

/-- QST of another format than the queue's. -/
theorem qst_of_other_format (hfmt : ((s.core b c).q[2 + n.val]).kfmt ≠ f) :
    s.traps b c 3 0 (.qst (if n = 0 then 54 else 55) a g f sp sl) { cause := 0x03 } := by
  refine (qst_ofStream n a g f sp sl).traps ha ?_
  have he := effQst_of_unpopped (x := s.issuing b c 3 0) (s := s) (n := n) (a := a) (g := g) (f := f) (sp := sp) (sl := sl) hw
  exact he.trans (withBox_of_bad_fields (queueFields_of_other hfmt))

/-- QST of a misaligned end. -/
theorem qst_of_misaligned (hbox : QueueBox (s.issuing b c 3 0) s g f h) (hfmt : ((s.core b c).q[2 + n.val]).kfmt = f)
    (hsp : sp = 0) (halign : h.aligned (Fmt.ofCode f).size ((s.stream b c 3).sreg a) = false) :
    s.traps b c 3 0 (.qst (if n = 0 then 54 else 55) a g f sp sl) { cause := 0x05, addr := (s.stream b c 3).sreg a } := by
  refine (qst_ofStream n a g f sp sl).traps ha ((effQst_of_box hbox hfmt hw).trans ?_)
  rw [queueEnd_of_misaligned (base := ((s.issuing b c 3 0).st s).sreg a) hsp halign]
  rfl

variable (hend : QueueEnd (s.issuing b c 3 0) s a g f sp true h) (hfmt : ((s.core b c).q[2 + n.val]).kfmt = f)
include hend hfmt

/-- QST of a queue whose formats R56 refuses. -/
theorem qst_of_refused (href : ((s.core b c).q[2 + n.val]).refused = true) :
    s.traps b c 3 0 (.qst (if n = 0 then 54 else 55) a g f sp sl) { cause := 0x03 } := by
  refine (qst_ofStream n a g f sp sl).traps ha ((effQst_of_end hend hfmt hw).trans ?_)
  rw [popQueue_of_refused s (s.issuing b c 3 0) (qi := ⟨2 + n.val, by omega⟩) href]
  rfl

/-- QST of an empty queue that may not wait. -/
theorem qst_of_empty_trap (href : ((s.core b c).q[2 + n.val]).refused = false) (he : ((s.core b c).q[2 + n.val]).entries = [])
    (hpol : ((s.core b c).q[2 + n.val]).epol = true ∨ (s.core b c).othersArrived 3 = true) :
    s.traps b c 3 0 (.qst (if n = 0 then 54 else 55) a g f sp sl) { cause := 0x09 } := by
  refine (qst_ofStream n a g f sp sl).traps ha ((effQst_of_end hend hfmt hw).trans ?_)
  rw [popQueue_of_empty s (s.issuing b c 3 0) (qi := ⟨2 + n.val, by omega⟩) href he]
  exact blocked_of_stuck hpol

/-- QST of an empty queue that may wait. -/
theorem qst_of_empty_wait (href : ((s.core b c).q[2 + n.val]).refused = false) (he : ((s.core b c).q[2 + n.val]).entries = [])
    (hpol : ((s.core b c).q[2 + n.val]).epol = false) (hothers : (s.core b c).othersArrived 3 = false) :
    s.waits b c 3 (.qst (if n = 0 then 54 else 55) a g f sp sl) (s.stream b c 3).wait := by
  refine (qst_ofStream n a g f sp sl).waits (n := 0) ha ((effQst_of_end hend hfmt hw).trans ?_)
  rw [popQueue_of_empty s (s.issuing b c 3 0) (qi := ⟨2 + n.val, by omega⟩) href he]
  exact blocked_of_free hpol hothers

variable {e : QEntry} {r : List QEntry} (href : ((s.core b c).q[2 + n.val]).refused = false)
  (he : ((s.core b c).q[2 + n.val]).entries = e :: r)
include href he

/-- QST of an entry that has not landed waits. -/
theorem qst_of_unlanded (hl : e.landed = false) :
    s.waits b c 3 (.qst (if n = 0 then 54 else 55) a g f sp sl) (s.stream b c 3).wait := by
  refine (qst_ofStream n a g f sp sl).waits (n := 0) ha ((effQst_of_end hend hfmt hw).trans ?_)
  rw [popQueue_of_unlanded s (s.issuing b c 3 0) (qi := ⟨2 + n.val, by omega⟩) href he hl]

/-- QST takes a landed entry, converted where the queue's formats differ, and stores it. -/
theorem qst_of_landed (hl : e.landed = true) (hroom : s.roomFor b c 3) :
    let q := (s.core b c).q[2 + n.val]
    let y : Tile × Lanes := if q.sfmt = q.kfmt then (e.tile, 0)
      else convertTile (Fmt.ofCode q.sfmt) (Fmt.ofCode q.kfmt) (RMode.ofCode q.rm (s.stream b c 3).frm) none e.tile
    s.does b c 3 0 (.qst (if n = 0 then 54 else 55) a g f sp sl)
      (((s.take b c n r).updCore b c fun k => { k with held := k.held ||| y.2 }).begin b c 3 (qstCopy s b c a f sp sl h y.1)) := by
  intro q y
  have hc : ((s.take b c n r).core b c).copies = (s.core b c).copies := State.copies_updCore fun _ => rfl
  have hst : (s.take b c n r).stream b c 3 = s.stream b c 3 := by
    refine s.stream_updCore b c ?_ c 3
    exact fun _ => rfl
  refine (qst_ofStream n a g f sp sl).does ha ((effQst_of_end hend hfmt hw).trans ?_)
  rw [popQueue_take href he hl]
  exact issueQst_of_room (hroom.of_copies hc) (congrArg Stream.frm hst) ..

/-- With 32 copies outstanding it waits, and holds the entry that it has taken. -/
theorem qst_of_full_copies (hl : e.landed = true) (hfull : 32 ≤ (s.core b c).copies.length) :
    let q := (s.core b c).q[2 + n.val]
    let y : Tile × Lanes := if q.sfmt = q.kfmt then (e.tile, 0)
      else convertTile (Fmt.ofCode q.sfmt) (Fmt.ofCode q.kfmt) (RMode.ofCode q.rm (s.stream b c 3).frm) none e.tile
    exec (.qst (if n = 0 then 54 else 55) a g f sp sl) s =
      .next ((s.take b c n r).updStream b c 3 fun z => { z with wait := .popped y.1 y.2 }) := by
  intro q y
  have hc : ((s.take b c n r).core b c).copies = (s.core b c).copies := State.copies_updCore fun _ => rfl
  have hfull' : 32 ≤ ((s.take b c n r).core b c).copies.length := hc ▸ hfull
  refine (qst_ofStream n a g f sp sl).stays (n := 0) ha ((effQst_of_end hend hfmt hw).trans ?_)
  rw [popQueue_take href he hl]
  exact issueQst_of_full hfull' ..

end

/-! ### SPCP and PREF (R240, R243) -/

/-- SPCP begins its copy: what it reads at issue, and what its units read, follow from where its source lies. -/
theorem spcp_begins {t : StreamId} {v : BitVec 5} {tf : BitVec 4} (ht : t = 1 ∨ t = 3) (ha : s.alone b c t)
    (hroom : s.roomFor b c t) (hbox : readBoxGroup (s.stream b c t) g = (h, tf)) (hg : g.toNat ≤ 28) (htf : tf = 0)
    (hcount : h.count ≠ 0) :
    let x := s.issuing b c t 0
    let st := s.stream b c t
    let z := (Fmt.ofCode f).size
    let src := st.sreg a
    let dst := st.sreg v
    let own (e : Word) : Bool := scratchCore e.toNat == c
    boxInScratch (x.gang s) c h src z true = true → boxInScratch (x.gang s) c (packed h.count) dst z true = true →
    h.aligned z src = true → dst.toNat % z = 0 →
    (scratchCore src.toNat = c → boxInSets x s h src z false = true) →
    (scratchCore dst.toNat = c → boxInSets x s (packed h.count) dst z true = true) →
    s.does b c t 0 (.spcp (v.setWidth 6) a g f sl) (s.begin b c t
      { stream := t, num := 0, pc := st.pc, slack := sl.toNat, kind := .toScratch (dst.setWidth 32), far := .scratch, base := src
        shape := h, z := z, frm := st.frm
        data := if own src || endsOverlap h src dst z then
          (List.range h.count).map fun i => scratchRead s b (h.addr src z i).toNat z else []
        todo := [(0, h.count)], reads := if own src then [] else [(0, h.count)], inPhase := own dst }) := by
  intro x st z src dst own hsrc hdst halign hdalign hssets hdsets
  have k : Instr.ofStream t (.spcp (v.setWidth 6) a g f sl) := by
    obtain rfl | rfl := ht <;> exact ⟨Laws.Words.spcp .., rfl, by decide, rfl⟩
  have he := effSpcp_of_checks (x := x) (s := s) (sl := sl) hbox hg htf hcount hsrc hdst halign hdalign hssets hdsets
  exact k.begins ha hroom rfl he rfl

theorem pref_begins {tf : BitVec 4} (ha : s.alone b c 1) (hroom : s.roomFor b c 1)
    (hbox : readBoxGroup (s.stream b c 1) g = (h, tf)) (hg : g.toNat ≤ 28) (htf : tf = 0) (hcount : h.count ≠ 0)
    (halign : h.aligned (Fmt.ofCode f).size ((s.stream b c 1).sreg a) = true) :
    let st := s.stream b c 1
    s.does b c 1 0 (.pref a g f sl) (s.begin b c 1
      { stream := 1, num := 0, pc := st.pc, slack := sl.toNat, kind := .prefetch, far := .device, base := st.sreg a, shape := h
        z := (Fmt.ofCode f).size, frm := st.frm, data := [], todo := [(0, h.count)], inPhase := false }) := by
  intro st
  have k : Instr.ofStream 1 (.pref a g f sl) := ⟨Laws.Words.pref .., rfl, by decide, rfl⟩
  have he := effPref_of_checks (x := s.issuing b c 1 0) (s := s) (sl := sl) hbox hg htf hcount halign
  exact k.begins ha hroom rfl he rfl

/-! ### PUT and GET (R242) -/

theorem put_ofStream (v : BitVec 6) (a g : BitVec 5) (f : BitVec 4) (sp : BitVec 1) (sl : BitVec 4) :
    Instr.ofStream 3 (.put v a g f sp sl) := ⟨Laws.Words.put .., rfl, by decide, rfl⟩

theorem get_ofStream (v : BitVec 6) (a g : BitVec 5) (f : BitVec 4) (sp : BitVec 1) (sl : BitVec 4) :
    Instr.ofStream 1 (.get v a g f sp sl) := ⟨Laws.Words.get .., rfl, by decide, rfl⟩

/-- The copy through a window that PUT and GET begin. -/
def windowCopy (s : State) (b : BenchId) (c : CoreId) (t : StreamId) (a : BitVec 5) (f sl : BitVec 4) (h : CopyShape)
    (kind : CopyKind) (data : List Nat) (inPhase : Bool) : Copy :=
  let st := s.stream b c t
  { stream := t, num := 0, pc := st.pc, slack := sl.toNat, kind := kind, far := .window ((st.sreg a).extractLsb' 48 6)
    base := st.sreg a &&& 0xFFFFFFFFFFFF, shape := h, z := (Fmt.ofCode f).size, frm := st.frm, data := data
    todo := [(0, h.count)], inPhase := inPhase, xfer := s.links.tags }

theorem windowCopy_eq {t : StreamId} {kind : CopyKind} {data : List Nat} {inPhase : Bool} :
    (fun n => { (s.issuing b c t 0).newCopy s kind (.window (((s.stream b c t).sreg a).extractLsb' 48 6))
      ((s.stream b c t).sreg a &&& 0xFFFFFFFFFFFF) h (Fmt.ofCode f).size sl.toNat data inPhase n with xfer := s.links.tags }) =
    fun n => { windowCopy s b c t a f sl h kind data inPhase with num := n } := rfl

theorem copies_nextTag (s : State) (b : BenchId) (c : CoreId) : ((nextTag s).core b c).copies = (s.core b c).copies := rfl

theorem put_begins {v : BitVec 5} (ha : s.alone b c 3) (hroom : s.roomFor b c 3)
    (hb : WindowBox (s.issuing b c 3 0) s true v a g f sp h)
    (hp : windowEnd (s.issuing b c 3 0) s true ((s.stream b c 3).sreg a) h (Fmt.ofCode f).size = true) :
    let z := (Fmt.ofCode f).size
    s.does b c 3 0 (.put (v.setWidth 6) a g f sp sl) ((nextTag s).begin b c 3 (windowCopy s b c 3 a f sl h .toFar
      ((List.range h.count).map fun i =>
        if sp = 1 then scratchRead s b ((s.stream b c 3).sreg v + BitVec.ofNat 64 (i * z)).toNat z
        else tileElem ((s.core b c).v[((s.core b c).physV v).toFin]).vis z (h.tileIndex z z i)) false)) := by
  intro z
  have he := effPut_of_permits (sl := sl) hb hp
  exact (put_ofStream ..).begins ha hroom (copies_nextTag s b c) he windowCopy_eq

theorem get_scratch_begins {v : BitVec 5} (ha : s.alone b c 1) (hroom : s.roomFor b c 1)
    (hb : WindowBox (s.issuing b c 1 0) s false v a g f 1 h)
    (hp : windowEnd (s.issuing b c 1 0) s false ((s.stream b c 1).sreg a) h (Fmt.ofCode f).size = true) :
    s.does b c 1 0 (.get (v.setWidth 6) a g f 1 sl) ((nextTag s).begin b c 1
      { windowCopy s b c 1 a f sl h (.toScratch (((s.stream b c 1).sreg v).setWidth 32)) [] true with
        reads := [(0, h.count)] }) := by
  have he := effGet_scratch (sl := sl) hb hp
  have hy : (fun n => { (s.issuing b c 1 0).newCopy s (.toScratch (((s.stream b c 1).sreg v).setWidth 32))
      (.window (((s.stream b c 1).sreg a).extractLsb' 48 6)) ((s.stream b c 1).sreg a &&& 0xFFFFFFFFFFFF) h
        (Fmt.ofCode f).size sl.toNat [] true n with xfer := s.links.tags, reads := [(0, h.count)] }) =
    fun n => { windowCopy s b c 1 a f sl h (.toScratch (((s.stream b c 1).sreg v).setWidth 32)) [] true with
        num := n, reads := [(0, h.count)] } := rfl
  exact (get_ofStream ..).begins ha hroom (copies_nextTag s b c) he hy

end

/-- Settles O22: QLD and QST by the outcomes of their push and pop; SPCP, PREF, PUT and GET are the issue of a copy once their
checks hold. -/
theorem otherCopies : Obligations.OtherCopies := by
  unfold Obligations.OtherCopies
  refine ⟨fun s b c n a g f sp sl hg => ?_, fun s b c t v a g f sl ha ht hroom hg => ?_, fun s b c v a g f sp sl hg => ?_⟩
  · intro z core copy shaped fine full
    have hbox {t : StreamId} (hs : shaped (s.stream b c t)) :
        QueueBox (s.issuing b c t 0) s g f (readBoxGroup (s.stream b c t) g).1 := ⟨hg, rfl, hs.1, hs.2.1, hs.2.2⟩
    have hend {t : StreamId} {w : Bool} (hf : fine (s.stream b c t) (s.issuing b c t 0) w) :
        QueueEnd (s.issuing b c t 0) s a g f sp w (readBoxGroup (s.stream b c t) g).1 := ⟨hbox hf.1, hf.2.1, hf.2.2⟩
    refine ⟨?_, ?_⟩
    · intro st q h i pushed fills ha
      have hpushed : pushed = s.reserve b c n := rfl
      refine ⟨qld_of_other_format ha, fun hfmt hs id hw hroom => qld_of_reserved ha (hbox hs) hfmt hw hroom,
        fun hfmt hs hsp halign hw => qld_of_misaligned ha (hbox hs) hfmt hsp halign hw,
        fun hfmt href hf hw => qld_of_refused ha (hend hf) hfmt hw href, fun hfmt href hf hw => ⟨?_, ?_, ?_, ?_⟩⟩
      · exact qld_of_room ha (hend hf) hfmt hw href
      · exact qld_of_full_copies ha (hend hf) hfmt hw href
      · exact qld_of_full_trap ha (hend hf) hfmt hw href
      · exact qld_of_full_wait ha (hend hf) hfmt hw href
    · intro st q h i stores ha
      refine ⟨fun y l hw hroom => qst_of_popped ha hw hroom, fun hw => ⟨qst_of_other_format ha hw,
        fun hfmt hs hsp halign => qst_of_misaligned ha hw (hbox hs) hfmt hsp halign,
        fun hfmt href hf => qst_of_refused ha hw (hend hf) hfmt href, fun hfmt href hf => ⟨?_, ?_, fun e r he => ?_⟩⟩⟩
      · exact qst_of_empty_trap ha hw (hend hf) hfmt href
      · exact qst_of_empty_wait ha hw (hend hf) hfmt href
      · intro y popped
        have htake (l : Lanes) : popped l = (s.take b c n r).updCore b c fun k => { k with held := k.held ||| l } := by
          unfold State.take
          rw [State.updCore_updCore]
        have htake0 : popped 0 = s.take b c n r := by
          unfold popped State.take
          simp only [show ∀ l : Lanes, l ||| 0 = l from fun _ => BitVec.or_zero]
          rfl
        refine ⟨qst_of_unlanded ha hw (hend hf) hfmt href he, fun hl hroom => ?_, fun hl hfull => ?_⟩
        · rw [htake]
          exact qst_of_landed ha hw (hend hf) hfmt href he hl hroom
        · rw [htake0]
          exact qst_of_full_copies ha hw (hend hf) hfmt href he hl hfull
  · intro x st z src dst h p own copy hcount htf halign
    have hown (e : Word) : (scratchCore e.toNat == c) = true ↔ own e := by
      rw [scratchCore_beq, decide_eq_true_iff]
    refine ⟨fun hsrc hdst hdalign hssets hdsets => ?_, ?_⟩
    · intro meets
      refine ⟨scratchCore src.toNat == c || endsOverlap h src dst z, ?_, ?_⟩
      · rw [Bool.or_eq_true, hown, endsOverlap_iff]
      · have hb := spcp_begins (sl := sl) (h := h) ht ha hroom rfl hg htf hcount hsrc hdst halign hdalign
          (fun ho => hssets ((hown src).mp (beq_iff_eq.mpr ho))) (fun ho => hdsets ((hown dst).mp (beq_iff_eq.mpr ho)))
        have hphase : (scratchCore ((s.stream b c t).sreg v).toNat == c) = decide (own dst) := scratchCore_beq _ _
        simp only [hown, hphase] at hb
        exact hb
    · rintro rfl
      exact pref_begins ha hroom rfl hg htf hcount halign
  · intro z core fine copy tagged permits r face
    have hbox {t : StreamId} {put : Bool} (hf : fine t put) :
        WindowBox (s.issuing b c t 0) s put v a g f sp (readBoxGroup (s.stream b c t) g).1 := by
      obtain ⟨-, -, hcount, htf, hhandle, halign, htile, hscratch⟩ := hf
      exact ⟨hg, rfl, hcount, htf, hhandle, halign, htile, hscratch⟩
    refine ⟨fun hf hp => ?_, fun hf hp hsp => ?_, fun hf hp hsp hw => ?_, fun hf hp => ?_, fun hf hp => ?_⟩
    · exact put_begins hf.1 hf.2.1 (hbox hf) hp
    · subst hsp
      exact get_scratch_begins hf.1 hf.2.1 (hbox hf) hp
    · subst hsp
      have hmarked : ((nextTag s).updCore b c fun k => k.loads r false 1 (s.stream b c 1).pc) =
          tagged.updCore b c fun k => { k with v := k.v.set r.toFin { face with
            hid := face.vis, written := true, pending := true
            tag := { stream := 1, async := true, pc := (s.stream b c 1).pc } } } := State.updCore_congr rfl
      have he := effGet_face (sl := sl) (hbox hf) hp rfl hw hf.2.1
      dsimp only at he
      rw [hmarked] at he
      exact (get_ofStream ..).does hf.1 he
    · exact (put_ofStream ..).traps hf.1 (effPut_of_not_permits (hbox hf) hp)
    · exact (get_ofStream ..).traps hf.1 (effGet_of_not_permits (hbox hf) hp)

end Sys2Proof.Machine
end

section
/-! SUPPORT. Units of copies: what COPY_UNIT chooses, and where the elements of one unit land (R97, R236, R241). -/

namespace Sys2Proof.Machine

/-! ### What the performing of a unit leaves of a partition's halt -/

/-- No halt of the partition of the gang on a bench. -/
def State.runs (s : State) (b : BenchId) : Prop := (s.part (s.gang b).part).halt = .none

theorem State.gang_part_updCore (s : State) (b : BenchId) (c : CoreId) (f : Core → Core) (b' : BenchId) :
    ((s.updCore b c f).gang b').part = (s.gang b').part := by
  by_cases h : b' = b
  · subst h
    unfold State.gang State.updCore
    rw [State.gang?_updGang_self]
    cases s.gang? b' <;> rfl
  · unfold State.gang
    rw [State.gang?_updCore_ne _ _ _ _ _ h]

theorem State.part_updCore (s : State) (b : BenchId) (c : CoreId) (f : Core → Core) (p : PartId) :
    (s.updCore b c f).part p = s.part p := by
  unfold State.part
  rw [State.updCore_parts]

theorem State.runs_updCore (s : State) (b : BenchId) (c : CoreId) (f : Core → Core) (b' : BenchId) :
    (s.updCore b c f).runs b' ↔ s.runs b' := by
  unfold State.runs
  rw [State.gang_part_updCore, State.part_updCore]

theorem physSet_parts (s : State) (pa : Nat) (v : Byte) : (physSet s pa v).parts = s.parts := by
  unfold physSet
  split
  · rfl
  · split
    · split
      · rfl
      · dsimp only
        split
        · split <;> rfl
        · exact storeCode_parts _ _ _ _
    · rfl

theorem physWrite_parts (s : State) (pa n v : Nat) : (physWrite s pa n v).parts = s.parts := by
  induction n generalizing s pa v with
  | zero => rfl
  | succ n ih => exact (ih _ _ _).trans (physSet_parts s pa _)

theorem runs_physWrite (s : State) (pa n v : Nat) (b : BenchId) : (physWrite s pa n v).runs b ↔ s.runs b := by
  unfold State.runs State.part State.gang
  rw [physWrite_parts, (physWrite_aside s pa n v).gang?]

/-- Memory reads alike after a change of a core. -/
theorem physRead_updCore (s : State) (b : BenchId) (c : CoreId) (f : Core → Core) (pa n : Nat) :
    physRead (s.updCore b c f) pa n = physRead s pa n := by
  have hbyte (a : Nat) : physByte (s.updCore b c f) a = physByte s a := by
    unfold State.updCore State.updGang
    cases s.gang? b <;> rfl
  induction n generalizing pa with
  | zero => rfl
  | succ n ih => exact congrArg₂ (fun (x : Byte) y => x.toNat + 256 * y) (hbyte pa) (ih (pa + 1))

/-! ### The choice of the engine (R236) -/

/-- A copy with no more slack than those after it stays the choice. -/
theorem foldl_least_of_le {k : Copy} {r : List Copy} (hr : ∀ o ∈ r, k.slack ≤ o.slack) :
    r.foldl (fun a b => if b.slack < a.slack then b else a) k = k := by
  induction r with
  | nil => rfl
  | cons o r ih =>
    rw [List.foldl_cons, if_neg (Nat.not_lt.mpr (hr o List.mem_cons_self))]
    exact ih fun o' ho => hr o' (List.mem_cons_of_mem o ho)

/-- A copy with less slack than those before it, and no more than those after, is the one that a list's least is. -/
theorem foldl_least {k : Copy} (l r : List Copy) (a : Copy) (ha : k.slack < a.slack) (hl : ∀ o ∈ l, k.slack < o.slack)
    (hr : ∀ o ∈ r, k.slack ≤ o.slack) :
    (l ++ k :: r).foldl (fun a b => if b.slack < a.slack then b else a) a = k := by
  induction l generalizing a with
  | nil =>
    rw [List.nil_append, List.foldl_cons, if_pos ha]
    exact foldl_least_of_le hr
  | cons o l ih =>
    rw [List.cons_append, List.foldl_cons]
    refine ih _ ?_ fun o' ho => hl o' (List.mem_cons_of_mem o ho)
    split
    · exact hl o List.mem_cons_self
    · exact ha

/-- The engine works on the copy with the least slack, the earliest among equals (R236). -/
theorem engineChoice_of_least {s : State} {b : BenchId} {k : Copy} {l r : List Copy} {free : Copy → Bool}
    (hfree : ∀ o : Copy, (o.live && decide (todoCount o.open ≠ 0) && sendable s b o) = free o) (hk : free k = true)
    (hl : ∀ o ∈ l, free o = true → k.slack < o.slack) (hr : ∀ o ∈ r, free o = true → k.slack ≤ o.slack) :
    engineChoice s b (l ++ k :: r) = some k := by
  have hfilter : (l ++ k :: r).filter free = l.filter free ++ k :: r.filter free := by
    rw [List.filter_append, List.filter_cons_of_pos hk]
  have hl' : ∀ o ∈ l.filter free, k.slack < o.slack := fun o ho =>
    hl o (List.mem_filter.mp ho).1 (List.mem_filter.mp ho).2
  have hr' : ∀ o ∈ r.filter free, k.slack ≤ o.slack := fun o ho =>
    hr o (List.mem_filter.mp ho).1 (List.mem_filter.mp ho).2
  unfold engineChoice
  simp only [hfree]
  rw [show (fun o => free o) = free from rfl, hfilter]
  cases h : l.filter free with
  | nil => exact congrArg some (foldl_least_of_le hr')
  | cons o l' =>
    rw [h] at hl'
    exact congrArg some (foldl_least l' _ o (hl' o List.mem_cons_self) (fun o' ho => hl' o' (List.mem_cons_of_mem o ho)) hr')

/-! ### One unit and no more (R236) -/

section
variable {s s' : State} {b : BenchId} {c : CoreId} {pick i j : Nat} {k : Copy}

/-- A copy whose remaining elements all lie in one unit, none of them still to be read: a source or a destination in device
memory or in scratch. -/
structure Copy.lastUnit (k : Copy) : Prop where
  active : k.state = .active
  clean : k.fault = none
  read : k.reads = []
  near : ∀ w, k.far ≠ .window w

theorem Copy.lastUnit.open_eq (h : k.lastUnit) : k.open = k.todo := by
  unfold Copy.open
  rw [h.read]
  split
  · next hw _ => exact absurd hw (h.near _)
  · rfl

theorem performUnits_of_none {m : Nat} (h : todoCount k.open = 0) : performUnits b c m pick (s, k) = (s, k) := by
  cases m with
  | zero => rfl
  | succ m =>
    unfold performUnits
    simp only [h, decide_true, Bool.or_true, if_true]

/-- The last unit of a copy leaves it with nothing to do. -/
theorem workOn_lastUnit (h : k.lastUnit) (ht : todoCount k.todo ≠ 0) (hn : todoNth k.todo (pick % todoCount k.todo) = some i)
    (hu : performUnit s b c k (pick % todoCount k.todo) i = (s', { k with todo := [] })) (hr : s'.runs b) :
    workOn s b c 16 pick k = setCopy s' b c { k with todo := [] } := by
  have hlive : k.live = true := by unfold Copy.live; rw [h.active]; rfl
  have hdone : ({ k with todo := [] } : Copy).lastUnit := ⟨h.active, h.clean, h.read, h.near⟩
  have hunits : performUnits b c 16 pick (s, k) = (s', { k with todo := [] }) := by
    unfold performUnits
    simp only [h.open_eq, hlive, Bool.not_true, Bool.false_or, decide_eq_true_eq, if_neg ht, hn, hu]
    exact performUnits_of_none (by rw [hdone.open_eq]; rfl)
  have hdrain : drainRecord s' b c { k with todo := [] } = (s', { k with todo := [] }) := by
    unfold drainRecord recordCopy
    simp only [h.clean, ite_self]
  have hrep : ({ k with todo := [] } : Copy).replayed = { k with todo := [] } := by
    unfold Copy.replayed
    simp only [h.active, reduceCtorEq, false_and, if_false]
  unfold workOn
  rw [hunits]
  dsimp only
  rw [hdrain]
  dsimp only
  rw [hrep]
  unfold settleResume setCopy
  rw [State.part_updCore, show (s'.part (s'.gang b).part).halt = .none from hr]
  exact if_neg (by simp)

/-- The last unit of a copy that has one element left. -/
theorem workOn_lastElement (h : k.lastUnit) (ht : k.todo = [(j, 1)])
    (hu : performUnit s b c k 0 j = (s', { k with todo := [] })) (hr : s'.runs b) :
    workOn s b c 16 pick k = setCopy s' b c { k with todo := [] } := by
  have hc : todoCount k.todo = 1 := by rw [ht]; rfl
  have hp : pick % todoCount k.todo = 0 := by rw [hc, Nat.mod_one]
  refine workOn_lastUnit h (by rw [hc]; decide) (i := j) ?_ ?_ hr
  · rw [hp, ht]
    rfl
  · rw [hp]
    exact hu

theorem Copy.group_one (ht : k.todo = [(j, 1)]) : k.group j = [j] := by
  unfold Copy.group
  rw [ht]
  simp [todoAll]

theorem Copy.done_one (ht : k.todo = [(j, 1)]) : k.done [j] = { k with todo := [] } := by
  unfold Copy.done
  rw [ht]
  simp [todoDrop]

end

/-! ### A unit in device memory (R97, R241) -/

section
variable {s s1 : State} {b : BenchId} {c : CoreId} {pick i j pa : Nat} {k : Copy}

/-- The aligned 8 bytes that hold an element at the far end. -/
def Copy.unitVa (k : Copy) (j : Nat) : Word := BitVec.ofNat 64 ((k.addr j).toNat / 8 * 8)

theorem unitVa_eq (k : Copy) (j : Nat) : BitVec.ofNat 64 (8 * k.farUnit j) = k.unitVa j := by
  unfold Copy.farUnit Copy.unitVa
  rw [Nat.mul_comm]

/-- A group of elements is stored in its unit. -/
theorem unitDevice_of_store (hk : k.kind = .toFar ∨ k.kind = .addFar) {g : List Nat}
    (hm : homeAccess s (whoStream s b c) (k.unitVa i) 8 (if k.kind = .addFar then .update else .write) false = .ok (pa, s1)) :
    unitDevice s b c k i g = ((k.putAll pa g s1).updCore b c fun y => y.dropLine (lineOf pa), k.done g) := by
  unfold unitDevice
  dsimp only
  rw [unitVa_eq]
  obtain hk | hk := hk <;> rw [hk] at hm <;> rw [hk] <;> dsimp only <;> rw [hm]

/-- A group of elements is loaded from its unit. -/
theorem unitDevice_of_load (hk : (∃ r f d, k.kind = .toFace r f d) ∨ ∃ q id, k.kind = .toQueue q id) {g : List Nat}
    (hm : homeAccess s (whoStream s b c) (k.unitVa i) 8 .read false = .ok (pa, s1)) :
    unitDevice s b c k i g =
      let s0 := s1.updCore b c fun y => y.refreshL1 pa 8 (physRead s1 pa 8)
      (g.foldl (fun s j => landElem s b c k j (physRead s (k.near pa j) k.z)) s0, k.done g) := by
  unfold unitDevice
  dsimp only
  rw [unitVa_eq]
  obtain ⟨r, f, d, hk⟩ | ⟨q, id, hk⟩ := hk <;> rw [hk] <;> dsimp only <;> rw [hm]

theorem putAll_toFar_one (hk : k.kind = .toFar) (pa j : Nat) (s : State) :
    k.putAll pa [j] s = physWrite s (k.near pa j) k.z (k.value j % 2 ^ (8 * k.z)) := by
  unfold Copy.putAll
  rw [hk]
  rfl

/-- Elements that add at one location add once, with their sum (R241). -/
theorem putAll_addFar {g : List Nat} (hk : k.kind = .addFar) (hg : ∀ i ∈ g, k.near pa i = k.near pa j) (hne : g ≠ [])
    (s : State) : k.putAll pa g s = physWrite s (k.near pa j) k.z
      ((physRead s (k.near pa j) k.z + (g.map k.value).sum) % 2 ^ (8 * k.z)) := by
  have hmap : g.map (k.near pa) = List.replicate g.length (k.near pa j) := List.map_eq_replicate_iff.mpr hg
  have hfilter : g.filter (fun i => k.near pa i == k.near pa j) = g :=
    List.filter_eq_self.mpr fun i hi => beq_iff_eq.mpr (hg i hi)
  have hdups : (g.map (k.near pa)).eraseDups = [k.near pa j] := by
    rw [hmap]
    obtain ⟨n, hn⟩ := Nat.exists_eq_succ_of_ne_zero (mt List.length_eq_zero_iff.mp hne)
    rw [hn]
    simp [List.replicate_succ, List.eraseDups_cons]
  unfold Copy.putAll
  rw [hk]
  dsimp only
  rw [hdups, List.foldl_cons, List.foldl_nil, hfilter]

theorem performUnit_device (hfar : k.far = .device) (p i : Nat) :
    performUnit s b c k p i = unitDevice s b c k ((k.group i).headD i) (k.group i) := by
  unfold performUnit
  rw [hfar]

/-- The performing of a copy's last element in device memory. -/
theorem performUnit_device_one (hfar : k.far = .device) (ht : k.todo = [(j, 1)]) :
    performUnit s b c k 0 j = unitDevice s b c k j [j] := by
  rw [performUnit_device hfar, Copy.group_one ht]
  rfl

/-- The halt of the partition, after the unit has been stored. -/
theorem runs_stored {at' z v line : Nat} (h : s1.runs b) :
    ((physWrite s1 at' z v).updCore b c fun y => y.dropLine line).runs b :=
  (State.runs_updCore ..).mpr ((runs_physWrite ..).mpr h)

/-- The last element of a store. -/
theorem workOn_toFar (h : k.lastUnit) (ht : k.todo = [(j, 1)]) (hfar : k.far = .device) (hk : k.kind = .toFar)
    (hm : homeAccess s (whoStream s b c) (k.unitVa j) 8 .write false = .ok (pa, s1)) (hr : s1.runs b) :
    workOn s b c 16 pick k = setCopy ((physWrite s1 (k.near pa j) k.z (k.value j % 2 ^ (8 * k.z))).updCore b c fun y =>
      y.dropLine (lineOf pa)) b c { k with todo := [] } := by
  refine workOn_lastElement h ht ?_ (runs_stored hr)
  have hm' : homeAccess s (whoStream s b c) (k.unitVa j) 8 (if k.kind = .addFar then .update else .write) false =
    .ok (pa, s1) := by rw [hk]; exact hm
  rw [performUnit_device_one hfar ht, unitDevice_of_store (.inl hk) hm', putAll_toFar_one hk, Copy.done_one ht]

/-- The last element of SCATTER.ADD. -/
theorem workOn_addFar (h : k.lastUnit) (ht : k.todo = [(j, 1)]) (hfar : k.far = .device) (hk : k.kind = .addFar)
    (hm : homeAccess s (whoStream s b c) (k.unitVa j) 8 .update false = .ok (pa, s1)) (hr : s1.runs b) :
    workOn s b c 16 pick k = setCopy ((physWrite s1 (k.near pa j) k.z
      ((physRead s1 (k.near pa j) k.z + k.value j) % 2 ^ (8 * k.z))).updCore b c fun y =>
        y.dropLine (lineOf pa)) b c { k with todo := [] } := by
  refine workOn_lastElement h ht ?_ (runs_stored hr)
  have hm' : homeAccess s (whoStream s b c) (k.unitVa j) 8 (if k.kind = .addFar then .update else .write) false =
    .ok (pa, s1) := by rw [hk]; exact hm
  rw [performUnit_device_one hfar ht, unitDevice_of_store (.inr hk) hm',
    putAll_addFar hk (fun i hi => by rw [List.mem_singleton.mp hi]) (List.cons_ne_nil j []), Copy.done_one ht]
  rfl

/-- The last two elements of SCATTER.ADD, at one location, are added there together (R241). -/
theorem workOn_addFar_two (h : k.lastUnit) (ht : k.todo = [(j, 2)]) (hfar : k.far = .device) (hk : k.kind = .addFar)
    (ha : k.addr (j + 1) = k.addr j)
    (hm : homeAccess s (whoStream s b c) (k.unitVa j) 8 .update false = .ok (pa, s1)) (hr : s1.runs b) :
    workOn s b c 16 pick k = setCopy ((physWrite s1 (k.near pa j) k.z
      ((physRead s1 (k.near pa j) k.z + (k.value j + k.value (j + 1))) % 2 ^ (8 * k.z))).updCore b c fun y =>
        y.dropLine (lineOf pa)) b c { k with todo := [] } := by
  have hc : todoCount k.todo = 2 := by rw [ht]; rfl
  have hunit : k.unitOf (j + 1) = k.unitOf j := by
    unfold Copy.unitOf Copy.farUnit
    rw [hk, ha]
  have hnear : k.near pa (j + 1) = k.near pa j := by unfold Copy.near; rw [ha]
  have hdone : k.done [j, j + 1] = { k with todo := [] } := by
    unfold Copy.done
    rw [ht]
    simp [todoDrop, List.filter_cons]
  have hm' : homeAccess s (whoStream s b c) (k.unitVa j) 8 (if k.kind = .addFar then .update else .write) false =
    .ok (pa, s1) := by rw [hk]; exact hm
  have hput : k.putAll pa [j, j + 1] s1 = physWrite s1 (k.near pa j) k.z
      ((physRead s1 (k.near pa j) k.z + (k.value j + k.value (j + 1))) % 2 ^ (8 * k.z)) := by
    refine (putAll_addFar hk ?_ (List.cons_ne_nil j [j + 1]) s1).trans rfl
    simp [hnear]
  have hlt : pick % 2 < 2 := Nat.mod_lt _ (by decide)
  refine workOn_lastUnit (i := j + pick % 2) h (by rw [hc]; decide) ?_ ?_ (runs_stored hr)
  · rw [hc, ht]
    exact if_pos hlt
  · have hgroup : k.group (j + pick % 2) = [j, j + 1] := by
      have hi : k.unitOf (j + pick % 2) = k.unitOf j := by
        obtain hp | hp : pick % 2 = 0 ∨ pick % 2 = 1 := by omega
        · rw [hp]
          rfl
        · rw [hp, hunit]
      unfold Copy.group
      rw [ht, hi]
      simp [todoAll, List.range', hunit]
    rw [performUnit_device hfar, hgroup, List.headD_cons, unitDevice_of_store (.inr hk) hm', hput, hdone]

end

end Sys2Proof.Machine
end

section
/-! SUPPORT. The events of a core by which results land: synchronous results, long operations, units of copies, copies that
complete (R51, R55, R58, R169, R171, R236; log 26). -/

namespace Sys2Proof.Machine

/-! ### Elements that land (R236, R238) -/

section
variable {s s0 s1 : State} {b : BenchId} {c : CoreId} {pick j pa : Nat} {k : Copy}

/-- An element that lands leaves the partition as it runs. -/
theorem runs_landElem (v : Nat) (h : s.runs b) : (landElem s b c k j v).runs b := by
  unfold landElem
  split
  · exact (State.runs_updCore ..).mpr h
  · exact (State.runs_updCore ..).mpr h
  · exact (State.runs_updCore ..).mpr h
  all_goals exact h

/-- Where an element that comes to a core lands: in a face or in a queue entry. -/
def Copy.comes (k : Copy) : Prop := (∃ r f d, k.kind = .toFace r f d) ∨ ∃ q id, k.kind = .toQueue q id

/-- The last element that comes from device memory. -/
theorem workOn_of_load (h : k.lastUnit) (ht : k.todo = [(j, 1)]) (hfar : k.far = .device) (hk : k.comes)
    (hm : homeAccess s (whoStream s b c) (k.unitVa j) 8 .read false = .ok (pa, s1)) :
    let s0 := s1.updCore b c fun y => y.refreshL1 pa 8 (physRead s1 pa 8)
    s0.runs b → workOn s b c 16 pick k =
      setCopy (landElem s0 b c k j (physRead s1 (k.near pa j) k.z)) b c { k with todo := [] } := by
  intro s0 hr
  refine workOn_lastElement h ht ?_ (runs_landElem _ hr)
  rw [performUnit_device_one hfar ht, unitDevice_of_load hk hm, Copy.done_one ht]
  dsimp only [List.foldl_cons, List.foldl_nil]
  rw [physRead_updCore]

/-- The last unit of a copy of scratch writes scratch, or lands what the copy captured. -/
theorem performUnit_scratch_one (h : k.lastUnit) (hfar : k.far = .scratch) (ht : k.todo = [(j, 1)]) :
    performUnit s b c k 0 j = writeScratch s b c k [j] := by
  have hread : todoCount k.reads = 0 := by rw [h.read]; rfl
  unfold performUnit
  rw [hfar]
  dsimp only
  rw [hread, if_neg (Nat.not_lt_zero 0)]
  unfold unitScratch
  rw [Copy.group_one ht, h.read]
  rfl

/-- The last element that comes from scratch. -/
theorem workOn_of_captured (h : k.lastUnit) (ht : k.todo = [(j, 1)]) (hfar : k.far = .scratch) (hk : k.comes) (hr : s.runs b) :
    workOn s b c 16 pick k = setCopy (landElem s b c k j (k.value j)) b c { k with todo := [] } := by
  refine workOn_lastElement h ht ?_ (runs_landElem _ hr)
  rw [performUnit_scratch_one h hfar ht]
  unfold writeScratch
  rw [Copy.done_one ht]
  obtain ⟨r, f, d, hk⟩ | ⟨q, id, hk⟩ := hk <;> rw [hk] <;> rfl

/-- The last element that a copy from a register or a queue stores in scratch. -/
theorem workOn_toFar_scratch (h : k.lastUnit) (ht : k.todo = [(j, 1)]) (hfar : k.far = .scratch) (hk : k.kind = .toFar)
    (hr : s.runs b) : workOn s b c 16 pick k =
      setCopy (scratchWrite s b (k.addr j).toNat k.z (k.value j)) b c { k with todo := [] } := by
  refine workOn_lastElement h ht ?_ ((State.runs_updCore ..).mpr hr)
  rw [performUnit_scratch_one h hfar ht]
  unfold writeScratch
  rw [Copy.done_one ht, hk]
  rfl

/-- The last element that SPCP stores, in its own core or where the other core's sets permit it (R86, R240). -/
theorem workOn_toScratch {d : BitVec 32} (h : k.lastUnit) (ht : k.todo = [(j, 1)]) (hfar : k.far = .scratch)
    (hk : k.kind = .toScratch d) (hr : s.runs b)
    (hin : scratchCore (d.toNat + j * k.z) = c ∨
      (s.core b (scratchCore (d.toNat + j * k.z))).inbound (d.toNat + j * k.z) k.z = true) :
    workOn s b c 16 pick k =
      setCopy (scratchWrite s b (d.toNat + j * k.z) k.z (k.value j)) b c { k with todo := [] } := by
  have hdst : k.dstAddr j = d.toNat + j * k.z := by unfold Copy.dstAddr; rw [hk]
  have hland : landElem s b c k j (k.value j) = scratchWrite s b (d.toNat + j * k.z) k.z (k.value j) := by
    unfold landElem
    rw [hk]
  have hbad : (scratchCore (k.dstAddr j) != c && !(s.core b (scratchCore (k.dstAddr j))).inbound (k.dstAddr j) k.z) = false := by
    rw [hdst]
    obtain hin | hin := hin
    · rw [bne_eq_false_iff_eq.mpr hin, Bool.false_and]
    · rw [hin, Bool.not_true, Bool.and_false]
  refine workOn_lastElement h ht ?_ ((State.runs_updCore ..).mpr hr)
  rw [performUnit_scratch_one h hfar ht]
  unfold writeScratch
  rw [Copy.done_one ht]
  split
  · next hk' => rw [hk] at hk'; cases hk'
  · simp only [List.find?_cons, hbad, List.find?_nil, List.foldl_cons, List.foldl_nil, hland]
  · next hk' => exact absurd hk (hk' d)

/-- An element that lands in a face, converted, with its flags. -/
theorem landElem_toFace {r : BitVec 5} {src dst : BitVec 4} (hk : k.kind = .toFace r src dst) (v : Nat) :
    let z := (Fmt.ofCode dst).size
    let e := k.shape.tileIndex k.z z j
    let o := if src = dst then (v, 0) else convert (Fmt.ofCode src) (Fmt.ofCode dst) (RMode.ofCode 7 k.frm) v
    let f := (s0.core b c).v[r.toFin]
    landElem s0 b c k j v = s0.updCore b c fun y => { y with
      v := y.v.set r.toFin { f with hid := setElem f.hid z e o.1 }, held := y.held ||| inLane (laneOf z e) o.2 } := by
  intro z e o f
  unfold landElem
  rw [hk]
  exact State.updCore_congr rfl

/-- An element that lands in a queue entry. -/
theorem landElem_toQueue {q : BitVec 2} {id : Nat} (hk : k.kind = .toQueue q id) (v : Nat) :
    landElem s0 b c k j v = s0.updCore b c fun y => { y with
      q := y.q.set q.toFin { y.q[q.toFin] with entries := (y.q[q.toFin]).entries.map fun n =>
        if n.id = id then { n with tile := setElem n.tile k.z (k.shape.tileIndex k.z k.z j) v } else n } } := by
  unfold landElem
  rw [hk]

end

/-! ### Long operations (R171) -/

/-- A write of a long operation lands, and its register is no longer pending (R51). -/
def Core.landWrite (k : Core) (w : FaceWrite) : Core := (k.land w).clearPending w.reg

section
variable {k : Core} {w : FaceWrite} {l : List FaceWrite}

/-- Such a write changes faces alone. -/
theorem Core.landWrite_faces (k : Core) (w : FaceWrite) :
    ∃ v c p, k.landWrite w = { k with v := v, c := c, p := p } := by
  unfold Core.landWrite Core.land
  cases w.reg <;> exact ⟨_, _, _, rfl⟩

theorem Core.foldl_landWrite_faces (l : List FaceWrite) (k : Core) :
    ∃ v c p, l.foldl Core.landWrite k = { k with v := v, c := c, p := p } := by
  induction l generalizing k with
  | nil => exact ⟨_, _, _, rfl⟩
  | cons w l ih =>
    obtain ⟨v, c, p, h⟩ := k.landWrite_faces w
    obtain ⟨v', c', p', h'⟩ := ih (k.landWrite w)
    exact ⟨v', c', p', by rw [List.foldl_cons, h', h]⟩

theorem Core.landWrite_v {r : BitVec 5} (hr : w.reg = .v r) (hm : w.mask = BitVec.allOnes 4096) :
    (k.landWrite w).v = k.v.set r.toFin { k.v[r.toFin] with hid := w.data, pending := false } := by
  unfold Core.landWrite Core.land
  rw [hr, hm]
  simp only [Core.clearPending, blend_allOnes, Fin.getElem_fin, Vector.getElem_set_self, Vector.set_set]

theorem Core.landWrite_c {r : BitVec 3} (hr : w.reg = .c r) :
    (k.landWrite w).c = k.c.set r.toFin { k.c[r.toFin] with hid := w.data.setWidth 64, pending := false } := by
  unfold Core.landWrite Core.land
  rw [hr]
  simp [Core.clearPending]

theorem Core.landWrite_v_ne {r : BitVec 5} (hr : w.reg ≠ .v r) : (k.landWrite w).v[r.toFin] = k.v[r.toFin] := by
  unfold Core.landWrite Core.land
  cases hw : w.reg with
  | v i =>
    have hne : i.toNat ≠ r.toNat := fun h => hr (hw.trans (congrArg Reg.v (BitVec.eq_of_toNat_eq h)))
    simp [Core.clearPending, hne]
  | c i => rfl
  | p i => rfl

theorem Core.landWrite_c_ne {r : BitVec 3} (hr : w.reg ≠ .c r) : (k.landWrite w).c[r.toFin] = k.c[r.toFin] := by
  unfold Core.landWrite Core.land
  cases hw : w.reg with
  | c i =>
    have hne : i.toNat ≠ r.toNat := fun h => hr (hw.trans (congrArg Reg.c (BitVec.eq_of_toNat_eq h)))
    simp [Core.clearPending, hne]
  | v i => rfl
  | p i => rfl

/-- A register that no write names keeps its faces. -/
theorem Core.foldl_landWrite_v_ne {r : BitVec 5} (h : ∀ w ∈ l, w.reg ≠ .v r) :
    (l.foldl Core.landWrite k).v[r.toFin] = k.v[r.toFin] := by
  induction l generalizing k with
  | nil => rfl
  | cons w l ih =>
    rw [List.foldl_cons, ih fun y hy => h y (List.mem_cons_of_mem w hy), Core.landWrite_v_ne (h w List.mem_cons_self)]

theorem Core.foldl_landWrite_c_ne {r : BitVec 3} (h : ∀ w ∈ l, w.reg ≠ .c r) :
    (l.foldl Core.landWrite k).c[r.toFin] = k.c[r.toFin] := by
  induction l generalizing k with
  | nil => rfl
  | cons w l ih =>
    rw [List.foldl_cons, ih fun y hy => h y (List.mem_cons_of_mem w hy), Core.landWrite_c_ne (h w List.mem_cons_self)]

/-- Of writes to different registers, a write that comes first is seen by none of the others. -/
theorem reg_ne_of_nodup {a : FaceWrite} (hn : ((a :: l).map (·.reg)).Nodup) : ∀ w ∈ l, w.reg ≠ a.reg := fun w hw h =>
  (List.nodup_cons.mp hn).1 (List.mem_map.mpr ⟨w, hw, h⟩)

/-- Of writes to different registers, each lands. -/
theorem Core.foldl_landWrite_v {r : BitVec 5} (hn : (l.map (·.reg)).Nodup) (hw : w ∈ l) (hr : w.reg = .v r)
    (hm : w.mask = BitVec.allOnes 4096) :
    (l.foldl Core.landWrite k).v[r.toFin] = { k.v[r.toFin] with hid := w.data, pending := false } := by
  induction l generalizing k with
  | nil => cases hw
  | cons a l ih =>
    have hne := reg_ne_of_nodup hn
    rw [List.foldl_cons]
    obtain rfl | hw := List.mem_cons.mp hw
    · rw [Core.foldl_landWrite_v_ne fun y hy => hr ▸ hne y hy, Core.landWrite_v hr hm]
      simp
    · rw [ih (List.nodup_cons.mp hn).2 hw, Core.landWrite_v_ne fun ha => hne w hw (hr.trans ha.symm)]

theorem Core.foldl_landWrite_c {r : BitVec 3} (hn : (l.map (·.reg)).Nodup) (hw : w ∈ l) (hr : w.reg = .c r) :
    (l.foldl Core.landWrite k).c[r.toFin] = { k.c[r.toFin] with hid := w.data.setWidth 64, pending := false } := by
  induction l generalizing k with
  | nil => cases hw
  | cons a l ih =>
    have hne := reg_ne_of_nodup hn
    rw [List.foldl_cons]
    obtain rfl | hw := List.mem_cons.mp hw
    · rw [Core.foldl_landWrite_c_ne fun y hy => hr ▸ hne y hy, Core.landWrite_c hr]
      simp
    · rw [ih (List.nodup_cons.mp hn).2 hw, Core.landWrite_c_ne fun ha => hne w hw (hr.trans ha.symm)]

/-- A long operation lands: its writes in the faces, its tile in its entry, its flags held for the flip. -/
theorem Core.landLong_eq (k : Core) (o : LongOp) :
    k.landLong o = { k with
      v := (o.writes.foldl Core.landWrite k).v, c := (o.writes.foldl Core.landWrite k).c
      p := (o.writes.foldl Core.landWrite k).p, held := k.held ||| o.flags
      q := match o.entry with
        | none => k.q
        | some (q, id, t) => k.q.set q.toFin { k.q[q.toFin] with entries := (k.q[q.toFin]).entries.map fun n =>
            if n.id = id then { n with landed := true, tile := t } else n } } := by
  have hw : (o.writes.foldl (fun k w => (k.land w).clearPending w.reg) k) = o.writes.foldl Core.landWrite k := rfl
  obtain ⟨v, c, p, h⟩ := Core.foldl_landWrite_faces o.writes k
  unfold Core.landLong
  rw [hw, h]
  dsimp only
  cases o.entry with
  | none => rfl
  | some e => rfl

end

/-! ### Events -/

section
variable {s : State} {b : BenchId} {c : CoreId} {g : Gang}

theorem exec_cpResult (hon : s.dev.off = false) : exec (.cpResultWrite b c) s = .next (s.updCore b c Core.performResult) :=
  happen_on s (fun s => cpResult s b c) hon

/-- LONG_OP_LAND of a long operation of a core. -/
theorem exec_longOpLand {n : Nat} {o : LongOp} (hon : s.dev.off = false) (ho : (s.core b c).longs[n]? = some o) :
    exec (.longOpLand b c n) s = .next (s.updCore b c fun k => { k.landLong o with longs := k.longs.eraseIdx n }) := by
  refine (happen_on s (fun s => longLand s b c n) hon).trans (congrArg Host.Outcome.next (State.updCore_congr ?_))
  rw [ho]

/-- COPY_UNIT works on the copy that the engine chooses. -/
theorem exec_copyUnit {pick : Nat} {k : Copy} (hon : s.dev.off = false) (hg : s.gang? b = some g)
    (hk : engineChoice s b (s.core b c).copies = some k) : exec (.copyUnit b c pick) s = .next (workOn s b c 16 pick k) := by
  refine (happen_on s (fun s => copyUnit s b c pick) hon).trans (congrArg Host.Outcome.next ?_)
  unfold copyUnit
  rw [hg, hk]
  rfl

/-- COPY_COMPLETE takes a copy that has nothing left to do. -/
theorem exec_copyComplete {n : Nat} {k : Copy} (hon : s.dev.off = false) (hg : s.gang? b = some g)
    (hk : (s.core b c).copies[n]? = some k) (hc : k.complete = true) :
    exec (.copyComplete b c n) s = .next (finishCopy s b c k) := by
  refine (happen_on s (fun s => copyComplete s b c n) hon).trans (congrArg Host.Outcome.next ?_)
  unfold copyComplete
  rw [hk]
  dsimp only
  rw [hg, hc]
  rfl

end

/-! ### The obligation -/

section
variable {s s0 s1 : State} {b : BenchId} {c : CoreId} {g : Gang} {n pick j pa : Nat} {k : Copy}

/-- A synchronous result is performed, and the entry that it pushed lands. -/
theorem performResult_cons {y : Core} {r : Result} {rest : List Result} (h : y.results = r :: rest) :
    y.performResult =
      let y := { r.writes.foldl Core.land y with results := rest, xf := y.xf ||| r.flags }
      match r.entry with
      | none => y
      | some (q, id) => { y with q := y.q.set q.toFin { y.q[q.toFin] with
          entries := (y.q[q.toFin]).entries.map fun e => if e.id = id then { e with landed := true } else e } } := by
  unfold Core.performResult
  rw [h]
  dsimp only
  unfold Core.perform
  cases r.entry with
  | none => rfl
  | some e => rfl

/-- What LONG_OP_LAND leaves of a core. -/
theorem longOp_lands {o : LongOp} (hon : s.dev.off = false) (hg : s.gang? b = some g)
    (ho : (s.core b c).longs[n]? = some o) :
    let y := s.core b c
    let faces := o.writes.foldl Core.landWrite y
    ∃ t, exec (.longOpLand b c n) s = .next t ∧ (t.core b c).longs = y.longs.eraseIdx n ∧
      (t.core b c).held = y.held ||| o.flags ∧ (t.core b c).xf = y.xf ∧ (t.core b c).v = faces.v ∧ (t.core b c).c = faces.c ∧
      ∀ q id data, o.entry = some (q, id, data) → (t.core b c).q = y.q.set q.toFin { y.q[q.toFin] with
        entries := (y.q[q.toFin]).entries.map fun e => if e.id = id then { e with landed := true, tile := data } else e } := by
  intro y faces
  refine ⟨_, exec_longOpLand hon ho, ?_⟩
  rw [s.core_updCore_self b c _ (by rw [hg]; rfl), Core.landLong_eq]
  refine ⟨rfl, rfl, rfl, rfl, rfl, fun q id data he => ?_⟩
  simp only [he]
  rfl

/-- What COPY_COMPLETE leaves of a core. -/
theorem finishCopy_core (hg : s.gang? b = some g) : (finishCopy s b c k).core b c =
    let y := { s.core b c with copies := (s.core b c).copies.filter fun o => !(o.stream == k.stream && o.num == k.num) }
    match k.kind with
    | .toFace r _ _ => y.clearPending (.v r)
    | .toQueue q id => y.landEntry q id
    | _ => y := s.core_updCore_self b c _ (by rw [hg]; rfl)

theorem Copy.complete_of (ht : todoCount k.todo = 0) (ha : k.asked = []) (hs : k.state = .active ∨ k.state = .replaying) :
    k.complete = true := by
  unfold Copy.complete Copy.live
  rw [ht, ha]
  obtain hs | hs := hs <;> rw [hs] <;> rfl

/-- An element lands at the near end of a copy as the obligation has it. -/
def Copy.lands (s0 : State) (b : BenchId) (c : CoreId) (k : Copy) (j v : Nat) : Prop :=
  let becomes (f : Core → Core) : Prop := landElem s0 b c k j v = s0.updCore b c f
  let put (z e v : Nat) (t u : Tile) : Prop :=
    ∀ n, n < 4096 / z → tileElem u z n = if n = e then v % 2 ^ (8 * z) else tileElem t z n
  (∀ r src dst, k.kind = .toFace r src dst →
    let z := (Fmt.ofCode dst).size
    let e := k.shape.tileIndex k.z z j
    let o := if src = dst then (v, 0) else convert (Fmt.ofCode src) (Fmt.ofCode dst) (RMode.ofCode 7 k.frm) v
    let f := (s0.core b c).v[r.toFin]
    ∃ (u : Tile) (l : Lanes), put z e o.1 f.hid u ∧
      (∀ n, n < 1024 → l.extractLsb' (5 * n) 5 = if n = e * z / 4 then o.2 else 0) ∧
      becomes fun y => { y with v := y.v.set r.toFin { f with hid := u }, held := y.held ||| l }) ∧
  (∀ q id, k.kind = .toQueue q id → ∃ into : Tile → Tile,
    (∀ t, put k.z (k.shape.tileIndex k.z k.z j) v t (into t)) ∧
    becomes fun y => { y with q := y.q.set q.toFin { y.q[q.toFin] with
      entries := (y.q[q.toFin]).entries.map fun n => if n.id = id then { n with tile := into n.tile } else n } })

theorem landElem_lands (s0 : State) (b : BenchId) (c : CoreId) (k : Copy) (j v : Nat) : k.lands s0 b c j v := by
  refine ⟨fun r src dst hk => ?_, fun q id hk => ?_⟩
  · intro z e o f
    exact ⟨setElem f.hid z e o.1, inLane (laneOf z e) o.2, fun n hn => tileElem_setElem _ _ _ _ _ hn,
      fun n hn => extract_inLane _ _ hn, landElem_toFace hk v⟩
  · exact ⟨fun t => setElem t k.z (k.shape.tileIndex k.z k.z j) v, fun t n hn => tileElem_setElem _ _ _ _ _ hn,
      landElem_toQueue hk v⟩

end

/-- Settles O34: each event is the function of the model on its core; a long operation by induction on its writes, a unit of a
copy by `workOn_lastUnit`. -/
theorem resultsLand : Obligations.ResultsLand := by
  unfold Obligations.ResultsLand
  intro s s1 b c g n pick j pa k hon hg y free
  refine ⟨fun r rest hr => ?_, fun o ho => ?_, fun l r hl hk hlt hle => ?_, fun hs hf hr ht hfar => ?_,
    fun hs hf hr ht hfar hk ha hrun hm => ?_, fun hs hf hr ht => ?_, fun hk ht ha hs => ?_⟩
  · exact (exec_cpResult hon).trans (congrArg Host.Outcome.next (State.updCore_congr (performResult_cons hr)))
  · obtain ⟨t, he, hlongs, hheld, hxf, hv, hc, hq⟩ := longOp_lands hon hg ho
    refine ⟨t, he, hlongs, hheld, hxf, fun r data hw => ?_, fun hm hn => ⟨?_, ?_, ?_, ?_⟩, fun q id data _ hen => hq q id data hen⟩
    · rw [hv, hw]
      exact Core.landWrite_v (w := { reg := .v r, data := data, mask := BitVec.allOnes 4096 }) rfl rfl
    · intro w hw r hr
      rw [hv]
      exact Core.foldl_landWrite_v hn hw hr (hm w hw)
    · intro w hw r hr
      rw [hc]
      exact Core.foldl_landWrite_c hn hw hr
    · intro r hr
      rw [hv]
      exact Core.foldl_landWrite_v_ne hr
    · intro r hr
      rw [hc]
      exact Core.foldl_landWrite_c_ne hr
  · refine exec_copyUnit hon hg ?_
    rw [show (s.core b c).copies = l ++ k :: r from hl]
    have hfree (o : Copy) : (o.live && decide (todoCount o.open ≠ 0) && sendable s b o) = free o := by
      unfold free Copy.live
      rw [Bool.eq_iff_iff]
      simp
    exact engineChoice_of_least hfree hk hlt hle
  · have hlast : k.lastUnit := ⟨hs, hf, hr, fun w hw => by rw [hfar] at hw; cases hw⟩
    exact ⟨fun hk hm hrun => workOn_toFar hlast ht hfar hk hm hrun, fun hk hm hrun => workOn_addFar hlast ht hfar hk hm hrun⟩
  · have hlast : k.lastUnit := ⟨hs, hf, hr, fun w hw => by rw [hfar] at hw; cases hw⟩
    exact workOn_addFar_two hlast ht hfar hk ha hm hrun
  · intro lands stores
    have hlast (hfar : ∀ w, k.far ≠ .window w) : k.lastUnit := ⟨hs, hf, hr, hfar⟩
    have hlands {s0 : State} {v : Nat} (hw : k.comes → s0.runs b →
        workOn s b c 16 pick k = setCopy (landElem s0 b c k j v) b c { k with todo := [] }) : lands s0 v := by
      intro hrun
      obtain ⟨hface, hqueue⟩ := landElem_lands s0 b c k j v
      refine ⟨fun r src dst hk => ?_, fun q id hk => ?_⟩
      · obtain ⟨u, l, hu, hl, he⟩ := hface r src dst hk
        exact ⟨u, l, hu, hl, (hw (.inl ⟨r, src, dst, hk⟩) hrun).trans (congrArg (setCopy · b c _) he)⟩
      · obtain ⟨into, hinto, he⟩ := hqueue q id hk
        exact ⟨into, hinto, (hw (.inr ⟨q, id, hk⟩) hrun).trans (congrArg (setCopy · b c _) he)⟩
    refine ⟨fun hfar hm => hlands fun hk hrun => ?_, fun hfar => hlands fun hk hrun => ?_, fun hfar hk hrun => ?_,
      fun d hfar hk hin hrun => ?_⟩
    · exact workOn_of_load (hlast fun w hw => by rw [hfar] at hw; cases hw) ht hfar hk hm hrun
    · exact workOn_of_captured (hlast fun w hw => by rw [hfar] at hw; cases hw) ht hfar hk hrun
    · exact workOn_toFar_scratch (hlast fun w hw => by rw [hfar] at hw; cases hw) ht hfar hk hrun
    · refine workOn_toScratch (hlast fun w hw => by rw [hfar] at hw; cases hw) ht hfar hk hrun (hin.imp_left fun hin => ?_)
      rwa [← beq_iff_eq, scratchCore_beq, decide_eq_true_iff]
  · refine ⟨_, exec_copyComplete hon hg hk (Copy.complete_of ht ha hs), ?_⟩
    rw [finishCopy_core hg]
    refine ⟨?_, fun r f d hk => ?_, fun q id hk => ?_, fun hk => ?_⟩
    · dsimp only
      split <;> rfl
    · rw [hk]
      rfl
    · rw [hk]
      rfl
    · obtain hk | hk | hk := hk <;> rw [hk] <;> exact ⟨rfl, rfl⟩

end Sys2Proof.Machine
end

section
/-! SUPPORT. Rounding to a whole number, and to a multiple of a power of two: what the five modes make of a magnitude whose
integer part and whose rest are known (R61, R62). -/

namespace Sys2Proof.Machine

/-! ### The modes (Table 06.2) -/

/-- Numbers of one sign differ by what their magnitudes differ by. -/
theorem abs_sub_eq_of_mul_nonneg {x y : ℝ} (h : 0 ≤ x * y) : |y - x| = abs (|y| - |x|) := by
  rw [← sq_eq_sq_iff_abs_eq_abs, sub_sq, sub_sq, sq_abs, sq_abs, mul_assoc, mul_assoc, ← abs_mul, mul_comm y x, abs_of_nonneg h]

/-- A rounding moves a number by less than one. -/
theorem RMode.Rounds.abs_sub_lt_one {rm : RMode} {y : ℝ} {n : ℤ} (h : rm.Rounds y n) : |y - n| < 1 := by
  cases rm with
  | rne | rmm => exact lt_of_le_of_lt h.1 (by norm_num)
  | rtz =>
    obtain ⟨hle, hlt, hsgn⟩ := h
    rw [abs_sub_eq_of_mul_nonneg hsgn, abs_lt]
    constructor <;> linarith
  | rdn | rup =>
    obtain ⟨h1, h2⟩ := h
    rw [abs_lt]
    constructor <;> linarith

/-- Every mode rounds a whole number to itself. -/
theorem RMode.rounds_intCast (rm : RMode) (z : ℤ) : rm.Rounds z z := by
  cases rm <;> simp [RMode.Rounds, mul_self_nonneg]

/-- A whole number is rounded to itself alone. -/
theorem RMode.Rounds.eq_of_intCast {rm : RMode} {z n : ℤ} (h : rm.Rounds z n) : n = z := by
  have hlt := h.abs_sub_lt_one
  rw [← Int.cast_sub, ← Int.cast_abs, ← Int.cast_one, Int.cast_lt, Int.abs_lt_one_iff] at hlt
  omega

/-- A number with its sign. -/
def signed {α : Type} [Neg α] (neg : Bool) (x : α) : α := if neg then -x else x

@[simp] theorem abs_signed (neg : Bool) (x : ℝ) : |signed neg x| = |x| := by
  cases neg
  · rfl
  · exact abs_neg x

theorem signed_sub (neg : Bool) (x y : ℝ) : signed neg x - signed neg y = signed neg (x - y) := by
  cases neg
  · rfl
  · exact (neg_sub' x y).symm

theorem signed_mul_signed (neg : Bool) (x y : ℝ) : signed neg x * signed neg y = x * y := by
  cases neg
  · rfl
  · exact neg_mul_neg x y

theorem signed_mul (neg : Bool) (x y : ℝ) : signed neg x * y = signed neg (x * y) := by
  cases neg
  · rfl
  · exact neg_mul x y

theorem signed_div (neg : Bool) (x y : ℝ) : signed neg x / y = signed neg (x / y) := by
  cases neg
  · rfl
  · exact neg_div y x

theorem intCast_signed (neg : Bool) (n : Nat) : ((signed neg (n : ℤ) : ℤ) : ℝ) = signed neg (n : ℝ) := by
  cases neg <;> simp [signed]

theorem even_signed (neg : Bool) (n : Nat) : Even (signed neg (n : ℤ)) ↔ Even n := by
  cases neg <;> simp [signed]

/-- A magnitude of integer part `n` and rest `p`, rounded: one more where the mode rounds it up. -/
theorem RMode.rounds_up (rm : RMode) (neg : Bool) {n : Nat} {p : ℝ} {odd inexact : Bool} {cmp : Ordering} (h0 : 0 ≤ p) (h1 : p < 1)
    (hodd : odd = true ↔ ¬ Even n) (hin : inexact = true ↔ 0 < p) (hlt : cmp = .lt ↔ 2 * p < 1) (hgt : cmp = .gt ↔ 1 < 2 * p) :
    rm.Rounds (signed neg (n + p)) (signed neg ((if rm.up neg odd inexact cmp then n + 1 else n : Nat) : ℤ)) := by
  have hn : (0 : ℝ) ≤ n := Nat.cast_nonneg n
  have hzero : inexact = false → p = 0 := fun h => le_antisymm (not_lt.mp fun hp => by simp [hin.mpr hp] at h) h0
  have hbelow (k : Nat) (hk : k = n) : |(n + p : ℝ) - k| = p := by rw [hk, add_sub_cancel_left, abs_of_nonneg h0]
  have habove (k : Nat) (hk : k = n + 1) : |(n + p : ℝ) - k| = 1 - p := by
    rw [hk, Nat.cast_add_one, add_sub_add_left_eq_sub, abs_sub_comm, abs_of_nonneg (by linarith)]
  cases rm with
  | rne =>
    simp only [Rounds, intCast_signed, signed_sub, abs_signed, even_signed, up]
    cases cmp with
    | lt =>
      have := hlt.mp rfl
      rw [hbelow _ (by simp)]
      exact ⟨by linarith, fun h => by linarith⟩
    | gt =>
      have := hgt.mp rfl
      rw [habove _ (by simp)]
      exact ⟨by linarith, fun h => by linarith⟩
    | eq =>
      have hle : ¬ 2 * p < 1 := fun h => by cases hlt.mpr h
      have hge : ¬ 1 < 2 * p := fun h => by cases hgt.mpr h
      cases odd with
      | false =>
        rw [hbelow _ (by simp)]
        exact ⟨by linarith, fun _ => by simpa using hodd⟩
      | true =>
        rw [habove _ (by simp)]
        exact ⟨by linarith, fun _ => by simpa [Nat.even_add_one] using hodd⟩
  | rmm =>
    simp only [Rounds, intCast_signed, signed_sub, abs_signed, up]
    by_cases h : cmp = .lt
    · have := hlt.mp h
      rw [hbelow _ (by simp [h])]
      exact ⟨by linarith, fun _ => by linarith⟩
    · have hge : ¬ 2 * p < 1 := fun hp => h (hlt.mpr hp)
      rw [habove _ (by simp [h])]
      refine ⟨by linarith, fun _ => ?_⟩
      rw [abs_of_nonneg (by positivity), abs_of_nonneg (Nat.cast_nonneg _)]
      simp [h]
      linarith
  | rtz =>
    simp only [Rounds, intCast_signed, abs_signed, signed_mul_signed, up, Bool.false_eq_true, if_false]
    rw [abs_of_nonneg hn, abs_of_nonneg (by positivity)]
    exact ⟨by linarith, by linarith, by positivity⟩
  | rdn =>
    cases neg with
    | false =>
      simp only [Rounds, up, signed, Bool.false_and, Bool.false_eq_true, if_false, Int.cast_natCast]
      exact ⟨by linarith, by linarith⟩
    | true =>
      cases inexact with
      | false => simp [Rounds, up, signed, hzero rfl]
      | true => simpa [Rounds, up, signed] using ⟨h1.le, hin.mp rfl⟩
  | rup =>
    cases neg with
    | true =>
      simp only [Rounds, up, signed, Bool.not_true, Bool.false_and, Bool.false_eq_true, if_false, if_true, Int.cast_neg,
        Int.cast_natCast]
      exact ⟨by linarith, by linarith⟩
    | false =>
      cases inexact with
      | false => simp [Rounds, up, signed, hzero rfl]
      | true => simpa [Rounds, up, signed] using ⟨h1.le, hin.mp rfl⟩

/-! ### A multiple of a power of two -/

/-- What is known of a magnitude `x` of which `m · 2^e` is given: all of it, or that it lies strictly above, by less than
`2^e`. -/
def Known (m : Nat) (e : ℤ) (above : Bool) (x : ℝ) : Prop :=
  if above then (m : ℝ) * 2 ^ e < x ∧ x < (m + 1) * 2 ^ e else x = m * 2 ^ e

/-- The rest `p` of a magnitude counted in units of `d` quarters: it is none, and less or more than one half, where that of its
digits is; the digits of one that lies above are those of the quarter above. -/
theorem exists_rest {d a : Nat} {t : ℝ} {above : Bool} (hd : 0 < d) (h16 : above = true → d % 16 = 0)
    (ht : if above then 4 * (a : ℝ) < t ∧ t < 4 * a + 4 else t = 4 * a) :
    let m := if above then 4 * a + 1 else 4 * a
    ∃ p : ℝ, t = ((m / d : Nat) + p) * d ∧ 0 ≤ p ∧ p < 1 ∧ (m % d ≠ 0 ↔ 0 < p) ∧ (2 * (m % d) < d ↔ 2 * p < 1) ∧
      (d < 2 * (m % d) ↔ 1 < 2 * p) := by
  intro m
  have hd' : (0 : ℝ) < d := Nat.cast_pos.mpr hd
  have hm : (m : ℝ) = d * (m / d : Nat) + (m % d : Nat) := by rw [← Nat.cast_mul, ← Nat.cast_add, Nat.div_add_mod]
  have hr : m % d < d := Nat.mod_lt _ hd
  have hp (x : ℝ) : (0 ≤ x / d ↔ 0 ≤ x) ∧ (x / d < 1 ↔ x < d) ∧ (0 < x / d ↔ 0 < x) ∧ (2 * (x / d) < 1 ↔ 2 * x < d) ∧
      (1 < 2 * (x / d) ↔ d < 2 * x) := by
    refine ⟨by rw [le_div_iff₀ hd', zero_mul], div_lt_one hd', div_pos_iff_of_pos_right hd', ?_, ?_⟩
    · rw [← mul_div_assoc, div_lt_one hd']
    · rw [← mul_div_assoc, one_lt_div hd']
  refine ⟨(t - d * (m / d : Nat)) / d, by field_simp; ring, ?_⟩
  rw [(hp _).1, (hp _).2.1, (hp _).2.2.1, (hp _).2.2.2.1, (hp _).2.2.2.2]
  cases above with
  | false =>
    have hrest : t - d * (m / d : Nat) = (m % d : Nat) := by
      rw [← sub_eq_iff_eq_add'.mpr hm]
      simp at ht
      simp [ht, m]
    rw [hrest]
    norm_cast
    exact ⟨Nat.zero_le _, hr, Nat.pos_iff_ne_zero.symm, Iff.rfl, Iff.rfl⟩
  | true =>
    have h16 := h16 rfl
    have h4 : m % d % 4 = 1 := by
      rw [Nat.mod_mod_of_dvd _ (by omega)]
      simp only [m, if_true]
      omega
    have hma : (m : ℝ) = 4 * a + 1 := by simp [m]
    obtain ⟨hlo, hhi⟩ := ht
    generalize hrest : t - d * (m / d : Nat) = u
    generalize m % d = r at *
    have hu : (r : ℝ) - 1 < u ∧ u < r + 3 := by constructor <;> linarith
    obtain ⟨hul, huh⟩ := hu
    have h1 : (1 : ℝ) ≤ r := by exact_mod_cast (by omega : 1 ≤ r)
    have h3 : (r : ℝ) + 3 ≤ d := by exact_mod_cast (by omega : r + 3 ≤ d)
    refine ⟨by linarith, by linarith, ⟨fun _ => by linarith, fun _ => by omega⟩, ⟨fun h => ?_, fun h => ?_⟩,
      ⟨fun h => ?_, fun h => ?_⟩⟩
    · have : 2 * (r : ℝ) + 6 ≤ d := by exact_mod_cast (by omega : 2 * r + 6 ≤ d)
      linarith
    · have : 2 * (r : ℝ) < d + 2 := by linarith
      have : 2 * r < d + 2 := by exact_mod_cast this
      omega
    · have : (d : ℝ) + 2 ≤ 2 * r := by exact_mod_cast (by omega : d + 2 ≤ 2 * r)
      linarith
    · have : (d : ℝ) < 2 * r + 6 := by linarith
      have : d < 2 * r + 6 := by exact_mod_cast this
      omega

/-- `Known` in quarters of the last digit's unit. -/
theorem Known.quarters {m : Nat} {e : ℤ} {above : Bool} {x : ℝ} (h : Known m e above x) :
    if above then 4 * (m : ℝ) < x / 2 ^ (e - 2) ∧ x / 2 ^ (e - 2) < 4 * m + 4 else x / 2 ^ (e - 2) = 4 * m := by
  have hu : (0 : ℝ) < 2 ^ (e - 2) := by positivity
  have he : (2 : ℝ) ^ e = 4 * 2 ^ (e - 2) := by
    rw [zpow_sub₀ (by norm_num)]
    norm_num
    ring
  unfold Known at h
  rw [he] at h
  rw [lt_div_iff₀ hu, div_lt_iff₀ hu, div_eq_iff hu.ne']
  split_ifs at h ⊢
  · constructor <;> linarith
  · linarith

/-- What `roundQuantum` delivers where digits are cut: the integer part, or one more. -/
theorem roundQuantum_of_pos (rm : RMode) (neg : Bool) (m : Nat) {e q : ℤ} (above : Bool) (h : 0 < q - (e - 2)) :
    let v := if above then 4 * m + 1 else 4 * m
    let d := 2 ^ (q - (e - 2)).toNat
    roundQuantum rm neg m e above q =
      (if rm.up neg (v / d % 2 == 1) (v % d != 0) (if v % d == 0 then .lt else compare (2 * (v % d)) d) then v / d + 1 else v / d,
        v % d != 0) :=
  if_neg (not_le.mpr h)

theorem roundQuantum_of_nonpos (rm : RMode) (neg : Bool) (m : Nat) {e q : ℤ} (h : q - (e - 2) ≤ 0) :
    roundQuantum rm neg m e false q = (4 * m * 2 ^ (-(q - (e - 2))).toNat, false) := if_pos h

theorem two_zpow_toNat {k : ℤ} (h : 0 ≤ k) : ((2 ^ k.toNat : Nat) : ℝ) = 2 ^ k := by
  conv_rhs => rw [← Int.toNat_of_nonneg h]
  rw [zpow_natCast]
  norm_num

/-- A known magnitude rounded to a multiple of `2^q`: the multiple is the mode's, and it is exact where nothing is cut. -/
theorem roundQuantum_rounds (rm : RMode) (neg : Bool) {m : Nat} {e q : ℤ} {above : Bool} {x : ℝ} (h : Known m e above x)
    (hq : above = true → e + 2 ≤ q) :
    let r := roundQuantum rm neg m e above q
    rm.Rounds (signed neg x / 2 ^ q) (signed neg (r.1 : ℤ)) ∧ (r.2 = true ↔ (r.1 : ℝ) * 2 ^ q ≠ x) := by
  intro r
  have hquarters := h.quarters
  have hpow : (2 : ℝ) ^ q = 2 ^ (e - 2) * 2 ^ (q - (e - 2)) := by
    rw [← zpow_add₀ (by norm_num)]
    congr 1
    ring
  have hu : (0 : ℝ) < 2 ^ (e - 2) := by positivity
  have hq0 : (0 : ℝ) < 2 ^ q := by positivity
  obtain hsh | hsh := le_or_gt (q - (e - 2)) 0
  · have habove : above = false := Bool.eq_false_iff.mpr fun ha => by have := hq ha; omega
    subst habove
    have hr : r = _ := roundQuantum_of_nonpos rm neg m hsh
    have hexact : (r.1 : ℝ) * 2 ^ q = x := by
      rw [hr, hpow]
      dsimp only
      push_cast [two_zpow_toNat (by omega : 0 ≤ -(q - (e - 2)))]
      rw [zpow_neg]
      simp only [Bool.false_eq_true, if_false] at hquarters
      rw [div_eq_iff hu.ne'] at hquarters
      field_simp
      linarith
    refine ⟨?_, ⟨fun hcut => absurd hcut (by rw [hr]; exact Bool.false_ne_true), fun hne => absurd hexact hne⟩⟩
    rw [signed_div, ← hexact, mul_div_cancel_right₀ _ hq0.ne', ← intCast_signed]
    exact rm.rounds_intCast _
  · have hr : r = _ := roundQuantum_of_pos rm neg m above hsh
    generalize hd : 2 ^ (q - (e - 2)).toNat = d at hr
    have hd0 : 0 < d := hd ▸ Nat.two_pow_pos _
    have hdr : (d : ℝ) = 2 ^ (q - (e - 2)) := by rw [← hd, two_zpow_toNat hsh.le]
    have h16 (ha : above = true) : d % 16 = 0 := by
      rw [← hd, show (q - (e - 2)).toNat = (q - (e - 2)).toNat - 4 + 4 by have := hq ha; omega, pow_add]
      exact Nat.mul_mod_left _ 16
    obtain ⟨p, ht, hp0, hp1, hpos, hlt, hgt⟩ := exists_rest hd0 h16 hquarters
    generalize (if above then 4 * m + 1 else 4 * m) = v at *
    have hx : x = ((v / d : Nat) + p) * 2 ^ q := by
      rw [div_eq_iff hu.ne'] at ht
      rw [ht, hpow, hdr]
      ring
    have hround : rm.Rounds (signed neg x / 2 ^ q) (signed neg (r.1 : ℤ)) := by
      rw [signed_div, hx, mul_div_cancel_right₀ _ hq0.ne', hr]
      refine rm.rounds_up neg hp0 hp1 ?_ ?_ ?_ ?_
      · simp [Nat.even_iff]
      · simpa using hpos
      · rw [← hlt]
        split_ifs with h0
        · simp only [beq_iff_eq] at h0
          simp [h0, hd0]
        · exact Nat.compare_eq_lt
      · rw [← hgt]
        split_ifs with h0
        · simp only [beq_iff_eq] at h0
          simp [h0]
        · exact Nat.compare_eq_gt
    refine ⟨hround, ?_⟩
    have hflag : r.2 = true ↔ 0 < p := by rw [hr, ← hpos]; simp
    rw [hflag, hx, ne_eq, mul_left_inj' hq0.ne']
    constructor
    · intro hp heq
      have h1 : (v / d : Nat) < r.1 := by exact_mod_cast (by linarith : ((v / d : Nat) : ℝ) < r.1)
      have h2 : r.1 < v / d + 1 := by exact_mod_cast (by push_cast; linarith : ((r.1 : Nat) : ℝ) < ((v / d + 1 : Nat) : ℝ))
      omega
    · intro hne
      refine hp0.lt_of_ne fun hzero => hne ?_
      rw [signed_div, hx, mul_div_cancel_right₀ _ hq0.ne', ← hzero, add_zero, ← intCast_signed] at hround
      have hk := congrArg (Int.cast (R := ℝ)) hround.eq_of_intCast
      rw [intCast_signed, intCast_signed] at hk
      rw [← hzero, add_zero]
      cases neg
      · exact hk
      · exact neg_inj.mp hk

end Sys2Proof.Machine
end

section
/-! SUPPORT. The codes of the binary floating formats: what a code is worth by its fields, and the code of a magnitude that a
format holds (R59, R60, R63, R64). -/

namespace Sys2Proof.Machine

/-! ### Shapes (Table 06.1) -/

/-- What the shapes of the formats have in common. -/
structure FShape.Wf (s : FShape) : Prop where
  eb : 4 ≤ s.eb
  fb : 2 ≤ s.fb
  noInf : s.noInf = true → s = { eb := 4, fb := 3, noInf := true }

theorem Fmt.shape_wf {f : Fmt} {s : FShape} (h : f.shape = some s) : s.Wf := by
  cases f <;> cases h <;> exact ⟨by decide, by decide, by decide⟩

theorem FShape.bias_eq (s : FShape) : s.bias = ((2 ^ (s.eb - 1) - 1 : Nat) : ℤ) := by
  unfold FShape.bias
  have := Nat.one_le_two_pow (n := s.eb - 1)
  push_cast [this]
  rfl

section
variable {s : FShape} (hs : s.Wf)
include hs

theorem FShape.Wf.two_pow_eb : 2 ^ s.eb = 2 * 2 ^ (s.eb - 1) := by
  rw [← pow_succ', Nat.sub_add_cancel (by have := hs.eb; omega)]

theorem FShape.Wf.eight_le : 8 ≤ 2 ^ (s.eb - 1) :=
  Nat.pow_le_pow_right (n := 2) (by decide) (show 3 ≤ s.eb - 1 by have := hs.eb; omega)

end

/-! ### Fields -/

/-- A code read by its fields. -/
theorem FShape.read_fields (s : FShape) (neg : Bool) {e m : Nat} (he : e < 2 ^ s.eb) (hm : m < 2 ^ s.fb) :
    s.read (s.signBit neg + e * 2 ^ s.fb + m) =
      if s.noInf && e == s.expMax && m == 2 ^ s.fb - 1 then .nan false
      else if !s.noInf && e == s.expMax then if m == 0 then .inf neg else .nan (m < 2 ^ (s.fb - 1))
      else if e == 0 then .fin neg m (1 - s.bias - s.fb)
      else .fin neg (2 ^ s.fb + m) (e - s.bias - s.fb) := by
  have hfb := Nat.two_pow_pos s.fb
  have hlow : e * 2 ^ s.fb + m < 2 ^ (s.eb + s.fb) := by
    rw [pow_add]
    nlinarith
  have hsign : s.signBit neg = (if neg then 1 else 0) * 2 ^ (s.eb + s.fb) := by
    unfold signBit
    split_ifs <;> simp
  have hx : s.signBit neg + e * 2 ^ s.fb + m = ((if neg then 1 else 0) * 2 ^ s.eb + e) * 2 ^ s.fb + m := by
    rw [hsign, pow_add]
    ring
  have hfrac : (s.signBit neg + e * 2 ^ s.fb + m) % 2 ^ s.fb = m := by
    rw [hx, Nat.mul_add_mod_self_right, Nat.mod_eq_of_lt hm]
  have hexp : (s.signBit neg + e * 2 ^ s.fb + m) / 2 ^ s.fb % 2 ^ s.eb = e := by
    rw [hx, mul_comm _ (2 ^ s.fb), Nat.mul_add_div hfb, Nat.div_eq_of_lt hm, add_zero, Nat.mul_add_mod_self_right,
      Nat.mod_eq_of_lt he]
  have hneg : ((s.signBit neg + e * 2 ^ s.fb + m) / 2 ^ (s.eb + s.fb) % 2 == 1) = neg := by
    rw [add_assoc, hsign, mul_comm, Nat.mul_add_div (Nat.two_pow_pos _), Nat.div_eq_of_lt hlow]
    cases neg <;> rfl
  unfold read
  simp only [hfrac, hexp, hneg]

/-- Every code of a format's width has fields. -/
theorem FShape.exists_fields (s : FShape) {x : Nat} (hx : x < 2 ^ s.width) :
    ∃ neg e m, e < 2 ^ s.eb ∧ m < 2 ^ s.fb ∧ x = s.signBit neg + e * 2 ^ s.fb + m := by
  have hfb := Nat.two_pow_pos s.fb
  refine ⟨decide (2 ^ (s.eb + s.fb) ≤ x), x / 2 ^ s.fb % 2 ^ s.eb, x % 2 ^ s.fb, Nat.mod_lt _ (Nat.two_pow_pos _),
    Nat.mod_lt _ hfb, ?_⟩
  have hlow : x / 2 ^ s.fb % 2 ^ s.eb * 2 ^ s.fb + x % 2 ^ s.fb = x % 2 ^ (s.eb + s.fb) := by
    rw [add_comm s.eb, pow_add, Nat.mod_mul]
    ring
  have hw : x < 2 * 2 ^ (s.eb + s.fb) := by
    rwa [width, show 1 + s.eb + s.fb = s.eb + s.fb + 1 by ring, pow_succ'] at hx
  rw [add_assoc, hlow]
  unfold signBit
  by_cases h : 2 ^ (s.eb + s.fb) ≤ x
  · rw [Nat.mod_eq_sub_mod h, Nat.mod_eq_of_lt (by omega)]
    simp [h]
  · rw [Nat.mod_eq_of_lt (by omega)]
    simp [h]

/-- A code with its sign stays within the format's width. -/
theorem FShape.signBit_add_lt (s : FShape) (neg : Bool) {c : Nat} (hc : c < 2 ^ (s.eb + s.fb)) : s.signBit neg + c < 2 ^ s.width := by
  have hw : 2 ^ s.width = 2 ^ (s.eb + s.fb) + 2 ^ (s.eb + s.fb) := by
    rw [width, show 1 + s.eb + s.fb = s.eb + s.fb + 1 by ring, pow_succ]
    ring
  unfold signBit
  split_ifs <;> omega

/-! ### Codes of numbers -/

/-- The magnitude's code of `n · 2^q`, as `roundTo` composes it. -/
def FShape.magCode (s : FShape) (n : Nat) (q : ℤ) : Nat :=
  if n < 2 ^ s.fb then n else ((q + s.fb + s.bias).toNat - 1) * 2 ^ s.fb + n

theorem FShape.cast_largest (s : FShape) :
    (s.largest : ℝ) = if s.noInf then 448 else (2 - 2 ^ (-(s.fb : ℤ))) * 2 ^ s.bias := by
  unfold largest
  split_ifs <;> push_cast <;> rfl

section
variable {s : FShape} (hs : s.Wf)
include hs

theorem FShape.Wf.bias_of_noInf (h : s.noInf = true) : s.bias = 7 ∧ s.fb = 3 ∧ s.eb = 4 := by
  rw [hs.noInf h]
  exact ⟨by decide, rfl, rfl⟩

/-- The exponent of a normal magnitude that a format holds. -/
theorem FShape.Wf.exponent_le {n : Nat} {q : ℤ} (hn : 2 ^ s.fb ≤ n) (hle : (n : ℝ) * 2 ^ q ≤ s.largest) :
    if s.noInf then q < 5 ∨ (q = 5 ∧ n < 15) else q + s.fb ≤ s.bias := by
  rw [s.cast_largest] at hle
  have hpow : (2 : ℝ) ^ (q + s.fb) ≤ n * 2 ^ q := by
    rw [zpow_add₀ (by norm_num), zpow_natCast, mul_comm]
    exact mul_le_mul_of_nonneg_right (by exact_mod_cast hn) (by positivity)
  split_ifs at hle ⊢ with h
  · obtain ⟨-, hfb, -⟩ := hs.bias_of_noInf h
    have hlt : (2 : ℝ) ^ (q + s.fb) < 2 ^ (9 : ℤ) := (hpow.trans hle).trans_lt (by norm_num)
    have hq := (zpow_lt_zpow_iff_right₀ (by norm_num)).mp hlt
    by_cases h5 : q < 5
    · exact .inl h5
    · have hq5 : q = 5 := by omega
      subst hq5
      refine .inr ⟨rfl, ?_⟩
      by_contra hge
      have : (15 : ℝ) ≤ n := by exact_mod_cast not_lt.mp hge
      norm_num at hle
      linarith
  · have hlt : (2 : ℝ) ^ (q + s.fb) < 2 ^ (s.bias + 1) := by
      refine (hpow.trans hle).trans_lt ?_
      rw [zpow_add_one₀ (by norm_num), mul_comm]
      exact mul_lt_mul_of_pos_left (sub_lt_self _ (by positivity)) (by positivity)
    have := (zpow_lt_zpow_iff_right₀ (by norm_num)).mp hlt
    omega

/-- The code of a magnitude that the format holds, below the least normal one or with a leading one. -/
theorem FShape.Wf.read_magCode (neg : Bool) {n : Nat} {q : ℤ} (hn : n < 2 ^ (s.fb + 1)) (hq : 1 - s.bias - s.fb ≤ q)
    (hsub : n < 2 ^ s.fb → q = 1 - s.bias - s.fb) (hle : (n : ℝ) * 2 ^ q ≤ s.largest) :
    s.signBit neg + s.magCode n q < 2 ^ s.width ∧ s.read (s.signBit neg + s.magCode n q) = .fin neg n q := by
  have hb := s.bias_eq
  have heb := hs.two_pow_eb
  have h8 := hs.eight_le
  have hmax : s.expMax = 2 ^ s.eb - 1 := rfl
  suffices h : ∃ e m, e < 2 ^ s.eb ∧ m < 2 ^ s.fb ∧ s.magCode n q = e * 2 ^ s.fb + m ∧
      (s.noInf = true → e = s.expMax → m < 2 ^ s.fb - 1) ∧ (s.noInf = false → e ≠ s.expMax) ∧
      (e = 0 → n = m ∧ q = 1 - s.bias - s.fb) ∧ (e ≠ 0 → n = 2 ^ s.fb + m ∧ q = e - s.bias - s.fb) by
    obtain ⟨e, m, he, hm, hcode, hnan, htop, hzero, hnorm⟩ := h
    constructor
    · rw [hcode]
      refine s.signBit_add_lt neg ?_
      rw [pow_add]
      nlinarith
    · rw [hcode, ← add_assoc, s.read_fields neg he hm, if_neg, if_neg]
      · by_cases h0 : e = 0
        · obtain ⟨rfl, rfl⟩ := hzero h0
          simp [h0]
        · obtain ⟨rfl, rfl⟩ := hnorm h0
          simp [h0]
      · simp only [Bool.and_eq_true, Bool.not_eq_true', beq_iff_eq, not_and]
        exact htop
      · simp only [Bool.and_eq_true, beq_iff_eq, not_and, and_imp]
        exact fun h1 h2 => (hnan h1 h2).ne
  unfold magCode
  split_ifs with h
  · exact ⟨0, n, by omega, h, by omega, fun _ h0 => by omega, fun _ => by omega, fun _ => ⟨rfl, hsub h⟩, fun h0 => absurd rfl h0⟩
  · have hle' := hs.exponent_le (not_lt.mp h) hle
    have hpow : 2 ^ (s.fb + 1) = 2 ^ s.fb + 2 ^ s.fb := by rw [pow_succ]; ring
    have hE : 0 < q + s.fb + s.bias := by omega
    obtain ⟨E, hEq⟩ := Int.eq_ofNat_of_zero_le hE.le
    have hcode : ((q + s.fb + s.bias).toNat - 1) * 2 ^ s.fb + n = E * 2 ^ s.fb + (n - 2 ^ s.fb) := by
      rw [hEq, Int.toNat_natCast, Nat.sub_mul, one_mul]
      have : 2 ^ s.fb ≤ E * 2 ^ s.fb := Nat.le_mul_of_pos_left _ (by omega)
      omega
    refine ⟨E, n - 2 ^ s.fb, ?_, by omega, hcode, fun hno he => ?_, fun hno he => ?_, fun h0 => by omega, fun _ => by omega⟩
    · split_ifs at hle' with hno
      · obtain ⟨hb7, hf3, he4⟩ := hs.bias_of_noInf hno
        rw [he4]
        omega
      · omega
    · obtain ⟨hb7, hf3, he4⟩ := hs.bias_of_noInf hno
      rw [if_pos hno] at hle'
      rw [hmax, he4] at he
      rw [hf3]
      omega
    · rw [if_neg (by simp [hno])] at hle'
      omega

end

section
variable {s : FShape}

/-- A number of no more digits than a format's is at most as far above its leading power as the largest of them. -/
theorem FShape.le_two_pow_log2 {n : Nat} (h0 : n ≠ 0) (hn : n ≤ 2 ^ (s.fb + 1)) :
    (n : ℝ) ≤ (2 - 2 ^ (-(s.fb : ℤ))) * 2 ^ n.log2 := by
  have hunit : (2 : ℝ) ^ (-(s.fb : ℤ)) ≤ 1 := zpow_le_one_of_nonpos₀ (by norm_num) (by omega)
  obtain rfl | hlt := hn.eq_or_lt
  · rw [Nat.log2_two_pow]
    push_cast
    exact le_mul_of_one_le_left (by positivity) (by linarith)
  · have hL : n.log2 ≤ s.fb := Nat.lt_succ_iff.mp ((Nat.log2_lt h0).mpr hlt)
    have hsucc : ((n + 1 : Nat) : ℝ) ≤ (2 ^ (n.log2 + 1) : Nat) := by exact_mod_cast Nat.lt_log2_self
    have hcut : (2 : ℝ) ^ (-(s.fb : ℤ)) * 2 ^ n.log2 ≤ 1 := by
      rw [← zpow_natCast (2 : ℝ) n.log2, ← zpow_add₀ (by norm_num)]
      exact zpow_le_one_of_nonpos₀ (by norm_num) (by omega)
    push_cast [pow_succ] at hsucc
    linarith

/-- What exceeds the largest finite value (R62, R63). -/
theorem FShape.exceeds_iff {n : Nat} {q : ℤ} (hn : n ≤ 2 ^ (s.fb + 1)) :
    s.exceeds n q = true ↔ (s.largest : ℝ) < n * 2 ^ q := by
  rw [s.cast_largest]
  unfold exceeds
  split_ifs with h
  · rw [decide_eq_true_eq]
    have hscale : (2 : ℝ) ^ q * 2 ^ (max 0 (-q)) = 2 ^ (max 0 q) := by
      rw [← zpow_add₀ (by norm_num)]
      congr 1
      omega
    have hpos : (0 : ℝ) < 2 ^ (max 0 (-q)) := by positivity
    rw [← mul_lt_mul_iff_of_pos_right hpos, mul_assoc, hscale, ← two_zpow_toNat (le_max_left _ _), ← two_zpow_toNat (le_max_left _ _)]
    norm_cast
  · rw [Bool.and_eq_true, bne_iff_ne, decide_eq_true_eq]
    have htop : (2 - 2 ^ (-(s.fb : ℤ))) * (2 : ℝ) ^ s.bias < 2 ^ (s.bias + 1) := by
      rw [zpow_add_one₀ (by norm_num), mul_comm _ (2 : ℝ)]
      exact mul_lt_mul_of_pos_right (sub_lt_self _ (by positivity)) (by positivity)
    constructor
    · rintro ⟨hn0, hlt⟩
      refine htop.trans_le ?_
      calc (2 : ℝ) ^ (s.bias + 1) ≤ 2 ^ ((n.log2 : ℤ) + q) := zpow_le_zpow_right₀ (by norm_num) (by omega)
        _ = (2 ^ n.log2 : Nat) * 2 ^ q := by rw [zpow_add₀ (by norm_num), zpow_natCast]; norm_num
        _ ≤ n * 2 ^ q := mul_le_mul_of_nonneg_right (by exact_mod_cast Nat.log2_self_le hn0) (by positivity)
    · intro hlt
      have h0 : n ≠ 0 := by
        rintro rfl
        rw [Nat.cast_zero, zero_mul] at hlt
        have hunit : (2 : ℝ) ^ (-(s.fb : ℤ)) ≤ 1 := zpow_le_one_of_nonpos₀ (by norm_num) (by omega)
        exact absurd hlt (not_lt.mpr (mul_nonneg (by linarith) (by positivity)))
      refine ⟨h0, lt_of_not_ge fun hle => absurd hlt (not_lt.mpr ?_)⟩
      have htwo : (0 : ℝ) ≤ 2 - 2 ^ (-(s.fb : ℤ)) := by
        have hunit : (2 : ℝ) ^ (-(s.fb : ℤ)) ≤ 1 := zpow_le_one_of_nonpos₀ (by norm_num) (by omega)
        linarith
      calc (n : ℝ) * 2 ^ q ≤ (2 - 2 ^ (-(s.fb : ℤ))) * 2 ^ n.log2 * 2 ^ q :=
            mul_le_mul_of_nonneg_right (FShape.le_two_pow_log2 h0 hn) (by positivity)
        _ = (2 - 2 ^ (-(s.fb : ℤ))) * 2 ^ ((n.log2 : ℤ) + q) := by rw [zpow_add₀ (by norm_num), zpow_natCast, mul_assoc]
        _ ≤ (2 - 2 ^ (-(s.fb : ℤ))) * 2 ^ s.bias :=
            mul_le_mul_of_nonneg_left (zpow_le_zpow_right₀ (by norm_num) hle) htwo

end

/-! ### Overflow (R62, R63) -/

theorem FShape.saturates_eq (s : FShape) (rm : RMode) (neg : Bool) :
    s.saturates rm neg = (s.noInf || (match rm with
      | .rne | .rmm => false
      | .rtz => true
      | .rdn => !neg
      | .rup => neg)) := by
  unfold saturates
  cases rm <;> cases neg <;> cases s.noInf <;> rfl

theorem FShape.read_inf {s : FShape} (h : s.noInf = false) (neg : Bool) :
    s.inf neg < 2 ^ s.width ∧ s.read (s.inf neg) = .inf neg := by
  have he : s.expMax < 2 ^ s.eb := Nat.sub_lt (Nat.two_pow_pos _) (by decide)
  have hread := s.read_fields neg he (Nat.two_pow_pos s.fb)
  constructor
  · refine s.signBit_add_lt neg ?_
    rw [pow_add]
    exact Nat.mul_lt_mul_of_pos_right he (Nat.two_pow_pos _)
  · simpa [h, inf] using hread

/-- What a number is worth. -/
theorem Num.cast_value (neg : Bool) (m : Nat) (e : ℤ) : ((Num.fin neg m e).value : ℝ) = signed neg ((m : ℝ) * 2 ^ e) := by
  cases neg <;> simp [value, signed]

theorem Num.value_eq_signed {neg : Bool} {m : Nat} {e : ℤ} {v : ℚ} (h : (m : ℝ) * 2 ^ e = v) :
    (Num.fin neg m e).value = if neg then -v else v := by
  have hv : (m : ℚ) * 2 ^ e = v := by
    have hcast : (((m : ℚ) * 2 ^ e : ℚ) : ℝ) = v := by
      push_cast
      exact h
    exact_mod_cast hcast
  rw [← hv]
  cases neg <;> simp [value]

section
variable {s : FShape} (hs : s.Wf)
include hs

/-- The largest finite value of a sign (Table 06.1). -/
theorem FShape.Wf.read_maxFinite (neg : Bool) :
    s.maxFinite neg < 2 ^ s.width ∧ ∃ m e, s.read (s.maxFinite neg) = .fin neg m e ∧ (m : ℝ) * 2 ^ e = s.largest := by
  suffices h : ∃ (n : Nat) (q : ℤ), n < 2 ^ (s.fb + 1) ∧ 2 ^ s.fb ≤ n ∧ 1 - s.bias - s.fb ≤ q ∧ (n : ℝ) * 2 ^ q = s.largest ∧
      s.maxFinite neg = s.signBit neg + s.magCode n q by
    obtain ⟨n, q, hn, hlead, hq, hval, hcode⟩ := h
    obtain ⟨hlt, hread⟩ := hs.read_magCode neg hn hq (fun h => absurd h (not_lt.mpr hlead)) hval.le
    rw [hcode]
    exact ⟨hlt, n, q, hread, hval⟩
  rw [s.cast_largest]
  by_cases h : s.noInf = true
  · have hs' := hs.noInf h
    subst hs'
    exact ⟨14, 5, by decide, by decide, by decide, by norm_num, by cases neg <;> decide⟩
  · have hone : 1 ≤ 2 ^ (s.fb + 1) := Nat.one_le_two_pow
    have hdouble : 2 ^ (s.fb + 1) = 2 ^ s.fb + 2 ^ s.fb := by rw [pow_succ]; ring
    have hfb := Nat.two_pow_pos s.fb
    have hb := s.bias_eq
    have h8 := hs.eight_le
    refine ⟨2 ^ (s.fb + 1) - 1, s.bias - s.fb, by omega, by omega, by omega, ?_, ?_⟩
    · rw [if_neg h, zpow_sub₀ (by norm_num), zpow_neg, zpow_natCast]
      push_cast [hone]
      field_simp
      ring
    · have hexp : (s.bias - s.fb + s.fb + s.bias).toNat - 1 = s.expMax - 2 := by
        have := hs.two_pow_eb
        unfold expMax
        omega
      have hmax : 2 ≤ s.expMax := by
        have := hs.two_pow_eb
        unfold expMax
        omega
      have hmul : 2 * 2 ^ s.fb ≤ s.expMax * 2 ^ s.fb := Nat.mul_le_mul_right _ hmax
      unfold maxFinite magCode
      rw [if_neg h, if_neg (by omega), hexp, Nat.sub_mul]
      omega

/-- What an overflow delivers. -/
theorem FShape.Wf.overflowed (rm : RMode) (neg : Bool) :
    (s.overflow rm neg).1 < 2 ^ s.width ∧ s.Overflowed rm neg (s.overflow rm neg) := by
  obtain ⟨hmax, m, e, hread, hval⟩ := hs.read_maxFinite neg
  have hcode : s.overflow rm neg = (if s.saturates rm neg then s.maxFinite neg else s.inf neg, fOF ||| fNX) := by
    rw [s.saturates_eq]
    rfl
  unfold Overflowed
  rw [hcode]
  by_cases h : s.saturates rm neg = true
  · simp only [h, if_true, Bool.true_eq_false, false_implies, and_true, true_implies, true_and]
    rw [hread]
    exact ⟨hmax, ⟨m, e, rfl⟩, Num.value_eq_signed hval⟩
  · have hinf : s.noInf = false := by
      rw [s.saturates_eq, Bool.or_eq_true, not_or, Bool.not_eq_true] at h
      exact h.1
    obtain ⟨hlt, hread⟩ := s.read_inf hinf neg
    simp only [h, if_false, Bool.false_eq_true, false_implies, true_implies, true_and]
    exact ⟨hlt, hread⟩

end

/-! ### Rounding to a format (R61 to R63) -/

/-- The lead of a known magnitude. -/
theorem Known.log_eq {m : Nat} {e : ℤ} {above : Bool} {x : ℝ} (h : Known m e above x) (h0 : m ≠ 0) :
    0 < x ∧ Int.log 2 x = m.log2 + e := by
  have hle : (m : ℝ) * 2 ^ e ≤ x := by
    unfold Known at h
    split_ifs at h
    · exact h.1.le
    · exact h.ge
  have hlt : x < (m + 1 : Nat) * 2 ^ e := by
    have hpos : (0 : ℝ) < 2 ^ e := by positivity
    unfold Known at h
    push_cast
    split_ifs at h
    · exact h.2
    · rw [h]
      linarith
  have hlead : (2 : ℝ) ^ ((m.log2 : ℤ) + e) ≤ x := by
    refine le_trans ?_ hle
    rw [zpow_add₀ (by norm_num), zpow_natCast]
    exact mul_le_mul_of_nonneg_right (by exact_mod_cast Nat.log2_self_le h0) (by positivity)
  have htop : x < (2 : ℝ) ^ ((m.log2 : ℤ) + e + 1) := by
    refine hlt.trans_le ?_
    rw [add_right_comm, zpow_add₀ (by norm_num), ← Nat.cast_add_one, zpow_natCast]
    exact mul_le_mul_of_nonneg_right (by exact_mod_cast Nat.lt_log2_self) (by positivity)
  have hx : 0 < x := lt_of_lt_of_le (by positivity) hlead
  have h1 : (m.log2 : ℤ) + e ≤ Int.log 2 x := (Int.zpow_le_iff_le_log (by norm_num) hx).mp (by exact_mod_cast hlead)
  have h2 : Int.log 2 x < (m.log2 : ℤ) + e + 1 := (Int.lt_zpow_iff_log_lt (by norm_num) hx).mp (by exact_mod_cast htop)
  exact ⟨hx, by omega⟩

/-- What `roundTo` delivers. -/
theorem FShape.roundTo_eq (s : FShape) (rm : RMode) (neg : Bool) (m : Nat) (e : ℤ) (above : Bool) :
    let q := max ((m.log2 : ℤ) + e) (1 - s.bias) - s.fb
    let r := roundQuantum rm neg m e above q
    let u := roundQuantum rm neg m e above (m.log2 + e - s.fb)
    s.roundTo rm neg m e above =
      if s.exceeds r.1 q then s.overflow rm neg
      else (s.signBit neg + if 2 ^ (s.fb + 1) ≤ r.1 then s.magCode (r.1 / 2) (q + 1) else s.magCode r.1 q,
        flagIf r.2 fNX ||| flagIf (r.2 && decide ((u.1.log2 : ℤ) + (m.log2 + e - s.fb) < 1 - s.bias)) fUF) := by
  intro q r u
  unfold roundTo magCode
  by_cases h : 2 ^ (s.fb + 1) ≤ r.1 <;> simp only [q, r, u] at h ⊢ <;> simp only [h, if_true, if_false]

/-- The code of a magnitude of at most one digit more than the format's. -/
theorem FShape.Wf.read_rounded {s : FShape} (hs : s.Wf) (neg : Bool) {n : Nat} {q : ℤ} (hn : n ≤ 2 ^ (s.fb + 1))
    (hq : 1 - s.bias - s.fb ≤ q) (hsub : n < 2 ^ s.fb → q = 1 - s.bias - s.fb) (hle : (n : ℝ) * 2 ^ q ≤ s.largest) :
    let c := s.signBit neg + if 2 ^ (s.fb + 1) ≤ n then s.magCode (n / 2) (q + 1) else s.magCode n q
    c < 2 ^ s.width ∧ ∃ m e, s.read c = .fin neg m e ∧ (m : ℝ) * 2 ^ e = n * 2 ^ q := by
  intro c
  by_cases h : 2 ^ (s.fb + 1) ≤ n
  · have hc : c = s.signBit neg + s.magCode (2 ^ s.fb) (q + 1) := by
      simp only [c]
      rw [if_pos h, le_antisymm hn h, pow_succ, Nat.mul_div_cancel _ Nat.two_pos]
    have hval : ((2 ^ s.fb : Nat) : ℝ) * 2 ^ (q + 1) = n * 2 ^ q := by
      rw [le_antisymm hn h, zpow_add_one₀ (by norm_num)]
      push_cast
      ring
    obtain ⟨hlt, hread⟩ := hs.read_magCode neg (Nat.pow_lt_pow_right Nat.one_lt_two (Nat.lt_succ_self s.fb)) (by omega)
      (fun h => absurd h (lt_irrefl _)) (hval.trans_le hle)
    rw [hc]
    exact ⟨hlt, _, _, hread, hval⟩
  · obtain ⟨hlt, hread⟩ := hs.read_magCode neg (not_le.mp h) hq hsub hle
    have hc : c = s.signBit neg + s.magCode n q := by simp only [c, if_neg h]
    rw [hc]
    exact ⟨hlt, _, _, hread, rfl⟩

/-- A known magnitude counted in multiples of `2^q`, rounded. -/
theorem Known.abs_sub_lt_one {rm : RMode} {neg : Bool} {q : ℤ} {x : ℝ} {n : Nat}
    (h : rm.Rounds (signed neg x / 2 ^ q) (signed neg (n : ℤ))) : |x / 2 ^ q - n| < 1 := by
  have := h.abs_sub_lt_one
  rwa [signed_div, intCast_signed, signed_sub, abs_signed] at this

/-- A multiple of the spacing has a leading one where the magnitude has. -/
theorem two_pow_le_of_rounds {rm : RMode} {neg : Bool} {q : ℤ} {x : ℝ} {n k : Nat}
    (h : rm.Rounds (signed neg x / 2 ^ q) (signed neg (n : ℤ))) (hx : (2 : ℝ) ^ (q + k) ≤ x) : 2 ^ k ≤ n := by
  have hq : (0 : ℝ) < 2 ^ q := by positivity
  have hlt := (abs_lt.mp (Known.abs_sub_lt_one h)).2
  have hk : (2 : ℝ) ^ k ≤ x / 2 ^ q := by
    rwa [le_div_iff₀ hq, ← zpow_natCast, ← zpow_add₀ (by norm_num), add_comm]
  have : ((2 ^ k : Nat) : ℝ) < (n + 1 : Nat) := by
    push_cast
    linarith
  exact Nat.lt_succ_iff.mp (by exact_mod_cast this)

theorem le_two_pow_of_rounds {rm : RMode} {neg : Bool} {q : ℤ} {x : ℝ} {n k : Nat}
    (h : rm.Rounds (signed neg x / 2 ^ q) (signed neg (n : ℤ))) (hx : x < (2 : ℝ) ^ (q + k)) : n ≤ 2 ^ k := by
  have hq : (0 : ℝ) < 2 ^ q := by positivity
  have hlt := (abs_lt.mp (Known.abs_sub_lt_one h)).1
  have hk : x / 2 ^ q < (2 : ℝ) ^ k := by
    rwa [div_lt_iff₀ hq, ← zpow_natCast, ← zpow_add₀ (by norm_num), add_comm]
  have : ((n : Nat) : ℝ) < (2 ^ k + 1 : Nat) := by
    push_cast
    linarith
  exact Nat.lt_succ_iff.mp (by exact_mod_cast this)

theorem log2_add_lt_iff {n : Nat} {k j : ℤ} (h : n ≠ 0) : (n.log2 : ℤ) + k < j ↔ (n : ℝ) * 2 ^ k < 2 ^ j := by
  have hk : (0 : ℝ) < 2 ^ k := by positivity
  constructor
  · intro hlt
    calc (n : ℝ) * 2 ^ k < (2 ^ (n.log2 + 1) : Nat) * 2 ^ k :=
          mul_lt_mul_of_pos_right (by exact_mod_cast Nat.lt_log2_self) hk
      _ = 2 ^ ((n.log2 : ℤ) + 1 + k) := by
          rw [zpow_add₀ (by norm_num), ← Nat.cast_add_one, zpow_natCast]
          norm_num
      _ ≤ 2 ^ j := zpow_le_zpow_right₀ (by norm_num) (by omega)
  · intro hlt
    refine (zpow_lt_zpow_iff_right₀ (a := (2 : ℝ)) (by norm_num)).mp (lt_of_le_of_lt ?_ hlt)
    rw [zpow_add₀ (by norm_num), zpow_natCast]
    exact mul_le_mul_of_nonneg_right (by exact_mod_cast Nat.log2_self_le h) hk.le

/-- A magnitude rounded once. -/
theorem FShape.Wf.roundTo_rounded {s : FShape} (hs : s.Wf) (rm : RMode) (neg : Bool) {m : Nat} {e : ℤ} {above : Bool} {x : ℝ}
    (h : Known m e above x) (h0 : m ≠ 0) (hd : above = true → s.fb + 3 ≤ m.log2) :
    s.Rounded rm neg x (s.roundTo rm neg m e above) := by
  obtain ⟨hx, hlog⟩ := h.log_eq h0
  have heq := s.roundTo_eq rm neg m e above
  rw [← hlog] at heq
  dsimp only at heq
  obtain ⟨hround, hcut⟩ := roundQuantum_rounds rm neg (q := max (Int.log 2 x) (1 - s.bias) - s.fb) h
    (fun ha => by have := hd ha; omega)
  obtain ⟨hunit, -⟩ := roundQuantum_rounds rm neg (q := Int.log 2 x - s.fb) h (fun ha => by have := hd ha; omega)
  generalize roundQuantum rm neg m e above (max (Int.log 2 x) (1 - s.bias) - s.fb) = r at *
  generalize roundQuantum rm neg m e above (Int.log 2 x - s.fb) = u at *
  generalize hq : max (Int.log 2 x) (1 - s.bias) - s.fb = q at *
  have hlead : (2 : ℝ) ^ Int.log 2 x ≤ x := by exact_mod_cast Int.zpow_log_le_self (b := 2) (by norm_num) hx
  have htop : x < (2 : ℝ) ^ (Int.log 2 x + 1) := by exact_mod_cast Int.lt_zpow_succ_log_self (b := 2) (by norm_num) x
  have hn : r.1 ≤ 2 ^ (s.fb + 1) := le_two_pow_of_rounds hround (htop.trans_le (zpow_le_zpow_right₀ (by norm_num) (by
    push_cast
    omega)))
  have hsub (hlt : r.1 < 2 ^ s.fb) : q = 1 - s.bias - s.fb := by
    by_contra hne
    refine absurd hlt (not_lt.mpr (two_pow_le_of_rounds hround ?_))
    rwa [show q + s.fb = Int.log 2 x by omega]
  have hu : 2 ^ s.fb ≤ u.1 := two_pow_le_of_rounds hunit (by rwa [sub_add_cancel])
  have hmag : |((signed neg (r.1 : ℤ) : ℤ) : ℝ) * 2 ^ q| = r.1 * 2 ^ q := by
    rw [intCast_signed, signed_mul, abs_signed, abs_of_nonneg (by positivity)]
  have hexact : ((signed neg (r.1 : ℤ) : ℤ) : ℝ) * 2 ^ q = signed neg x ↔ (r.1 : ℝ) * 2 ^ q = x := by
    rw [intCast_signed, signed_mul]
    cases neg
    · rfl
    · exact neg_inj
  have hmagu : |((signed neg (u.1 : ℤ) : ℤ) : ℝ) * 2 ^ (Int.log 2 x - s.fb)| = u.1 * 2 ^ (Int.log 2 x - s.fb) := by
    rw [intCast_signed, signed_mul, abs_signed, abs_of_nonneg (by positivity)]
  have htiny : (u.1.log2 : ℤ) + (Int.log 2 x - s.fb) < 1 - s.bias ↔ (u.1 : ℝ) * 2 ^ (Int.log 2 x - s.fb) < 2 ^ (1 - s.bias) :=
    log2_add_lt_iff (by have := Nat.two_pow_pos s.fb; omega)
  unfold Rounded
  simp only [hq]
  by_cases hover : s.exceeds r.1 q = true
  · rw [if_pos hover] at heq
    rw [s.exceeds_iff hn, ← hmag] at hover
    obtain ⟨hlt, hres⟩ := hs.overflowed rm neg
    rw [heq]
    exact ⟨hlt, _, hround, fun _ => hres, fun hle => absurd hover (not_lt.mpr hle)⟩
  · rw [if_neg hover] at heq
    rw [s.exceeds_iff hn, not_lt] at hover
    obtain ⟨hlt, n, p, hread, hval⟩ := hs.read_rounded neg hn (by omega) hsub hover
    rw [heq]
    refine ⟨hlt, _, hround, fun hgt => absurd hgt (not_lt.mpr (hmag.trans_le hover)), fun _ =>
      ⟨⟨n, p, hread⟩, ?_, fun hex => ?_, fun hne => ⟨_, hunit, ?_⟩⟩⟩
    · rw [hread, Num.cast_value, hval, intCast_signed, signed_mul]
    · have hr : r.2 = false := Bool.eq_false_iff.mpr fun hr => hcut.mp hr (hexact.mp hex)
      simp [hr, flagIf]
    · have hr : r.2 = true := hcut.mpr fun hex => hne (hexact.mpr hex)
      rw [hmagu, hr]
      refine ⟨fun hlt => ?_, fun hge => ?_⟩
      · rw [decide_eq_true (htiny.mpr hlt)]
        rfl
      · rw [decide_eq_false (fun hlt => absurd (htiny.mp hlt) (not_lt.mpr hge))]
        rfl

end Sys2Proof.Machine
end

section
/-! SUPPORT. Values delivered to a format: binary floating ones, integers, LG8 (R62, R63, R70 to R72). -/

namespace Sys2Proof.Machine

/-! ### Binary floating formats -/

theorem FShape.signBit_eq (s : FShape) (neg : Bool) : s.signBit neg = if neg then 2 ^ (s.width - 1) else 0 := by
  have hw : s.width - 1 = s.eb + s.fb := by
    unfold width
    omega
  rw [hw]
  rfl

/-- A magnitude given by all its digits, rounded once. -/
theorem FShape.Wf.roundTo_exact {s : FShape} (hs : s.Wf) (rm : RMode) (neg : Bool) {m : Nat} (e : ℤ) (h0 : m ≠ 0) :
    s.Rounded rm neg (m * 2 ^ e) (s.roundTo rm neg m e) :=
  hs.roundTo_rounded rm neg (above := false) rfl h0 (fun h => absurd h Bool.false_ne_true)

/-- A value delivered to a binary floating format. -/
theorem Fmt.delivered_of_shape {f : Fmt} {s : FShape} (h : f.shape = some s) (rm : RMode) (v : Machine.Num) :
    f.Delivered rm v (s.deliver rm v) := by
  have hs := Fmt.shape_wf h
  unfold Fmt.Delivered
  rw [h]
  cases v with
  | nan sg => rfl
  | inf neg =>
    have hcode : s.deliver rm (.inf neg) = if s.noInf then (s.maxFinite neg, fOF ||| fNX) else (s.inf neg, 0) := rfl
    rw [hcode]
    by_cases hno : s.noInf = true
    · rw [hs.noInf hno]
      cases neg <;> rfl
    · simp only [hno]
      obtain ⟨hlt, hread⟩ := s.read_inf (Bool.not_eq_true _ ▸ hno) neg
      exact ⟨hlt, hread, rfl⟩
  | fin neg m e =>
    cases m with
    | zero => exact Prod.ext (s.signBit_eq neg) rfl
    | succ m => exact hs.roundTo_exact rm neg e (Nat.succ_ne_zero m)

/-! ### Integers (R72) -/

theorem intBounds_eq (sg : Bool) (k : Nat) : intBounds sg k =
    (if sg then -(2 ^ (8 * 2 ^ k - 1)) else 0, if sg then 2 ^ (8 * 2 ^ k - 1) - 1 else 2 ^ (8 * 2 ^ k) - 1) := by
  unfold intBounds
  cases sg <;> rfl

/-- The codes of the bounds of an integer format (Table 06.5). -/
theorem intCode_bounds (sg neg : Bool) (k : Nat) :
    intCode (8 * 2 ^ k) (if neg then (intBounds sg k).1 else (intBounds sg k).2) =
      if sg then (if neg then 2 ^ (8 * 2 ^ k - 1) else 2 ^ (8 * 2 ^ k - 1) - 1) else (if neg then 0 else 2 ^ (8 * 2 ^ k) - 1) := by
  have hw : (2 : ℤ) ^ (8 * 2 ^ k) = 2 * 2 ^ (8 * 2 ^ k - 1) := by
    rw [← pow_succ', Nat.sub_add_cancel (by have := Nat.two_pow_pos k; omega)]
  have hw' : 2 ^ (8 * 2 ^ k) = 2 * 2 ^ (8 * 2 ^ k - 1) := by exact_mod_cast hw
  have hcast : (2 : ℤ) ^ (8 * 2 ^ k - 1) = ((2 ^ (8 * 2 ^ k - 1) : Nat) : ℤ) := by norm_num
  have hpos := Nat.two_pow_pos (8 * 2 ^ k - 1)
  rw [intBounds_eq]
  unfold intCode
  rw [hw, hw', hcast]
  generalize 2 ^ (8 * 2 ^ k - 1) = p at *
  have hmod (v : ℤ) (n : Nat) (hv : v % (2 * p) = n) : (v % (2 * p)).toNat = n := by rw [hv, Int.toNat_natCast]
  cases sg <;> cases neg <;> refine hmod _ _ ?_ <;> simp only [if_true, if_false, Bool.false_eq_true]
  · rw [Int.emod_eq_of_lt (by omega) (by omega)]
    omega
  · rfl
  · rw [Int.emod_eq_of_lt (by omega) (by omega)]
    omega
  · rw [← Int.add_emod_right, Int.emod_eq_of_lt (by omega) (by omega)]
    omega

/-- A number rounded to a whole one and held to the range of an integer format. -/
theorem toInt_rounded (rm : RMode) (sg : Bool) (k : Nat) (neg : Bool) (m : Nat) (e : ℤ) :
    intRounded rm sg k (Machine.Num.fin neg m e).value (toInt rm sg k (.fin neg m e)) := by
  obtain ⟨hround, hcut⟩ := roundQuantum_rounds rm neg (q := 0) (show Known m e false (m * 2 ^ e) from rfl)
    (fun h => absurd h Bool.false_ne_true)
  have hcode : toInt rm sg k (.fin neg m e) =
      let r := roundQuantum rm neg m e false 0
      let c := intClamp sg k (signed neg (r.1 : ℤ))
      (intCode (8 * 2 ^ k) c.1, if c.2 then fNV else flagIf r.2 fNX) := rfl
  rw [hcode]
  generalize roundQuantum rm neg m e false 0 = r at *
  rw [zpow_zero, div_one, ← Num.cast_value] at hround
  rw [zpow_zero, mul_one] at hcut
  have hexact : ((signed neg (r.1 : ℤ) : ℤ) : ℚ) = (Machine.Num.fin neg m e).value ↔ (r.1 : ℝ) = m * 2 ^ e := by
    rw [← Rat.cast_inj (α := ℝ), Num.cast_value, Rat.cast_intCast, intCast_signed]
    cases neg
    · rfl
    · exact neg_inj
  have hclamp (lo hi : ℤ) (hb : intBounds sg k = (lo, hi)) : intClamp sg k (signed neg (r.1 : ℤ)) =
      if signed neg (r.1 : ℤ) < lo then (lo, true) else if hi < signed neg (r.1 : ℤ) then (hi, true)
      else (signed neg (r.1 : ℤ), false) := by
    unfold intClamp
    rw [hb]
  dsimp only
  rw [hclamp _ _ (intBounds_eq sg k)]
  unfold intRounded
  refine ⟨_, hround, fun hlo => ?_, fun hhi => ?_, fun hlo hhi => ?_⟩
  · simp only [hlo, if_true]
    rfl
  · have hlo : ¬ signed neg (r.1 : ℤ) < if sg then -(2 ^ (8 * 2 ^ k - 1)) else 0 := by
      refine not_lt.mpr (le_trans ?_ hhi.le)
      have h1 : (1 : ℤ) ≤ 2 ^ (8 * 2 ^ k - 1) := one_le_pow₀ (by norm_num)
      have h2 : (1 : ℤ) ≤ 2 ^ (8 * 2 ^ k) := one_le_pow₀ (by norm_num)
      split_ifs <;> omega
    simp only [hlo, hhi, if_true, if_false]
    rfl
  · simp only [not_lt.mpr hlo, not_lt.mpr hhi, if_false]
    refine Prod.ext rfl ?_
    by_cases hex : (r.1 : ℝ) = m * 2 ^ e
    · have hr : r.2 = false := Bool.eq_false_iff.mpr fun hr => hcut.mp hr hex
      rw [if_pos (hexact.mpr hex), hr]
      rfl
    · rw [if_neg (fun h => hex (hexact.mp h)), hcut.mpr hex]
      rfl

/-! ### LG8 (R66, R71) -/

/-- LG8's values rise with their logs. -/
theorem lgUnits_lt_succ {l : ℤ} (h : -64 ≤ l) : lgUnits l < lgUnits (l + 1) := by
  unfold lgUnits
  have h4 : l % 4 = 0 ∨ l % 4 = 1 ∨ l % 4 = 2 ∨ l % 4 = 3 := by omega
  obtain h4 | h4 | h4 | h4 := h4
  · rw [h4, show (l + 1) % 4 = 1 by omega, show (l + 1) / 4 = l / 4 by omega]
    exact Nat.mul_lt_mul_of_pos_right (by decide) (Nat.two_pow_pos _)
  · rw [h4, show (l + 1) % 4 = 2 by omega, show (l + 1) / 4 = l / 4 by omega]
    exact Nat.mul_lt_mul_of_pos_right (by decide) (Nat.two_pow_pos _)
  · rw [h4, show (l + 1) % 4 = 3 by omega, show (l + 1) / 4 = l / 4 by omega]
    exact Nat.mul_lt_mul_of_pos_right (by decide) (Nat.two_pow_pos _)
  · rw [h4, show (l + 1) % 4 = 0 by omega, show ((l + 1) / 4 + 16).toNat = (l / 4 + 16).toNat + 1 by omega, pow_succ']
    calc 27554 * 2 ^ (l / 4 + 16).toNat < 16384 * 2 * 2 ^ (l / 4 + 16).toNat :=
          Nat.mul_lt_mul_of_pos_right (by decide) (Nat.two_pow_pos _)
      _ = 16384 * (2 * 2 ^ (l / 4 + 16).toNat) := by ring

/-- An LG8 value in its units. -/
theorem lgMagnitude_eq {base l : ℤ} (hb : -64 ≤ base) :
    lgMagnitude base l = ((if l < base then 0 else lgUnits l : Nat) : ℚ) * 2 ^ (-30 : ℤ) := by
  unfold lgMagnitude
  split_ifs with h
  · simp
  · unfold lgUnits
    have hk : (2 : ℚ) ^ (l / 4 - 14) = ((2 ^ (l / 4 + 16).toNat : Nat) : ℚ) * 2 ^ (-30 : ℤ) := by
      rw [show l / 4 - 14 = l / 4 + 16 + -30 by ring, zpow_add₀ (by norm_num)]
      congr 1
      conv_lhs => rw [← Int.toNat_of_nonneg (show 0 ≤ l / 4 + 16 by omega)]
      rw [zpow_natCast]
      norm_num
    rw [hk]
    push_cast
    ring

theorem lgMagnitude_lt_succ {base l : ℤ} (hb : -64 ≤ base) (hl : base - 1 ≤ l) : lgMagnitude base l < lgMagnitude base (l + 1) := by
  rw [lgMagnitude_eq hb, lgMagnitude_eq hb]
  refine mul_lt_mul_of_pos_right (Nat.cast_lt.mpr ?_) (by positivity)
  rw [if_neg (show ¬ l + 1 < base by omega)]
  split_ifs with h
  · exact Nat.mul_pos (by unfold lgt; split <;> decide) (Nat.two_pow_pos _)
  · exact lgUnits_lt_succ (by omega)

theorem lgMagnitude_lt {base l k : ℤ} (hb : -64 ≤ base) (hl : base - 1 ≤ l) (hlk : l < k) :
    lgMagnitude base l < lgMagnitude base k := by
  induction k, hlk using Int.leInduction with
  | base => exact lgMagnitude_lt_succ hb hl
  | succ k hk ih => exact ih.trans (lgMagnitude_lt_succ hb (by omega))

/-- The log that `lgFloor` finds is the last of a row of logs whose values do not exceed the number. -/
theorem lgFloor_spec (m : Nat) (e : ℤ) (n : Nat) (lo : ℤ) :
    let fits (l : ℤ) : Prop := lgUnits l * 2 ^ (max 0 (-30 - e)).toNat ≤ m * 2 ^ (max 0 (e + 30)).toNat
    let k := lgFloor m e n lo
    lo - 1 ≤ k ∧ k ≤ lo + n - 1 ∧ (lo ≤ k → fits k) ∧ (k < lo + n - 1 → ¬ fits (k + 1)) := by
  intro fits k
  induction n generalizing lo with
  | zero => simp [k, lgFloor]
  | succ n ih =>
    by_cases h : fits lo
    · have hk : k = lgFloor m e n (lo + 1) := if_pos h
      obtain ⟨h1, h2, h3, h4⟩ := ih (lo + 1)
      rw [hk]
      refine ⟨by omega, by push_cast; omega, fun hle => ?_, fun hlt => h4 (by push_cast at hlt; omega)⟩
      obtain heq | hlt := hle.eq_or_lt
      · rwa [← heq]
      · exact h3 (by omega)
    · have hk : k = lo - 1 := if_neg h
      rw [hk]
      exact ⟨le_rfl, by push_cast; omega, fun hle => by omega, fun _ => by rwa [sub_add_cancel]⟩

/-- The scale of `lgRound`, which counts values and candidates in halves of one unit: of 2^-30, or of the value's last digit. -/
def lgScale (e : ℤ) : ℚ := 2 * 2 ^ (30 : ℤ) * 2 ^ (max 0 (-30 - e))

theorem lgScale_pos (e : ℤ) : 0 < lgScale e := by
  unfold lgScale
  positivity

theorem two_zpow_toNat_rat {k : ℤ} (h : 0 ≤ k) : ((2 ^ k.toNat : Nat) : ℚ) = 2 ^ k := by
  conv_rhs => rw [← Int.toNat_of_nonneg h]
  rw [zpow_natCast]
  norm_num

/-- The value, scaled. -/
theorem lgScale_value (m : Nat) (e : ℤ) : ((2 * m * 2 ^ (max 0 (e + 30)).toNat : Nat) : ℚ) = m * 2 ^ e * lgScale e := by
  have hk : (2 : ℚ) ^ (max 0 (e + 30)) = 2 ^ e * 2 ^ (30 : ℤ) * 2 ^ (max 0 (-30 - e)) := by
    rw [← zpow_add₀ (by norm_num), ← zpow_add₀ (by norm_num)]
    congr 1
    omega
  rw [Nat.cast_mul, two_zpow_toNat_rat (le_max_left _ _), hk]
  unfold lgScale
  push_cast
  ring

/-- A candidate, scaled. -/
theorem lgScale_magnitude {base : ℤ} (hb : -64 ≤ base) (l e : ℤ) :
    ((2 * (if l < base then 0 else lgUnits l) * 2 ^ (max 0 (-30 - e)).toNat : Nat) : ℚ) = lgMagnitude base l * lgScale e := by
  rw [lgMagnitude_eq hb, Nat.cast_mul, two_zpow_toNat_rat (le_max_left _ _), Nat.cast_mul]
  unfold lgScale
  rw [show (-30 : ℤ) = -(30 : ℤ) from rfl, zpow_neg]
  generalize (if l < base then 0 else lgUnits l) = u
  field_simp
  push_cast
  ring

/-- The least log of a sign: of the negative numbers, -64 is the code of zero (R66). -/
def lgBase (neg : Bool) : ℤ := if neg then -63 else -64

/-- The code of a log, or of the zero below the least. -/
def lgCode (neg : Bool) (l : ℤ) : Nat := if l < lgBase neg then 0xC0 else (if neg then 128 else 0) + (l % 128).toNat

/-- The log that `lgRound` starts from: the number lies at its value or between it and the next. -/
theorem lgFloor_bounds (neg : Bool) (m : Nat) (e : ℤ) :
    let l := lgFloor m e (if neg then 127 else 128) (lgBase neg)
    let v := lgMagnitude (lgBase neg)
    lgBase neg - 1 ≤ l ∧ l ≤ 63 ∧ v l ≤ m * 2 ^ e ∧ (l < 63 → m * 2 ^ e < v (l + 1)) := by
  intro l v
  obtain ⟨hlo, hhi, hfit, hnext⟩ := lgFloor_spec m e (if neg then 127 else 128) (lgBase neg)
  have hb : -64 ≤ lgBase neg := by cases neg <;> decide
  have htop : lgBase neg + ((if neg then 127 else 128 : Nat) : ℤ) - 1 = 63 := by cases neg <;> rfl
  rw [htop] at hhi hnext
  have hfits (k : ℤ) (hk : lgBase neg ≤ k) :
      lgUnits k * 2 ^ (max 0 (-30 - e)).toNat ≤ m * 2 ^ (max 0 (e + 30)).toNat ↔ v k ≤ m * 2 ^ e := by
    rw [← mul_le_mul_iff_of_pos_right (lgScale_pos e), ← lgScale_magnitude hb, ← lgScale_value, Nat.cast_le,
      if_neg (not_lt.mpr hk), mul_assoc, mul_assoc]
    omega
  refine ⟨hlo, hhi, ?_, fun hlt => ?_⟩
  · by_cases hk : lgBase neg ≤ l
    · exact (hfits l hk).mp (hfit hk)
    · have hv : v l = 0 := if_pos (not_le.mp hk)
      rw [hv]
      positivity
  · rw [← not_le, ← hfits (l + 1) (by omega)]
    exact hnext hlt

/-- What `lgRound` delivers, in terms of values. -/
theorem lgRound_eq (rm : RMode) (neg : Bool) (m : Nat) (e : ℤ) :
    let l := lgFloor m e (if neg then 127 else 128) (lgBase neg)
    let v := lgMagnitude (lgBase neg)
    let x : ℚ := m * 2 ^ e
    lgRound rm neg m e =
      if l = 63 then (if x = v 63 then (lgCode neg 63, 0) else (lgCode neg 63, fOF ||| fNX))
      else if x = v l then (lgCode neg l, 0)
      else (lgCode neg (if rm.up neg (!(decide (l < lgBase neg) || l % 2 == 0)) true
          (if 2 * x < v l + v (l + 1) then .lt else if v l + v (l + 1) < 2 * x then .gt else .eq) then l + 1 else l),
        flagIf (decide (l < lgBase neg)) fUF ||| fNX) := by
  intro l v x
  have hb : -64 ≤ lgBase neg := by cases neg <;> decide
  have hS := lgScale_pos e
  have hcode (k : ℤ) : (if k < lgBase neg then 0xC0 else (if neg then 128 else 0) + (BitVec.ofInt 7 k).toNat) = lgCode neg k := by
    rw [BitVec.toNat_ofInt]
    rfl
  have heq (k : ℤ) : (2 * m * 2 ^ (max 0 (e + 30)).toNat == 2 * (if k < lgBase neg then 0 else lgUnits k) *
      2 ^ (max 0 (-30 - e)).toNat) = decide (x = v k) := by
    rw [Bool.eq_iff_iff, beq_iff_eq, decide_eq_true_eq, ← Nat.cast_inj (R := ℚ), lgScale_value, lgScale_magnitude hb,
      mul_left_inj' hS.ne']
  have hcmp (k : ℤ) : compare (2 * (2 * m * 2 ^ (max 0 (e + 30)).toNat)) (2 * (if k < lgBase neg then 0 else lgUnits k) *
      2 ^ (max 0 (-30 - e)).toNat + 2 * (if k + 1 < lgBase neg then 0 else lgUnits (k + 1)) * 2 ^ (max 0 (-30 - e)).toNat) =
      if 2 * x < v k + v (k + 1) then .lt else if v k + v (k + 1) < 2 * x then .gt else .eq := by
    rw [Nat.compare_eq_ite_lt]
    simp only [← Nat.cast_lt (α := ℚ), Nat.cast_add, lgScale_magnitude hb]
    rw [Nat.cast_mul 2 (2 * m * _), lgScale_value, ← add_mul, ← mul_assoc]
    simp only [mul_lt_mul_iff_of_pos_right hS]
    rfl
  have hbase : (if neg then -63 else -64 : ℤ) = lgBase neg := rfl
  unfold lgRound
  simp only [hbase, hcode, heq, hcmp, beq_iff_eq, decide_eq_true_eq]
  rfl

/-- Which of two neighbours a mode takes, by the number (twice, `a`) and their sum. -/
theorem RMode.up_between_iff (rm : RMode) (neg odd : Bool) (a b : ℚ) :
    rm.up neg odd true (if a < b then .lt else if b < a then .gt else .eq) = true ↔ match rm with
      | .rne => b < a ∨ (b = a ∧ odd = true)
      | .rtz => False
      | .rdn => neg = true
      | .rup => neg = false
      | .rmm => b ≤ a := by
  cases rm with
  | rne =>
    obtain h | rfl | h := lt_trichotomy a b
    · simp [up, h, h.le, h.ne']
    · simp [up]
    · simp [up, h, not_lt.mpr h.le]
  | rmm =>
    obtain h | rfl | h := lt_trichotomy a b
    · simp [up, h]
    · simp [up]
    · simp [up, h, h.le, not_lt.mpr h.le]
  | rtz | rdn | rup => simp [up]

/-- Does a mode take the upper of the two LG8 values of logs `l` and `l + 1`, between which a number lies (R71)? -/
def lgUp (rm : RMode) (neg : Bool) (x : ℚ) (l : ℤ) : Prop :=
  let v := lgMagnitude (lgBase neg)
  match rm with
  | .rne => v l + v (l + 1) < 2 * x ∨ (v l + v (l + 1) = 2 * x ∧ lgBase neg ≤ l ∧ l % 2 = 1)
  | .rtz => False
  | .rdn => neg = true
  | .rup => neg = false
  | .rmm => v l + v (l + 1) ≤ 2 * x

/-- `lgRounded` by the names of its parts. -/
theorem lgRounded_iff (rm : RMode) (neg : Bool) (x : ℚ) (r : Nat × XFlags) : lgRounded rm neg x r ↔
    (lgMagnitude (lgBase neg) 63 < x → r = (lgCode neg 63, fOF ||| fNX)) ∧
    (∀ l, lgBase neg ≤ l → l ≤ 63 → x = lgMagnitude (lgBase neg) l → r = (lgCode neg l, 0)) ∧
    ∀ l, lgBase neg - 1 ≤ l → l < 63 → lgMagnitude (lgBase neg) l < x → x < lgMagnitude (lgBase neg) (l + 1) →
      (lgUp rm neg x l → r.1 = lgCode neg (l + 1)) ∧ (¬ lgUp rm neg x l → r.1 = lgCode neg l) ∧
      r.2 = if l < lgBase neg then fUF ||| fNX else fNX := Iff.rfl

/-- A number rounded to LG8. -/
theorem lgRound_rounded (rm : RMode) (neg : Bool) (m : Nat) (e : ℤ) :
    lgRounded rm neg (m * 2 ^ e) (lgRound rm neg m e) := by
  obtain ⟨hlo, hhi, hle, hlt⟩ := lgFloor_bounds neg m e
  rw [lgRound_eq, lgRounded_iff]
  generalize lgFloor m e (if neg then 127 else 128) (lgBase neg) = l at *
  generalize (m : ℚ) * 2 ^ e = x at *
  have hb : -64 ≤ lgBase neg := by cases neg <;> decide
  have hmono {j k : ℤ} (hj : lgBase neg - 1 ≤ j) (hjk : j ≤ k) : lgMagnitude (lgBase neg) j ≤ lgMagnitude (lgBase neg) k := by
    obtain rfl | hjk := hjk.eq_or_lt
    · exact le_rfl
    · exact (lgMagnitude_lt hb hj hjk).le
  refine ⟨fun h => ?_, fun k hk1 hk2 h => ?_, fun k hk1 hk2 h1 h2 => ?_⟩
  · have hl : l = 63 := by
      by_contra hne
      exact absurd (hlt (by omega)) (not_lt.mpr ((hmono (by omega) (by omega)).trans h.le))
    rw [if_pos hl, if_neg h.ne']
  · have hl : l = k := by
      obtain hlk | rfl | hkl := lt_trichotomy l k
      · exact absurd (hlt (by omega)) (not_lt.mpr ((hmono (by omega) hlk).trans h.ge))
      · rfl
      · exact absurd h ((lgMagnitude_lt hb (by omega) hkl).trans_le hle).ne'
    subst hl
    by_cases h63 : l = 63
    · subst h63
      rw [if_pos rfl, if_pos h]
    · rw [if_neg h63, if_pos h]
  · have hl : l = k := by
      obtain hlk | rfl | hkl := lt_trichotomy l k
      · exact absurd (hlt (by omega)) (not_lt.mpr ((hmono (by omega) hlk).trans h1.le))
      · rfl
      · exact absurd h2 (not_lt.mpr ((hmono (by omega) hkl).trans hle))
    subst hl
    rw [if_neg hk2.ne, if_neg h1.ne']
    have hup : rm.up neg (!(decide (l < lgBase neg) || l % 2 == 0)) true _ = true ↔ lgUp rm neg x l :=
      (rm.up_between_iff neg _ (2 * x) (lgMagnitude (lgBase neg) l + lgMagnitude (lgBase neg) (l + 1))).trans (by
        have hodd : (!(decide (l < lgBase neg) || l % 2 == 0)) = true ↔ lgBase neg ≤ l ∧ l % 2 = 1 := by
          simp only [Bool.not_eq_true', Bool.or_eq_false_iff, decide_eq_false_iff_not, beq_eq_false_iff_ne]
          omega
        rw [hodd]
        exact Iff.rfl)
    refine ⟨fun h => ?_, fun h => ?_, ?_⟩
    · exact congrArg (lgCode neg) (if_pos (hup.mpr h))
    · exact congrArg (lgCode neg) (if_neg (fun hu => h (hup.mp hu)))
    · by_cases hz : l < lgBase neg <;> simp [hz, flagIf]

/-! ### Delivery to any format (R70) -/

/-- A value delivered to a format. -/
theorem Fmt.deliver_delivered (f : Fmt) (rm : RMode) (v : Machine.Num) : f.Delivered rm v (f.deliver rm v) := by
  cases f with
  | f32 => exact delivered_of_shape rfl rm v
  | f64 => exact delivered_of_shape rfl rm v
  | f16 => exact delivered_of_shape rfl rm v
  | bf16 => exact delivered_of_shape rfl rm v
  | e4m3 => exact delivered_of_shape rfl rm v
  | e5m2 => exact delivered_of_shape rfl rm v
  | lg8 =>
    cases v with
    | nan sg => rfl
    | inf neg => rfl
    | fin neg m e =>
      cases m with
      | zero => rfl
      | succ m => exact lgRound_rounded rm neg (m + 1) e
  | int sg k =>
    cases v with
    | nan sg => rfl
    | inf neg => exact Prod.ext (intCode_bounds sg neg k) rfl
    | fin neg m e => exact toInt_rounded rm sg k neg m e

end Sys2Proof.Machine
end

section
/-! SUPPORT. What codes are worth, and the exact arithmetic and order of values (R59 to R66, R250 to R252). -/

namespace Sys2Proof.Machine

/-! ### What codes are worth (R59, R60, R63, R64, R66) -/

theorem Fmt.read_of_shape {f : Fmt} {s : FShape} (h : f.shape = some s) (x : Nat) : f.read x = s.read x := by
  unfold Fmt.read
  rw [h]

/-- What a binary floating code is worth by its fields. -/
theorem FShape.value_fields (s : FShape) (neg : Bool) {e m : Nat} (he : e < 2 ^ s.eb) (hm : m < 2 ^ s.fb)
    (hfin : e ≠ s.expMax ∨ (s.noInf = true ∧ m < 2 ^ s.fb - 1)) :
    let x := s.signBit neg + e * 2 ^ s.fb + m
    (∃ n q, s.read x = .fin neg n q) ∧ (s.read x).value = (if neg then -1 else 1) *
      if e = 0 then (m : ℚ) / 2 ^ s.fb * 2 ^ (1 - s.bias) else (1 + (m : ℚ) / 2 ^ s.fb) * 2 ^ ((e : ℤ) - s.bias) := by
  intro x
  have hread : s.read x = if e = 0 then .fin neg m (1 - s.bias - s.fb) else .fin neg (2 ^ s.fb + m) (e - s.bias - s.fb) := by
    rw [s.read_fields neg he hm, if_neg, if_neg]
    · simp only [beq_iff_eq]
    · rintro h
      simp only [Bool.and_eq_true, Bool.not_eq_true', beq_iff_eq] at h
      obtain hne | ⟨hno, -⟩ := hfin
      · exact hne h.2
      · simp [hno] at h
    · rintro h
      simp only [Bool.and_eq_true, beq_iff_eq] at h
      obtain hne | ⟨-, hlt⟩ := hfin
      · exact hne h.1.2
      · omega
  have hfb : (2 : ℚ) ^ s.fb ≠ 0 := by positivity
  have hscale (k : ℤ) : (2 : ℚ) ^ (k - s.fb) = 2 ^ k / 2 ^ s.fb := by rw [zpow_sub₀ (by norm_num), zpow_natCast]
  rw [hread]
  by_cases h0 : e = 0
  · rw [if_pos h0]
    refine ⟨⟨_, _, rfl⟩, ?_⟩
    simp only [Num.value, hscale, if_pos h0]
    ring
  · rw [if_neg h0]
    refine ⟨⟨_, _, rfl⟩, ?_⟩
    simp only [Num.value, hscale, if_neg h0]
    push_cast
    field_simp

/-- A signed number of units of a power of two, as a value. -/
theorem Num.value_of_int (u : ℤ) (e : ℤ) : (Machine.Num.fin (decide (u < 0)) u.natAbs e).value = u * 2 ^ e := by
  simp only [value, Nat.cast_natAbs, Int.cast_abs, decide_eq_true_eq]
  split_ifs with h
  · rw [abs_of_neg (by exact_mod_cast h)]
    ring
  · rw [abs_of_nonneg (by exact_mod_cast not_lt.mp h), one_mul]

/-- An integer code is its own value. -/
theorem Fmt.value_int (sg : Bool) {k x : Nat} (hx : x < 2 ^ (8 * 2 ^ k)) :
    (∃ n m, (Fmt.int sg k).read x = .fin n m 0) ∧ ((Fmt.int sg k).read x).value =
      if sg = true ∧ 2 ^ (8 * 2 ^ k - 1) ≤ x then (x : ℚ) - (2 : ℚ) ^ (8 * 2 ^ k) else (x : ℚ) := by
  let v : ℤ := if sg = true ∧ 2 ^ (8 * 2 ^ k - 1) ≤ x then (x : ℤ) - 2 ^ (8 * 2 ^ k) else x
  have hread : (Fmt.int sg k).read x = .fin (decide (v < 0)) v.natAbs 0 := by
    unfold Fmt.read
    simp only [Fmt.shape, Nat.mod_eq_of_lt hx, Bool.and_eq_true, decide_eq_true_eq]
    rfl
  rw [hread]
  refine ⟨⟨_, _, rfl⟩, (Num.value_of_int v 0).trans ?_⟩
  rw [zpow_zero, mul_one]
  simp only [v]
  split_ifs <;> push_cast <;> rfl

/-- What an LG8 code is worth. -/
theorem Fmt.value_lg8 (neg : Bool) {l : ℤ} (hlo : -64 ≤ l) (hhi : l < 64) (hneg : neg = true → l ≠ -64) :
    let x := (if neg then 128 else 0) + (l % 128).toNat
    (∃ m e, Fmt.lg8.read x = .fin neg m e ∧ m ≠ 0) ∧
      (Fmt.lg8.read x).value = (if neg then -1 else 1) * lgMagnitude (-64) l := by
  intro x
  have hread : Fmt.lg8.read x = lgValue neg l := by
    have hx : x = (if neg then 128 else 0) + (l % 128).toNat := rfl
    have hlog : (BitVec.ofNat 7 x).toInt = l := by
      rw [BitVec.toInt_eq_toNat_cond, BitVec.toNat_ofNat]
      cases neg <;> simp only [if_true, if_false, Bool.false_eq_true] at hx <;> omega
    have hzero : x % 256 ≠ 0xC0 := by
      cases neg with
      | false => simp only [if_false, Bool.false_eq_true] at hx; omega
      | true => have := hneg rfl; simp only [if_true] at hx; omega
    have hsign : (x / 128 % 2 == 1) = neg := by
      rw [Bool.eq_iff_iff, beq_iff_eq]
      cases neg <;> simp only [if_true, if_false, Bool.false_eq_true, iff_true, iff_false] at hx ⊢ <;> omega
    unfold Fmt.read
    simp only [Fmt.shape, hsign, lgLog, hlog]
    rw [if_neg (by simpa using hzero)]
  rw [hread]
  refine ⟨⟨_, _, rfl, ?_⟩, ?_⟩
  · unfold lgt
    split <;> decide
  · simp only [lgValue, Num.value, lgMagnitude, if_neg (not_lt.mpr hlo)]
    ring

/-! ### Exact sums and products (R62, R250) -/

/-- A signed mantissa counted in units of a smaller exponent. -/
theorem align_mul (neg : Bool) (m : Nat) {e e0 : ℤ} (h : e0 ≤ e) :
    (align neg m e e0 : ℚ) * 2 ^ e0 = (Machine.Num.fin neg m e).value := by
  have hpow : (2 : ℚ) ^ (e - e0).toNat * 2 ^ e0 = 2 ^ e := by
    rw [← zpow_natCast, Int.toNat_of_nonneg (by omega), ← zpow_add₀ (by norm_num), sub_add_cancel]
  unfold align Num.value
  dsimp only
  rw [← hpow]
  cases neg <;> simp only [if_true, if_false, Bool.false_eq_true] <;> push_cast <;> ring

theorem numMul_fin (n n' : Bool) (m m' : Nat) (e e' : ℤ) : ∃ k q, numMul (.fin n m e) (.fin n' m' e') = (.fin (n != n') k q, 0) ∧
    (k : ℚ) * 2 ^ q = m * 2 ^ e * (m' * 2 ^ e') := by
  refine ⟨_, _, rfl, ?_⟩
  rw [zpow_add₀ (by norm_num)]
  push_cast
  ring

/-- The exact sum of two numbers, and the sign of a zero sum. -/
theorem numAdd_fin (rm : RMode) (n n' : Bool) (m m' : Nat) (e e' : ℤ) :
    let v := (Machine.Num.fin n m e).value + (Machine.Num.fin n' m' e').value
    ∃ s k q, numAdd rm (.fin n m e) (.fin n' m' e') = (.fin s k q, 0) ∧ (Machine.Num.fin s k q).value = v ∧
      (v < 0 → s = true) ∧ (0 < v → s = false) ∧
      (v = 0 → s = if m = 0 ∧ m' = 0 ∧ n = n' then n else rm == .rdn) := by
  intro v
  let u := align n m e (min e e') + align n' m' e' (min e e')
  have hv : (u : ℚ) * 2 ^ min e e' = v := by
    simp only [u, v]
    push_cast
    rw [add_mul, align_mul _ _ (min_le_left _ _), align_mul _ _ (min_le_right _ _)]
  have hpos : (0 : ℚ) < 2 ^ min e e' := by positivity
  have hsum : numAdd rm (.fin n m e) (.fin n' m' e') = (if u = 0 then
      if m = 0 ∧ m' = 0 ∧ n = n' then .fin n 0 0 else .fin (rm == .rdn) 0 0
      else .fin (decide (u < 0)) u.natAbs (min e e'), 0) := by
    simp only [numAdd, finAdd, beq_iff_eq, Bool.and_eq_true, and_assoc]
    rfl
  rw [hsum]
  by_cases h0 : u = 0
  · have hv0 : v = 0 := by rw [← hv, h0, Int.cast_zero, zero_mul]
    simp only [if_pos h0, hv0, lt_irrefl, false_implies, true_implies, true_and]
    split_ifs <;> exact ⟨_, _, _, rfl, by simp [Num.value], rfl⟩
  · rw [if_neg h0]
    refine ⟨_, _, _, rfl, ?_, fun h => ?_, fun h => ?_, fun h => ?_⟩
    · rw [← hv]
      exact Num.value_of_int u _
    · rw [← hv] at h
      have hneg : (u : ℚ) < 0 := lt_of_mul_lt_mul_right (by rwa [zero_mul]) hpos.le
      exact decide_eq_true (by exact_mod_cast hneg)
    · rw [← hv, mul_pos_iff_of_pos_right hpos] at h
      exact decide_eq_false (not_lt.mpr (by exact_mod_cast h.le))
    · rw [← hv, mul_eq_zero_iff_right hpos.ne', Int.cast_eq_zero] at h
      exact absurd h h0

theorem Num.isSNaN_iff (a : Machine.Num) : a.isSNaN = true ↔ a = .nan true := by
  cases a <;> simp [isSNaN]

/-- What a NaN makes of a sum and of a product (R62, R250). -/
theorem numMul_nan {a b : Machine.Num} (h : a.isNaN = true ∨ b.isNaN = true) :
    let r : Machine.Num × XFlags := (.nan false, if a = .nan true ∨ b = .nan true then fNV else 0)
    numMul a b = r ∧ ∀ rm, numAdd rm a b = r := by
  obtain ⟨sg, rfl⟩ | ⟨hn, sg, rfl⟩ : (∃ sg, a = .nan sg) ∨ (a.isNaN = false ∧ ∃ sg, b = .nan sg) := by
    cases a <;> cases b <;> simp [Num.isNaN] at h ⊢
  · have hf : flagIf (sg || b.isSNaN) fNV = if Num.nan sg = .nan true ∨ b = .nan true then fNV else 0 := by
      simp [flagIf, Num.isSNaN_iff]
    exact ⟨Prod.ext rfl hf, fun _ => Prod.ext rfl hf⟩
  · have hf : flagIf (sg || a.isSNaN) fNV = if a = .nan true ∨ Num.nan sg = .nan true then fNV else 0 := by
      simp [flagIf, Num.isSNaN_iff, or_comm]
    cases a with
    | nan => exact absurd hn Bool.noConfusion
    | inf n => exact ⟨Prod.ext rfl hf, fun _ => Prod.ext rfl hf⟩
    | fin n m e => exact ⟨Prod.ext rfl hf, fun _ => Prod.ext rfl hf⟩

/-- What infinities make of a sum (R62). -/
theorem numAdd_inf_inf (rm : RMode) (n n' : Bool) : numAdd rm (.inf n) (.inf n') = if n = n' then (.inf n, 0) else (.nan false, fNV) := by
  simp only [numAdd, beq_iff_eq]

/-- What an infinity makes of a sum and of a product with a number (R62). -/
theorem num_inf_fin (rm : RMode) (n n' : Bool) (m : Nat) (e : ℤ) :
    numAdd rm (.inf n) (.fin n' m e) = (.inf n, 0) ∧ numAdd rm (.fin n' m e) (.inf n) = (.inf n, 0) ∧
    let r : Machine.Num × XFlags := if m = 0 then (.nan false, fNV) else (.inf (n != n'), 0)
    numMul (.inf n) (.fin n' m e) = r ∧ numMul (.fin n' m e) (.inf n) = r := by
  refine ⟨rfl, rfl, ?_, ?_⟩
  · simp only [numMul, beq_iff_eq]
  · simp only [numMul, beq_iff_eq, bne_comm (a := n') (b := n)]

/-! ### The order of values (R251, R252) -/

/-- The order of two numbers of finite value. -/
theorem align_lt_align {n n' : Bool} {m m' : Nat} {e e' : ℤ} :
    align n m e (min e e') < align n' m' e' (min e e') ↔ (Machine.Num.fin n m e).value < (Machine.Num.fin n' m' e').value := by
  rw [← align_mul n m (min_le_left e e'), ← align_mul n' m' (min_le_right e e'),
    mul_lt_mul_iff_of_pos_right (by positivity), Int.cast_lt]

theorem numCmp_lt_iff {a b : Machine.Num} (ha : a.isNaN = false) (hb : b.isNaN = false) : numCmp a b = .lt ↔ a.Less b := by
  cases a with
  | nan => exact absurd ha Bool.noConfusion
  | inf n =>
    cases b with
    | nan => exact absurd hb Bool.noConfusion
    | inf n' => cases n <;> cases n' <;> simp [numCmp, Num.Less] <;> decide
    | fin n' m' e' => cases n <;> simp [numCmp, Num.Less]
  | fin n m e =>
    cases b with
    | nan => exact absurd hb Bool.noConfusion
    | inf n' => cases n' <;> simp [numCmp, Num.Less]
    | fin n' m' e' => exact compare_lt_iff_lt.trans align_lt_align

theorem numCmp_gt_iff {a b : Machine.Num} (ha : a.isNaN = false) (hb : b.isNaN = false) : numCmp a b = .gt ↔ b.Less a := by
  cases a with
  | nan => exact absurd ha Bool.noConfusion
  | inf n =>
    cases b with
    | nan => exact absurd hb Bool.noConfusion
    | inf n' => cases n <;> cases n' <;> simp [numCmp, Num.Less] <;> decide
    | fin n' m' e' => cases n <;> simp [numCmp, Num.Less]
  | fin n m e =>
    cases b with
    | nan => exact absurd hb Bool.noConfusion
    | inf n' => cases n' <;> simp [numCmp, Num.Less]
    | fin n' m' e' =>
      refine compare_gt_iff_gt.trans ?_
      rw [min_comm]
      exact align_lt_align

theorem numCmp_eq_iff {a b : Machine.Num} (ha : a.isNaN = false) (hb : b.isNaN = false) :
    numCmp a b = .eq ↔ ¬ a.Less b ∧ ¬ b.Less a := by
  rw [← numCmp_lt_iff ha hb, ← numCmp_gt_iff ha hb]
  cases numCmp a b <;> simp

theorem Num.not_less_zeros (n n' : Bool) (e e' : ℤ) : ¬ (Machine.Num.fin n 0 e).Less (.fin n' 0 e') := by
  simp [Less, value]

/-- The order of R251, of two values that are no NaNs. -/
theorem numBelow_iff {a b : Machine.Num} (ha : a.isNaN = false) (hb : b.isNaN = false) : numBelow a b = true ↔ a.Below b := by
  unfold numBelow Num.Below
  cases hc : numCmp a b with
  | lt => simp [(numCmp_lt_iff ha hb).mp hc]
  | gt =>
    have hless : ¬ a.Less b := fun h => by
      rw [(numCmp_lt_iff ha hb).mpr h] at hc
      cases hc
    have hgt := (numCmp_gt_iff ha hb).mp hc
    simp only [Bool.false_eq_true, hless, false_or, false_iff, not_and]
    rintro ⟨e, rfl⟩ ⟨e', rfl⟩
    exact Num.not_less_zeros _ _ _ _ hgt
  | eq =>
    obtain ⟨h1, h2⟩ := (numCmp_eq_iff ha hb).mp hc
    simp only [h1, false_or, Bool.and_eq_true, Bool.not_eq_true']
    constructor
    · rintro ⟨hsa, hsb⟩
      cases a with
      | nan => exact absurd ha Bool.noConfusion
      | inf n =>
        obtain rfl : n = true := hsa
        cases b with
        | nan => exact absurd hb Bool.noConfusion
        | inf n' =>
          obtain rfl : n' = false := hsb
          exact absurd trivial h1
        | fin => exact absurd trivial h1
      | fin n m e =>
        obtain rfl : n = true := hsa
        cases b with
        | nan => exact absurd hb Bool.noConfusion
        | inf n' =>
          obtain rfl : n' = false := hsb
          exact absurd trivial h1
        | fin n' m' e' =>
          obtain rfl : n' = false := hsb
          have hm : 0 ≤ (m : ℚ) * 2 ^ e := by positivity
          have hm' : 0 ≤ (m' : ℚ) * 2 ^ e' := by positivity
          simp only [Num.Less, Num.value, if_true, Bool.false_eq_true, if_false, not_lt, neg_mul, one_mul] at h1 h2
          have h0 : (m : ℚ) * 2 ^ e = 0 := by linarith
          have h0' : (m' : ℚ) * 2 ^ e' = 0 := by linarith
          rw [mul_eq_zero_iff_right (by positivity), Nat.cast_eq_zero] at h0 h0'
          exact ⟨⟨e, by rw [h0]⟩, e', by rw [h0']⟩
    · rintro ⟨⟨e, rfl⟩, e', rfl⟩
      exact ⟨rfl, rfl⟩

theorem Num.Below.not_below {a b : Machine.Num} (ha : a.isNaN = false) (hb : b.isNaN = false) (h : a.Below b) : ¬ b.Below a := by
  obtain h | ⟨⟨e, rfl⟩, e', rfl⟩ := h
  · rintro (h' | ⟨⟨e, rfl⟩, e', rfl⟩)
    · rw [← numCmp_lt_iff ha hb] at h
      rw [← numCmp_gt_iff ha hb, h] at h'
      cases h'
    · exact Num.not_less_zeros _ _ _ _ h
  · rintro (h' | ⟨⟨e, h'⟩, -⟩)
    · exact Num.not_less_zeros _ _ _ _ h'
    · cases h'

theorem isSNaN_or_eq_true (a b : Machine.Num) : (a.isSNaN || b.isSNaN) = true ↔ a = .nan true ∨ b = .nan true := by
  rw [Bool.or_eq_true, Num.isSNaN_iff, Num.isSNaN_iff]

/-- Minima and maxima of two codes (R251). -/
theorem fmtMinMax_minMax (f : Fmt) (isMax num : Bool) (x y : Nat) : f.MinMax isMax num x y (fmtMinMax f isMax num x y) := by
  have hcode : fmtMinMax f isMax num x y =
      (if (f.read x).isNaN && (f.read y).isNaN then (f.shape.map FShape.qNaN).getD 0
        else if (f.read x).isNaN then (if num then y else (f.shape.map FShape.qNaN).getD 0)
        else if (f.read y).isNaN then (if num then x else (f.shape.map FShape.qNaN).getD 0)
        else if (if isMax then numBelow (f.read x) (f.read y) else numBelow (f.read y) (f.read x)) then y else x,
       flagIf ((f.read x).isSNaN || (f.read y).isSNaN) fNV) := by
    unfold fmtMinMax
    generalize f.shape = s
    cases s <;> dsimp only [Option.map, Option.getD] <;> split_ifs <;> rfl
  rw [hcode]
  have hflag := isSNaN_or_eq_true (f.read x) (f.read y)
  unfold Fmt.MinMax
  generalize f.read x = a at *
  generalize f.read y = b at *
  refine ⟨fun h => ?_, fun ha hb => ?_, fun ha hb => ?_, fun ha hb => ?_, fun ha hb => ?_, fun ha hb => ?_⟩
  · simp [hflag.mpr h, flagIf]
  · have hno : (a.isSNaN || b.isSNaN) = false := Bool.eq_false_iff.mpr fun h => (hflag.mp h).elim ha hb
    simp [hno, flagIf]
  · simp [ha, hb]
  · simp [ha, hb]
  · simp [ha, hb]
  · simp only [ha, hb, Bool.and_self, Bool.false_eq_true, if_false]
    have hxy := numBelow_iff ha hb
    have hyx := numBelow_iff hb ha
    refine ⟨fun h => ?_, fun h => ?_, fun h h' => ?_⟩
    · have hno : numBelow b a = false := Bool.eq_false_iff.mpr fun hn => h.not_below ha hb (hyx.mp hn)
      rw [hxy.mpr h, hno]
      cases isMax <;> rfl
    · have hno : numBelow a b = false := Bool.eq_false_iff.mpr fun hn => h.not_below hb ha (hxy.mp hn)
      rw [hyx.mpr h, hno]
      cases isMax <;> rfl
    · have h1 : numBelow a b = false := Bool.eq_false_iff.mpr fun hn => h (hxy.mp hn)
      have h2 : numBelow b a = false := Bool.eq_false_iff.mpr fun hn => h' (hyx.mp hn)
      rw [h1, h2, ite_self, if_neg Bool.false_ne_true]

/-! ### Compares (R252, Table 26.4) -/

theorem Num.Less.not_nan {a b : Machine.Num} (h : a.Less b) : a.isNaN = false ∧ b.isNaN = false := by
  cases a with
  | nan => exact h.elim
  | inf n =>
    cases b with
    | nan => cases n <;> exact h.elim
    | inf | fin => exact ⟨rfl, rfl⟩
  | fin n m e =>
    cases b with
    | nan => exact h.elim
    | inf | fin => exact ⟨rfl, rfl⟩

/-- The conditions of VFCMP by the order of the values. -/
theorem vfCompare_iff (f : Fmt) (x y : Nat) :
    let a := f.read x
    let b := f.read y
    let un := a.isNaN = true ∨ b.isNaN = true
    let eq := ¬ un ∧ ¬ a.Less b ∧ ¬ b.Less a
    let holds (fn : Nat) : Prop := (vfCompare f fn x y).1 = true
    (holds 0 ↔ eq) ∧ (holds 1 ↔ ¬ eq) ∧ (holds 2 ↔ a.Less b) ∧ (holds 3 ↔ a.Less b ∨ eq) ∧ (holds 4 ↔ b.Less a) ∧
    (holds 5 ↔ b.Less a ∨ eq) ∧ (holds 6 ↔ un) ∧ (holds 7 ↔ ¬ un) := by
  intro a b un eq holds
  have hholds (fn : Nat) : holds fn ↔ (vfCompare f fn x y).1 = true := Iff.rfl
  by_cases hun : un
  · have hun' : (a.isNaN || b.isNaN) = true := (Bool.or_eq_true _ _).mpr hun
    have hab : ¬ a.Less b := fun h => hun.elim (fun ha => by simp [h.not_nan.1] at ha) fun hb => by simp [h.not_nan.2] at hb
    have hba : ¬ b.Less a := fun h => hun.elim (fun ha => by simp [h.not_nan.2] at ha) fun hb => by simp [h.not_nan.1] at hb
    simp only [hholds, vfCompare, a, b] at hun' hab hba ⊢
    simp [hun', hab, hba, eq, hun, a, b]
  · obtain ⟨ha, hb⟩ : a.isNaN = false ∧ b.isNaN = false := by simpa [un] using hun
    have hlt := numCmp_lt_iff ha hb
    have hgt := numCmp_gt_iff ha hb
    have hun' : (a.isNaN || b.isNaN) = false := by simp [ha, hb]
    simp only [hholds, vfCompare, a, b] at hun' hlt hgt ⊢
    simp only [hun', eq, hun, ← hlt, ← hgt, a, b]
    cases numCmp (f.read x) (f.read y) <;> simp

end Sys2Proof.Machine
end

section
/-! SUPPORT. The functions of VF32, VF64, VF16 and VBF16 on one element: quotients and square roots rounded once, the sign words,
the class (R250, R251, Table 26.2). -/

namespace Sys2Proof.Machine

/-! ### Quotients (R250) -/

/-- A quotient of whole numbers, of which the integer part is given. -/
theorem Known.div (n : Nat) {d : Nat} (hd : 0 < d) (e : ℤ) : Known (n / d) e (n % d != 0) ((n : ℝ) / d * 2 ^ e) := by
  have hd' : (0 : ℝ) < d := Nat.cast_pos.mpr hd
  have he : (0 : ℝ) < 2 ^ e := by positivity
  have hn : (n : ℝ) / d = (n / d : Nat) + ((n % d : Nat) : ℝ) / d := by
    rw [eq_comm, ← sub_eq_zero]
    have : (n : ℝ) = d * (n / d : Nat) + (n % d : Nat) := by exact_mod_cast (Nat.div_add_mod n d).symm
    rw [this]
    field_simp
    ring
  rw [hn]
  unfold Known
  by_cases h : n % d = 0
  · simp [h]
  · have h1 : 0 < ((n % d : Nat) : ℝ) / d := div_pos (Nat.cast_pos.mpr (Nat.pos_of_ne_zero h)) hd'
    have h2 : ((n % d : Nat) : ℝ) / d < 1 := (div_lt_one hd').mpr (Nat.cast_lt.mpr (Nat.mod_lt n hd))
    rw [if_pos (by simpa using h), mul_lt_mul_iff_of_pos_right he, mul_lt_mul_iff_of_pos_right he]
    constructor <;> linarith

theorem FShape.div_nan (s : FShape) (rm : RMode) {a b : Machine.Num} (h : a.isNaN = true ∨ b.isNaN = true) :
    s.div rm a b = (s.qNaN, flagIf (a.isSNaN || b.isSNaN) fNV) := by
  cases a with
  | nan => rfl
  | inf | fin =>
    cases b with
    | nan sg => simp [div, Num.isSNaN]
    | inf | fin => simp [Num.isNaN] at h

/-- The quotient of two numbers, rounded once. -/
theorem FShape.Wf.div_rounded {s : FShape} (hs : s.Wf) (rm : RMode) (n n' : Bool) {m m' : Nat} (e e' : ℤ) (h : m ≠ 0) (h' : m' ≠ 0) :
    s.Rounded rm (n != n') (m * 2 ^ e / (m' * 2 ^ e')) (s.div rm (.fin n m e) (.fin n' m' e')) := by
  have hcode : s.div rm (.fin n m e) (.fin n' m' e') = s.roundTo rm (n != n') (m * 2 ^ (s.fb + 4 + m'.log2) / m')
      (e - e' - (s.fb + 4 + m'.log2 : Nat)) (m * 2 ^ (s.fb + 4 + m'.log2) % m' != 0) := by
    simp only [div, beq_iff_eq, if_neg h, if_neg h']
  have hm' : 0 < m' := Nat.pos_of_ne_zero h'
  have hlead : 2 ^ (s.fb + 3) ≤ m * 2 ^ (s.fb + 4 + m'.log2) / m' := by
    rw [Nat.le_div_iff_mul_le hm']
    calc 2 ^ (s.fb + 3) * m' ≤ 2 ^ (s.fb + 3) * 2 ^ (m'.log2 + 1) := Nat.mul_le_mul_left _ Nat.lt_log2_self.le
      _ = 2 ^ (s.fb + 4 + m'.log2) := by rw [← pow_add]; congr 1; ring
      _ ≤ m * 2 ^ (s.fb + 4 + m'.log2) := Nat.le_mul_of_pos_left _ (Nat.pos_of_ne_zero h)
  have h0 : m * 2 ^ (s.fb + 4 + m'.log2) / m' ≠ 0 := (lt_of_lt_of_le (Nat.two_pow_pos _) hlead).ne'
  have hknown := Known.div (m * 2 ^ (s.fb + 4 + m'.log2)) hm' (e - e' - (s.fb + 4 + m'.log2 : Nat))
  have hval : ((m * 2 ^ (s.fb + 4 + m'.log2) : Nat) : ℝ) / m' * 2 ^ (e - e' - (s.fb + 4 + m'.log2 : Nat)) =
      m * 2 ^ e / (m' * 2 ^ e') := by
    rw [zpow_sub₀ (by norm_num), zpow_sub₀ (by norm_num), zpow_natCast]
    push_cast
    field_simp
  rw [hval] at hknown
  rw [hcode]
  exact hs.roundTo_rounded rm _ hknown h0 fun _ => (Nat.le_log2 h0).mpr hlead

/-! ### Square roots (R250) -/

/-- A square root, of which the integer part is given. -/
theorem Known.sqrt (v : Nat) (e : ℤ) : Known v.sqrt e (v.sqrt * v.sqrt != v) (Real.sqrt v * 2 ^ e) := by
  have he : (0 : ℝ) < 2 ^ e := by positivity
  have hle : (v.sqrt : ℝ) ≤ Real.sqrt v := Real.nat_sqrt_le_real_sqrt
  have hlt : Real.sqrt v < v.sqrt + 1 := Real.real_sqrt_lt_nat_sqrt_succ
  unfold Known
  by_cases h : v.sqrt * v.sqrt = v
  · have hroot : Real.sqrt v = v.sqrt := by
      conv_lhs => rw [← h]
      rw [Nat.cast_mul, Real.sqrt_mul_self (Nat.cast_nonneg _)]
    simp [h, hroot]
  · rw [if_pos (by simpa using h), mul_lt_mul_iff_of_pos_right he, mul_lt_mul_iff_of_pos_right he]
    refine ⟨hle.lt_of_ne fun heq => h ?_, hlt⟩
    have hsq : (v.sqrt : ℝ) * v.sqrt = v := by rw [heq, Real.mul_self_sqrt (Nat.cast_nonneg _)]
    exact_mod_cast hsq

/-- The square root of a number, rounded once. -/
theorem FShape.Wf.sqrt_rounded {s : FShape} (hs : s.Wf) (rm : RMode) {m : Nat} (e : ℤ) (h : m ≠ 0) :
    s.Rounded rm false (Real.sqrt (m * 2 ^ e)) (s.sqrt rm (.fin false m e)) := by
  let k : Nat := 2 * (s.fb + 4) + (if (e % 2 == 0) then 0 else 1)
  have hcode : s.sqrt rm (.fin false m e) = s.roundTo rm false (m * 2 ^ k).sqrt ((e - k) / 2)
      ((m * 2 ^ k).sqrt * (m * 2 ^ k).sqrt != m * 2 ^ k) := by
    unfold sqrt
    dsimp only
    rw [if_neg (by simpa using h), if_neg Bool.false_ne_true]
  have hk : (e - k) % 2 = 0 ∧ 2 * (s.fb + 4) ≤ k := by
    simp only [k, beq_iff_eq]
    split_ifs <;> omega
  have hval : Real.sqrt (m * 2 ^ k : Nat) * 2 ^ ((e - k) / 2) = Real.sqrt (m * 2 ^ e) := by
    have hpow : (m : ℝ) * 2 ^ e = (m * 2 ^ k : Nat) * (2 ^ ((e - k) / 2)) ^ 2 := by
      rw [← zpow_natCast, ← zpow_mul]
      push_cast
      rw [mul_assoc, ← zpow_natCast (2 : ℝ) k, ← zpow_add₀ (by norm_num)]
      congr 2
      omega
    rw [hpow, Real.sqrt_mul (Nat.cast_nonneg _), Real.sqrt_sq (by positivity)]
  have hlead : 2 ^ (s.fb + 4) ≤ (m * 2 ^ k).sqrt := by
    rw [Nat.le_sqrt, ← pow_add]
    exact (Nat.pow_le_pow_right Nat.two_pos (by omega)).trans (Nat.le_mul_of_pos_left _ (Nat.pos_of_ne_zero h))
  have h0 : (m * 2 ^ k).sqrt ≠ 0 := (lt_of_lt_of_le (Nat.two_pow_pos _) hlead).ne'
  have hknown := Known.sqrt (m * 2 ^ k) ((e - k) / 2)
  rw [hval] at hknown
  rw [hcode]
  refine hs.roundTo_rounded rm _ hknown h0 fun _ => (Nat.le_log2 h0).mpr ((Nat.pow_le_pow_right Nat.two_pos ?_).trans hlead)
  omega

/-! ### Codes by their values (R251) -/

/-- The codes that are worth a number. -/
theorem FShape.read_eq_fin {s : FShape} {x : Nat} (hx : x < 2 ^ s.width) {n : Bool} {m : Nat} {e : ℤ}
    (h : s.read x = .fin n m e) :
    1 - s.bias - s.fb ≤ e ∧ (m < 2 ^ s.fb → e = 1 - s.bias - s.fb) ∧ (m = 0 → x = s.signBit n) := by
  obtain ⟨neg, c, f, hc, hf, rfl⟩ := s.exists_fields hx
  rw [s.read_fields neg hc hf] at h
  split_ifs at h with h1 h2 h3 h4
  · obtain ⟨rfl, rfl, rfl⟩ := Num.fin.inj h
    exact ⟨le_rfl, fun _ => rfl, fun hf0 => by simp [hf0, beq_iff_eq.mp h4]⟩
  · obtain ⟨rfl, rfl, rfl⟩ := Num.fin.inj h
    have hc0 : c ≠ 0 := by simpa using h4
    exact ⟨by omega, fun hlt => by omega, fun h0 => by have := Nat.two_pow_pos s.fb; omega⟩

/-- The class of a code that is worth a number (Table 26.2). -/
theorem FShape.classOf_fin {s : FShape} {x : Nat} (hx : x < 2 ^ s.width) {n : Bool} {m : Nat} {e : ℤ}
    (h : s.read x = .fin n m e) : s.classOf x =
      if m = 0 then (if n then 32 else 64)
      else if (s.read x).value < 2 ^ (1 - s.bias) ∧ -(s.read x).value < 2 ^ (1 - s.bias) then (if n then 16 else 128)
      else if n then 8 else 256 := by
  obtain ⟨he, hsub, -⟩ := read_eq_fin hx h
  have hnormal : ((s.read x).value < 2 ^ (1 - s.bias) ∧ -(s.read x).value < 2 ^ (1 - s.bias)) ↔ m < 2 ^ s.fb := by
    have habs : |(s.read x).value| = m * 2 ^ e := by
      have hpos : (0 : ℚ) ≤ m * 2 ^ e := by positivity
      rw [h]
      cases n <;> simp [Num.value, abs_mul, abs_of_pos (zpow_pos (zero_lt_two' ℚ) e)]
    rw [and_comm, neg_lt, ← abs_lt, habs]
    constructor
    · intro hlt
      by_contra hge
      have hm : (2 : ℚ) ^ s.fb ≤ m := by exact_mod_cast not_lt.mp hge
      have : (2 : ℚ) ^ (1 - s.bias) ≤ m * 2 ^ e := by
        calc (2 : ℚ) ^ (1 - s.bias) = 2 ^ s.fb * 2 ^ (1 - s.bias - s.fb) := by
              rw [← zpow_natCast, ← zpow_add₀ (by norm_num)]
              congr 1
              ring
          _ ≤ m * 2 ^ e := mul_le_mul hm (zpow_le_zpow_right₀ (by norm_num) he) (by positivity) (by positivity)
      exact absurd hlt (not_lt.mpr this)
    · intro hlt
      rw [hsub hlt, zpow_sub₀ (by norm_num), zpow_natCast, ← mul_div_assoc, div_lt_iff₀ (by positivity), mul_comm]
      exact mul_lt_mul_of_pos_left (by exact_mod_cast hlt) (by positivity)
  simp only [hnormal]
  unfold classOf
  rw [h]
  simp only [beq_iff_eq, decide_eq_true_eq]
  split_ifs <;> first | rfl | omega

end Sys2Proof.Machine
end

section
/-! SUPPORT. The special functions: fixed inputs, inputs with an exact result, and RSQRT at every other positive number (R280,
R281). -/

namespace Sys2Proof.Machine

/-! ### Magnitudes that a format holds -/

/-- A multiple of the spacing that a format has at it is rounded to itself in every mode. -/
theorem FShape.Rounded.exact {s : FShape} {rm : RMode} {neg : Bool} {x : ℝ} {r : Nat × XFlags} (h : s.Rounded rm neg x r) {n : Nat}
    (hx : x = n * 2 ^ (max (Int.log 2 x) (1 - s.bias) - s.fb)) (hle : x ≤ s.largest) :
    ((∃ m e, s.read r.1 = .fin neg m e) ∧ ((s.read r.1).value : ℝ) = signed neg x ∧ r.2 = 0) ∧
      ∀ rm', s.Rounded rm' neg x r := by
  obtain ⟨hlt, k, hround, hover, hheld⟩ := h
  dsimp only at hround hover hheld
  have hg : (0 : ℝ) < 2 ^ (max (Int.log 2 x) (1 - s.bias) - s.fb) := by positivity
  have hx0 : 0 ≤ x := by
    rw [hx]
    positivity
  change rm.Rounds (signed neg x / _) k at hround
  have hquot : signed neg x / 2 ^ (max (Int.log 2 x) (1 - s.bias) - s.fb) = ((signed neg (n : ℤ) : ℤ) : ℝ) := by
    rw [signed_div, intCast_signed, div_eq_iff hg.ne' |>.mpr hx]
  rw [hquot] at hround
  obtain rfl := hround.eq_of_intCast
  have hval : ((signed neg (n : ℤ) : ℤ) : ℝ) * 2 ^ (max (Int.log 2 x) (1 - s.bias) - s.fb) = signed neg x := by
    rw [← hquot, div_mul_cancel₀ _ hg.ne']
  have habs : |signed neg x| ≤ s.largest := by rwa [abs_signed, abs_of_nonneg hx0]
  rw [hval] at hheld hover
  obtain ⟨hread, hvalue, hflag, -⟩ := hheld habs
  refine ⟨⟨hread, hvalue, hflag rfl⟩, fun rm' => ⟨hlt, signed neg (n : ℤ), ?_, ?_, ?_⟩⟩
  · change rm'.Rounds (signed neg x / _) _
    rw [hquot]
    exact rm'.rounds_intCast _
  · rw [hval]
    exact fun h => absurd h (not_lt.mpr habs)
  · rw [hval]
    exact fun _ => ⟨hread, hvalue, fun _ => hflag rfl, fun hne => absurd rfl hne⟩

theorem FShape.two_zpow_bias_le {s : FShape} (h : s.noInf = false) : (2 : ℝ) ^ s.bias ≤ s.largest := by
  rw [s.cast_largest, if_neg (by simp [h])]
  have hunit : (2 : ℝ) ^ (-(s.fb : ℤ)) ≤ 1 := zpow_le_one_of_nonpos₀ (by norm_num) (by omega)
  exact le_mul_of_one_le_left (by positivity) (by linarith)

/-- A power of two within a format's range is held exactly. -/
theorem FShape.Wf.two_zpow_exact {s : FShape} (hs : s.Wf) (h : s.noInf = false) (rm : RMode) {k : ℤ} (hlo : 1 - s.bias - s.fb ≤ k)
    (hhi : k ≤ s.bias) :
    let r := s.deliver rm (.fin false 1 k)
    ((∃ m e, s.read r.1 = .fin false m e) ∧ (s.read r.1).value = 2 ^ k ∧ r.2 = 0) ∧ ∀ rm', s.Rounded rm' false (2 ^ k) r := by
  intro r
  have hround := hs.roundTo_exact rm false (m := 1) k one_ne_zero
  rw [Nat.cast_one, one_mul] at hround
  have hlog : Int.log 2 ((2 : ℝ) ^ k) = k := by exact_mod_cast Int.log_zpow (R := ℝ) (b := 2) (by norm_num) k
  have hx : (2 : ℝ) ^ k = (2 ^ (k - (max k (1 - s.bias) - s.fb)).toNat : Nat) * 2 ^ (max (Int.log 2 ((2 : ℝ) ^ k)) (1 - s.bias) - s.fb) := by
    rw [hlog, two_zpow_toNat (by omega), ← zpow_add₀ (by norm_num), sub_add_cancel]
  obtain ⟨⟨hread, hval, hflag⟩, hall⟩ := hround.exact hx
    ((zpow_le_zpow_right₀ (by norm_num) hhi).trans (s.two_zpow_bias_le h))
  refine ⟨⟨hread, ?_, hflag⟩, hall⟩
  have hcast : ((s.read r.1).value : ℝ) = ((2 ^ k : ℚ) : ℝ) := by
    push_cast
    exact hval
  exact_mod_cast hcast

/-- A whole number of no more digits than a format's is held exactly. -/
theorem FShape.Wf.natCast_exact {s : FShape} (hs : s.Wf) (h : s.noInf = false) (hb : (s.fb : ℤ) < s.bias) (rm : RMode) (neg : Bool)
    {n : Nat} (h0 : n ≠ 0) (hn : n < 2 ^ (s.fb + 1)) :
    let r := s.deliver rm (.fin neg n 0)
    (s.read r.1).value = signed neg (n : ℚ) ∧ r.2 = 0 := by
  intro r
  have hr : r = s.roundTo rm neg n 0 := if_neg (by simpa using h0)
  have hround := hs.roundTo_exact rm neg 0 h0
  obtain ⟨-, hlog⟩ := (show Known n 0 false (n * 2 ^ (0 : ℤ)) from rfl).log_eq h0
  rw [zpow_zero, mul_one] at hround hlog
  have hL : n.log2 ≤ s.fb := Nat.lt_succ_iff.mp ((Nat.log2_lt h0).mpr hn)
  have hx : (n : ℝ) = (n * 2 ^ ((s.fb : ℤ) - n.log2).toNat : Nat) * 2 ^ (max (Int.log 2 (n : ℝ)) (1 - s.bias) - s.fb) := by
    rw [hlog, Nat.cast_mul, two_zpow_toNat (by omega), mul_assoc, ← zpow_add₀ (by norm_num),
      show (s.fb : ℤ) - n.log2 + (max ((n.log2 : ℤ) + 0) (1 - s.bias) - s.fb) = 0 by omega, zpow_zero, mul_one]
  have hle : (n : ℝ) ≤ s.largest := by
    refine le_trans ?_ (s.two_zpow_bias_le h)
    calc (n : ℝ) ≤ (2 ^ (s.fb + 1) : Nat) := by exact_mod_cast hn.le
      _ = 2 ^ ((s.fb : ℤ) + 1) := by
        rw [← Nat.cast_add_one, zpow_natCast]
        norm_num
      _ ≤ 2 ^ s.bias := zpow_le_zpow_right₀ (by norm_num) (by omega)
  obtain ⟨⟨-, hval, hflag⟩, -⟩ := hround.exact hx hle
  rw [hr]
  refine ⟨?_, hflag⟩
  have hcast : ((s.read (s.roundTo rm neg n 0).1).value : ℝ) = ((signed neg (n : ℚ) : ℚ) : ℝ) := by
    rw [hval]
    cases neg <;> simp [signed]
  exact_mod_cast hcast

/-! ### RSQRT (R280) -/

/-- The enclosure of RSQRT decides at once. -/
theorem refine_of_decided {sh : FShape} {rm : RMode} {f : Nat → Bounds} {p n : Nat} {r : Nat × XFlags} (hn : n ≠ 0)
    (h : decideBounds sh rm (f p) = some r) : refine sh rm f n p = some r := by
  cases n with
  | zero => exact absurd rfl hn
  | succ n =>
    unfold refine
    rw [h]

/-- Between neighbouring numbers of enough digits everything rounds alike. -/
theorem decideBounds_neighbours (sh : FShape) (rm : RMode) {r : Nat} (e : ℤ) (h : sh.fb + 3 ≤ r.log2) :
    decideBounds sh rm { lo := r, hi := (r : ℤ) + 1, e := e } = some (sh.roundTo rm false r e true) := by
  have hneg : decide ((r : ℤ) + 1 ≤ 0) = false := decide_eq_false (by omega)
  have hy : ((r : ℤ) + 1).toNat = r + 1 := by omega
  unfold decideBounds
  simp only [hneg, Bool.false_eq_true, if_false, Int.toNat_natCast, hy, Nat.add_sub_cancel]
  rw [if_neg (by omega), if_pos trivial]

/-- The digits of a reciprocal square root are its integer part, and it lies above them unless the number is a power of four. -/
theorem rsqrt_known {m k : Nat} (hm : m ≠ 0) (h4 : ∀ j, m ≠ 2 ^ (2 * j)) (e : ℤ) :
    Known (Nat.sqrt (2 ^ (2 * k) / m)) (e - k) true (2 ^ e / Real.sqrt m) := by
  have hm0 : 0 < m := Nat.pos_of_ne_zero hm
  have hroot : 0 < Real.sqrt m := Real.sqrt_pos.mpr (Nat.cast_pos.mpr hm0)
  have hsq : Real.sqrt m * Real.sqrt m = m := Real.mul_self_sqrt (Nat.cast_nonneg m)
  generalize hr : Nat.sqrt (2 ^ (2 * k) / m) = r
  have hle : r * r * m ≤ 2 ^ (2 * k) := by
    have : r * r ≤ 2 ^ (2 * k) / m := hr ▸ Nat.sqrt_le _
    exact (Nat.le_div_iff_mul_le hm0).mp this
  have hlt : 2 ^ (2 * k) < (r + 1) * (r + 1) * m := by
    have : 2 ^ (2 * k) / m < (r + 1) * (r + 1) := hr ▸ Nat.lt_succ_sqrt _
    exact (Nat.div_lt_iff_lt_mul hm0).mp this
  have hne : r * r * m ≠ 2 ^ (2 * k) := by
    intro heq
    obtain ⟨j, -, hj⟩ := (Nat.dvd_prime_pow Nat.prime_two).mp (Dvd.intro_left _ heq)
    obtain ⟨i, -, hi⟩ := (Nat.dvd_prime_pow Nat.prime_two).mp (⟨r * m, by rw [← heq, mul_assoc]⟩ : r ∣ 2 ^ (2 * k))
    rw [hi, hj, ← pow_add, ← pow_add] at heq
    have hsum := Nat.pow_right_injective le_rfl heq
    exact h4 (k - i) (by rw [hj]; congr 1; omega)
  have hpow : (2 : ℝ) ^ e = 2 ^ (e - k) * 2 ^ k := by
    rw [zpow_sub₀ (by norm_num), zpow_natCast]
    field_simp
  have hu : (0 : ℝ) < 2 ^ (e - k) := by positivity
  have hk : (2 : ℝ) ^ (2 * k) = 2 ^ k * 2 ^ k := by rw [two_mul, pow_add]
  refine (if_pos rfl).mpr ⟨?_, ?_⟩
  · rw [lt_div_iff₀ hroot, hpow, mul_comm (r : ℝ), mul_assoc]
    refine mul_lt_mul_of_pos_left (lt_of_mul_self_lt_mul_self₀ (by positivity) ?_) hu
    have : ((r * r * m : Nat) : ℝ) < (2 ^ (2 * k) : Nat) := by exact_mod_cast lt_of_le_of_ne hle hne
    push_cast at this
    nlinarith
  · rw [div_lt_iff₀ hroot, hpow, mul_comm ((r : ℝ) + 1), mul_assoc]
    refine mul_lt_mul_of_pos_left (lt_of_mul_self_lt_mul_self₀ (by positivity) ?_) hu
    have : ((2 ^ (2 * k) : Nat) : ℝ) < ((r + 1) * (r + 1) * m : Nat) := by exact_mod_cast hlt
    push_cast at this
    nlinarith

/-- The working numbers of RSQRT: the number with an even exponent. -/
theorem rsqrt_even (m : Nat) (e : ℤ) :
    let m' := if e % 2 != 0 then 2 * m else m
    let e' := if e % 2 != 0 then e - 1 else e
    (m' : ℝ) * 2 ^ e' = m * 2 ^ e ∧ e' % 2 = 0 := by
  intro m' e'
  by_cases h : e % 2 = 0
  · simp [m', e', h]
  · have hm : m' = 2 * m := if_pos (by simpa using h)
    have he : e' = e - 1 := if_pos (by simpa using h)
    rw [hm, he, zpow_sub_one₀ (by norm_num)]
    push_cast
    exact ⟨by ring, by omega⟩

theorem refineFuel_ne_zero : refineFuel ≠ 0 := (Nat.two_pow_pos 50).ne'

/-- RSQRT of a number that is no even power of two. -/
theorem sfGeneral_rsqrt {sh : FShape} (hs : sh.Wf) (hfb : sh.fb ≤ 70) (wide : Bool) (rm : RMode) (c : Nat) {m : Nat} {e : ℤ} (hm : m ≠ 0)
    (h4 : ∀ j : Nat, m = 2 ^ j → ¬ 2 ∣ (j + e)) :
    sh.Rounded rm false (1 / Real.sqrt (m * 2 ^ e)) (sfGeneral wide sh 9 rm c false m e) := by
  obtain ⟨hval, heven⟩ := rsqrt_even m e
  generalize hm' : (if e % 2 != 0 then 2 * m else m) = m' at *
  generalize he' : (if e % 2 != 0 then e - 1 else e) = e' at *
  have hm0' : m' ≠ 0 := by
    rw [← hm']
    split_ifs <;> omega
  generalize hk : m'.log2 + 80 = k
  generalize hr : Nat.sqrt (2 ^ (2 * k) / m') = r
  have hbounds (p : Nat) : sfBounds 9 false m e p = { lo := r, hi := (r : ℤ) + 1, e := -(e' / 2) - k } := by
    unfold sfBounds
    simp only [hm', he', hk, hr]
  have hlead : 2 ^ 79 ≤ r := by
    rw [← hr, Nat.le_sqrt, Nat.le_div_iff_mul_le (Nat.pos_of_ne_zero hm0')]
    calc 2 ^ 79 * 2 ^ 79 * m' ≤ 2 ^ 79 * 2 ^ 79 * 2 ^ (m'.log2 + 1) := Nat.mul_le_mul_left _ Nat.lt_log2_self.le
      _ = 2 ^ (79 + 79 + (m'.log2 + 1)) := by rw [← pow_add, ← pow_add]
      _ ≤ 2 ^ (2 * k) := Nat.pow_le_pow_right Nat.two_pos (by omega)
  have hr0 : r ≠ 0 := (lt_of_lt_of_le (Nat.two_pow_pos _) hlead).ne'
  have hlog : sh.fb + 3 ≤ r.log2 := le_trans (by omega) ((Nat.le_log2 hr0).mpr hlead)
  have hnot4 (j : Nat) : m' ≠ 2 ^ (2 * j) := by
    intro heq
    by_cases h : e % 2 = 0
    · rw [if_neg (by simpa using h)] at hm'
      exact h4 (2 * j) (hm'.trans heq) (by omega)
    · rw [if_pos (by simpa using h)] at hm'
      cases j with
      | zero => omega
      | succ j =>
        rw [mul_add_one, show 2 * j + 2 = 2 * j + 1 + 1 by ring, pow_succ'] at heq
        exact h4 (2 * j + 1) (by omega) (by omega)
  have hroot : 1 / Real.sqrt (m * 2 ^ e) = 2 ^ (-(e' / 2)) / Real.sqrt m' := by
    have hpow : (2 : ℝ) ^ e' = (2 ^ (e' / 2)) ^ 2 := by
      rw [← zpow_natCast, ← zpow_mul]
      congr 1
      omega
    rw [← hval, hpow, Real.sqrt_mul (Nat.cast_nonneg _), Real.sqrt_sq (by positivity), zpow_neg]
    field_simp
  have hknown := rsqrt_known (k := k) hm0' hnot4 (-(e' / 2))
  rw [hr, ← hroot] at hknown
  have hcode : sfGeneral wide sh 9 rm c false m e = sh.roundTo rm false r (-(e' / 2) - k) true := by
    have hdecided (p : Nat) := (congrArg (decideBounds sh rm) (hbounds p)).trans (decideBounds_neighbours sh rm _ hlog)
    unfold sfGeneral
    dsimp only
    rw [refine_of_decided refineFuel_ne_zero (hdecided _)]
    rfl
  rw [hcode]
  exact hs.roundTo_rounded rm false hknown hr0 fun _ => hlog

/-! ### One element (R280, Table 30.3) -/

/-- The shape of SF32 or of SF64. -/
def sfShape (wide : Bool) : FShape := if wide then shapeF64 else shapeF32

theorem sfShape_wf (wide : Bool) : (sfShape wide).Wf := by
  cases wide
  · exact Fmt.shape_wf (f := .f32) rfl
  · exact Fmt.shape_wf (f := .f64) rfl

theorem sfShape_noInf (wide : Bool) : (sfShape wide).noInf = false := by cases wide <;> rfl

/-- The exponents and the digits of the numbers that codes are worth. -/
theorem FShape.Wf.read_fin_bounds {s : FShape} (hs : s.Wf) (hno : s.noInf = false) {c : Nat} {n : Bool} {m : Nat} {e : ℤ}
    (h : s.read c = .fin n m e) : 1 - s.bias - s.fb ≤ e ∧ e ≤ s.bias - s.fb ∧ m < 2 ^ (s.fb + 1) := by
  have hf : c % 2 ^ s.fb < 2 ^ s.fb := Nat.mod_lt _ (Nat.two_pow_pos _)
  have hc : c / 2 ^ s.fb % 2 ^ s.eb < 2 ^ s.eb := Nat.mod_lt _ (Nat.two_pow_pos _)
  have hb := s.bias_eq
  have heb := hs.two_pow_eb
  have h8 := hs.eight_le
  have hmax : s.expMax = 2 ^ s.eb - 1 := rfl
  have hpow : 2 ^ (s.fb + 1) = 2 ^ s.fb + 2 ^ s.fb := by rw [pow_succ]; ring
  unfold read at h
  simp only [hno, Bool.false_and, Bool.not_false, Bool.true_and, Bool.false_eq_true, if_false, beq_iff_eq] at h
  split_ifs at h with h1 h2 h3
  · obtain ⟨-, rfl, rfl⟩ := Num.fin.inj h
    exact ⟨le_rfl, by omega, by omega⟩
  · obtain ⟨-, rfl, rfl⟩ := Num.fin.inj h
    exact ⟨by omega, by omega, by omega⟩

section
variable {wide : Bool} {rm : RMode} {c : Nat} {n : Bool} {m : Nat} {e : ℤ}

theorem sfElem_nan {sh : FShape} {sg : Bool} (h : sh.read c = .nan sg) (fn : Nat) :
    sfElem wide sh fn rm c = (sh.qNaN, flagIf sg fNV) := by
  unfold sfElem
  rw [h]

/-- The results at the infinities (Table 30.3). -/
theorem sfElem_inf {sh : FShape} {neg : Bool} (h : sh.read c = .inf neg) (fn : Nat) :
    let code (neg : Bool) (m : Nat) (e : Int) : Nat := (sh.deliver .rne (.fin neg m e)).1
    let nan : Nat × XFlags := (sh.qNaN, fNV)
    sfElem wide sh fn rm c = match fn with
      | 0 | 1 => (if neg then 0 else sh.inf false, 0)
      | 2 => (if neg then code true 1 0 else sh.inf false, 0)
      | 3 | 4 | 5 => if neg then nan else (sh.inf false, 0)
      | 6 => (code neg 1 0, 0)
      | 7 => (if neg then code false 2 0 else 0, 0)
      | 8 => (if neg then 0 else code false 1 0, 0)
      | _ => if neg then nan else (0, 0) := by
  unfold sfElem
  rw [h] <;> rfl

/-- The results at the zeros (Table 30.3). -/
theorem sfElem_zero {sh : FShape} (h : sh.read c = .fin n 0 e) (fn : Nat) :
    let code (neg : Bool) (m : Nat) (e : Int) : Nat := (sh.deliver .rne (.fin neg m e)).1
    sfElem wide sh fn rm c = match fn with
      | 0 | 1 | 7 => (code false 1 0, 0)
      | 3 | 4 => (sh.inf true, fDZ)
      | 8 => (code false 1 (-1), 0)
      | 9 => (sh.inf n, fDZ)
      | _ => (sh.signBit n, 0) := by
  unfold sfElem
  rw [h]
  rfl

variable {sh : FShape} (h : sh.read c = .fin n m e) (h0 : m ≠ 0)
include h h0

/-- EXP2 of a number. -/
theorem sfElem_exp2 : sfElem wide sh 1 rm c =
    if 0 ≤ e ∨ m % 2 ^ (-e).toNat = 0 then
      if 12 ≤ (m.log2 : ℤ) + e then sfGeneral wide sh 1 rm c n m e
      else sh.deliver rm (.fin false 1 (align n m e (min e 0) / 2 ^ (max 0 (-e)).toNat))
    else sfGeneral wide sh 1 rm c n m e := by
  obtain ⟨m, rfl⟩ := Nat.exists_eq_succ_of_ne_zero h0
  unfold sfElem
  rw [h]
  rfl

/-- LOG of a number. -/
theorem sfElem_log : sfElem wide sh 3 rm c =
    if n then (sh.qNaN, fNV) else if numCmp (.fin false m e) (.fin false 1 0) == .eq then (0, 0)
    else sfGeneral wide sh 3 rm c n m e := by
  obtain ⟨m, rfl⟩ := Nat.exists_eq_succ_of_ne_zero h0
  unfold sfElem
  rw [h]
  rfl

/-- LOG2 of a number. -/
theorem sfElem_log2 : sfElem wide sh 4 rm c =
    if n then (sh.qNaN, fNV)
    else if isPow2 m then (if (m.log2 : ℤ) + e = 0 then 0
      else (sh.deliver .rne (.fin (decide ((m.log2 : ℤ) + e < 0)) ((m.log2 : ℤ) + e).natAbs 0)).1, 0)
    else sfGeneral wide sh 4 rm c n m e := by
  obtain ⟨m, rfl⟩ := Nat.exists_eq_succ_of_ne_zero h0
  unfold sfElem
  rw [h]
  rfl

/-- LOG1P of a number. -/
theorem sfElem_log1p : sfElem wide sh 5 rm c =
    if n && numCmp (.fin false m e) (.fin false 1 0) == .eq then (sh.inf true, fDZ)
    else if n && numCmp (.fin false m e) (.fin false 1 0) == .gt then (sh.qNaN, fNV)
    else sfGeneral wide sh 5 rm c n m e := by
  obtain ⟨m, rfl⟩ := Nat.exists_eq_succ_of_ne_zero h0
  unfold sfElem
  rw [h]
  rfl

/-- RSQRT of a number. -/
theorem sfElem_rsqrt : sfElem wide sh 9 rm c =
    if n then (sh.qNaN, fNV)
    else if isPow2 m && ((m.log2 : ℤ) + e) % 2 == 0 then ((sh.deliver .rne (.fin false 1 (-(((m.log2 : ℤ) + e) / 2)))).1, 0)
    else sfGeneral wide sh 9 rm c n m e := by
  obtain ⟨m, rfl⟩ := Nat.exists_eq_succ_of_ne_zero h0
  unfold sfElem
  rw [h]
  rfl

end

end Sys2Proof.Machine
end

section
/-! SUPPORT. The parts of R59 to R72, R250 to R252, put together from the lemmas above. -/

namespace Sys2Proof.Machine

/-- A flag that stands where a condition holds. -/
theorem flagIf_nv {b : Bool} {c : Prop} (h : b = true ↔ c) : (c → flagIf b fNV = fNV) ∧ (¬ c → flagIf b fNV = 0) := by
  cases b
  · exact ⟨fun hc => absurd (h.mpr hc) Bool.false_ne_true, fun _ => rfl⟩
  · exact ⟨fun _ => rfl, fun hc => absurd (h.mp rfl) hc⟩

/-- A magnitude that is given, or lies strictly above a number and below the next. -/
theorem known_of_above {m : Nat} {e : ℤ} {above : Bool} {x : ℝ} (hexact : above = false → x = m * 2 ^ e)
    (habove : above = true → m * 2 ^ e < x ∧ x < (m + 1) * 2 ^ e) : Known m e above x := by
  unfold Known
  cases above with
  | false => exact hexact rfl
  | true => exact habove rfl

/-- The formats of VF32, VF64, VF16 and VBF16 hold the infinities. -/
theorem Fmt.noInf_of_vf {f : Fmt} {s : FShape} (h : f.shape = some s) (hf : f ∈ [Fmt.f32, .f64, .f16, .bf16]) : s.noInf = false := by
  simp only [List.mem_cons, List.not_mem_nil, or_false] at hf
  obtain rfl | rfl | rfl | rfl := hf <;> cases h <;> rfl

/-! ### Codes (R59, R60, R63) -/

/-- What a binary floating code with the greatest exponent is. -/
theorem FShape.read_top (s : FShape) (neg : Bool) {m : Nat} (hm : m < 2 ^ s.fb) :
    (s.noInf = false → s.read (s.signBit neg + s.expMax * 2 ^ s.fb + m) = if m = 0 then .inf neg else .nan (decide (m < 2 ^ (s.fb - 1)))) ∧
    (s.noInf = true → m = 2 ^ s.fb - 1 → s.read (s.signBit neg + s.expMax * 2 ^ s.fb + m) = .nan false) := by
  have he : s.expMax < 2 ^ s.eb := Nat.sub_lt (Nat.two_pow_pos _) Nat.one_pos
  rw [s.read_fields neg he hm]
  constructor
  · intro hno
    simp [hno]
  · intro hno htop
    simp [hno, htop]

/-! ### The sign words (R251) -/

/-- The sign words on codes of one bit more than `b`. -/
theorem sign_words {b x y : Nat} (hx : x < 2 * b) (hy : y < 2 * b) :
    (x + b) % (2 * b) = (if x < b then x + b else x - b) ∧ x % b + y / b * b = (if y < b then 0 else b) + x % b := by
  constructor
  · split_ifs with h
    · exact Nat.mod_eq_of_lt (by omega)
    · rw [show x + b = x - b + 2 * b by omega, Nat.add_mod_right, Nat.mod_eq_of_lt (by omega)]
  · split_ifs with h
    · rw [Nat.div_eq_of_lt h, zero_mul, zero_add, add_zero]
    · rw [Nat.div_eq_of_lt_le (k := 1) (by omega) (by omega), one_mul, add_comm]

/-! ### Quotients and square roots at infinities and zeros (R250) -/

section
variable {s : FShape} (rm : RMode)

theorem FShape.div_inf_fin (hno : s.noInf = false) (n n' : Bool) (m : Nat) (e : ℤ) :
    s.read (s.div rm (.inf n) (.fin n' m e)).1 = .inf (n != n') ∧ (s.div rm (.inf n) (.fin n' m e)).2 = 0 :=
  ⟨(read_inf hno _).2, rfl⟩

theorem FShape.div_fin_zero (hno : s.noInf = false) (n n' : Bool) (m : Nat) (e e' : ℤ) :
    let r := s.div rm (.fin n m e) (.fin n' 0 e')
    if m = 0 then r = (s.qNaN, fNV) else s.read r.1 = .inf (n != n') ∧ r.2 = fDZ := by
  intro r
  have hr : r = if m = 0 then (s.qNaN, fNV) else (s.inf (n != n'), fDZ) := by
    simp only [r, div, beq_self_eq_true, if_true, beq_iff_eq]
  rw [hr]
  split_ifs
  · rfl
  · exact ⟨(read_inf hno _).2, rfl⟩

theorem FShape.Wf.div_fin (hs : s.Wf) (n n' : Bool) (m : Nat) {m' : Nat} (e e' : ℤ) (h' : m' ≠ 0) :
    let r := s.div rm (.fin n m e) (.fin n' m' e')
    if m = 0 then r = (if n != n' then 2 ^ (s.width - 1) else 0, 0) else s.Rounded rm (n != n') (m * 2 ^ e / (m' * 2 ^ e')) r := by
  intro r
  split_ifs with h h''
  · simp only [r, h, div, beq_self_eq_true, if_true, beq_iff_eq, if_neg h', s.signBit_eq, h'']
  · simp only [r, h, div, beq_self_eq_true, if_true, beq_iff_eq, if_neg h', s.signBit_eq, h'', if_false, Bool.false_eq_true]
  · exact hs.div_rounded rm n n' e e' h h'

theorem FShape.Wf.sqrt_fin (hs : s.Wf) {x : Nat} (hx : x < 2 ^ s.width) {n : Bool} {m : Nat} {e : ℤ} (h : s.read x = .fin n m e) :
    let r := s.sqrt rm (.fin n m e)
    if m = 0 then r = (x, 0) else if n = true then r = (s.qNaN, fNV) else s.Rounded rm false (Real.sqrt (m * 2 ^ e)) r := by
  intro r
  obtain ⟨-, -, hzero⟩ := read_eq_fin hx h
  split_ifs with h0 hn
  · simp only [r, sqrt, h0, beq_self_eq_true, if_true, hzero h0]
  · simp only [r, sqrt, beq_iff_eq, if_neg h0, if_pos hn]
  · obtain rfl : n = false := Bool.eq_false_iff.mpr hn
    exact hs.sqrt_rounded rm e h0

end

theorem FShape.classOf_nan_inf {s : FShape} {x : Nat} :
    (s.read x = .nan true → s.classOf x = 1) ∧ (s.read x = .nan false → s.classOf x = 2) ∧
    (s.read x = .inf true → s.classOf x = 4) ∧ (s.read x = .inf false → s.classOf x = 512) := by
  refine ⟨fun h => ?_, fun h => ?_, fun h => ?_, fun h => ?_⟩ <;> simp [classOf, h]

end Sys2Proof.Machine
end

section
/-! SUPPORT. SF32 and SF64 at the inputs of Table 30.3, and RSQRT (R280). -/

namespace Sys2Proof.Machine

/-! ### Powers of two and whole numbers -/

/-- A number that is worth a power of two is one. -/
theorem isPow2_of_value {m : Nat} {e k : ℤ} (h : (m : ℚ) * 2 ^ e = 2 ^ k) : isPow2 m = true ∧ (m.log2 : ℤ) + e = k := by
  have hm0 : m ≠ 0 := by
    rintro rfl
    rw [Nat.cast_zero, zero_mul] at h
    exact absurd h (by positivity)
  have hle : e ≤ k := by
    rw [← zpow_le_zpow_iff_right₀ (one_lt_two (α := ℚ)), ← h]
    exact le_mul_of_one_le_left (by positivity) (by exact_mod_cast Nat.one_le_iff_ne_zero.mpr hm0)
  have hm : m = 2 ^ (k - e).toNat := by
    have hcast : (m : ℚ) = 2 ^ (k - e) := by rw [zpow_sub₀ (by norm_num), ← h, mul_div_cancel_right₀ _ (by positivity)]
    rw [← Int.toNat_of_nonneg (show 0 ≤ k - e by omega), zpow_natCast] at hcast
    exact_mod_cast hcast
  unfold isPow2
  rw [hm, Nat.log2_two_pow]
  exact ⟨beq_self_eq_true _, by omega⟩

theorem value_of_isPow2 {m : Nat} (h : isPow2 m = true) (e : ℤ) : (m : ℝ) * 2 ^ e = 2 ^ ((m.log2 : ℤ) + e) := by
  conv_lhs => rw [beq_iff_eq.mp h]
  rw [zpow_add₀ (by norm_num), zpow_natCast]
  push_cast
  rfl

/-- A number that is worth an integer has no digit below the point. -/
theorem align_of_value {n : Bool} {m : Nat} {e k : ℤ} (h : (Machine.Num.fin n m e).value = k) :
    (0 ≤ e ∨ m % 2 ^ (-e).toNat = 0) ∧ align n m e (min e 0) / 2 ^ (max 0 (-e)).toNat = k := by
  have halign : align n m e (min e 0) = k * 2 ^ (max 0 (-e)).toNat := by
    have hval := align_mul n m (min_le_left e 0)
    rw [h, show min e 0 = -((max 0 (-e)).toNat : ℤ) by omega, zpow_neg, zpow_natCast, ← div_eq_mul_inv,
      div_eq_iff (by positivity)] at hval
    rw [show min e 0 = -((max 0 (-e)).toNat : ℤ) by omega]
    exact_mod_cast hval
  refine ⟨?_, by rw [halign, Int.mul_ediv_cancel _ (by positivity)]⟩
  obtain he | he := le_or_gt 0 e
  · exact .inl he
  · refine .inr (Nat.mod_eq_zero_of_dvd ?_)
    have hm : (m : ℤ) = (align n m e (min e 0)).natAbs := by
      have hzero : (e - min e 0).toNat = 0 := by omega
      unfold align
      simp only [hzero, pow_zero, mul_one]
      cases n <;> simp
    rw [halign, show max 0 (-e) = -e by omega, Int.natAbs_mul, Int.natAbs_pow] at hm
    have hm' : m = k.natAbs * 2 ^ (-e).toNat := by exact_mod_cast hm
    exact Dvd.intro_left _ hm'.symm

theorem Num.value_fin_neg (m : Nat) (e : ℤ) : (Machine.Num.fin true m e).value = -(m * 2 ^ e) := by simp [value]

theorem Num.value_fin_pos (m : Nat) (e : ℤ) : (Machine.Num.fin false m e).value = m * 2 ^ e := by simp [value]

theorem numCmp_one {m : Nat} {e : ℤ} :
    (numCmp (.fin false m e) (.fin false 1 0) = .eq ↔ (m : ℚ) * 2 ^ e = 1) ∧
    (numCmp (.fin false m e) (.fin false 1 0) = .gt ↔ 1 < (m : ℚ) * 2 ^ e) := by
  rw [numCmp_eq_iff rfl rfl, numCmp_gt_iff rfl rfl]
  simp [Num.Less, Num.value_fin_pos, le_antisymm_iff, and_comm]

theorem Num.pos_of_value {n : Bool} {m : Nat} {e : ℤ} (h : 0 < (Machine.Num.fin n m e).value) : n = false ∧ m ≠ 0 := by
  constructor
  · cases n with
    | false => rfl
    | true =>
      rw [value_fin_neg] at h
      exact absurd h (not_lt.mpr (neg_nonpos.mpr (by positivity)))
  · rintro rfl
    simp [value] at h

/-! ### The inputs of Table 30.3 -/

/-- The codes that the results of Table 30.3 are. -/
theorem sfShape_codes (wide : Bool) :
    let sh := sfShape wide
    let code (neg : Bool) (m : Nat) (e : Int) : Nat := (sh.deliver .rne (.fin neg m e)).1
    let one := (2 ^ (sh.eb - 1) - 1) * 2 ^ sh.fb
    let minus := 2 ^ (sh.width - 1)
    let inf := (2 ^ sh.eb - 1) * 2 ^ sh.fb
    code false 1 0 = one ∧ code true 1 0 = minus + one ∧ code false 2 0 = one + 2 ^ sh.fb ∧ code false 1 (-1) = one - 2 ^ sh.fb ∧
    sh.inf false = inf ∧ sh.inf true = minus + inf := by
  cases wide <;> decide +kernel

theorem sfShape_range (wide : Bool) : (sfShape wide).bias ≤ 1023 ∧ (sfShape wide).fb ≤ 52 ∧ 23 ≤ (sfShape wide).fb ∧
    100 ≤ (sfShape wide).bias ∧ ((sfShape wide).fb : ℤ) < (sfShape wide).bias := by
  cases wide <;> decide

section
variable {wide : Bool} (rm : RMode) {c : Nat} {n : Bool} {m : Nat} {e : ℤ}

/-- LOG and LOG2 of one. -/
theorem sfElem_log_one (h : (sfShape wide).read c = .fin n m e) (hv : ((sfShape wide).read c).value = 1) :
    sfElem wide (sfShape wide) 3 rm c = (0, 0) ∧ sfElem wide (sfShape wide) 4 rm c = (0, 0) := by
  rw [h] at hv
  obtain ⟨rfl, h0⟩ := Num.pos_of_value (by rw [hv]; exact one_pos)
  rw [Num.value_fin_pos] at hv
  obtain ⟨hpow, htop⟩ := isPow2_of_value (k := 0) hv
  rw [sfElem_log h h0, sfElem_log2 h h0, numCmp_one.1.mpr hv, hpow, htop]
  exact ⟨rfl, rfl⟩

/-- EXP2 of an integer. -/
theorem sfElem_exp2_int {k : ℤ} (h : (sfShape wide).read c = .fin n m e) (hv : ((sfShape wide).read c).value = k)
    (hlo : 1 - (sfShape wide).bias - (sfShape wide).fb ≤ k) (hhi : k ≤ (sfShape wide).bias) :
    let sh := sfShape wide
    let r := sfElem wide sh 1 rm c
    (∃ m' e', sh.read r.1 = .fin false m' e') ∧ (sh.read r.1).value = 2 ^ k ∧ r.2 = 0 := by
  intro sh r
  obtain ⟨hb, hfb, -⟩ := sfShape_range wide
  have hexact (rm' : RMode) := ((sfShape_wf wide).two_zpow_exact (sfShape_noInf wide) rm' hlo hhi).1
  rw [h] at hv
  by_cases h0 : m = 0
  · obtain rfl : k = 0 := by
      rw [h0] at hv
      simp only [Num.value, Nat.cast_zero, mul_zero, zero_mul] at hv
      exact_mod_cast hv.symm
    rw [h0] at h
    rw [show r = _ from sfElem_zero h 1]
    obtain ⟨hread, hvalue, -⟩ := hexact .rne
    exact ⟨hread, hvalue, rfl⟩
  · obtain ⟨hwhole, halign⟩ := align_of_value hv
    have hsmall : ¬ 12 ≤ (m.log2 : ℤ) + e := by
      rw [not_le, log2_add_lt_iff h0]
      have habs : |(Machine.Num.fin n m e).value| < 2 ^ 12 := by
        rw [hv, abs_lt]
        constructor <;> norm_cast <;> omega
      have hcast : |((Machine.Num.fin n m e).value : ℝ)| = m * 2 ^ e := by
        rw [Num.cast_value, abs_signed, abs_of_nonneg (by positivity)]
      rw [← hcast]
      exact_mod_cast habs
    rw [show r = _ from sfElem_exp2 h h0, if_pos hwhole, if_neg hsmall, halign]
    exact hexact rm

/-- LOG2 and RSQRT of a power of two. -/
theorem sfElem_two_zpow {k : ℤ} (h : (sfShape wide).read c = .fin false m e) (hv : ((sfShape wide).read c).value = 2 ^ k) :
    let sh := sfShape wide
    let r := sfElem wide sh 4 rm c
    let q := sfElem wide sh 9 rm c
    (sh.read r.1).value = k ∧ r.2 = 0 ∧ (k % 2 = 0 → (sh.read q.1).value = 2 ^ (-(k / 2)) ∧ q.2 = 0) := by
  intro sh r q
  obtain ⟨hb, hfb, hfb', hb', hlt⟩ := sfShape_range wide
  obtain ⟨he, he', hm⟩ := (sfShape_wf wide).read_fin_bounds (sfShape_noInf wide) h
  rw [h] at hv
  obtain ⟨-, h0⟩ := Num.pos_of_value (by rw [hv]; positivity)
  rw [Num.value_fin_pos] at hv
  obtain ⟨hpow, htop⟩ := isPow2_of_value hv
  have hlog : m.log2 < (sfShape wide).fb + 1 := (Nat.log2_lt h0).mpr hm
  refine ⟨?_, ?_, fun heven => ?_⟩
  · rw [show r = _ from sfElem_log2 h h0, if_neg Bool.false_ne_true, if_pos hpow, htop]
    by_cases hk : k = 0
    · obtain ⟨e0, hzero⟩ : ∃ e0, (sfShape wide).read 0 = .fin false 0 e0 := by cases wide <;> exact ⟨_, rfl⟩
      rw [if_pos hk, hk]
      change ((sfShape wide).read 0).value = ((0 : ℤ) : ℚ)
      rw [hzero, Num.value_fin_pos, Nat.cast_zero, zero_mul, Int.cast_zero]
    · rw [if_neg hk]
      have hsize : k.natAbs < 2 ^ ((sfShape wide).fb + 1) :=
        lt_of_lt_of_le (show k.natAbs < 2 ^ 24 by omega) (Nat.pow_le_pow_right Nat.two_pos (by omega))
      obtain ⟨hval, -⟩ := (sfShape_wf wide).natCast_exact (sfShape_noInf wide) hlt .rne (decide (k < 0))
        (Int.natAbs_ne_zero.mpr hk) hsize
      refine hval.trans ?_
      have := Num.value_of_int k 0
      simp only [Num.value, zpow_zero, mul_one] at this
      unfold signed
      rw [← this]
      split_ifs <;> ring
  · rw [show r = _ from sfElem_log2 h h0, if_neg Bool.false_ne_true, if_pos hpow]
  · rw [show q = _ from sfElem_rsqrt h h0, if_neg Bool.false_ne_true, hpow, htop, heven]
    exact ⟨((sfShape_wf wide).two_zpow_exact (sfShape_noInf wide) .rne (by omega) (by omega)).1.2.1, rfl⟩

/-- RSQRT of a positive number, rounded once. -/
theorem sfElem_rsqrt_rounded (h : (sfShape wide).read c = .fin false m e) (h0 : m ≠ 0) :
    (sfShape wide).Rounded rm false (1 / Real.sqrt (m * 2 ^ e)) (sfElem wide (sfShape wide) 9 rm c) := by
  obtain ⟨hb, hfb, hfb', hb', -⟩ := sfShape_range wide
  obtain ⟨he, he', hm⟩ := (sfShape_wf wide).read_fin_bounds (sfShape_noInf wide) h
  have hlog : m.log2 < (sfShape wide).fb + 1 := (Nat.log2_lt h0).mpr hm
  rw [sfElem_rsqrt h h0, if_neg Bool.false_ne_true]
  by_cases hpow : isPow2 m = true ∧ ((m.log2 : ℤ) + e) % 2 = 0
  · obtain ⟨hp, heven⟩ := hpow
    rw [if_pos (by simp [hp, heven])]
    generalize hk : (m.log2 : ℤ) + e = k at *
    have hroot : 1 / Real.sqrt (m * 2 ^ e) = 2 ^ (-(k / 2)) := by
      have hsq : (m : ℝ) * 2 ^ e = (2 ^ (k / 2)) ^ 2 := by
        rw [value_of_isPow2 hp, hk, ← zpow_natCast, ← zpow_mul]
        congr 1
        omega
      rw [hsq, Real.sqrt_sq (by positivity), zpow_neg, one_div]
    obtain ⟨⟨-, -, hflag⟩, hall⟩ := (sfShape_wf wide).two_zpow_exact (sfShape_noInf wide) .rne (k := -(k / 2)) (by omega) (by omega)
    rw [hroot]
    convert hall rm using 1
    exact Prod.ext rfl hflag.symm
  · rw [if_neg (by simpa using hpow)]
    refine sfGeneral_rsqrt (sfShape_wf wide) (by omega) wide rm c h0 fun j hj hdvd => hpow ?_
    rw [hj, Nat.log2_two_pow]
    exact ⟨by rw [isPow2, Nat.log2_two_pow, beq_self_eq_true], Int.emod_eq_zero_of_dvd hdvd⟩

end

/-- LOG1P at minus one and below. -/
theorem sfElem_log1p_neg {wide : Bool} (rm : RMode) {c m : Nat} {e : ℤ} (h : (sfShape wide).read c = .fin true m e) (h0 : m ≠ 0) :
    (((sfShape wide).read c).value = -1 → sfElem wide (sfShape wide) 5 rm c = ((sfShape wide).inf true, fDZ)) ∧
    (((sfShape wide).read c).value < -1 → sfElem wide (sfShape wide) 5 rm c = ((sfShape wide).qNaN, fNV)) := by
  rw [h, Num.value_fin_neg, sfElem_log1p h h0]
  constructor
  · intro hv
    rw [numCmp_one.1.mpr (neg_injective hv)]
    rfl
  · intro hv
    rw [numCmp_one.2.mpr (neg_lt_neg_iff.mp hv)]
    rfl

end Sys2Proof.Machine
end

section
open Sys2Proof Sys2Proof.Machine

/-- Settles O59: `roundTo_rounded` says what the rounding of an exact magnitude delivers, and the functions of
R250 to R252 and R280 hand it the magnitudes they should. -/
theorem numbersRound : Obligations.NumbersRound := by
  unfold Obligations.NumbersRound
  refine ⟨?codes, ⟨?round, Fmt.deliver_delivered, fun f g rm x => g.deliver_delivered rm (f.read x)⟩,
    ⟨fun a b => numMul_nan, numAdd_inf_inf, num_inf_fin, fun _ _ => rfl, numMul_fin, numAdd_fin⟩, ?elements, ?compares, ?special⟩
  case codes =>
    refine ⟨⟨rfl, rfl, rfl, rfl, rfl, rfl, rfl, fun _ _ => rfl⟩, fun f s neg e m hf he hm => ?_, fun sg k x => Fmt.value_int sg,
      fun neg l => Fmt.value_lg8 neg, by decide, by decide, by decide, by decide, by decide, by decide⟩
    refine ⟨s.bias_eq.trans ?_, Fmt.read_of_shape hf _, fun hno htop => ?_, fun hno htop => ?_, fun hfin => ?_⟩
    · push_cast [Nat.one_le_two_pow]
      rfl
    · exact htop ▸ (s.read_top neg hm).1 hno
    · exact htop ▸ (s.read_top neg hm).2 hno
    · exact s.value_fields neg he hm hfin
  case round =>
    intro f s rm neg above m e x hf h0 hexact habove
    exact (Fmt.shape_wf hf).roundTo_rounded rm neg (known_of_above hexact fun h => (habove h).2) h0 fun h => (habove h).1
  case elements =>
    intro f s hf hvf rm x y t hx hy ht
    have hs := Fmt.shape_wf hf
    have hno := Fmt.noInf_of_vf hf hvf
    have hdeliver (v : Machine.Num) := Fmt.delivered_of_shape hf rm v
    have hwidth : 2 ^ s.width = 2 * 2 ^ (s.width - 1) := by
      rw [← pow_succ', Nat.sub_add_cancel (by unfold FShape.width; omega)]
    have hsign : s.signBit true = 2 ^ (s.width - 1) := s.signBit_eq true
    obtain ⟨hneg, hcopy⟩ := sign_words (hwidth ▸ hx) (hwidth ▸ hy)
    obtain ⟨hsnan, hqnan, hminf, hpinf⟩ := s.classOf_nan_inf (x := x)
    intro a b d g delivers fused nan nv sgn
    have ha : a = s.read x := Fmt.read_of_shape hf x
    have hdiv {u v : Machine.Num} (hu : a = u) (hv : b = v) : g 6 = s.div rm u v := congrArg₂ (s.div rm) hu hv
    have hsqrt {u : Machine.Num} (hu : a = u) : g 7 = s.sqrt rm u := congrArg (s.sqrt rm) hu
    refine ⟨⟨_, hdeliver _, rfl⟩, ⟨_, hdeliver _, rfl⟩, ⟨_, hdeliver _, rfl⟩, ⟨_, hdeliver _, rfl⟩, ⟨_, hdeliver _, rfl⟩,
      ⟨_, hdeliver _, rfl⟩, fun h => ?_, fun n n' hu hv => hdiv hu hv, fun n n' m e hu hv => ?_, fun n n' m e hu hv => ?_,
      fun n n' m e e' hu hv => ?_, fun n n' m m' e e' hu hv h' => ?_, fun h => ?_, fun hu => hsqrt hu, fun hu => ?_,
      fun n m e hu => ?_, fmtMinMax_minMax f false false x y, fmtMinMax_minMax f true false x y, fmtMinMax_minMax f false true x y,
      fmtMinMax_minMax f true true x y, ?_, ?_, ?_, rfl, ha ▸ hsnan, ha ▸ hqnan, ha ▸ hminf, ha ▸ hpinf, fun n m e hu => ?_⟩
    · rw [show g 6 = _ from s.div_nan rm h]
      exact ⟨rfl, flagIf_nv (isSNaN_or_eq_true a b)⟩
    · rw [hdiv hu hv]
      exact s.div_inf_fin rm hno n n' m e
    · rw [hdiv hu hv, ← s.signBit_eq]
      rfl
    · rw [hdiv hu hv]
      exact s.div_fin_zero rm hno n n' m e e'
    · rw [hdiv hu hv]
      exact hs.div_fin rm n n' m e e' h'
    · cases hu : a with
      | nan sg =>
        rw [hsqrt hu]
        exact ⟨rfl, flagIf_nv (by simp)⟩
      | inf | fin => simp [hu, Num.isNaN] at h
    · rw [hsqrt hu]
      exact ⟨(FShape.read_inf hno false).2, rfl⟩
    · rw [hsqrt hu]
      exact hs.sqrt_fin rm hx (ha.symm.trans hu)
    · exact Prod.ext (congrArg (x % ·) hsign) rfl
    · rw [← hneg, ← hsign]
      rfl
    · rw [← hcopy, ← hsign]
      rfl
    · rw [ha]
      exact FShape.classOf_fin hx (ha.symm.trans hu)
  case compares =>
    intro f _ x y a b un sgn eq is
    obtain ⟨h0, h1, h2, h3, h4, h5, h6, h7⟩ := vfCompare_iff f x y
    have hsgn := flagIf_nv (isSNaN_or_eq_true a b)
    have hun := flagIf_nv (Bool.or_eq_true a.isNaN b.isNaN ▸ Iff.rfl : (a.isNaN || b.isNaN) = true ↔ un)
    exact ⟨⟨h0, hsgn⟩, ⟨h1, hsgn⟩, ⟨h2, hun⟩, ⟨h3, hun⟩, ⟨h4, hun⟩, ⟨h5, hun⟩, ⟨h6, hsgn⟩, ⟨h7, hsgn⟩⟩
  case special =>
    constructor
    · intro wide rm c sh g nan one ulp minus inf v
      obtain ⟨hone, hminus, htwo, hhalf, hinf, hinf'⟩ := sfShape_codes wide
      have hz (n : Bool) : sh.signBit n = if n then minus else 0 := sh.signBit_eq n
      have hcode {c c' : Nat} {fl : XFlags} (h : c = c') : (c, fl) = (c', fl) := congrArg (·, fl) h
      refine ⟨fun sg fn h _ => sfElem_nan h fn, fun h => ?_, fun h => ?_, fun n e h => ?_, fun m e h h0 => ?_,
        fun n m e h hv => sfElem_log_one rm h hv, fun n m e k h hv hlo hhi => sfElem_exp2_int rm h hv hlo hhi,
        fun m e k h hv => sfElem_two_zpow rm h hv, fun m e h h0 => sfElem_rsqrt_rounded rm h h0⟩
      · have hg (fn : Nat) := sfElem_inf (wide := wide) (rm := rm) h fn
        exact ⟨hg 0, hg 1, (hg 2).trans (hcode hminus), hg 3, hg 4, hg 5, (hg 6).trans (hcode hminus), (hg 7).trans (hcode htwo),
          hg 8, hg 9⟩
      · have hg (fn : Nat) := sfElem_inf (wide := wide) (rm := rm) h fn
        refine ⟨fun fn hfn => ?_, (hg 6).trans (hcode hone), hg 7, (hg 8).trans (hcode hone), hg 9⟩
        interval_cases fn
        · exact (hg 0).trans (hcode hinf)
        · exact (hg 1).trans (hcode hinf)
        · exact (hg 2).trans (hcode hinf)
        · exact (hg 3).trans (hcode hinf)
        · exact (hg 4).trans (hcode hinf)
        · exact (hg 5).trans (hcode hinf)
      · have hg (fn : Nat) := sfElem_zero (wide := wide) (rm := rm) h fn
        have hsinf : sh.inf n = (if n then minus else 0) + inf := congrArg (· + inf) (hz n)
        exact ⟨(hg 0).trans (hcode hone), (hg 1).trans (hcode hone), (hg 2).trans (hcode (hz n)), (hg 3).trans (hcode hinf'),
          (hg 4).trans (hcode hinf'), (hg 5).trans (hcode (hz n)), (hg 6).trans (hcode (hz n)), (hg 7).trans (hcode hone),
          (hg 8).trans (hcode hhalf), (hg 9).trans (hcode hsinf)⟩
      · obtain ⟨hone', hbelow⟩ := sfElem_log1p_neg rm h h0
        exact ⟨sfElem_log h h0, sfElem_log2 h h0, sfElem_rsqrt h h0, fun hv => (hone' hv).trans (hcode hinf'), hbelow⟩
    · decide +kernel
end

section
/-! SUPPORT. Several registers marked in order (R50), reductions, transposes, the lane flags as a tile (R80, R261, R262, R265). -/

namespace Sys2Proof.Machine

/-! ### Several writes of one word (R50) -/

/-- A core with registers marked in order. -/
def Core.marked (k : Core) (tag : Tag) (l : List (BitVec 5)) : Core :=
  l.foldl (fun k r => { k with v := k.v.set r.toFin ((k.v[r.toFin]).mark tag) }) k

section
variable {tag : Tag} {l : List (BitVec 5)}

theorem Core.marked_results (k : Core) : (k.marked tag l).results = k.results := by
  induction l generalizing k with
  | nil => rfl
  | cons r l ih => exact ih _

theorem Core.marked_v (k : Core) (hl : l.Nodup) (r : BitVec 5) :
    (k.marked tag l).v[r.toFin] = if r ∈ l then (k.v[r.toFin]).mark tag else k.v[r.toFin] := by
  induction l generalizing k with
  | nil => rfl
  | cons r' l ih =>
    obtain ⟨hr', hl⟩ := List.nodup_cons.mp hl
    refine (ih _ hl).trans ?_
    have hne : r'.toNat = r.toNat ↔ r' = r := BitVec.toNat_inj
    by_cases h : r' = r
    · subst h
      simp [hr']
    · have h' : r ≠ r' := Ne.symm h
      simp [hne, h, h']

/-- The check passes the writes of one word to different registers that the phase has not written (R50). -/
theorem markAll_of_unwritten (k : Core) (hl : l.Nodup) (h : ∀ r ∈ l, (k.v[r.toFin]).written = false) :
    markAll k tag (l.map .v) = .ok (k.marked tag l) := by
  induction l generalizing k with
  | nil => rfl
  | cons r l ih =>
    obtain ⟨hr, hl⟩ := List.nodup_cons.mp hl
    have hw : k.isWritten (.v r) = false := h r List.mem_cons_self
    have hcheck : k.checkWrite (.v r) tag = .ok (k.marked tag [r]) := by
      unfold Core.checkWrite
      simp only [hw, Bool.false_and]
      rfl
    unfold List.map markAll
    rw [hcheck]
    refine ih _ hl fun r' hr' => ?_
    have hne : r' ∉ [r] := fun h => hr (List.mem_singleton.mp h ▸ hr')
    rw [k.marked_v (List.nodup_singleton r), if_neg hne]
    exact h r' (List.mem_cons_of_mem _ hr')

end

/-- Different register numbers are different registers, however the rotating ones stand (R45). -/
theorem Core.physV_injective (k : Core) : Function.Injective k.physV := by
  have hrb : k.rb.toNat < 8 := k.rb.isLt
  have hval (i : BitVec 5) : (k.physV i).toNat =
      if 24 ≤ i.toNat then 24 + (i.toNat - 24 + 8 - k.rb.toNat) % 8 else i.toNat := by
    unfold physV
    split_ifs
    · exact Nat.mod_eq_of_lt (by omega)
    · rfl
  intro i j h
  have hi := hval i
  have hj := hval j
  have hlt : i.toNat < 32 := i.isLt
  have hlt' : j.toNat < 32 := j.isLt
  rw [h] at hi
  apply BitVec.eq_of_toNat_eq
  split_ifs at hi hj <;> omega

/-! ### VTRG (R262) -/

theorem tileElem_lt (t : Tile) (z e : Nat) : tileElem t z e < 2 ^ (8 * z) := Nat.mod_lt _ (Nat.two_pow_pos _)

/-- Tile `g` of the group that a transpose makes of the group `src`. -/
def transposedTile (fn z : Nat) (src : Nat → Tile) (g : Nat) : Tile :=
  mapTile z fun e =>
    let p := transposed fn (16 * g + e / cols z) (e % cols z)
    tileElem (src (p.1 / 16)) z (cols z * (p.1 % 16) + p.2)

theorem elem_of_row_col {z : Nat} (hz : z ∈ elemSizes) {row col : Nat} (hcol : col < cols z) :
    cols z * (row % 16) + col < 4096 / z ∧ 16 * (row / 16) + (cols z * (row % 16) + col) / cols z = row ∧
      (cols z * (row % 16) + col) % cols z = col := by
  have hn : 4096 / z = cols z * 16 := by
    simp only [elemSizes, List.mem_cons, List.not_mem_nil, or_false] at hz
    obtain rfl | rfl | rfl | rfl := hz <;> rfl
  have hrow : cols z * (row % 16) + cols z ≤ cols z * 16 := by
    rw [← Nat.mul_succ]
    exact Nat.mul_le_mul_left _ (by omega)
  refine ⟨by omega, ?_, by rw [Nat.mul_add_mod, Nat.mod_eq_of_lt hcol]⟩
  rw [Nat.mul_add_div (by omega), Nat.div_eq_of_lt hcol]
  omega

theorem transposedTile_elem {z : Nat} (hz : z ∈ elemSizes) (fn : Nat) (src : Nat → Tile) {row col : Nat} (hcol : col < cols z) :
    let p := transposed fn row col
    tileElem (transposedTile fn z src (row / 16)) z (cols z * (row % 16) + col) =
      tileElem (src (p.1 / 16)) z (cols z * (p.1 % 16) + p.2) := by
  obtain ⟨hlt, hrow, hcol'⟩ := elem_of_row_col hz (row := row) hcol
  refine (tileElem_mapTile hz _ hlt).trans ?_
  rw [hrow, hcol']
  exact Nat.mod_eq_of_lt (tileElem_lt _ _ _)

/-- The size of the elements that VTRG transposes. -/
def transposeSize (fn : Nat) : Nat :=
  match fn with
  | 0 => 4
  | 1 => 2
  | _ => 1

theorem transposeSize_mem (fn : Nat) : transposeSize fn ∈ elemSizes := by
  unfold transposeSize
  split <;> decide

/-- The source of an element of the group lies in the group. -/
theorem transposed_lt {fn row col : Nat} (hrow : row < 128) (hcol : col < cols (transposeSize fn)) :
    (transposed fn row col).1 / 16 < 8 := by
  match fn, hcol with
  | 0, hcol =>
    change col < 64 at hcol
    change (64 * (row / 64) + col) / 16 < 8
    omega
  | 1, hcol =>
    change col < 128 at hcol
    change col / 16 < 8
    omega
  | _ + 2, _ =>
    change col % 128 / 16 < 8
    omega

theorem transposed_apply {α : Type} (F : Nat → Nat → α) (fn row col : Nat) :
    F (transposed fn row col).1 (transposed fn row col).2 = match fn with
      | 0 => F (64 * (row / 64) + col) (row % 64)
      | 1 => F col row
      | _ => F (col % 128) (128 * (col / 128) + row) := by
  match fn with
  | 0 | 1 | _ + 2 => rfl

theorem transposeGroup_eq (fn : Nat) (src : List Tile) :
    transposeGroup fn src = (List.range 8).map (transposedTile fn (transposeSize fn) fun g => src[g]!) := rfl

theorem vtrgGroup_toNat (g : BitVec 2) : (8 * g.setWidth 6 : BitVec 6).toNat = 8 * g.toNat := by
  revert g
  decide

section
variable {s : State} {b : BenchId} {c : CoreId} {d : BitVec 6} {f : BitVec 4} {n0 : Nat}

/-- VTRG, where the phase has not written the registers of its group. -/
theorem effVtrg_of_unwritten (hd : d.toNat = n0) (hn0 : n0 + 7 < 32) :
    let k := s.core b c
    let reg (n : Nat) : BitVec 5 := k.physV (BitVec.ofNat 5 (n0 + n))
    let src := ((List.range 8).map reg).map fun r => (k.v[r.toFin]).vis
    (∀ n < 8, (k.v[(reg n).toFin]).written = false) →
    ((List.range 8).map reg).Nodup ∧
    effVtrg d f (s.issuing b c 2 2) s = .ring (s.updCore b c fun _ =>
      { k.marked { stream := 2, async := false, pc := (s.stream b c 2).pc } ((List.range 8).map reg) with
        results := k.results ++ [{
          writes := (List.range 8).map fun n =>
            { reg := .v (reg n), data := transposedTile f.toNat (transposeSize f.toNat) (fun g => src[g]!) n, mask := BitVec.allOnes 4096 }
          flags := 0 }] }) none := by
  intro k reg src h
  subst hd
  have hnodup : ((List.range 8).map reg).Nodup := by
    refine List.Nodup.map_on (fun i hi j hj hij => ?_) List.nodup_range
    have hij' := congrArg BitVec.toNat (k.physV_injective hij)
    rw [List.mem_range] at hi hj
    rw [BitVec.toNat_ofNat, BitVec.toNat_ofNat, Nat.mod_eq_of_lt (by omega), Nat.mod_eq_of_lt (by omega)] at hij'
    omega
  have hmark := markAll_of_unwritten (tag := { stream := 2, async := false, pc := (s.stream b c 2).pc }) k hnodup fun r hr => by
    obtain ⟨n, hn, rfl⟩ := List.mem_map.mp hr
    exact h n (List.mem_range.mp hn)
  refine ⟨hnodup, ?_⟩
  unfold effVtrg
  change (match markAll k { stream := 2, async := false, pc := (s.stream b c 2).pc } (((List.range 8).map reg).map .v) with
    | .error t => Res.trap t
    | .ok k => _) = _
  rw [hmark]
  dsimp only
  rw [Core.marked_results, transposeGroup_eq, List.zip_map', List.map_map]
  rfl

end

/-! ### The lane flags (R265) -/

/-- XF as 32-bit elements. -/
theorem lanesTile_elem (l : Lanes) {n : Nat} (hn : n < 1024) : tileElem (lanesTile l) 4 n = (l.extractLsb' (5 * n) 5).toNat := by
  refine (tileElem_mapTile (by decide) _ hn).trans ?_
  rw [BitVec.extractLsb'_toNat, Nat.shiftRight_eq_div_pow]
  exact Nat.mod_eq_of_lt ((Nat.mod_lt _ (by decide)).trans (by decide))

/-- Bits 4:0 of every 32-bit element, as lane flags. -/
theorem tileLanes_lane (t : Tile) {n : Nat} (hn : n < 1024) :
    (tileLanes {} t).extractLsb' (5 * n) 5 = BitVec.ofNat 5 (tileElem t 4 n) := by
  have hlane : ((List.range (4096 / 4)).filter fun e => laneOf 4 e == n) = [n] := by
    have hid (e : Nat) : laneOf 4 e = e := Nat.mul_div_cancel e (by decide)
    simp only [hid]
    rw [List.filter_beq, List.count_eq_one_of_mem List.nodup_range (List.mem_range.mpr hn)]
    rfl
  refine (lanes_genElems (by decide) _ _ hn).trans ?_
  rw [hlane]
  exact BitVec.zero_or

/-- XF.CLR and XF.SET, once their source is read after every earlier result. -/
theorem effXfChange_of_read {s s1 : State} {b : BenchId} {c : CoreId} {n : Nat} {a : BitVec 6} {ta : Tile} (set : Bool)
    (h : readSource (s.issuing b c 2 n) (s.updCore b c Core.performAll) a 4 false = .ok (ta, s1)) :
    effXfChange set a (s.issuing b c 2 n) s = .ring (s1.updCore b c fun k =>
      { k with xf := if set then k.xf ||| tileLanes {} ta else k.xf &&& ~~~tileLanes {} ta }) none := by
  unfold effXfChange
  change (match readSource (s.issuing b c 2 n) (s.updCore b c Core.performAll) a 4 false with
    | .error r => r
    | .ok (ta, s) => _) = _
  rw [h]
  rfl

end Sys2Proof.Machine
end

section
open Sys2Proof Sys2Proof.Machine

open Laws.Words in
/-- Settles O28: a reduction is one delivery; VTRG's eight writes pass the check one after the other; XF is read and written lane by
lane. -/
theorem reductionsTransposesFlags : Obligations.ReductionsTransposesFlags := by
  unfold Obligations.ReductionsTransposesFlags
  intro s s1 b c d a e f r g ta x k
  refine ⟨fun ha hread s2 y h => ?_, ?_, ?_⟩
  · refine Instr.ofCp.does (n := 2) ⟨vred .., rfl, rfl, rfl, by decide, rfl⟩ ha (Eq.trans ?_ h)
    change effVred d a e f r x s = _
    unfold effVred
    dsimp only
    rw [hread]
    rfl
  · intro i reg face z cell ha hf hw
    have hg : 8 * g.toNat + 7 < 32 := by have := g.isLt; omega
    obtain ⟨hnodup, heff⟩ := effVtrg_of_unwritten (f := f) (vtrgGroup_toNat g) hg hw
    have hz : transposeSize f.toNat = z := by
      obtain rfl | rfl | rfl : f = 0 ∨ f = 1 ∨ f = 2 := by bv_omega
      all_goals rfl
    have hsrc (n : Nat) (hn : n < 8) : (((List.range 8).map reg).map fun r => (k.v[r.toFin]).vis)[n]! = (face n).vis := by
      rw [List.map_map, getElem!_pos _ n (by simpa using hn)]
      simp [face]
    refine ⟨transposedTile f.toNat (transposeSize f.toNat) fun g => (((List.range 8).map reg).map fun r => (k.v[r.toFin]).vis)[g]!,
      _, ?_, ?_, ?_, Instr.ofCp.does (n := 2) ⟨vtrg .., rfl, rfl, rfl, by decide, rfl⟩ ha heff⟩
    · intro row col hrow hcol
      rw [← hz] at hcol
      have hp := transposed_lt hrow hcol
      have hcell := transposedTile_elem (transposeSize_mem _) f.toNat
        (fun g => (((List.range 8).map reg).map fun r => (k.v[r.toFin]).vis)[g]!) (row := row) hcol
      dsimp only at hcell
      rw [hsrc _ (by omega), hz] at hcell
      rw [hz]
      exact hcell.trans (transposed_apply (cell fun n => (face n).vis) f.toNat row col)
    · rw [State.core_updCore_self _ _ _ _ ha.1.gang?_isSome]
    · intro n hn
      rw [State.core_updCore_self _ _ _ _ ha.1.gang?_isSome]
      have hmem : reg n ∈ (List.range 8).map reg := List.mem_map_of_mem (List.mem_range.mpr hn)
      change (k.marked { stream := 2, async := false, pc := (s.stream b c 2).pc } ((List.range 8).map reg)).v[(reg n).toFin] = _
      rw [k.marked_v hnodup, if_pos hmem]
  · intro s'
    refine ⟨fun ha => ⟨lanesTile (s'.core b c).xf, fun n hn => lanesTile_elem _ hn, fun s2 y h => ?_⟩,
      fun hread => ⟨tileLanes {} ta, fun n hn => tileLanes_lane ta hn, fun ha => ?_, fun ha => ?_⟩⟩
    · refine Instr.ofCp.does (n := 2) ⟨xfRd .., rfl, rfl, rfl, by decide, rfl⟩ ha ?_
      change effXfRd d x s = _
      unfold effXfRd
      change (match deliverTile x s' d 4 (lanesTile (s'.core b c).xf) 0 with
        | .ring s _ => Res.ring s none
        | r => r) = _
      rw [h]
    · exact Instr.ofCp.does (n := 2) ⟨xfClr .., rfl, rfl, rfl, by decide, rfl⟩ ha (effXfChange_of_read false hread)
    · exact Instr.ofCp.does (n := 2) ⟨xfSet .., rfl, rfl, rfl, by decide, rfl⟩ ha (effXfChange_of_read true hread)
end

section
/-! SUPPORT. Curve keys by their bits (R69, R285, R286), and the words on every 64-bit element (R287 to R289). -/

namespace Sys2Proof.Machine

/-! ### Sums of different powers of two -/

theorem testBit_two_pow_add {x i : Nat} (h : x.testBit i = false) (j : Nat) :
    (2 ^ i + x).testBit j = true ↔ i = j ∨ x.testBit j = true := by
  obtain hj | rfl | hj := Nat.lt_trichotomy j i
  · rw [Nat.testBit_two_pow_add_gt hj, or_iff_right (by omega)]
  · simp [Nat.testBit_two_pow_add_eq, h]
  · rw [or_iff_right (by omega)]
    have hdiv : (2 ^ i + x) / 2 ^ (i + 1) = x / 2 ^ (i + 1) := by
      have hbit : x / 2 ^ i % 2 = 0 := by simpa [Nat.testBit_eq_decide_div_mod_eq] using h
      have hlow : x % 2 ^ (i + 1) = x % 2 ^ i := by rw [Nat.mod_pow_succ, hbit, mul_zero, add_zero]
      have hlt : x % 2 ^ i < 2 ^ i := Nat.mod_lt _ (Nat.two_pow_pos _)
      have hx : 2 ^ i + x = 2 ^ (i + 1) * (x / 2 ^ (i + 1)) + (2 ^ i + x % 2 ^ (i + 1)) := by
        have := Nat.div_add_mod x (2 ^ (i + 1))
        omega
      have hsmall : (2 ^ i + x % 2 ^ (i + 1)) / 2 ^ (i + 1) = 0 := Nat.div_eq_of_lt (by rw [hlow, pow_succ]; omega)
      rw [hx, Nat.mul_add_div (Nat.two_pow_pos _), hsmall, add_zero]
    rw [show j = j - (i + 1) + (i + 1) by omega, ← Nat.testBit_div_two_pow, hdiv, Nat.testBit_div_two_pow]

/-- A sum of different powers of two has the bits of its terms. -/
theorem testBit_sum_two_pow {α : Type} (f : α → Bool) (p : α → Nat) {l : List α} (hp : (l.map p).Nodup) (j : Nat) :
    ((l.map fun i => if f i then 2 ^ p i else 0).sum).testBit j = true ↔ ∃ i ∈ l, p i = j ∧ f i = true := by
  induction l generalizing j with
  | nil => simp
  | cons i l ih =>
    obtain ⟨hi, hl⟩ := List.nodup_cons.mp hp
    simp only [List.map_cons, List.sum_cons, List.mem_cons, exists_eq_or_imp]
    by_cases hf : f i = true
    · have hfree : ((l.map fun i => if f i then 2 ^ p i else 0).sum).testBit (p i) = false := by
        rw [Bool.eq_false_iff, Ne, ih hl]
        rintro ⟨k, hk, hpk, -⟩
        exact hi (hpk ▸ List.mem_map_of_mem hk)
      rw [if_pos hf, testBit_two_pow_add hfree, ih hl, and_iff_left hf]
    · rw [if_neg hf, zero_add, ih hl, or_iff_right fun h => hf h.2]

theorem lt_two_pow_of_bits {x n : Nat} (h : ∀ j, x.testBit j = true → j < n) : x < 2 ^ n :=
  Nat.lt_pow_two_of_testBit x fun j hj => Bool.eq_false_iff.mpr fun hbit => absurd (h j hbit) (not_lt.mpr hj)

theorem eq_of_testBit_iff {x y : Nat} (h : ∀ j, x.testBit j = true ↔ y.testBit j = true) : x = y :=
  Nat.eq_of_testBit_eq fun j => Bool.eq_iff_iff.mpr (h j)

/-- The pairs below two bounds. -/
def pairs (d m : Nat) : List (Nat × Nat) := (List.range d).flatMap fun a => (List.range m).map fun n => (a, n)

theorem mem_pairs {d m : Nat} {p : Nat × Nat} : p ∈ pairs d m ↔ p.1 < d ∧ p.2 < m := by
  obtain ⟨a, n⟩ := p
  simp [pairs]

theorem pairs_nodup (d m : Nat) : (pairs d m).Nodup := by
  refine List.nodup_flatMap.mpr ⟨fun a _ => List.nodup_range.map (Prod.mk_right_injective a), ?_⟩
  refine List.nodup_range.imp fun {a a'} hne => ?_
  simp only [Function.onFun, List.disjoint_left, List.mem_map]
  rintro _ ⟨n, -, rfl⟩ ⟨n', -, h⟩
  exact hne (Prod.mk.inj h).1.symm

theorem sum_pairs (d m : Nat) (g : Nat × Nat → Nat) :
    ((pairs d m).map g).sum = ((List.range d).map fun a => ((List.range m).map fun n => g (a, n)).sum).sum := by
  unfold pairs
  generalize List.range d = l
  induction l with
  | nil => rfl
  | cons a l ih => simp [ih, Function.comp_def]

/-- Places that a row-by-row numbering gives are different. -/
theorem place_injective {d a a' n n' : Nat} (ha : a < d) (ha' : a' < d) (h : a + n * d = a' + n' * d) : a = a' ∧ n = n' := by
  have h1 : (a + n * d) % d = a := by rw [Nat.add_mul_mod_self_right, Nat.mod_eq_of_lt ha]
  have h2 : (a' + n' * d) % d = a' := by rw [Nat.add_mul_mod_self_right, Nat.mod_eq_of_lt ha']
  obtain rfl : a = a' := by rw [← h1, ← h2, h]
  exact ⟨rfl, Nat.eq_of_mul_eq_mul_right (by omega) (Nat.add_left_cancel h)⟩

/-! ### Axes and keys (R69, R285) -/

theorem mod_two_mul (v n c : Nat) : v / 2 ^ n % 2 * 2 ^ c = if v.testBit n then 2 ^ c else 0 := by
  rw [Nat.testBit_eq_decide_div_mod_eq]
  obtain h | h := Nat.mod_two_eq_zero_or_one (v / 2 ^ n) <;> simp [h]

theorem axisFrom_eq_sum (d k a m n : Nat) :
    axisFrom d k a m n = ((List.range m).map fun i => if k.testBit (a + (n + i) * d) then 2 ^ (n + i) else 0).sum := by
  induction m generalizing n with
  | zero => rfl
  | succ m ih =>
    rw [axisFrom, ih, mod_two_mul, List.range_succ_eq_map]
    simp [Function.comp_def, Nat.add_assoc, Nat.add_comm 1]

theorem spreadAxis_eq_sum (d v a m n : Nat) :
    spreadAxis d v a m n = ((List.range m).map fun i => if v.testBit (n + i) then 2 ^ (a + (n + i) * d) else 0).sum := by
  induction m generalizing n with
  | zero => rfl
  | succ m ih =>
    rw [spreadAxis, ih, mod_two_mul, List.range_succ_eq_map]
    simp [Function.comp_def, Nat.add_assoc, Nat.add_comm 1]

/-- Bit n of axis a is bit a + n·d of the key. -/
theorem testBit_axis (d k a n : Nat) : (axis d k a).testBit n = true ↔ n < ckBits d ∧ k.testBit (a + n * d) = true := by
  unfold axis
  rw [axisFrom_eq_sum]
  simp only [zero_add]
  rw [testBit_sum_two_pow (fun i => k.testBit (a + i * d)) (fun i => i) (by simpa using List.nodup_range)]
  simp

section
variable {d : Nat}

/-- The bits of a key. -/
theorem testBit_keyOf (x : Nat → Nat) (j : Nat) : (keyOf d x).testBit j = true ↔
    ∃ a n, a < d ∧ n < ckBits d ∧ a + n * d = j ∧ (x a).testBit n = true := by
  have hnodup : ((pairs d (ckBits d)).map fun p => p.1 + p.2 * d).Nodup := by
    refine (pairs_nodup d (ckBits d)).map_on fun p hp q hq h => ?_
    obtain ⟨h1, h2⟩ := place_injective (mem_pairs.mp hp).1 (mem_pairs.mp hq).1 h
    exact Prod.ext h1 h2
  have hsum : keyOf d x = ((pairs d (ckBits d)).map fun p => if (x p.1).testBit p.2 then 2 ^ (p.1 + p.2 * d) else 0).sum := by
    rw [sum_pairs]
    unfold keyOf
    simp only [spreadAxis_eq_sum, zero_add]
  rw [hsum, testBit_sum_two_pow (fun p : Nat × Nat => (x p.1).testBit p.2) _ hnodup]
  simp [mem_pairs, and_assoc]

/-- The bits of the linear form of a key. -/
theorem testBit_linearOf (k j : Nat) : (linearOf d k).testBit j = true ↔
    ∃ a n, a < d ∧ n < ckBits d ∧ n + a * ckBits d = j ∧ k.testBit (a + n * d) = true := by
  have hnodup : ((pairs d (ckBits d)).map fun p => p.2 + p.1 * ckBits d).Nodup := by
    refine (pairs_nodup d (ckBits d)).map_on fun p hp q hq h => ?_
    obtain ⟨h1, h2⟩ := place_injective (mem_pairs.mp hp).2 (mem_pairs.mp hq).2 h
    exact Prod.ext h2 h1
  have hsum : linearOf d k =
      ((pairs d (ckBits d)).map fun p => if k.testBit (p.1 + p.2 * d) then 2 ^ (p.2 + p.1 * ckBits d) else 0).sum := by
    rw [sum_pairs]
    unfold linearOf axis
    simp only [axisFrom_eq_sum, zero_add, ← List.sum_map_mul_right, ite_mul, zero_mul, ← pow_add]
  rw [hsum, testBit_sum_two_pow (fun p : Nat × Nat => k.testBit (p.1 + p.2 * d)) _ hnodup]
  simp [mem_pairs, and_assoc]

theorem place_lt {d m a n : Nat} (ha : a < d) (hn : n < m) : a + n * d < d * m := by
  calc a + n * d < d + n * d := by omega
    _ = (n + 1) * d := by ring
    _ ≤ m * d := Nat.mul_le_mul_right d hn
    _ = d * m := mul_comm m d

/-- A key has no bit above the coordinates. -/
theorem keyOf_lt (x : Nat → Nat) : keyOf d x < 2 ^ (d * ckBits d) :=
  lt_two_pow_of_bits fun j hj => by
    obtain ⟨a, n, ha, hn, rfl, -⟩ := (testBit_keyOf x j).mp hj
    exact place_lt ha hn

theorem linearOf_lt (k : Nat) : linearOf d k < 2 ^ (d * ckBits d) :=
  lt_two_pow_of_bits fun j hj => by
    obtain ⟨a, n, ha, hn, rfl, -⟩ := (testBit_linearOf k j).mp hj
    rw [mul_comm d]
    exact place_lt hn ha

/-- The bits of a key at the places of the coordinates. -/
theorem testBit_keyOf_place (x : Nat → Nat) {a n : Nat} (ha : a < d) (hn : n < ckBits d) :
    (keyOf d x).testBit (a + n * d) = (x a).testBit n := by
  rw [Bool.eq_iff_iff, testBit_keyOf]
  constructor
  · rintro ⟨a', n', ha', -, hplace, hbit⟩
    obtain ⟨rfl, rfl⟩ := place_injective ha' ha hplace
    exact hbit
  · exact fun hbit => ⟨a, n, ha, hn, rfl, hbit⟩

theorem testBit_linearOf_place (k : Nat) {a n : Nat} (ha : a < d) (hn : n < ckBits d) :
    (linearOf d k).testBit (n + a * ckBits d) = k.testBit (a + n * d) := by
  rw [Bool.eq_iff_iff, testBit_linearOf]
  constructor
  · rintro ⟨a', n', -, hn', hplace, hbit⟩
    obtain ⟨rfl, rfl⟩ := place_injective hn' hn hplace
    exact hbit
  · exact fun hbit => ⟨a, n, ha, hn, rfl, hbit⟩

/-- An axis of the key of coordinates. -/
theorem axis_keyOf (x : Nat → Nat) {a : Nat} (ha : a < d) : axis d (keyOf d x) a = x a % 2 ^ ckBits d := by
  refine eq_of_testBit_iff fun n => ?_
  rw [testBit_axis, Nat.testBit_mod_two_pow, Bool.and_eq_true, decide_eq_true_eq]
  exact and_congr_right fun hn => by rw [testBit_keyOf_place x ha hn]

end

end Sys2Proof.Machine
end

section
/-! SUPPORT. The curve words on every 64-bit element (R287 to R289). -/

namespace Sys2Proof.Machine

theorem ckAxes_mul_bits_le (n : Nat) : n * ckBits n ≤ 60 := Nat.mul_div_le 60 n

/-- A number of the bits of a key is an element of 64 bits. -/
theorem mod_of_key_lt {n v : Nat} (h : v < 2 ^ (n * ckBits n)) : v % 2 ^ (8 * 8) = v :=
  Nat.mod_eq_of_lt (h.trans_le (Nat.pow_le_pow_right Nat.two_pos ((ckAxes_mul_bits_le n).trans (by decide))))

/-- A tile built with no flags. -/
theorem genTile_of_no_flags (z : Nat) (g : Nat → Nat) : genTile z (fun e => (g e, 0)) = (mapTile z g, 0) :=
  Prod.ext rfl (congrArg (BitVec.ofNat 5120) (genElems_snd_of_no_flags _ _ (fun _ => rfl) _ _))

section
variable {s s1 : State} {b : BenchId} {c : CoreId} {d a q : BitVec 6} {x3 : BitVec 3} {ta tb : Tile} {i : Instr}

/-- ENC and DEC deliver what they make of each element. -/
theorem ckCode_delivers (k : Instr.ofCp 3 i) {g : Nat → Nat} (he : wordEffect i = effUnary 8 false d a fun v => (g v, 0))
    (ha : s.aloneInCp b c 3 i) (hread : readSource (s.issuing b c 2 3) s a 8 false = .ok (ta, s1))
    (hlt : ∀ v, g v < 2 ^ (ckAxes x3 * ckBits (ckAxes x3))) :
    ∃ T, (∀ e < 512, tileElem T 8 e = g (tileElem ta 8 e)) ∧
      ∀ s2 e, deliverTile (s.issuing b c 2 3) s1 d 8 T 0 = .ring s2 e → s.does b c 2 3 i s2 [(3, e)] := by
  refine ⟨mapTile 8 fun e => g (tileElem ta 8 e), fun e he => ?_, k.does_delivery ha ?_⟩
  · exact (tileElem_mapTile (by decide) _ he).trans (mod_of_key_lt (hlt _))
  · rw [he, effUnary_of_read hread, genTile_of_no_flags]

/-! ### ADD and SUB (R289) -/

/-- What ADD or SUB makes of one axis, before it is cut to the axis. -/
def axisSum (sub : Bool) (n x y a : Nat) : ℤ := if sub then (axis n x a : ℤ) - axis n y a else axis n x a + axis n y a

theorem ckAddElem_fst (sub : Bool) (n x y : Nat) :
    (ckAddElem sub n x y).1 < 2 ^ (n * ckBits n) ∧
      ∀ a < n, (axis n (ckAddElem sub n x y).1 a : ℤ) = axisSum sub n x y a % 2 ^ ckBits n := by
  refine ⟨keyOf_lt _, fun a ha => ?_⟩
  have hm : (0 : ℤ) < 2 ^ ckBits n := by positivity
  have hle := Int.emod_nonneg (axisSum sub n x y a) hm.ne'
  have hkey : (ckAddElem sub n x y).1 = keyOf n fun a => (axisSum sub n x y a % 2 ^ ckBits n).toNat := by
    unfold ckAddElem axisSum
    push_cast
    rfl
  rw [hkey, axis_keyOf _ ha]
  push_cast
  rw [Int.toNat_of_nonneg hle, Int.emod_emod]

/-- The mask of the axes that left their range. -/
theorem ckAddElem_snd (sub : Bool) (n x y : Nat) :
    (ckAddElem sub n x y).2 < 2 ^ n ∧ ∀ a < n, ((ckAddElem sub n x y).2.testBit a = true ↔
      (axisSum sub n x y a < 0 ∨ 2 ^ ckBits n ≤ axisSum sub n x y a)) := by
  have hmask : (ckAddElem sub n x y).2 = ((List.range n).map fun a =>
      if decide (axisSum sub n x y a < 0 ∨ 2 ^ ckBits n ≤ axisSum sub n x y a) then 2 ^ a else 0).sum := by
    unfold ckAddElem axisSum
    push_cast
    simp only [decide_eq_true_eq]
  have hbit (j : Nat) := testBit_sum_two_pow
    (fun a => decide (axisSum sub n x y a < 0 ∨ 2 ^ ckBits n ≤ axisSum sub n x y a)) (fun a => a) (l := List.range n)
    (by simpa using List.nodup_range) j
  rw [hmask]
  constructor
  · refine lt_two_pow_of_bits fun j hj => ?_
    obtain ⟨a, ha, rfl, -⟩ := (hbit j).mp hj
    exact List.mem_range.mp ha
  · intro a ha
    rw [hbit]
    simp [ha]

/-- The two tiles of ADD or SUB. -/
def ckAddTiles (sub : Bool) (n : Nat) (ta tb : Tile) : Tile × Tile :=
  (mapTile 8 fun e => (ckAddElem sub n (tileElem ta 8 e) (tileElem tb 8 e)).1,
    mapTile 8 fun e => (ckAddElem sub n (tileElem ta 8 e) (tileElem tb 8 e)).2)

theorem ckAddTiles_elem (sub : Bool) {n : Nat} (hn : n < 64) (ta tb : Tile) {e : Nat} (he : e < 512) :
    tileElem (ckAddTiles sub n ta tb).1 8 e = (ckAddElem sub n (tileElem ta 8 e) (tileElem tb 8 e)).1 ∧
      tileElem (ckAddTiles sub n ta tb).2 8 e = (ckAddElem sub n (tileElem ta 8 e) (tileElem tb 8 e)).2 := by
  obtain ⟨hkey, -⟩ := ckAddElem_fst sub n (tileElem ta 8 e) (tileElem tb 8 e)
  obtain ⟨hmask, -⟩ := ckAddElem_snd sub n (tileElem ta 8 e) (tileElem tb 8 e)
  have hmask' := hmask.trans_le (Nat.pow_le_pow_right Nat.two_pos hn.le)
  unfold ckAddTiles
  rw [tileElem_mapTile (by decide) _ he, tileElem_mapTile (by decide) _ he]
  exact ⟨mod_of_key_lt hkey, Nat.mod_eq_of_lt hmask'⟩

/-- ADD and SUB to a pair of v registers that the phase has not written. -/
theorem effCkAdd_of_v (sub : Bool) (hread : readTwo (s.issuing b c 2 3) s a q 8 false = .ok (ta, tb, s1)) (hd : d.toNat < 31) :
    let k := s1.core b c
    let r (n : Nat) : BitVec 5 := k.physV (BitVec.ofNat 5 (d.toNat + n))
    let t := ckAddTiles sub (ckAxes x3) ta tb
    let tag : Tag := { stream := 2, async := false, pc := (s.stream b c 2).pc }
    let all : Pred := BitVec.allOnes 4096
    (k.v[(r 0).toFin]).written = false → (k.v[(r 1).toFin]).written = false →
    effCkAdd sub d a q x3 (s.issuing b c 2 3) s = .ring (s1.updCore b c fun y => { y with
      v := (y.v.set (r 0).toFin ((k.v[(r 0).toFin]).mark tag)).set (r 1).toFin ((k.v[(r 1).toFin]).mark tag)
      results := y.results ++ [{ writes := [{ reg := .v (r 0), data := t.1, mask := all },
                                            { reg := .v (r 1), data := t.2, mask := all }], flags := 0, slot := 3 }] })
      (some t.1) := by
  intro k r t tag all h0 h1
  have hne : r 0 ≠ r 1 := fun h => by
    have heq := congrArg BitVec.toNat (k.physV_injective h)
    rw [BitVec.toNat_ofNat, BitVec.toNat_ofNat, Nat.mod_eq_of_lt (by omega), Nat.mod_eq_of_lt (by omega)] at heq
    omega
  have hr0 : d.setWidth 5 = BitVec.ofNat 5 (d.toNat + 0) := by
    apply BitVec.eq_of_toNat_eq
    simp
  have hmark := markAll_of_unwritten (tag := tag) (l := [r 0, r 1]) k (by simpa using hne) fun r' hr' => by
    obtain rfl | rfl := List.mem_pair.mp hr'
    · exact h0
    · exact h1
  have hk : k.marked tag [r 0, r 1] = { k with
      v := (k.v.set (r 0).toFin ((k.v[(r 0).toFin]).mark tag)).set (r 1).toFin ((k.v[(r 1).toFin]).mark tag) } := by
    have hget : (k.marked tag [r 0]).v[(r 1).toFin] = k.v[(r 1).toFin] :=
      (k.marked_v (List.nodup_singleton _) _).trans (if_neg (by simpa using hne.symm))
    exact congrArg (fun f : Face Tile => { k with
      v := (k.v.set (r 0).toFin ((k.v[(r 0).toFin]).mark tag)).set (r 1).toFin (f.mark tag) }) hget
  unfold effCkAdd
  rw [hread]
  dsimp only
  simp only [merged_of_unprefixed, hr0]
  rw [if_pos (by omega)]
  change (match markAll k tag [.v (r 0), .v (r 1)] with
    | .error t => Res.trap t
    | .ok k => _) = _
  rw [show markAll k tag [.v (r 0), .v (r 1)] = _ from hmark, hk]
  exact congrArg (Res.ring · (some t.1)) (State.updCore_congr rfl)

/-- ADD and SUB to a pair of working registers. -/
theorem effCkAdd_of_w (sub : Bool) (hread : readTwo (s.issuing b c 2 3) s a q 8 false = .ok (ta, tb, s1)) (j : Fin 7)
    (hd : d.toNat = 32 + j.val) :
    let t := ckAddTiles sub (ckAxes x3) ta tb
    effCkAdd sub d a q x3 (s.issuing b c 2 3) s =
      .ring (s1.updCore b c fun y => { y with w := (y.w.set j.val t.1).set (j.val + 1) t.2 }) (some t.1) := by
  intro t
  have hj : d.toNat - 32 = j.val := by omega
  unfold effCkAdd
  rw [hread]
  dsimp only
  simp only [merged_of_unprefixed, hj]
  rw [if_neg (by omega)]
  refine congrArg (Res.ring · (some t.1)) (State.updCore_congr ?_)
  rw [setIfInBounds_eq_set _ (by omega), setIfInBounds_eq_set _ (by omega)]
  rfl

end

end Sys2Proof.Machine
end

section
open Sys2Proof Sys2Proof.Machine

open Laws.Words in
/-- Settles O30: the keys of the words are known bit by bit, and the words deliver them element by element. -/
theorem curveWords : Obligations.CurveWords := by
  unfold Obligations.CurveWords
  intro s s1 b c d a q x3 ta tb x n m delivers
  refine ⟨fun ha hread => ?_, fun ha hread => ?_, fun ha hread => ?_, ?_⟩
  · obtain ⟨T, hT, hdoes⟩ := ckCode_delivers (x3 := x3) (g := fun v => keyOf n fun y => v / 2 ^ (y * m) % 2 ^ m)
      ⟨ckEnc .., rfl, rfl, rfl, by decide, rfl⟩ rfl ha hread fun _ => keyOf_lt _
    refine ⟨T, fun e he => ?_, hdoes⟩
    rw [hT e he]
    refine ⟨keyOf_lt _, fun j y hj hy => ?_⟩
    rw [add_comm (j * n), testBit_keyOf_place _ hy hj, Nat.testBit_mod_two_pow, Nat.testBit_div_two_pow, decide_eq_true hj,
      Bool.true_and, add_comm j]
  · obtain ⟨T, hT, hdoes⟩ := ckCode_delivers (x3 := x3) (g := linearOf n) ⟨ckDec .., rfl, rfl, rfl, by decide, rfl⟩ rfl ha hread
      fun _ => linearOf_lt _
    refine ⟨T, fun e he => ?_, hdoes⟩
    rw [hT e he]
    refine ⟨linearOf_lt _, fun j y hj hy => ?_⟩
    rw [add_comm (y * m), testBit_linearOf_place _ hy hj, add_comm y]
  · intro box
    refine ⟨_, fun e he => tileElem_mapTile (by decide) _ he, Instr.ofCp.does_delivery (n := 3)
      ⟨ckNext .., rfl, rfl, rfl, by decide, rfl⟩ ha ?_⟩
    change effCkNext d a q x3 x s = _
    unfold effCkNext
    rw [hread]
    rfl
  · intro sub i k r axisOf sum keys ha hread
    have hword : Instr.ofCp 3 i := by
      cases sub
      · exact ⟨ckAdd .., rfl, rfl, rfl, by decide, rfl⟩
      · exact ⟨ckSub .., rfl, rfl, rfl, by decide, rfl⟩
    have heff : wordEffect i = effCkAdd sub d a q x3 := by cases sub <;> rfl
    refine ⟨(ckAddTiles sub n ta tb).1, (ckAddTiles sub n ta tb).2, fun e he => ?_, fun hd h0 h1 => ?_, fun j hd => ?_⟩
    · have hn : n < 64 := by have := x3.isLt; simp only [n, ckAxes]; omega
      obtain ⟨h0, h1⟩ := ckAddTiles_elem sub hn ta tb he
      rw [h0, h1]
      obtain ⟨hkey, haxis⟩ := ckAddElem_fst sub n (tileElem ta 8 e) (tileElem tb 8 e)
      obtain ⟨hmask, hbit⟩ := ckAddElem_snd sub n (tileElem ta 8 e) (tileElem tb 8 e)
      exact ⟨hkey, hmask, fun y hy => ⟨haxis y hy, hbit y hy⟩⟩
    · exact hword.does ha (heff ▸ effCkAdd_of_v sub hread hd h0 h1)
    · exact hword.does ha (heff ▸ effCkAdd_of_w sub hread j hd)
end

section
/-! SUPPORT. A fetch reads nothing of the benches, of the agenda or of the snapshot: whether an address is fetchable is the same
in states that differ in these alone (R90, R93, R152). -/

namespace Sys2Proof.Machine

/-- What a fetch does not read: the benches, the agenda, the snapshot. -/
structure Unread where
  benches : Vector (Option Gang) 64
  agenda : List Turn
  snap : Option Snapshot

/-- A state with other benches, agenda and snapshot. -/
def State.besides (s : State) (o : Unread) : State :=
  { s with benches := o.benches, agenda := o.agenda, dev := { s.dev with snap := o.snap } }

/-- Two states differ in the benches, the agenda and the snapshot alone. -/
def Alike (s t : State) : Prop := ∃ o, t = s.besides o

theorem Alike.refl (s : State) : Alike s s := ⟨⟨s.benches, s.agenda, s.dev.snap⟩, rfl⟩

theorem Alike.trans {s t u : State} : Alike s t → Alike t u → Alike s u := by
  rintro ⟨o, rfl⟩ ⟨o', rfl⟩
  exact ⟨o', rfl⟩

theorem Alike.symm {s t : State} : Alike s t → Alike t s := by
  rintro ⟨o, rfl⟩
  exact ⟨⟨s.benches, s.agenda, s.dev.snap⟩, rfl⟩

theorem Alike.of_benchesOnly {s t : State} (h : s.benchesOnly t) : Alike s t := ⟨⟨t.benches, s.agenda, s.dev.snap⟩, h⟩

theorem alike_agenda (s : State) (l : List Turn) : Alike s { s with agenda := l } := ⟨⟨s.benches, l, s.dev.snap⟩, rfl⟩

theorem foldl_alike {α : Type} {f : State → α → State} (hf : ∀ {s t} a, Alike s t → Alike (f s a) (f t a)) (l : List α) {s t : State}
    (h : Alike s t) : Alike (l.foldl f s) (l.foldl f t) := by
  induction l generalizing s t with
  | nil => exact h
  | cons a l ih => exact ih (hf a h)

/-! ### The watches and the LLC -/

section
variable {s t : State} (h : Alike s t)
include h

theorem fireTrigger_alike (n : Nat) : Alike (fireTrigger s n) (fireTrigger t n) := by
  obtain ⟨o, rfl⟩ := h
  by_cases hf : (s.dev.snapEn.getLsbD n && !s.snapInFlight) = true
  · refine ⟨⟨o.benches, o.agenda, (fireTrigger (s.besides o) n).dev.snap⟩, ?_⟩
    unfold fireTrigger
    simp only
    rw [if_pos hf, if_pos (by exact hf)]
    rfl
  · refine ⟨o, ?_⟩
    unfold fireTrigger
    simp only
    rw [if_neg hf, if_neg (by exact hf)]

/-! What a state holds beside these is the same. -/

theorem Alike.mem : t.mem = s.mem := by obtain ⟨o, rfl⟩ := h; rfl

theorem Alike.parts : t.parts = s.parts := by obtain ⟨o, rfl⟩ := h; rfl

theorem Alike.tlb : t.tlb = s.tlb := by obtain ⟨o, rfl⟩ := h; rfl

theorem Alike.llc : t.llc = s.llc := by obtain ⟨o, rfl⟩ := h; rfl

theorem Alike.regionOf (pa : Nat) : regionOf t pa = regionOf s pa := by obtain ⟨o, rfl⟩ := h; rfl

theorem Alike.llcFind (line : Nat) : llcFind t line = llcFind s line := by obtain ⟨o, rfl⟩ := h; rfl

theorem Alike.physExists (pa : Nat) : physExists t pa = physExists s pa := by obtain ⟨o, rfl⟩ := h; rfl

theorem Alike.physByte (pa : Nat) : physByte t pa = physByte s pa := by obtain ⟨o, rfl⟩ := h; rfl

theorem Alike.physRead (pa n : Nat) : physRead t pa n = physRead s pa n := by
  induction n generalizing pa with
  | zero => rfl
  | succ n ih => rw [Machine.physRead, Machine.physRead, ih, h.physByte]

theorem Alike.with_mem (m : List Host.Cell) : Alike { s with mem := m } { t with mem := m } := by
  obtain ⟨o, rfl⟩ := h
  exact ⟨o, rfl⟩

theorem Alike.with_llc (l : List LlcLine) : Alike { s with llc := l } { t with llc := l } := by
  obtain ⟨o, rfl⟩ := h
  exact ⟨o, rfl⟩

theorem Alike.with_tlb (l : List TlbEntry) : Alike { s with tlb := l } { t with tlb := l } := by
  obtain ⟨o, rfl⟩ := h
  exact ⟨o, rfl⟩

/-! Each step on the way of an access keeps them apart in these alone. -/

theorem watch_alike (k : AccKind) (pa n : Nat) : Alike (watch s k pa n) (watch t k pa n) := by
  have hm : watchMatches t.dev k pa n = watchMatches s.dev k pa n := by obtain ⟨o, rfl⟩ := h; rfl
  unfold watch
  rw [hm]
  split
  · exact fireTrigger_alike h 3
  · exact h

theorem storageLook_alike (pa n : Nat) : Alike (storageLook s pa n) (storageLook t pa n) := by
  unfold storageLook
  rw [h.regionOf]
  split
  · exact h
  · split
    · exact watch_alike h _ _ _
    · exact h

theorem llcHit_alike (p : PartId) (line : Nat) : Alike (llcHit s p line) (llcHit t p line) := by
  unfold llcHit
  rw [h.llcFind]
  obtain ⟨o, rfl⟩ := h
  split
  · exact ⟨o, rfl⟩
  · split <;> exact ⟨o, rfl⟩

theorem storeCode_alike (r : FmtRegion) (pa : Nat) (c : BitVec 6) : Alike (storeCode s r pa c) (storeCode t r pa c) := by
  unfold storeCode
  rw [h.mem]
  exact (watch_alike h _ _ _).with_mem _

theorem countLost_alike (p : PartId) : Alike (countLost s p) (countLost t p) := by
  obtain ⟨o, rfl⟩ := h
  exact ⟨o, rfl⟩

theorem spillAccess_alike (p : PartId) (k : AccKind) (line : Nat) : Alike (spillAccess s p k line) (spillAccess t p k line) := by
  unfold spillAccess
  rw [h.parts]
  exact watch_alike (llcHit_alike (llcHit_alike h _ _) _ _) _ _ _

theorem spill_alike (p : PartId) (line : Nat) (c : Clock) : Alike (spill s p line c) (spill t p line c) := by
  have hlost := countLost_alike h p
  unfold spill
  dsimp only
  rw [h.parts, h.mem]
  split
  · exact hlost
  · split
    · rw [(spillAccess_alike hlost p .update line).mem]
      exact (spillAccess_alike hlost _ _ _).with_mem _
    · rw [(spillAccess_alike h p .update line).mem]
      exact (spillAccess_alike h _ _ _).with_mem _

theorem unspill_alike (p : PartId) (line : Nat) : Alike (unspill s p line) (unspill t p line) := by
  have ha := spillAccess_alike h p .write line
  unfold unspill
  dsimp only
  generalize spillAccess s p .write line = s1 at *
  generalize spillAccess t p .write line = t1 at *
  have hm : Memory.write t1.mem (spillEntry t1.parts[p.toFin] line) 256 0 =
      Memory.write s1.mem (spillEntry s1.parts[p.toFin] line) 256 0 := by rw [ha.mem, ha.parts]
  rw [hm]
  exact ha.with_mem _

theorem spillLook_alike (line : Nat) (p : PartId) : Alike (spillLook s line p) (spillLook t line p) := by
  unfold spillLook
  rw [h.parts]
  split
  · exact h
  · exact spillAccess_alike h _ _ _

theorem writeBackLine_alike (l : LlcLine) : Alike (writeBackLine s l) (writeBackLine t l) := by
  unfold writeBackLine
  split
  · split
    · refine foldl_alike (fun i hi => ?_) _ h
      rw [hi.regionOf]
      split
      · exact storeCode_alike hi _ _ _
      · exact hi
    · exact h
  · exact h

theorem llcEvict_alike (l : LlcLine) : Alike (llcEvict s l) (llcEvict t l) := by
  have hs := foldl_alike (f := fun s (y : PartId × Clock) => spill s y.1 l.line y.2) (fun y hy => spill_alike hy _ _ _) l.carried
    (writeBackLine_alike h l)
  unfold llcEvict
  dsimp only
  rw [hs.llc]
  exact hs.with_llc _

theorem llcTouch_alike (p : Option PartId) (line : Nat) : Alike (llcTouch s p line) (llcTouch t p line) := by
  unfold llcTouch
  split
  · exact h
  · next p =>
    rw [h.llcFind]
    split
    · exact llcHit_alike h _ _
    · have hw (m : BitVec 16) : fillWay t m line = fillWay s m line := by obtain ⟨o, rfl⟩ := h; rfl
      have hd (w : BitVec 4) : llcDisplaced t w line = llcDisplaced s w line := by obtain ⟨o, rfl⟩ := h; rfl
      have hspilled {s t : State} (h : Alike s t) : spilledAll t line = spilledAll s line := by obtain ⟨o, rfl⟩ := h; rfl
      simp only [h.parts, hw, hd]
      split
      · exact h
      · generalize fillWay s _ line = w
        have h1 := foldl_alike (f := llcEvict) (fun l hl => llcEvict_alike hl l) (llcDisplaced s w line) h
        rw [hspilled h1]
        generalize spilledAll _ line = c
        have h2 := foldl_alike (f := (spillLook · line)) (fun q hq => spillLook_alike hq line q) ((List.range 64).map (BitVec.ofNat 6)) h1
        have h3 := storageLook_alike (foldl_alike (f := fun s (y : PartId × Clock) => unspill s y.1 line)
          (fun y hy => unspill_alike hy _ _) c h2) (128 * line) 128
        unfold physLine
        rw [h3.physRead, h3.llc]
        exact h3.with_llc _

theorem llcServe_alike (p : Option PartId) (pa n : Nat) : Alike (llcServe s p pa n) (llcServe t p pa n) := by
  have ht := llcTouch_alike h p (lineOf pa)
  unfold llcServe
  dsimp only
  rw [ht.llcFind]
  split
  · exact ht
  · exact storageLook_alike ht _ _

theorem atHome_alike (p : Option PartId) (k : AccKind) (pa n : Nat) : Alike (atHome s p k pa n) (atHome t p k pa n) := by
  unfold atHome
  split
  · exact watch_alike (llcTouch_alike h _ _) _ _ _
  · exact watch_alike (llcServe_alike h _ _ _) _ _ _

end

/-! ### Walks (R93, R94) -/

/-- Two walks come to the same, in states alike. -/
def Walked.alike {α : Type} (r r' : Walked α) : Prop := r.1 = r'.1 ∧ Alike r.2 r'.2

section
variable {s t : State} (h : Alike s t)
include h

theorem tableRead_alike (p : Option PartId) (pa : Nat) : (tableRead p s pa).alike (tableRead p t pa) := by
  have ha := atHome_alike h p .read pa 8
  unfold tableRead
  rw [h.physExists]
  split
  · dsimp only
    rw [ha.physRead]
    exact ⟨rfl, ha⟩
  · exact ⟨rfl, h⟩

theorem walk_alike {rd : State → Nat → Walked Word} (hrd : ∀ {s t} a, Alike s t → (rd s a).alike (rd t a)) (stage va : Nat)
    (l : List (Nat × Nat × Nat)) (table : Nat) : (walk rd stage va s table l).alike (walk rd stage va t table l) := by
  induction l generalizing s t table with
  | nil => exact ⟨rfl, h⟩
  | cons e l ih =>
    obtain ⟨lv, lo, n⟩ := e
    obtain ⟨hv, hst⟩ := hrd (table + 8 * (va / 2 ^ lo % 2 ^ n)) h
    unfold walk
    generalize rd s _ = r at *
    generalize rd t _ = r' at *
    obtain ⟨v, s1⟩ := r
    obtain ⟨v', t1⟩ := r'
    obtain rfl : v = v' := hv
    cases v with
    | error f => exact ⟨rfl, hst⟩
    | ok e =>
      dsimp only
      split_ifs
      · exact ⟨rfl, hst⟩
      · exact ⟨rfl, hst⟩
      · exact ⟨rfl, hst⟩
      · exact ⟨rfl, hst⟩
      · exact ih hst _

theorem stage2_alike (w : Who) (a : Nat) : (stage2 s w a).alike (stage2 t w a) := by
  unfold stage2
  split
  · exact walk_alike h (fun a h => tableRead_alike h _ a) _ _ _ _
  · exact ⟨rfl, h⟩

theorem guestTableRead_alike (w : Who) (a : Nat) : (guestTableRead w s a).alike (guestTableRead w t a) := by
  obtain ⟨hv, hst⟩ := stage2_alike h w a
  unfold guestTableRead
  generalize stage2 s w a = r at *
  generalize stage2 t w a = r' at *
  obtain ⟨v, s1⟩ := r
  obtain ⟨v', t1⟩ := r'
  obtain rfl : v = v' := hv
  cases v with
  | error f => exact ⟨rfl, hst⟩
  | ok l =>
    dsimp only
    split
    · exact tableRead_alike hst _ _
    · exact ⟨rfl, hst⟩

theorem twoStage_alike (w : Who) (root : Word) (va : Nat) : (twoStage s w root va).alike (twoStage t w root va) := by
  obtain ⟨hv, hst⟩ := walk_alike h (rd := guestTableRead w) (fun a h => guestTableRead_alike h w a) 0 va walkLevels root.toNat
  unfold twoStage
  generalize walk (guestTableRead w) 0 va s root.toNat walkLevels = r at *
  generalize walk (guestTableRead w) 0 va t root.toNat walkLevels = r' at *
  obtain ⟨v, s1⟩ := r
  obtain ⟨v', t1⟩ := r'
  obtain rfl : v = v' := hv
  cases v with
  | error f => exact ⟨rfl, hst⟩
  | ok l =>
    dsimp only
    obtain ⟨hv, hst'⟩ := stage2_alike hst w l.pa
    generalize stage2 s1 w l.pa = r at *
    generalize stage2 t1 w l.pa = r' at *
    obtain ⟨v, s2⟩ := r
    obtain ⟨v', t2⟩ := r'
    obtain rfl : v = v' := hv
    cases v <;> exact ⟨rfl, hst'⟩

theorem translation_alike (w : Who) (va : Word) : (translation s w va).alike (translation t w va) := by
  unfold translation
  split
  · split <;> exact ⟨rfl, h⟩
  · next root _ =>
    split
    · exact ⟨rfl, h⟩
    · split
      · exact ⟨rfl, h⟩
      · rw [h.tlb]
        split
        · exact ⟨rfl, h⟩
        · obtain ⟨hv, hst⟩ := twoStage_alike h w root va.toNat
          generalize twoStage s w root va.toNat = r at *
          generalize twoStage t w root va.toNat = r' at *
          obtain ⟨v, s1⟩ := r
          obtain ⟨v', t1⟩ := r'
          obtain rfl : v = v' := hv
          cases v with
          | error f => exact ⟨rfl, hst⟩
          | ok l =>
            dsimp only at hst ⊢
            rw [hst.tlb]
            exact ⟨rfl, hst.with_tlb _⟩

/-- An address is fetchable in both states or in neither. -/
theorem fetchable_alike (w : Who) (a : Word) : fetchable s w a = fetchable t w a := by
  obtain ⟨hv, hst⟩ := translation_alike h w a
  unfold fetchable fetchWord homeAccess access translate
  generalize translation s w a = r at *
  generalize translation t w a = r' at *
  obtain ⟨v, s1⟩ := r
  obtain ⟨v', t1⟩ := r'
  obtain rfl : v = v' := hv
  cases v with
  | error f => rfl
  | ok l =>
    dsimp only
    rw [hst.physExists]
    split
    · rfl
    · have hno : (l.chk && AccKind.fetch != .fetch) = false := Bool.and_false _
      by_cases hperm : (!l.ex || !physExists s1 l.pa) = true
      · simp only [hperm, if_true]
      · cases w.part <;> simp only [hperm, hno, Bool.false_eq_true, if_false, Option.isSome_some]

end

end Sys2Proof.Machine
end

section
/-! SUPPORT. MRED alone in its bundle: what its issue comes to by what the rendezvous comes to (R155, R156, R275, R335). -/

namespace Sys2Proof.Machine

section
variable {s : State} {b : BenchId} {c : CoreId}

/-- The end of a bundle leaves a state alone in which CP holds no bundle. -/
theorem closed_eq_self (n : Nat) (hb : (s.stream b c 2).bundle = []) (hx : (s.stream b c 2).sxOnly = false) :
    (s.issuing b c 2 n).closed s = s := by
  have hst : (s.stream b c 2).cleared = s.stream b c 2 := by
    unfold Stream.cleared
    rw [← hb, ← hx]
  change ((s.updStream b c 2 Stream.cleared).updCore b c fun k => k) = s
  rw [State.updStream_eq_self hst]
  exact State.updCore_eq_self rfl

/-- A rendezvous at which every other core stands at issue is not stale. -/
theorem dropStale_eq_self {x : Ctx} (h : ∀ q : CoreId, q ≠ x.c → (s.atRendezvous x.b q).isSome = true → atIssue s x.b q = true) :
    dropStale s x = s := by
  have hnone : ((List.range 4).map (BitVec.ofNat 2)).filter
      (fun q => q != x.c && (s.atRendezvous x.b q).isSome && !atIssue s x.b q) = [] := by
    rw [List.filter_eq_nil_iff]
    intro q _ hq
    simp only [Bool.and_eq_true, bne_iff_ne, Bool.not_eq_true'] at hq
    obtain ⟨⟨hne, hat⟩, hno⟩ := hq
    rw [h q hne hat] at hno
    cases hno
  unfold dropStale
  rw [hnone]
  rfl

/-- A stream that may go on meets no fault of going on. -/
theorem goFault_of_leadsOn {x : Ctx} (h : x.leadsOn s x.next ((x.st s).advance x.next)) : (Res.ok s).goFault x = none := by
  have hlead : leads x s x.next ((x.st s).advance x.next) = .ok _ := if_pos h
  unfold Res.goFault
  dsimp only
  rw [hlead]

variable {acc : BitVec 3}

theorem mred_slotClaim (acc : BitVec 3) : slotClaim (rawOf (.mred 1 acc)) = 4 :=
  (Laws.Words.mred 1 acc).2.2 (show Format.cp ∈ Class.c.formats by decide)

/-- The issue of MRED alone in its bundle. -/
theorem exec_mred (ha : s.aloneInCp b c 4 (.mred 1 acc)) :
    let x := s.issuing b c 2 0
    let w := soleWord s b c (.mred 1 acc)
    exec (.mred 1 acc) s = .next ((Issue.mred x s { s := s } 4 w (.mred 1 acc)).finish x s [w]) := by
  intro x w
  obtain ⟨⟨hp, hb⟩, hspec, -⟩ := ha
  obtain ⟨hb, hsx⟩ := hb rfl
  have hword := Laws.Words.mred 1 acc
  have hl : (rawOf (.mred 1 acc)).getLsbD 25 = true := hword.2.1 (show Class.c ≠ Class.event by decide)
  have hn := mred_slotClaim acc
  have hx : bundleCtx s b c [w] = x := by
    have hnx : (s.stream b c 2).pc + 4 * BitVec.ofNat 64 1 = (s.stream b c 2).pc + 4 := by simp
    have hsel (x : Ctx) : selOf x s [w] = {} := rfl
    unfold bundleCtx
    simp only [hsel, List.length_singleton, hnx]
    rfl
  have hd := bundleDefect_single w (.mred 1 acc) 4 (s.gang b).vcount rfl hn (by omega) (by omega) hl
  have hs := bySlot_single w 4 hn (by omega) (by omega)
  rw [exec_word s (.mred 1 acc) (show Class.c ≠ Class.event by decide), runWord_stream s b c 2 _ hp, runStream_single s b c _ hb hl rfl]
  unfold issueBundle
  rw [hd, if_pos hspec]
  dsimp only
  rw [hs, hsx, hx]
  unfold performBundle lookWords
  have hm : isMred w = true := rfl
  have hi : w.instr = some (.mred 1 acc) := rfl
  simp only [List.filter, hm, Bool.not_true, Bool.false_eq_true, if_false, List.foldl_cons, List.foldl_nil, hi, Issue.held,
    Option.or_none]
  rfl

section
variable (ha : s.aloneInCp b c 4 (.mred 1 acc)) (hgo : (s.issuing b c 2 4).goesOn s)
  (hstale : ∀ q : CoreId, q ≠ c → (s.atRendezvous b q).isSome = true → atIssue s b q = true)
include ha hgo hstale

/-- What the rendezvous makes of the issue. -/
theorem mred_meets :
    let x := s.issuing b c 2 0
    let w := soleWord s b c (.mred 1 acc)
    let r := effMred acc (s.issuing b c 2 4) s
    Issue.mred x s { s := s } 4 w (.mred 1 acc) =
      match r with
      | .ok _ =>
        if (s.stream b c 2).wait = .reduced then { s := s }
        else
          let z := ({ s := s } : Issue).word x 4 w (.mred 1 acc)
          { z with s := x.upd z.s fun st => { st with wait := (s.stream b c 2).wait } }
      | .stay t => { s := s, waits := some t }
      | .halt t => { s := s, waits := some t }
      | r => { s := s, refused := [(4, r)] } := by
  intro x w r
  obtain ⟨⟨-, hb⟩, -, -⟩ := ha
  obtain ⟨hb, hsx⟩ := hb rfl
  have hgo' : (Res.ok s).goFault x = none := by
    refine goFault_of_leadsOn ?_
    have h := hgo
    unfold Ctx.goesOn at h
    rw [closed_eq_self 4 hb hsx] at h
    exact h
  have hout : ((({ s := s } : Issue).outcome s).goFault x).isSome = false := by
    change ((Res.ok s).goFault x).isSome = false
    rw [hgo']
    rfl
  have hdrop : dropStale s x = s := dropStale_eq_self hstale
  have hr : wordEffect (.mred 1 acc) (x.at' 4 w) s = r := rfl
  unfold Issue.mred
  rw [hdrop]
  dsimp only
  rw [hr]
  simp only [Option.isSome_none, List.isEmpty_nil, Bool.not_true, hout, Bool.or_self, Bool.false_eq_true, if_false]
  cases r <;> rfl

/-- MRED waits. -/
theorem exec_mred_waits {t : State} (h : effMred acc (s.issuing b c 2 4) s = .stay t ∨ effMred acc (s.issuing b c 2 4) s = .halt t) :
    exec (.mred 1 acc) s = .next (t.updStream b c 2 fun st => { st with bundle := [] }) := by
  have hmeets := mred_meets ha hgo hstale
  rw [exec_mred ha, hmeets]
  obtain h | h := h <;> rw [h] <;> rfl

/-- MRED faults. -/
theorem exec_mred_traps {f : Trap} (h : effMred acc (s.issuing b c 2 4) s = .trap f) :
    s.traps b c 2 4 (.mred 1 acc) f := by
  have hmeets := mred_meets ha hgo hstale
  have hn := mred_slotClaim acc
  let y : Issue := { s := s, refused := [(4, .trap f)] }
  let x := s.issuing b c 2 0
  let w := soleWord s b c (.mred 1 acc)
  have hf : y.faults x [w] = (4, .trap f) :: ((y.outcome (y.closed x)).goFault x).toList.map fun t => (4, Res.trap t) := by
    unfold Issue.faults
    rw [transferSlot_single y w 4 hn (by omega) (by omega) rfl]
    rfl
  unfold State.traps State.trapsIn
  rw [exec_mred ha, hmeets, h]
  change Host.Outcome.next (y.finish x s [w]) = _
  unfold Issue.finish
  dsimp only
  rw [hf, worst_own]
  rfl

/-- MRED is performed. -/
theorem exec_mred_performed {t : State} (h : effMred acc (s.issuing b c 2 4) s = .ok t) (hw : (s.stream b c 2).wait ≠ .reduced) :
    let t' := t.updStream b c 2 fun st => { st with wait := (s.stream b c 2).wait }
    (s.issuing b c 2 4).goesOn t' → exec (.mred 1 acc) s = .next ((s.issuing b c 2 4).wentOn t') := by
  intro t' hgo'
  have hmeets := mred_meets ha hgo hstale
  have hn := mred_slotClaim acc
  let y : Issue := { s := t' }
  let x := s.issuing b c 2 0
  let w := soleWord s b c (.mred 1 acc)
  have hword : ({ s := s } : Issue).word x 4 w (.mred 1 acc) = { s := t } := by
    unfold Issue.word
    dsimp only
    rw [show groupStop (x.at' 4 w) s (.mred 1 acc) = none from rfl]
    dsimp only
    rw [show wordEffect (.mred 1 acc) (x.at' 4 w) s = _ from h]
  have hf : y.faults x [w] = [] := by
    unfold Issue.faults
    change [] ++ (((Res.ok (y.closed x)).goFault x).toList.map fun t => (y.transferSlot [w], Res.trap t)) = _
    rw [show (Res.ok (y.closed x)).goFault x = none from goFault_of_leadsOn hgo']
    rfl
  rw [exec_mred ha, hmeets, h]
  dsimp only
  rw [if_neg hw, hword]
  change Host.Outcome.next (y.finish x s [w]) = _
  unfold Issue.finish
  dsimp only
  rw [hf, transferSlot_single y w 4 hn (by omega) (by omega) rfl]
  exact congrArg Host.Outcome.next (goOn_eq (s.issuing b c 2 4) s t' [] hgo')

end

end

end Sys2Proof.Machine
end

section
/-! SUPPORT. The rendezvous of MRED: what it comes to by the accumulators that the four cores name, and what it leaves (R275;
log 35). -/

namespace Sys2Proof.Machine

/-! ### Changes of several cores -/

theorem foldl_benchesOnly {α : Type} {f : State → α → State} (hf : ∀ (s : State) a, s.benchesOnly (f s a)) (l : List α) (s : State) :
    s.benchesOnly (l.foldl f s) := by
  induction l generalizing s with
  | nil => exact s.benchesOnly_refl
  | cons a l ih => exact (hf s a).trans (ih _)

theorem whoStream_updCore (s : State) (b b' : BenchId) (c c' : CoreId) (f : Core → Core) :
    whoStream (s.updCore b c f) b' c' = whoStream s b' c' := by
  have hg : ∃ l, (s.updCore b c f).gang b' = { s.gang b' with cores := l } := by
    by_cases h : b' = b
    · subst h
      unfold State.gang State.updCore
      rw [State.gang?_updGang_self]
      cases s.gang? b' <;> exact ⟨_, rfl⟩
    · unfold State.gang
      rw [State.gang?_updCore_ne _ _ _ _ _ h]
      exact ⟨_, rfl⟩
  have hv (v : VfId) : (s.updCore b c f).vf v = s.vf v := by
    unfold State.vf
    rw [State.updCore_vfs]
  obtain ⟨l, hl⟩ := hg
  unfold whoStream
  rw [hl]
  simp only [hv]

/-- Cores changed one after the other, each once. -/
theorem core_foldl_updCore {s : State} {b : BenchId} (hg : (s.gang? b).isSome) (f : CoreId → Core → Core) {l : List CoreId}
    (hl : l.Nodup) (q : CoreId) :
    (l.foldl (fun s q => s.updCore b q (f q)) s).core b q = if q ∈ l then f q (s.core b q) else s.core b q := by
  induction l generalizing s with
  | nil => rfl
  | cons u l ih =>
    obtain ⟨hu, hl⟩ := List.nodup_cons.mp hl
    refine (ih (s := s.updCore b u (f u)) (by simpa using hg) hl).trans ?_
    by_cases h : q = u
    · subst h
      simp [hu, State.core_updCore_self _ _ _ _ hg]
    · simp [h, State.core_updCore_ne _ _ _ _ _ h]

theorem whoStream_foldl_updCore (s : State) (b b' : BenchId) (c' : CoreId) (f : CoreId → Core → Core) (l : List CoreId) :
    whoStream (l.foldl (fun s q => s.updCore b q (f q)) s) b' c' = whoStream s b' c' := by
  induction l generalizing s with
  | nil => rfl
  | cons u l ih => exact (ih _).trans (whoStream_updCore _ _ _ _ _ _)

/-! ### The cores of a bench, in order -/

/-- The cores of a bench. -/
def cores4 : List CoreId := (List.range 4).map (BitVec.ofNat 2)

theorem mem_cores4 (q : CoreId) : q ∈ cores4 := by revert q; decide

theorem cores4_nodup : cores4.Nodup := by decide

theorem eq_of_coreId (q : CoreId) : q = 0#2 ∨ q = 1#2 ∨ q = 2#2 ∨ q = 3#2 := by revert q; decide

/-- The first core of which something holds. -/
theorem find?_cores4 {p : CoreId → Bool} {q : CoreId} (h : p q = true) (hlt : ∀ u : CoreId, u.toNat < q.toNat → p u = false) :
    cores4.find? p = some q := by
  have h4 : cores4 = [0#2, 1#2, 2#2, 3#2] := rfl
  rw [h4]
  obtain rfl | rfl | rfl | rfl := eq_of_coreId q
  · simp [h]
  · simp [h, hlt 0#2 (by decide)]
  · simp [h, hlt 0#2 (by decide), hlt 1#2 (by decide)]
  · simp [h, hlt 0#2 (by decide), hlt 1#2 (by decide), hlt 2#2 (by decide)]

theorem find?_cores4_none {p : CoreId → Bool} (h : ∀ q, p q = false) : cores4.find? p = none := by
  rw [List.find?_eq_none]
  exact fun q _ => Bool.eq_false_iff.mp (h q)

/-! ### The rendezvous -/

section
variable {s : State} {b : BenchId} {c : CoreId} {acc : BitVec 3}

/-- The state in which CP of a core stands at the rendezvous. -/
def State.arrives (s : State) (b : BenchId) (c : CoreId) (acc : BitVec 3) : State :=
  s.updStream b c 2 fun st => { st with wait := .rendezvous acc }

/-- What the sum over the bench leaves of a core. -/
def Core.met (k : Core) (a : BitVec 3) (v : Acc) : Core :=
  { k.setAcc a v with
    mreds := k.mreds + 1
    longs := k.longs ++ [{ kind := .mred, writes := [], flags := 0, acc := a }]
    streams := k.streams.set 2 { k.streams[2] with wait := .reduced } }

/-- What the sum over the bench leaves, each core having named its accumulator. -/
def State.met (s : State) (b : BenchId) (names : Vector (BitVec 3) 4) (v : Acc) : State :=
  cores4.foldl (fun s q => s.updCore b q fun k => k.met (names[q.toFin]) v) s

/-- The CPs of the other cores are in motion. -/
def State.wakes (s : State) (b : BenchId) (c : CoreId) : State :=
  { s with agenda := ((cores4.filter fun q => q != c).map fun q => Turn.stream b q 2) ++ s.agenda }

/-- The first core whose accumulator is IDLE, or else whose chain is of another kind than core 0's. -/
def faultyCore (accOf : CoreId → Acc) : Option CoreId :=
  (cores4.find? fun q => accOf q == .idle).or (cores4.find? fun q => (accOf q).state != (accOf 0).state)

theorem arrives_stream_ne {q : CoreId} (h : q ≠ c) (u : StreamId) : (s.arrives b c acc).stream b q u = s.stream b q u :=
  State.stream_updStream_core _ _ _ _ _ _ _ _ (.inr h)

variable (hw : (s.stream b c 2).wait ≠ .reduced)
include hw

/-- MRED waits for one of its core that has not landed. -/
theorem effMred_of_busy (h : (s.core b c).busy .mred = true) : effMred acc (s.issuing b c 2 4) s = .stay s := by
  unfold effMred guarded
  rw [if_neg (show ¬ (s.issuing b c 2 4).sel.blocked = true from Bool.false_ne_true),
    if_neg (show ¬ ((s.issuing b c 2 4).st s).wait = .reduced from hw),
    if_pos (show ((s.issuing b c 2 4).core s).busy .mred = true from h)]

variable (hbusy : (s.core b c).busy .mred = false) (hg : (s.gang? b).isSome)
include hbusy

theorem effMred_of_free :
    effMred acc (s.issuing b c 2 4) s =
      let s1 := s.arrives b c acc
      let named := cores4.filterMap (s1.atRendezvous b)
      if named.length < 4 then .stay s1
      else
        let accs := (cores4.zip named).map fun (q, a) => (s1.core b q).acc[a.toFin]
        match ((cores4.zip accs).find? fun y => y.2 == .idle).or
          ((cores4.zip accs).find? fun y => y.2.state != (accs.headD .idle).state) with
        | some (q, _) =>
          if q = c then illegalOperand else .halt (takeFault s1 b q 2 4 (s1.stream b q 2).pc { cause := 0x03 })
        | none =>
          let t := (cores4.zip named).foldl (fun s (q, a) =>
            (s.updCore b q fun k => { k.setAcc a (Acc.bench accs) with
              mreds := k.mreds + 1, longs := k.longs ++ [{ kind := .mred, writes := [], flags := 0, acc := a }] }).updStream
              b q 2 fun st => { st with wait := .reduced }) s1
          .ok { t with agenda := ((cores4.filter fun q => q != c).map fun q => Turn.stream b q 2) ++ t.agenda } := by
  unfold effMred guarded
  rw [if_neg (show ¬ (s.issuing b c 2 4).sel.blocked = true from Bool.false_ne_true),
    if_neg (show ¬ ((s.issuing b c 2 4).st s).wait = .reduced from hw),
    if_neg (show ¬ ((s.issuing b c 2 4).core s).busy .mred = true from Bool.eq_false_iff.mp hbusy)]
  rfl

/-- MRED waits for the other cores. -/
theorem effMred_of_absent {q : CoreId} (hq : q ≠ c) (habsent : ∀ n, (s.stream b q 2).wait ≠ .rendezvous n) :
    effMred acc (s.issuing b c 2 4) s = .stay (s.arrives b c acc) := by
  have hnone : (s.arrives b c acc).atRendezvous b q = none := by
    unfold State.atRendezvous
    rw [arrives_stream_ne hq]
    split
    · next a ha => exact absurd ha (habsent a)
    · rfl
  have hlt : (cores4.filterMap ((s.arrives b c acc).atRendezvous b)).length < 4 :=
    List.length_filterMap_lt_length_iff_exists.mpr ⟨q, mem_cores4 q, hnone⟩
  rw [effMred_of_free hw hbusy]
  dsimp only
  rw [if_pos hlt]

section
variable {names : Vector (BitVec 3) 4} (hall : ∀ q : CoreId, q ≠ c → (s.stream b q 2).wait = .rendezvous names[q.toFin])
  (hown : names[c.toFin] = acc)
include hg hall hown

/-- MRED meets the other cores. -/
theorem effMred_of_all :
    let accOf (q : CoreId) : Acc := (s.core b q).acc[(names[q.toFin]).toFin]
    effMred acc (s.issuing b c 2 4) s =
      match faultyCore accOf with
      | some q => if q = c then illegalOperand
          else .halt (takeFault (s.arrives b c acc) b q 2 4 (s.stream b q 2).pc { cause := 0x03 })
      | none =>
        .ok (((s.arrives b c acc).met b names (Acc.bench (cores4.map accOf))).wakes b c) := by
  intro accOf
  have hat (q : CoreId) : (s.arrives b c acc).atRendezvous b q = some names[q.toFin] := by
    unfold State.atRendezvous
    by_cases h : q = c
    · subst h
      rw [State.arrives, State.stream_updStream_self _ _ _ _ _ hg, hown]
    · rw [arrives_stream_ne h, hall q h]
  have hnamed : cores4.filterMap ((s.arrives b c acc).atRendezvous b) = cores4.map fun q => names[q.toFin] := by
    rw [← List.filterMap_eq_map]
    exact List.filterMap_congr fun q _ => hat q
  have hcore (q : CoreId) : ((s.arrives b c acc).core b q).acc = (s.core b q).acc := by
    have h := (State.streamOnly_updStream (s := s) (b := b) (c := c) (t := 2) fun st => { st with wait := .rendezvous acc }).cores q
    exact (congrArg Core.acc h :)
  have hzip {α : Type} (g : CoreId → α) : cores4.zip (cores4.map g) = cores4.map fun q => (q, g q) := rfl
  rw [effMred_of_free hw hbusy]
  dsimp only
  rw [hnamed, if_neg (by simp [cores4]), hzip, List.map_map]
  have haccs : (cores4.map ((fun y : CoreId × BitVec 3 => ((s.arrives b c acc).core b y.1).acc[y.2.toFin]) ∘
      fun q => (q, names[q.toFin]))) = cores4.map accOf := List.map_congr_left fun q _ => by
    simp only [Function.comp_apply, hcore, accOf]
  have hfind : ((cores4.map fun q => (q, accOf q)).find? fun y => y.2 == .idle).or
      ((cores4.map fun q => (q, accOf q)).find? fun y => y.2.state != ((cores4.map accOf).headD .idle).state) =
      (faultyCore accOf).map fun q => (q, accOf q) := by
    rw [List.find?_map, List.find?_map, ← Option.map_or]
    rfl
  rw [haccs, hzip, hfind]
  cases hq : faultyCore accOf with
  | none =>
    simp only [Option.map_none, List.foldl_map]
    have hmet (s : State) (q : CoreId) (v : Acc) : ((s.updCore b q fun k => { k.setAcc names[q.toFin] v with
        mreds := k.mreds + 1
        longs := k.longs ++ [{ kind := .mred, writes := [], flags := 0, acc := names[q.toFin] }] }).updStream
        b q 2 fun st => { st with wait := .reduced }) = s.updCore b q fun k => k.met names[q.toFin] v :=
      State.updCore_updCore _ _ _ _ _
    simp only [hmet]
    rfl
  | some q =>
    by_cases h : q = c
    · simp only [Option.map_some, if_pos h]
    · simp only [Option.map_some, if_neg h, arrives_stream_ne h]

end

end

end Sys2Proof.Machine
end

section
/-! SUPPORT. MRED word by word: it waits, one core of the gang traps, or all accumulators named take the sum over the bench (R275;
log 35). -/

namespace Sys2Proof.Machine

/-! ### Going on in a state alike -/

theorem whoStream_closed (x : Ctx) (s : State) (b : BenchId) (c : CoreId) : whoStream (x.closed s) b c = whoStream s b c := by
  unfold Ctx.closed
  split
  · exact (whoStream_updCore _ _ _ _ _ _).trans (whoStream_updCore _ _ _ _ _ _)
  · rfl

theorem alike_closed (x : Ctx) (s : State) : Alike s (x.closed s) := by
  unfold Ctx.closed
  split
  · exact .of_benchesOnly ((updStream_benchesOnly _ _ _ _ _).trans (updCore_benchesOnly _ _ _ _))
  · exact .refl s

/-- A stream goes on in a state with the same memory, the same stream and the same user. -/
theorem goesOn_alike {x : Ctx} {s t : State} (hs : (s.gang? x.b).isSome) (ht : (t.gang? x.b).isSome) (h : Alike s t)
    (hwho : whoStream t x.b x.c = whoStream s x.b x.c) (hst : x.st t = x.st s) (hgo : x.goesOn s) : x.goesOn t := by
  have hclosed : x.st (x.closed t) = x.st (x.closed s) := by rw [stream_closed hs, stream_closed ht, hst]
  have hfetch (a : Word) : fetchable (x.closed t) (whoStream (x.closed t) x.b x.c) a =
      fetchable (x.closed s) (whoStream (x.closed s) x.b x.c) a := by
    rw [whoStream_closed, whoStream_closed, hwho]
    exact (fetchable_alike (((alike_closed x s).symm.trans h).trans (alike_closed x t)) _ _).symm
  unfold Ctx.goesOn Ctx.leadsOn at hgo ⊢
  rw [hclosed, hfetch]
  exact hgo

/-! ### What the sum over the bench leaves -/

theorem Core.met_acc (k : Core) (a : BitVec 3) (v : Acc) : (k.met a v).acc = k.acc.set a.toFin v := rfl

theorem Core.met_longs (k : Core) (a : BitVec 3) (v : Acc) :
    (k.met a v).longs = k.longs ++ [{ kind := .mred, writes := [], flags := 0, acc := a }] := rfl

theorem Core.met_mreds (k : Core) (a : BitVec 3) (v : Acc) : (k.met a v).mreds = k.mreds + 1 := rfl

/-- Cores that are the same but for their streams. -/
theorem Core.eq_of_streams {k k' : Core} {l : Vector Stream 4} (h : { k with streams := l } = k') :
    k.acc = k'.acc ∧ k.longs = k'.longs ∧ k.mreds = k'.mreds := by
  subst h
  exact ⟨rfl, rfl, rfl⟩

section
variable {s : State} {b : BenchId} {c : CoreId} {acc : BitVec 3} {names : Vector (BitVec 3) 4}

theorem met_benchesOnly (v : Acc) : s.benchesOnly (s.met b names v) :=
  foldl_benchesOnly (fun _ _ => updCore_benchesOnly _ _ _ _) _ _

theorem gang?_met_isSome (v : Acc) (b' : BenchId) : ((s.met b names v).gang? b').isSome = (s.gang? b').isSome := by
  unfold State.met
  generalize cores4 = l
  induction l generalizing s with
  | nil => rfl
  | cons u l ih => exact ih.trans (State.gang?_updCore_isSome _ _ _ _ _)

theorem core_met (hg : (s.gang? b).isSome) (v : Acc) (q : CoreId) : (s.met b names v).core b q = (s.core b q).met names[q.toFin] v :=
  (core_foldl_updCore hg _ cores4_nodup q).trans (if_pos (mem_cores4 q))

/-- After MRED the other CPs of the gang are in motion, and its own stream waits no more. -/
def State.resumes (s : State) (b : BenchId) (c : CoreId) (w : Wait) : State :=
  (s.wakes b c).updStream b c 2 fun st => { st with wait := w }

theorem resumes_alike (w : Wait) : Alike s (s.resumes b c w) :=
  (alike_agenda _ _).trans (.of_benchesOnly (updStream_benchesOnly _ _ _ _ _))

theorem resumes_who (w : Wait) (b' : BenchId) (c' : CoreId) : whoStream (s.resumes b c w) b' c' = whoStream s b' c' :=
  whoStream_updCore _ _ _ _ _ _

theorem gang?_resumes_isSome (w : Wait) (b' : BenchId) : ((s.resumes b c w).gang? b').isSome = (s.gang? b').isSome :=
  State.gang?_updStream_isSome _ _ _ _ _ _

theorem resumes_stream_ne (w : Wait) {q : CoreId} (h : q ≠ c) : (s.resumes b c w).stream b q 2 = s.stream b q 2 :=
  State.stream_updStream_core _ _ _ _ _ _ _ _ (.inr h)

theorem resumes_cores (w : Wait) (q : CoreId) :
    { (s.resumes b c w).core b q with streams := (s.core b q).streams } = s.core b q := by
  have h := (State.streamOnly_updStream (s := s.wakes b c) (b := b) (c := c) (t := 2) fun st => { st with wait := w }).cores q
  exact h

theorem resumes_stream_self (w : Wait) (hg : (s.gang? b).isSome) :
    (s.resumes b c w).stream b c 2 = { s.stream b c 2 with wait := w } := by
  exact State.stream_updStream_self (s.wakes b c) b c 2 (fun st => { st with wait := w }) hg

/-- The state of MRED performed, before its stream goes on. -/
def State.mredDone (s : State) (b : BenchId) (c : CoreId) (acc : BitVec 3) (names : Vector (BitVec 3) 4) (v : Acc) : State :=
  ((s.arrives b c acc).met b names v).resumes b c (s.stream b c 2).wait

theorem mredDone_alike (v : Acc) : Alike s (s.mredDone b c acc names v) :=
  (Alike.of_benchesOnly ((updStream_benchesOnly _ _ _ _ _).trans (met_benchesOnly v))).trans (resumes_alike _)

theorem mredDone_who (v : Acc) (b' : BenchId) (c' : CoreId) :
    whoStream (s.mredDone b c acc names v) b' c' = whoStream s b' c' :=
  (resumes_who _ _ _).trans ((whoStream_foldl_updCore _ _ _ _ _ _).trans (whoStream_updCore _ _ _ _ _ _))

variable (hg : (s.gang? b).isSome)
include hg

theorem gang?_arrives : ((s.arrives b c acc).gang? b).isSome :=
  (State.gang?_updStream_isSome _ _ _ _ _ _).trans hg

theorem gang?_mredDone (v : Acc) : ((s.mredDone b c acc names v).gang? b).isSome :=
  (gang?_resumes_isSome _ _).trans ((gang?_met_isSome v b).trans (gang?_arrives hg))

/-- MRED performed leaves the stream of its own core as it was. -/
theorem mredDone_own (v : Acc) : (s.mredDone b c acc names v).stream b c 2 = s.stream b c 2 := by
  have hmet : ((s.arrives b c acc).met b names v).stream b c 2 = { s.stream b c 2 with wait := .reduced } := by
    unfold State.stream
    rw [core_met (gang?_arrives hg)]
    unfold State.arrives State.updStream
    rw [State.core_updCore_self _ _ _ _ hg]
    simp [Core.met, Core.setAcc]
  unfold State.mredDone
  rw [resumes_stream_self _ ((gang?_met_isSome v b).trans (gang?_arrives hg)), hmet]

/-- CP of every other core has been through the rendezvous. -/
theorem mredDone_others (v : Acc) {q : CoreId} (h : q ≠ c) : ((s.mredDone b c acc names v).stream b q 2).wait = .reduced := by
  unfold State.mredDone
  rw [resumes_stream_ne _ h]
  unfold State.stream
  rw [core_met (gang?_arrives hg)]
  simp [Core.met, Core.setAcc]

/-- Each core's accumulator has the sum over the bench, and its MRED is in flight. -/
theorem mredDone_core (v : Acc) (q : CoreId) :
    ((s.mredDone b c acc names v).core b q).acc = (s.core b q).acc.set names[q.toFin].toFin v ∧
    ((s.mredDone b c acc names v).core b q).longs = (s.core b q).longs ++
      [{ kind := .mred, writes := [], flags := 0, acc := names[q.toFin] }] ∧
    ((s.mredDone b c acc names v).core b q).mreds = (s.core b q).mreds + 1 := by
  have harr := (State.streamOnly_updStream (s := s) (b := b) (c := c) (t := 2) fun st => { st with wait := .rendezvous acc }).cores q
  obtain ⟨hacc, hlongs, hmreds⟩ := Core.eq_of_streams harr
  obtain ⟨hacc', hlongs', hmreds'⟩ := Core.eq_of_streams
    (resumes_cores (s := (s.arrives b c acc).met b names v) (b := b) (c := c) (s.stream b c 2).wait q)
  unfold State.mredDone
  rw [hacc', hlongs', hmreds', core_met (gang?_arrives hg), State.arrives, Core.met_acc, Core.met_longs, Core.met_mreds, hacc,
    hlongs, hmreds]
  exact ⟨rfl, rfl, rfl⟩

end

end Sys2Proof.Machine
end

section
/-! SUPPORT. The first clause of MredMeets: what MRED alone in its bundle comes to (R275; log 35). -/

namespace Sys2Proof.Machine

/-! ### The core that traps -/

section
variable {accOf : CoreId → Acc}

/-- The least core whose accumulator is IDLE. -/
theorem faultyCore_of_idle {q : CoreId} (h : accOf q = .idle) (hlt : ∀ u : CoreId, u.toNat < q.toNat → accOf u ≠ .idle) :
    faultyCore accOf = some q := by
  unfold faultyCore
  rw [find?_cores4 (p := fun q => accOf q == .idle) (beq_iff_eq.mpr h) fun u hu => beq_eq_false_iff_ne.mpr (hlt u hu)]
  rfl

/-- Where none is IDLE, the least core whose chain is of another kind than core 0's. -/
theorem faultyCore_of_kind {q : CoreId} (hidle : ∀ u, accOf u ≠ .idle) (h : (accOf q).state ≠ (accOf 0).state)
    (hlt : ∀ u : CoreId, u.toNat < q.toNat → (accOf u).state = (accOf 0).state) : faultyCore accOf = some q := by
  unfold faultyCore
  rw [find?_cores4_none (p := fun q => accOf q == .idle) fun u => beq_eq_false_iff_ne.mpr (hidle u),
    find?_cores4 (p := fun q => (accOf q).state != (accOf 0).state) (bne_iff_ne.mpr h) fun u hu => by
      rw [hlt u hu, bne_self_eq_false]]
  rfl

theorem faultyCore_none (h : ∀ u, accOf u ≠ .idle ∧ (accOf u).state = (accOf 0).state) : faultyCore accOf = none := by
  unfold faultyCore
  rw [find?_cores4_none (p := fun q => accOf q == .idle) fun u => beq_eq_false_iff_ne.mpr (h u).1,
    find?_cores4_none (p := fun q => (accOf q).state != (accOf 0).state) fun u => by rw [(h u).2, bne_self_eq_false]]
  rfl

end

/-! ### MRED -/

section
variable {s : State} {b : BenchId} {c : CoreId} {acc : BitVec 3} (ha : s.aloneInCp b c 4 (.mred 1 acc))
  (hw : (s.stream b c 2).wait ≠ .reduced) (hgo : (s.issuing b c 2 4).goesOn s)
  (hstale : ∀ q : CoreId, q ≠ c → (s.atRendezvous b q).isSome = true → atIssue s b q = true)
include ha hw hgo hstale

/-- MRED waits for one of its core that has not landed. -/
theorem mred_waits_busy (h : (s.core b c).busy .mred = true) : s.waits b c 2 (.mred 1 acc) (s.stream b c 2).wait := by
  unfold State.waits
  have hb := (ha.1.2 rfl).1
  rw [exec_mred_waits ha hgo hstale (.inl (effMred_of_busy hw h)), State.updStream_eq_self (by rw [← hb]),
    State.updStream_eq_self rfl]

variable (hfree : (s.core b c).busy .mred = false)
include hfree

/-- MRED waits for the other cores. -/
theorem mred_waits_absent {q : CoreId} (hq : q ≠ c) (h : ∀ n, (s.stream b q 2).wait ≠ .rendezvous n) :
    s.waits b c 2 (.mred 1 acc) (.rendezvous acc) := by
  have hg : (s.gang? b).isSome := State.gang?_isSome_of_canIssue s b c 2 ha.1.1.2
  have hb := (ha.1.2 rfl).1
  unfold State.waits
  rw [exec_mred_waits ha hgo hstale (.inl (effMred_of_absent hw hfree hq h))]
  refine congrArg Host.Outcome.next (State.updStream_eq_self ?_)
  unfold State.arrives
  rw [State.stream_updStream_self _ _ _ _ _ hg, ← hb]

section
variable {names : Vector (BitVec 3) 4} (hall : ∀ q : CoreId, q ≠ c → (s.stream b q 2).wait = .rendezvous names[q.toFin])
  (hown : names[c.toFin] = acc)
include hall hown

/-- MRED of its own core traps. -/
theorem mred_traps_own (h : faultyCore (fun q => (s.core b q).acc[(names[q.toFin]).toFin]) = some c) :
    s.traps b c 2 4 (.mred 1 acc) { cause := 0x03 } := by
  have hg : (s.gang? b).isSome := State.gang?_isSome_of_canIssue s b c 2 ha.1.1.2
  have hmeet := effMred_of_all hw hfree hg hall hown
  dsimp only at hmeet
  rw [h] at hmeet
  exact exec_mred_traps ha hgo hstale (hmeet.trans (if_pos rfl))

/-- MRED of another core traps. -/
theorem mred_traps_other {q : CoreId} (hq : q ≠ c)
    (h : faultyCore (fun q => (s.core b q).acc[(names[q.toFin]).toFin]) = some q) :
    exec (.mred 1 acc) s = .next ((takeFault (s.arrives b c acc) b q 2 4 (s.stream b q 2).pc { cause := 0x03 }).updStream b c 2
      fun st => { st with bundle := [] }) := by
  have hg : (s.gang? b).isSome := State.gang?_isSome_of_canIssue s b c 2 ha.1.1.2
  have hmeet := effMred_of_all hw hfree hg hall hown
  dsimp only at hmeet
  rw [h] at hmeet
  exact exec_mred_waits ha hgo hstale (.inr (hmeet.trans (if_neg hq)))

/-- MRED of every core is performed. -/
theorem mred_performed (h : faultyCore (fun q => (s.core b q).acc[(names[q.toFin]).toFin]) = none) :
    exec (.mred 1 acc) s = .next ((s.issuing b c 2 4).wentOn (s.mredDone b c acc names
      (Acc.bench (cores4.map fun q => (s.core b q).acc[(names[q.toFin]).toFin])))) := by
  have hg : (s.gang? b).isSome := State.gang?_isSome_of_canIssue s b c 2 ha.1.1.2
  have hmeet := effMred_of_all hw hfree hg hall hown
  dsimp only at hmeet
  rw [h] at hmeet
  let v := Acc.bench (cores4.map fun q => (s.core b q).acc[(names[q.toFin]).toFin])
  have hgo' : (s.issuing b c 2 4).goesOn (s.mredDone b c acc names v) :=
    goesOn_alike (x := s.issuing b c 2 4) hg (gang?_mredDone hg v) (mredDone_alike v) (mredDone_who v b c) (mredDone_own hg v) hgo
  exact exec_mred_performed ha hgo hstale hmeet hw hgo'

end

end

theorem wentOn_streamOnly (x : Ctx) (s : State) : s.StreamOnly x.b x.c x.t (x.wentOn s) := by
  have h := closed_streamOnly (x := x) (s := s)
  unfold Ctx.wentOn
  generalize x.closed s = s1 at h ⊢
  exact h.trans (State.streamOnly_updStream _)

/-- What MRED performed leaves, its stream having gone on. -/
theorem wentOn_mredDone {s : State} {b : BenchId} {c : CoreId} {acc : BitVec 3} {names : Vector (BitVec 3) 4}
    (hg : (s.gang? b).isSome) (v : Acc) (q : CoreId) :
    let t := (s.issuing b c 2 4).wentOn (s.mredDone b c acc names v)
    (t.core b q).acc[(names[q.toFin]).toFin] = v ∧
    (t.core b q).longs = (s.core b q).longs ++ [{ kind := .mred, writes := [], flags := 0, acc := names[q.toFin] }] ∧
    (t.core b q).mreds = (s.core b q).mreds + 1 ∧
    (q ≠ c → (t.stream b q 2).wait = .reduced) := by
  obtain ⟨hacc', hlongs', hmreds'⟩ := mredDone_core (acc := acc) (names := names) (c := c) hg v q
  have hwait := fun h => mredDone_others (acc := acc) (names := names) (c := c) hg v (q := q) h
  generalize s.mredDone b c acc names v = d at *
  intro t
  have hstream : d.StreamOnly b c 2 t := wentOn_streamOnly (s.issuing b c 2 4) d
  clear_value t
  obtain ⟨hacc, hlongs, hmreds⟩ := Core.eq_of_streams (hstream.cores q)
  refine ⟨?_, hlongs.trans hlongs', hmreds.trans hmreds', fun h => ?_⟩
  · rw [hacc, hacc']
    exact Vector.getElem_set_self _
  · rw [hstream.streams q 2 (.inl h)]
    exact hwait h

end Sys2Proof.Machine
end

section
/-! SUPPORT. The sum over the bench of four accumulators, element by element (R62, R76, R79; log 80). -/

namespace Sys2Proof.Machine

/-! ### Exact chains -/

theorem clamp112_toInt (v : Int) : (clamp112 v).1.toInt = max (-(2 ^ 111)) (min (2 ^ 111 - 1) v) := by
  unfold clamp112
  split_ifs with h h' <;> simp only [BitVec.toInt_ofInt]
  · rw [Int.bmod_eq_of_le (by decide) (by decide)]
    omega
  · rw [Int.bmod_eq_of_le (by decide) (by decide)]
    omega
  · rw [Int.bmod_eq_of_le (by omega) (by omega)]
    omega

theorem clamp112_outside (v : Int) : (clamp112 v).2 = true ↔ v < -(2 ^ 111) ∨ 2 ^ 111 ≤ v := by
  unfold clamp112
  split_ifs with h h'
  · exact iff_of_true rfl (.inr h)
  · exact iff_of_true rfl (.inl h')
  · exact iff_of_false id (not_or.mpr ⟨h', h⟩)

theorem ExactElem.bench_eq (l : List ExactElem) : ExactElem.bench l =
    { val := (clamp112 ((l.map fun x => x.val.toInt).foldl (· + ·) 0)).1
      sat := (clamp112 ((l.map fun x => x.val.toInt).foldl (· + ·) 0)).2 || l.any (·.sat)
      nvs := l.any (·.nvs) } := rfl

theorem foldl_add_four (f : Fin 4 → Int) : [f 0, f 1, f 2, f 3].foldl (· + ·) 0 = ∑ q, f q := by
  simp [Fin.sum_univ_four]

/-- Four elements of exact chains. -/
theorem exactElem_bench (x : Fin 4 → ExactElem) :
    let y := ExactElem.bench [x 0, x 1, x 2, x 3]
    let sum := ∑ q, (x q).val.toInt
    (y.sat = true ↔ (∃ q, (x q).sat = true) ∨ sum < -(2 ^ 111) ∨ 2 ^ 111 ≤ sum) ∧
    (y.nvs = true ↔ ∃ q, (x q).nvs = true) ∧
    y.val.toInt = max (-(2 ^ 111)) (min (2 ^ 111 - 1) sum) := by
  intro y sum
  have hsum : ([x 0, x 1, x 2, x 3].map fun x => x.val.toInt).foldl (· + ·) 0 = sum :=
    foldl_add_four fun q => (x q).val.toInt
  have hany (p : ExactElem → Bool) : [x 0, x 1, x 2, x 3].any p = true ↔ ∃ q, p (x q) = true := by
    simp [Fin.exists_fin_succ]
  have hy : y =
      { val := (clamp112 sum).1
        sat := (clamp112 sum).2 || [x 0, x 1, x 2, x 3].any (·.sat)
        nvs := [x 0, x 1, x 2, x 3].any (·.nvs) } := by
    rw [← hsum]
    exact ExactElem.bench_eq _
  clear_value y sum
  subst hy
  exact ⟨by rw [Bool.or_eq_true, clamp112_outside, hany, or_comm], hany _, clamp112_toInt sum⟩

theorem bench_exact (n : Fin 4 → Bool) (e : Fin 4 → List ExactElem) : ∃ out,
    Acc.bench [.exact (n 0) (e 0), .exact (n 1) (e 1), .exact (n 2) (e 2), .exact (n 3) (e 3)] =
      .exact (n 0 && n 1 && n 2 && n 3) out ∧ out.length = 1024 ∧
    ∀ (i : Nat) (x : Fin 4 → ExactElem), i < 1024 → (∀ q, (e q)[i]? = some (x q)) →
      out[i]? = some (ExactElem.bench [x 0, x 1, x 2, x 3]) := by
  refine ⟨(List.range 1024).map fun i => ExactElem.bench ([e 0, e 1, e 2, e 3].map fun l => l[i]!), ?_, by simp, ?_⟩
  · have hint : [Acc.exact (n 0) (e 0), .exact (n 1) (e 1), .exact (n 2) (e 2), .exact (n 3) (e 3)].all Acc.isInt =
        (n 0 && n 1 && n 2 && n 3) := by simp [Acc.isInt, Bool.and_assoc]
    unfold Acc.bench
    dsimp only [List.head?_cons]
    rw [hint]
    rfl
  · intro i x hi hx
    have hget (q : Fin 4) : (e q)[i]! = x q := by rw [getElem!_def, hx q]
    rw [List.getElem?_map, List.getElem?_range hi]
    simp only [Option.map_some, List.map_cons, List.map_nil, hget]

/-! ### Ordered chains -/

theorem delivered_f32_lt {rm : RMode} {v : Num} {r : Nat × XFlags} (h : Fmt.f32.Delivered rm v r) : r.1 < 2 ^ 32 := by
  cases v with
  | nan sg =>
    obtain rfl : r = (FShape.qNaN { eb := 8, fb := 23 }, if sg then fNV else 0) := h
    exact (by decide : FShape.qNaN { eb := 8, fb := 23 } < 2 ^ 32)
  | inf neg => exact h.1
  | fin neg m e =>
    cases m with
    | zero =>
      obtain rfl : r = _ := h
      cases neg <;> decide
    | succ m => exact h.1

/-- An F32 addition rounded RNE is the exact sum delivered. -/
theorem redAdd_f32 (a b : Nat) :
    let v := numAdd .rne (Fmt.f32.read a) (Fmt.f32.read b)
    ∃ d, Fmt.f32.Delivered .rne v.1 d ∧ redAdd .f32 .rne a b = (d.1, d.2 ||| v.2) :=
  ⟨_, Fmt.deliver_delivered .f32 .rne _, rfl⟩

theorem redAdd_f32_lt (a b : Nat) : (redAdd .f32 .rne a b).1 < 2 ^ 32 := by
  obtain ⟨d, hd, h⟩ := redAdd_f32 a b
  have hlt := delivered_f32_lt hd
  rw [h]
  exact hlt

theorem f32Add_toNat (a b : BitVec 32) : (f32Add a b).1.toNat = (redAdd .f32 .rne a.toNat b.toNat).1 :=
  Nat.mod_eq_of_lt (redAdd_f32_lt _ _)

/-- Four elements of ordered chains. -/
theorem ordElem_bench (x y z w : OrdElem) :
    let u := redAdd .f32 .rne x.1.toNat y.1.toNat
    let v := redAdd .f32 .rne z.1.toNat w.1.toNat
    let r := redAdd .f32 .rne u.1 v.1
    OrdElem.bench x y z w = (BitVec.ofNat 32 r.1, x.2 ||| y.2 ||| z.2 ||| w.2 ||| u.2 ||| v.2 ||| r.2) := by
  intro u v r
  have hr : f32Add (f32Add x.1 y.1).1 (f32Add z.1 w.1).1 = (BitVec.ofNat 32 r.1, r.2) := by
    change (BitVec.ofNat 32 (redAdd .f32 .rne _ _).1, (redAdd .f32 .rne _ _).2) = _
    rw [f32Add_toNat, f32Add_toNat]
  unfold OrdElem.bench
  dsimp only
  rw [hr]
  rfl

theorem bench_ordered (e : Fin 4 → List OrdElem) : ∃ out,
    Acc.bench [.ordered (e 0), .ordered (e 1), .ordered (e 2), .ordered (e 3)] = .ordered out ∧ out.length = 1024 ∧
    ∀ (i : Nat) (x : Fin 4 → OrdElem), i < 1024 → (∀ q, (e q)[i]? = some (x q)) →
      out[i]? = some (OrdElem.bench (x 0) (x 1) (x 2) (x 3)) := by
  refine ⟨(List.range 1024).map fun i => OrdElem.bench (e 0)[i]! (e 1)[i]! (e 2)[i]! (e 3)[i]!, rfl, by simp, ?_⟩
  intro i x hi hx
  have hget (q : Fin 4) : (e q)[i]! = x q := by rw [getElem!_def, hx q]
  rw [List.getElem?_map, List.getElem?_range hi]
  simp only [Option.map_some, hget]

end Sys2Proof.Machine
end

section
open Sys2Proof Sys2Proof.Machine

/-- Settles O32: MRED by what the rendezvous comes to, and the sum over the bench element by element. -/
theorem mredMeets : Obligations.MredMeets := by
  refine ⟨?_, ?_, ?_, rfl⟩
  · intro s b c acc names i ha hw hgo hstale accOf accs faulty other
    have hg : (s.gang? b).isSome := State.gang?_isSome_of_canIssue s b c 2 ha.1.1.2
    have hfaulty (q : CoreId) (h : faulty q ∨ other q) : faultyCore accOf = some q := by
      obtain ⟨h, hlt⟩ | ⟨hidle, h, hlt⟩ := h
      · exact faultyCore_of_idle h hlt
      · exact faultyCore_of_kind hidle h hlt
    refine ⟨fun h => mred_waits_busy ha hw hgo hstale h, fun hfree => ⟨?_, fun hall hown => ⟨fun h => ?_, fun h => ?_,
      fun q hq h => ?_⟩⟩⟩
    · rintro ⟨q, hq, habsent⟩
      exact mred_waits_absent ha hw hgo hstale hfree hq habsent
    · have hnone : faultyCore accOf = none :=
        faultyCore_none fun u => h (accOf u) (List.mem_map_of_mem (f := accOf) (mem_cores4 u))
      exact ⟨_, mred_performed ha hw hgo hstale hfree hall hown hnone, fun q => wentOn_mredDone hg _ q⟩
    · exact mred_traps_own ha hw hgo hstale hfree hall hown (hfaulty c h)
    · exact mred_traps_other ha hw hgo hstale hfree hall hown hq (hfaulty q h)
  · intro n e
    obtain ⟨out, hout, hlen, hget⟩ := bench_exact n e
    exact ⟨out, hout, hlen, fun i x hi hx => ⟨_, hget i x hi hx, exactElem_bench x⟩⟩
  · intro e
    obtain ⟨out, hout, hlen, hget⟩ := bench_ordered e
    refine ⟨out, hout, hlen, fun i x hi hx => ?_⟩
    rw [hget i x hi hx, ordElem_bench]
    exact ⟨_, _, _, redAdd_f32 _ _, redAdd_f32 _ _, redAdd_f32 _ _, rfl⟩

end
